-- ==== Sys2Proof/Word.lean ====
section
/-! DEFINITION. The words of the HK-7348 manual (00_scope, Conventions): bits are numbered from 0 at the least
significant end, a word is 32 bits. -/

namespace Sys2Proof

abbrev Byte := BitVec 8
abbrev Half := BitVec 16
abbrev Word := BitVec 32
abbrev Long := BitVec 64

/-- A string of bytes, first byte first. -/
abbrev Bytes := List (BitVec 8)

end Sys2Proof
end

