-- ==== Sys2Proof/Syntax.lean ====
section
/-! DEFINITION. The commands of the HK-7348: one constructor of `Instr` for each row of spec/opcode_table.json, with the
operands that the manual gives the event. `t` is in every command the instant at which it happens, in ns of the
module's time base (DESIGN CHOICE, log entry 1). -/

namespace Sys2Proof

/-- The three lanes (R18). -/
inductive LaneId where
  | A | B | C
deriving DecidableEq, Repr

/-- One value for each lane. -/
structure Lanes (α : Type) where
  a : α
  b : α
  c : α
deriving DecidableEq, Repr

/-- How the outcomes that the lanes exchange compare (R84, R180, R541): every lane that takes part agrees, one differs from the others,
or no two agree. -/
inductive Agreement where
  | all | odd (lane : LaneId) | none
deriving DecidableEq, Repr

/-- Where a host telegram travels: network X, network Y or the service port (R328, R356). -/
inductive Net where
  | x | y | service
deriving DecidableEq, Repr

/-- The return path of a copy (R339): Ethernet source, IPv4 source, UDP source port and the port it arrived on. -/
structure ReturnPath where
  port : Nat
  mac : Nat
  ip : Nat
  udp : Nat
deriving DecidableEq, Repr

/-- What goes wrong inside the check units on one received telegram (R311, R313): the engines of a lane that report
fail where the bytes are right, and the lane whose verdict is missing at 300 ns. No failure and no lane is the healthy case. -/
structure RxFault where
  failP : Lanes Bool
  failQ : Lanes Bool
  missing : Option LaneId
deriving DecidableEq, Repr

/-- One copy of a host telegram (Table 9.2), of the opcode that the command names. `flags` is byte 1; `stamps` are the
arrival stamps of the lanes (R139, R371); `ownPort` says that check 1 of Table 9.4 holds; `lenOk` that the UDP
payload is 32 + PARAM_LEN bytes long. -/
structure HostCopy where
  net : Net
  path : ReturnPath
  stamps : Lanes Nat
  ownPort : Bool
  lenOk : Bool
  version : Nat
  flags : Nat
  session : Nat
  seq : Nat
  originId : Nat
  reqSnap : Nat
  hostTime : Nat
  params : Bytes
  cvP : Word
  cvQ : Word
  rx : RxFault
deriving DecidableEq, Repr

/-- A raw datagram at a host port, for a copy that the checks of Table 9.4 reject. -/
structure Datagram where
  net : Net
  path : ReturnPath
  stamps : Lanes Nat
  ownPort : Bool
  payload : Bytes
  rx : RxFault
deriving DecidableEq, Repr

/-- One copy of a KI-40 host telegram (Table 17.2), of the opcode that the command names. `params` are bytes 12 to 59. -/
structure Ki40Copy where
  net : Net
  path : ReturnPath
  stamps : Lanes Nat
  seq : Nat
  status : Nat
  flags : Nat
  station : Nat
  cycle : Nat
  params : Bytes
  crcC : Half
  crcT : Half
  rx : RxFault
deriving DecidableEq, Repr

/-- How a message crosses a cross-lane link (R207, R209): whole, with an invalid word or a gap of more than 1 µs, or
with a LANE field that does not name the sending end. -/
inductive LinkFault where
  | none | invalid | wrongLane
deriving DecidableEq, Repr

/-- The tasks of Table 4.1. -/
inductive Task where
  | t0 | t1 | t2 | tb | te
deriving DecidableEq, Repr

/-- The timer types of Table 4.5. -/
inductive TimerType where
  | ton | tof | tp
deriving DecidableEq, Repr

/-- One execution of a function block in a task body (R149): the instance; for each of its timers, its type and its input IN (R156), a timer
without an entry keeping both; the inputs of its edge detectors, none for one that does not execute (R151, R152); and the bytes that its code
writes into the instance's data, by their offsets: PRESETs and other variables (R72, R149). -/
structure FbExec where
  inst : Nat
  timers : List (TimerType × Bool)
  edges : List (Option Word)
  writes : List (Nat × Nat)
deriving DecidableEq, Repr

/-- What the private program code does in one task body, and the routes at which this lane's Meridian fails where its
inputs pass (02, Program and instance data: the program format is private; log entry 3). An output value is named by
the first permission record of its group (R224) or, for a safe output, by its number; `pubs` are the published variables that the
body writes (R143), which the model numbers. -/
structure BodyRun where
  fields : List (Nat × Nat)
  safeOut : List (Nat × Bool)
  aspects : List (Nat × Nat)
  release : List Nat
  pubs : List (Nat × Nat)
  blocks : List FbExec
  meridianFails : List Nat
deriving DecidableEq, Repr

/-- What a lane's comparator of a safe input has shown (R413): a level, and for how many consecutive samples the lane has taken it. -/
structure InputSense where
  level : Bool
  samples : Nat
deriving DecidableEq, Repr

/-- A force pending in a lane (R219): a safe output or an outgoing field named by PERM_FIRST (R224). -/
inductive Force where
  | output (k : Nat)
  | field (permFirst : Nat)
deriving DecidableEq, Repr

/-- A point call: of a route or of POINT_MOVE (R112, R113). -/
inductive CallOwner where
  | route (r : Nat)
  | point (p : Nat)
deriving DecidableEq, Repr

/-- The identity of a host record: a session's command (R338), a SESSION_OPEN by its HOST_ID, SEQUENCE and ports (R348, R356, R372) or a KI-40
command (R598); a restrictive copy acted on as a new command has its content in its identity (R341). -/
inductive RecKey where
  | session (session seq : Nat)
  | opening (hostId seq : Nat)
  | serviceOpening (hostId seq : Nat)
  | ki40 (seq : Nat)
  | anew (session seq : Nat) (content : BitVec 32)
  | ki40Anew (seq : Nat) (content : BitVec 32)
deriving DecidableEq, Repr

namespace RecKey

/-- The SEQUENCE (or KI-40 SEQ) of a record. -/
def seq : RecKey → Nat
  | session _ n | opening _ n | serviceOpening _ n | ki40 n | anew _ n _ | ki40Anew n _ => n

/-- The session of a record, where it has one. -/
def session? : RecKey → Option Nat
  | session n _ | anew n _ _ => some n
  | _ => none

def isKi40 : RecKey → Bool
  | ki40 _ | ki40Anew _ _ => true
  | _ => false

def isOpening : RecKey → Bool
  | opening _ _ | serviceOpening _ _ => true
  | _ => false

/-- The identity of the first copy of the same sequence number. -/
def first : RecKey → RecKey
  | anew n q _ => .session n q
  | ki40Anew q _ => .ki40 q
  | k => k

/-- The identity of a copy acted on as a new command. -/
def withContent (k : RecKey) (x : BitVec 32) : RecKey :=
  match k with
  | session n q => .anew n q x
  | ki40 q => .ki40Anew q x
  | k => k

end RecKey

/-- The dynamic signals that hold a supply element (R238). -/
inductive DynSignal where
  | meridian | supervision
deriving DecidableEq, Repr

/-- The result field of a check word (Table 8.5). -/
inductive CheckResult where
  | notMade | pass | fail
deriving DecidableEq, Repr

/-- A check word (Table 8.5): the lane that sends it, its kind (0 RX_VERDICT, 1 TX_VALUE, 2 TX_VERIFY), whether it concerns a host telegram or
an Ndezo frame, its port, the stream ID or session number, and its two results. -/
structure CheckWord where
  lane : LaneId
  msg : Nat
  host : Bool
  port : Nat
  stream : Nat
  p : CheckResult
  q : CheckResult
deriving DecidableEq, Repr

/-- An Ndezo frame as it arrives (Tables 7.2 and 7.3). `offset` is the frame instant less the cycle start, in ns; `length`
the Ethernet length; `cut` that it ended early or its signal was lost (check 3); `reserved` that a reserved bit is set. -/
structure NdFrame where
  offset : Int
  length : Nat
  cut : Bool
  fcsOk : Bool
  version : Nat
  type : Nat
  constNo : Nat
  restricted : Bool
  reserved : Bool
  lengthField : Nat
  cycle : Nat
  epoch : Nat
  constTag : Nat
  payload : Bytes
  cvP : Word
  cvQ : Word
  rx : RxFault
deriving DecidableEq, Repr

/-- The frame around a SYNC, LINK or COLD payload (Tables 7.2 and 7.3): its Ethernet length, VERSION, whether a reserved bit is set,
LENGTH, CYCLE and EPOCH. -/
structure FrameHead where
  ethLength : Nat
  version : Nat
  reserved : Bool
  lengthField : Nat
  cycle : Nat
  epoch : Nat
deriving DecidableEq, Repr

/-- A LINK frame (Table 7.4) with its frame instant. `constNo` and `constTag` are those of the header. -/
structure LinkFrame where
  stamp : Nat
  fcsOk : Bool
  head : FrameHead
  constNo : Nat
  constTag : Nat
  source : Nat
  stratum : Nat
  parent : Bool
  joined : Bool
  ready : Bool
  held : Nat
  linkDelay : Nat
  txTime : Nat
  rxTime : Nat
  rxCycle : Nat
deriving DecidableEq, Repr

/-- A SYNC or COLD frame (Table 7.5) with its frame instant. `constNo` and `constTag` are those of the header. -/
structure SyncFrame where
  stamp : Nat
  fcsOk : Bool
  cut : Bool
  head : FrameHead
  constNo : Nat
  constTag : Nat
  polestar : Nat
  hops : Nat
  change : Nat
  changeNo : Nat
  cycle64 : Nat
  txTime : Nat
  correction : Nat
  latency : Nat
  tags : List Nat
deriving DecidableEq, Repr

/-- The links of a standby pair (R446, R448): SL0, SL1, and the PAIR frames on the domain. -/
inductive PairLink where
  | sl0 | sl1 | domain
deriving DecidableEq, Repr

/-- The two paths of a pair (R459). -/
inductive PairPath where
  | path1 | path2
deriving DecidableEq, Repr

/-- Header and check values of a standby link frame (Table 12.1), payload as bytes. -/
structure PairFrame where
  sender : Nat
  seq : Nat
  epoch : Nat
  payload : Bytes
  cvP : Word
  cvQ : Word
  rx : RxFault
deriving DecidableEq, Repr

/-- A test slot's senses. `offFor20us`: the terminal read off for at least 20 µs before the evaluation; `energised`: it
reads energised. -/
structure PulseSense where
  offFor20us : Bool
  energised : Bool
deriving DecidableEq, Repr

/-- How the test of the safety supply switch ended, where one runs (R422): it passed, or the lane of the element that failed, if
a single element explains the failure (R632). -/
structure SupplySense where
  pass : Bool
  lane : Option LaneId
deriving DecidableEq, Repr

/-- What a planned start meets: the end of a test of the safety supply switch, and by how many ns the time base of each lane has
drifted since the last one (R18, R24). -/
structure StartSense where
  supply : SupplySense
  drift : Lanes Int
deriving DecidableEq, Repr

/-- The currents of the three pairs AB, BC, CA in the element test (R423), while the lane's elements are open and after. -/
structure ElementSense where
  openCurrent : Lanes Bool
  closedCurrent : Lanes Bool
deriving DecidableEq, Repr

/-- One step of a dark test (R423): the mid-point left the bias level, returned afterwards, and the terminal stayed off. -/
structure DarkSense where
  left : Bool
  returned : Bool
  terminalOff : Bool
deriving DecidableEq, Repr

/-- The faults of Table 11.6 that the senses of a test show at once. -/
inductive OutFault where
  | stuckOn | elementClosed | elementOpen
deriving DecidableEq, Repr

/-- A reading of a seal switch (R552, Table 15.3). -/
inductive Reading where
  | isOpen | isClosed | discrepant | unfiltered
deriving DecidableEq, Repr

/-- A read with its replays (Table 13.1): which of the three reads is not clean. -/
structure ReadErrors where
  first : Bool
  second : Bool
  third : Bool
deriving DecidableEq, Repr

/-- What the lane side does in the same access window as a maintenance cycle (Table 13.6): nothing, a read of the word,
or a write of it; `laneLater` says that its request reached the bank later or at the same instant. -/
inductive LaneAccess where
  | none | read | write (value : Word)
deriving DecidableEq, Repr

structure Window where
  lane : LaneAccess
  laneLater : Bool
deriving DecidableEq, Repr

/-- The maintenance cycles of Table 13.5. -/
inductive BusCycle where
  | read (addr : Nat)
  | write (addr : Nat) (data : Half)
  | atomicLoad (addr : Nat) (data : Half)
  | atomicExecute (addr : Nat) (data : Half) (swap : Bool)
  | atomicResult (addr : Nat) (high : Bool)
deriving DecidableEq, Repr

/-- What reading back an append shows (R530). -/
inductive AppendFault where
  | none | mismatch | timeout
deriving DecidableEq, Repr

/-- What a march found in one SRAM (R584): the failing rows and columns it repaired, and whether every block had a spare for each
of its faults (`spareLeft`). -/
structure March where
  repairs : List Nat
  spareLeft : Bool
deriving DecidableEq, Repr

/-- The outcome of a lane's power-up BIST (R572, R574): signature equal to the golden one, and its march. -/
structure BistResult where
  signatureOk : Bool
  march : March
deriving DecidableEq, Repr

/-- How the self-test of a lane in RESTARTING ended (R244, R325), and the check unit whose known-answer test fails, its engine in bit 0. -/
structure SelfTestResult where
  pass : Bool
  katFail : Option Nat
deriving DecidableEq, Repr

/-- What each lane's steps 4 and 5 of Table 16.3 showed at the end of a start: clean read-back, known-answer tests
passed or the engine that failed (twice the check unit index, plus 1 for its CV-Q engine), how the hashes of the
lanes' key lists compare (R541), filtered readings of SEAL0 to SEAL15 (first switch first) and of the PSEL pins. -/
structure StartResult where
  readBackOk : Lanes Bool
  katFail : Lanes (Option Nat)
  keyLists : Agreement
  seals : Lanes (List Reading)
  psel : Lanes Nat
  mramOk : Bool
deriving DecidableEq, Repr

/-- How a lane's Dusk test ended (R578): signature, march and measured conditions. -/
structure DuskResult where
  signature : Nat
  march : March
  clockKhz : Nat
  vminMv : Nat
  vmaxMv : Nat
deriving DecidableEq, Repr

/-- A KI-40 answer (Table 17.6). `offset` is its frame instant less P, in ns. -/
structure AnswerFrame where
  offset : Int
  lengthOk : Bool
  fcsOk : Bool
  type : Nat
  oc : Nat
  pollNo : Nat
  station : Nat
  live : Bool
  data : Bytes
  crcC : Half
  crcT : Half
  rx : RxFault
deriving DecidableEq, Repr

/-- The commands of the block. -/
inductive Instr where
  | sessionOpen (t : Nat) (c : HostCopy)
  | sessionClose (t : Nat) (c : HostCopy)
  | sessionKeep (t : Nat) (c : HostCopy)
  | lockAcquire (t : Nat) (c : HostCopy)
  | lockRelease (t : Nat) (c : HostCopy)
  | creditSet (t : Nat) (c : HostCopy)
  | routeSet (t : Nat) (c : HostCopy)
  | routeCancel (t : Nat) (c : HostCopy)
  | routeReleaseTimed (t : Nat) (c : HostCopy)
  | routeQuery (t : Nat) (c : HostCopy)
  | signalStop (t : Nat) (c : HostCopy)
  | allStop (t : Nat) (c : HostCopy)
  | pointMove (t : Nat) (c : HostCopy)
  | pointBlock (t : Nat) (c : HostCopy)
  | pointUnblock (t : Nat) (c : HostCopy)
  | sectionReset (t : Nat) (c : HostCopy)
  | elementQuery (t : Nat) (c : HostCopy)
  | snapshotRead (t : Nat) (c : HostCopy)
  | statusRead (t : Nat) (c : HostCopy)
  | paceRead (t : Nat) (c : HostCopy)
  | countersRead (t : Nat) (c : HostCopy)
  | modeSet (t : Nat) (c : HostCopy)
  | profileSelect (t : Nat) (c : HostCopy)
  | stageOpen (t : Nat) (c : HostCopy)
  | stageWrite (t : Nat) (c : HostCopy)
  | stageVerify (t : Nat) (c : HostCopy)
  | changeArm (t : Nat) (c : HostCopy)
  | changeAbort (t : Nat) (c : HostCopy)
  | paramWrite (t : Nat) (c : HostCopy)
  | paramRead (t : Nat) (c : HostCopy)
  | powerStateSet (t : Nat) (c : HostCopy)
  | duskRun (t : Nat) (c : HostCopy)
  | repairFuse (t : Nat) (c : HostCopy)
  | almanacCursor (t : Nat) (c : HostCopy)
  | almanacRead (t : Nat) (c : HostCopy)
  | almanacQuota (t : Nat) (c : HostCopy)
  | timeSet (t : Nat) (c : HostCopy)
  | identityRead (t : Nat) (c : HostCopy)
  | attestQuote (t : Nat) (c : HostCopy)
  | keyListUpdate (t : Nat) (c : HostCopy)
  | constellationRequest (t : Nat) (c : HostCopy)
  | ndezoStatus (t : Nat) (c : HostCopy)
  | portEnable (t : Nat) (c : HostCopy)
  | pairStatus (t : Nat) (c : HostCopy)
  | switchover (t : Nat) (c : HostCopy)
  | standbySync (t : Nat) (c : HostCopy)
  | arbControl (t : Nat) (c : HostCopy)
  | arbCounters (t : Nat) (c : HostCopy)
  | xramRead (t : Nat) (c : HostCopy)
  | xramWrite (t : Nat) (c : HostCopy)
  | xramAtomic (t : Nat) (c : HostCopy)
  | laneDiag (t : Nat) (c : HostCopy)
  | laneReintegrate (t : Nat) (c : HostCopy)
  | hostCopyRejected (t : Nat) (d : Datagram)
  | skewWindowExpiry (t : Nat) (key : RecKey)
  | copyDequeued (t : Nat)
  | sessionLeaseLapse (t : Nat) (session : Nat)
  | lockLeaseLapse (t : Nat)
  | openNonceChange (t : Nat)
  | plannedStart (t : Nat) (sense : StartSense)
  | voteVector (t : Nat) (dst src : LaneId) (f : LinkFault)
  | voteCommit (t : Nat) (lane : LaneId)
  | voteDeadline (t : Nat) (lane : LaneId)
  | verdictWord (t : Nat) (dst src : LaneId) (f : LinkFault)
  | faultNotice (t : Nat) (dst src : LaneId) (f : LinkFault)
  | miniVote (t : Nat) (lane : LaneId)
  | miniVoteJoin (t : Nat) (lane src : LaneId) (f : LinkFault)
  | miniVoteDeadline (t : Nat) (lane : LaneId)
  | forcePendingDrop (t : Nat) (lane : LaneId) (force : Force)
  | isolationTimeout (t : Nat) (lane : LaneId)
  | watchdogExpiry (t : Nat) (lane : LaneId)
  | supplyElementDrop (t : Nat) (lane : LaneId) (signal : DynSignal)
  | reducedLimitExpiry (t : Nat)
  | reducedWarn (t : Nat)
  | taskBodyComplete (t : Nat) (lane : LaneId) (task : Task) (run : BodyRun)
  | detectTimeout (t : Nat) (owner : CallOwner)
  | approachTimerExpiry (t : Nat) (route : Nat)
  | emergTimerExpiry (t : Nat) (route : Nat)
  | overlapTimerExpiry (t : Nat) (route : Nat)
  | sectionResetEnd (t : Nat) (element : Nat)
  | safeInputChange (t : Nat) (lane : LaneId) (input : Nat) (sense : InputSense)
  | paceMeasurement (t : Nat) (lane : LaneId) (pace : Nat)
  | paceMarginClear (t : Nat) (lane : LaneId)
  | rxVerdict (t : Nat) (dst src : LaneId) (w : Word) (f : LinkFault)
  | rxDecisionDeadline (t : Nat) (lane : LaneId) (port stream : Nat)
  | txValue (t : Nat) (dst src : LaneId) (host : Bool) (stream : Nat) (isP : Bool) (value : Option Word)
  | txVerify (t : Nat) (dst src : LaneId) (w : Option Word)
  | domainCycleStart (t : Nat)
  | syncSend (t : Nat)
  | linkFrame (t : Nat) (port : Nat) (f : LinkFrame)
  | syncFrame (t : Nat) (port : Nat) (f : SyncFrame)
  | coldFrame (t : Nat) (port : Nat) (f : SyncFrame)
  | dataFrame (t : Nat) (port : Nat) (f : NdFrame)
  | forward (t : Nat) (port : Nat) (f : NdFrame)
  | transmitBufferFill (t : Nat) (slot : Nat)
  | slotSend (t : Nat) (slot : Nat)
  | slotClose (t : Nat) (stream : Nat)
  | delayUnknown (t : Nat) (port : Nat)
  | listenTimeExpiry (t : Nat)
  | coldStartCycleEnd (t : Nat)
  | polestarClaim (t : Nat)
  | outOfStep (t : Nat)
  | domainMerge (t : Nat)
  | dawnJoin (t : Nat)
  | dawnFail (t : Nat)
  | testSlotStart (t : Nat) (output : Nat)
  | offPulseEnd (t : Nat) (output : Nat) (sense : PulseSense)
  | elementTest (t : Nat) (output : Nat) (sense : ElementSense)
  | darkTestStep (t : Nat) (output : Nat) (step : Nat) (sense : DarkSense)
  | untested (t : Nat) (output : Nat)
  | outputFault (t : Nat) (lane : LaneId) (output : Nat) (kind : OutFault)
  | short (t : Nat) (lane : LaneId) (output : Nat)
  | shortSetExit (t : Nat) (output : Nat)
  | sealChange (t : Nat) (switch : Nat) (readings : Lanes Reading)
  | sealDisagreement (t : Nat) (lane : LaneId) (switch : Nat)
  | pselChange (t : Nat) (values : Lanes Nat)
  | verifyComplete (t : Nat) (slot : Nat) (outcome : Agreement)
  | admissionComplete (t : Nat) (slot : Nat) (outcome : Agreement)
  | slotMapWrite (t : Nat) (lane : LaneId)
  | stageWriteCopyComplete (t : Nat) (slot : Nat)
  | xramUnguarded (t : Nat)
  | heartbeatSend (t : Nat)
  | heartbeat (t : Nat) (link : PairLink) (f : PairFrame)
  | pairListenEnd (t : Nat)
  | pathSilent (t : Nat) (path : PairPath)
  | intakeFrame (t : Nat) (link : PairLink) (f : PairFrame)
  | forceFrame (t : Nat) (link : PairLink) (f : PairFrame)
  | changeFrame (t : Nat) (link : PairLink) (f : PairFrame)
  | copyReq (t : Nat) (link : PairLink) (f : PairFrame)
  | copyFrame (t : Nat) (first second : PairFrame)
  | catchUpComplete (t : Nat)
  | switchFrame (t : Nat) (link : PairLink) (f : PairFrame)
  | switchAbandoned (t : Nat)
  | quarantineEnd (t : Nat)
  | epochFlashWrite (t : Nat)
  | switchDue (t : Nat)
  | scrubBurst (t : Nat) (lane : LaneId) (errors : ReadErrors)
  | sramScrub (t : Nat) (lane : LaneId) (errors : ReadErrors)
  | freezeTimeout (t : Nat) (lane : LaneId)
  | mbRead (t : Nat) (addr : Nat) (w : Window)
  | mbWrite (t : Nat) (addr : Nat) (data : Half) (w : Window)
  | atomicLoad (t : Nat) (addr : Nat) (data : Half)
  | atomicExecute (t : Nat) (addr : Nat) (data : Half) (swap : Bool)
  | atomicResult (t : Nat) (addr : Nat) (high : Bool)
  | cycleCutShort (t : Nat) (cycle : BusCycle)
  | almanacAppend (t : Nat) (lane : LaneId) (fault : AppendFault)
  | openRecordClose (t : Nat) (seq : Nat)
  | supplyBelow (t : Nat)
  | supplyReturn (t : Nat)
  | powerFail (t : Nat)
  | mrstAssert (t : Nat)
  | mrstRelease (t : Nat)
  | mseatHigh (t : Nat)
  | resetStuck (t : Nat)
  | coreUndervoltage (t : Nat) (lane : LaneId)
  | start (t : Nat)
  | laneBistComplete (t : Nat) (lane : LaneId) (r : BistResult)
  | startComplete (t : Nat) (r : StartResult)
  | startRetry (t : Nat)
  | duskLaneComplete (t : Nat) (lane : LaneId) (r : DuskResult)
  | duskConditions (t : Nat) (lane : LaneId) (patterns clockKhz supplyMv : Nat)
  | reintegrationSelfTestDone (t : Nat) (lane : LaneId) (r : SelfTestResult)
  | copyingComplete (t : Nat) (lane : LaneId) (copiesEqual : Bool)
  | ki40Status (t : Nat) (c : Ki40Copy)
  | ki40RouteSet (t : Nat) (c : Ki40Copy)
  | ki40RouteCancel (t : Nat) (c : Ki40Copy)
  | ki40RouteReleaseTimed (t : Nat) (c : Ki40Copy)
  | ki40SignalStop (t : Nat) (c : Ki40Copy)
  | ki40AllStop (t : Nat) (c : Ki40Copy)
  | ki40PointMove (t : Nat) (c : Ki40Copy)
  | ki40PointBlock (t : Nat) (c : Ki40Copy)
  | ki40PointUnblock (t : Nat) (c : Ki40Copy)
  | ki40SectionReset (t : Nat) (c : Ki40Copy)
  | ki40RouteQuery (t : Nat) (c : Ki40Copy)
  | ki40ElementQuery (t : Nat) (c : Ki40Copy)
  | ki40Mode (t : Nat) (c : Ki40Copy)
  | ki40Power (t : Nat) (c : Ki40Copy)
  | eventRead (t : Nat) (c : Ki40Copy)
  | ki40TimeSet (t : Nat) (c : Ki40Copy)
  | dataLoadPhase0 (t : Nat) (c : Ki40Copy)
  | dataLoadPhase1 (t : Nat) (c : Ki40Copy)
  | ki40LoadComplete (t : Nat) (outcome : Agreement)
  | ki40DatagramDiscarded (t : Nat) (d : Datagram)
  | ki40ReplyWindow (t : Nat)
  | ki40CycleStart (t : Nat)
  | pollRoundStart (t : Nat)
  | poll (t : Nat) (port : Nat)
  | answer (t : Nat) (port : Nat) (f : AnswerFrame)
  | answerWindowClose (t : Nat) (port : Nat)
  | arpRequest (t : Nat) (port : Nat) (ip : Nat) (mac : Nat)
  | quoteReady (t : Nat) (session : Nat)
  | fuseRepairComplete (t : Nat) (lane : LaneId)
  | dataLoadCopyComplete (t : Nat)
  | moduleSeated (t : Nat)
  | outputSupplyLow (t : Nat)
deriving DecidableEq, Repr

end Sys2Proof
end

