-- ==== Sys2Proof/Decode.lean ====
section
/-! DEFINITION. The words of the command table: no row of spec/opcode_table.json gives its command any bits, so no word
spells a command. -/

namespace Sys2Proof

/-- The command that a word of the table spells: none, since the table gives no row a fixed bit or a field. -/
def decodeTableWord (_nbits _w : Nat) : Option Instr := none

end Sys2Proof
end

