-- ==== Sys2Proof/Config.lean ====
section
/-! DEFINITION. What the manual leaves to published standards, to the part or to chance: constants without a body, so
that a claim holds whatever they are (log entries 8 to 10). -/

namespace Sys2Proof.Config

/-- SHA-384 (FIPS 180-4), most significant byte first when written as bytes (log entry 8). -/
opaque sha384 : Bytes → BitVec 384

/-- ECDSA on P-384 (SEC 1): does the signature (r, s) over the hash verify with the public key? (log entry 8) -/
opaque ecdsaVerify : Bytes → BitVec 384 → Bytes → Bytes → Bool

/-- The module key's signature r, s over a hash (R544, log entry 8). -/
opaque ecdsaSign : BitVec 384 → BitVec 768

/-- Is a 96-byte encoding a valid point of P-384 (R543)? (log entry 8) -/
opaque curvePoint : Bytes → Bool

/-- The checks 1, 2 and 3 of Table 15.1 on an engineer certificate, and what X.509 reads from it: its subject key, whether
its signature verifies with a key, and its validity in ns UTC (log entry 8). -/
opaque certParses : Bytes → Bool
opaque certSubjectOk : Bytes → Bool
opaque certUsageOk : Bytes → Bool
opaque certSubjectKey : Bytes → Bytes
opaque certSignedBy : Bytes → Bytes → Bool
opaque certFrom : Bytes → Nat
opaque certTo : Bytes → Nat

/-- The Malrek release key, the one key of the list as delivered (R542, log entry 9). -/
opaque malrekKey : Bytes

/-- The serial number of the module, its firmware version and hardware revision, its device certificate and the MAC
addresses of its ports (Table 10.15): a property of the specimen (log entry 9). -/
opaque serial : Bytes
opaque fwVersion : Nat
opaque hwRevision : Nat
opaque deviceCert : Bytes
opaque mac : Nat → Nat

/-- The golden signature of a lane's Dusk test by firmware version (R580): delivered by Malrek (log entry 9). -/
opaque goldenSignature : Nat → Nat

/-- Random and unspecified values, drawn with the state's counter `freeCtr` (log entry 10): a tag "at random" (R304), the
OPEN_NONCE (R400), and the data of an exchange-RAM access whose result the manual leaves undefined. -/
opaque freeWord : Nat → Word
opaque freeLong : Nat → Long
opaque freeHalf : Nat → Half
opaque freeByte : Nat → Byte
opaque freeBool : Nat → Bool

/-- SW in ns (R260): Garpo computes it for the domain, and no section of an image holds it (log entry 109). -/
opaque syncWindow : Nat

/-- A byte of a part of the working area whose contents the manual gives no layout (Table 2.19: telegram buffers, online change work
area, firmware), by a number that names the state and its address (log entry 110). -/
opaque workByte : Nat → Nat → Byte

/-- Where the change report of a staging slot begins in the online change work area (R186 names no address; log entry 110). -/
opaque reportAt : Nat → Nat

/-- The initial data of an instance of an image (02, Program and instance data: the format of the program code section is
private to Garpo and the module; log entry 3). -/
opaque initialData : Nat → Nat → Bytes

end Sys2Proof.Config
end

