-- ==== Sys2Proof/Machine/State.lean ====
section
/-! DEFINITION. The state of the HK-7348: every register, buffer, counter, mode and pin the manual gives the module,
as plain data, and the queue of commands that wait. INVENTORY.md lists each field with its rule and reset value. -/

namespace Sys2Proof.Machine

/-- A sparse byte memory in canonical form: addresses strictly rising, no entry 0; an unlisted address reads 0, since
R470, R493 and R180 zero-fill the memories before use (log entry 5). -/
abbrev Mem := List Host.Cell

/-- The canonical form of `Mem`. -/
def Mem.wf : Mem → Bool
  | [] => true
  | [c] => c.2 != 0
  | c :: d :: rest => c.2 != 0 && decide (c.1 < d.1) && Mem.wf (d :: rest)

/-- Why the machine stops with a fault. -/
inductive Fault where
  /-- Raised by the maintenance bus rows for a halfword address above the 19 address lines of Table 13.5: no such
  address exists. Safe: the bus has no such cycle. -/
  | noSuchAddress
deriving DecidableEq, Repr

/-- Why the model refuses a command. -/
inductive Refusal where
  /-- Raised by exec's arm of a command that has no meaning yet. Safe: nothing is claimed of it. -/
  | notModelled (mnemonic : String)
deriving DecidableEq, Repr

/-! ## Modes and states -/

/-- Where the module is in its life (16). `reset`: held by MRST_N, MSEAT_N or a power-fail; `release`: the 100 ms before
s0; `starting`: Table 16.3; `retryWait` and `dead`: R575; `running`: IDLE, WARM or LIVE; `safeOff`: latched (R38). -/
inductive Phase where
  | reset | release | starting | retryWait | dead | running | dusk | off | safeOff
deriving DecidableEq, Repr

/-- The power states of Table 1.5. -/
inductive Power where
  | off | idle | warm | live
deriving DecidableEq, Repr

/-- The program modes of Table 1.7. -/
inductive Mode where
  | stop | run | hold
deriving DecidableEq, Repr

/-- The degradation states of Table 10.7; safe-off is a `Phase`. -/
inductive Degradation where
  | full | reduced | nadir | oneLane
deriving DecidableEq, Repr

/-- The lane states of Table 6.5. -/
inductive LaneMode where
  | voting | isolated | excluded | restarting | copying | shadow
deriving DecidableEq, Repr

/-- The lane fault causes of Table 6.4. -/
inductive Cause where
  | vote | link | deadline | pace | memory | intake | admission | arm | watchdog | time | force | selfTest
deriving DecidableEq, Repr

/-- The origin classes of R355. -/
inductive OriginClass where
  | operator | engineer | maintenance | internal
deriving DecidableEq, Repr

/-- The part (Table 0.1). -/
inductive Part where
  | hk7348 | hk7332 | hk7316
deriving DecidableEq, Repr

/-! ## Routes -/

/-- The route states of Table 3.1. -/
inductive RouteState where
  | idle | requested | checked | pointsCalled | inPosition | locked | cleared | approachLocked | occupied | emergTiming
deriving DecidableEq, Repr

/-- The timer kinds of Table 3.1. -/
inductive TimerKind where
  | none | detection | approach | emergency | overlap
deriving DecidableEq, Repr

/-- A route table entry (Table 3.1); `overlapDone` says that the overlap has been released (R122). -/
structure RouteEntry where
  state : RouteState
  stepSeen : Bool
  reason : Nat
  step : Nat
  timerKind : TimerKind
  cancelled : Bool
  timer : Nat
  overlapDone : Bool
deriving DecidableEq, Repr

/-- The entry of a route that has never been active. -/
def RouteEntry.idle : RouteEntry :=
  { state := .idle, stepSeen := false, reason := 0, step := 0, timerKind := .none, cancelled := false, timer := 0,
    overlapDone := false }

/-- A point call in progress (R112, R113): the point, the commanded position, the calling route (0xFFFF for POINT_MOVE) and,
for POINT_MOVE, the T1 cycles left (a route's detection timer stands in its entry). -/
structure PointCall where
  point : Nat
  position : Nat
  route : Nat
  timer : Nat
deriving DecidableEq, Repr

/-- A section reset in progress (R124). -/
structure ResetRun where
  element : Nat
  left : Nat
deriving DecidableEq, Repr

/-- What the route engine of a lane keeps (03): the route table (entries other than `RouteEntry.idle`, ascending), the
block set and stop set, the calls and resets in progress, the order of REQUESTED and IN_POSITION routes (R99, R100), the
ROUTE_SET command of each in-flight route (R241), the fault, degraded and short sets of the outputs (R428) and the instants of the SHORTs of the last 60 s. -/
structure Engine where
  routes : List (Nat × RouteEntry)
  block : BitVec 8192
  stop : BitVec 8192
  calls : List PointCall
  resets : List ResetRun
  requested : List Nat
  positioned : List Nat
  keys : List (Nat × RecKey)
  faultSet : BitVec 32
  degradedSet : BitVec 32
  shortSet : BitVec 32
  shorts : List (Nat × Nat)
deriving DecidableEq, Repr

/-- A record group that waits in a writer's queue (R513, R517): one first record and its continuations. -/
structure Queued where
  code : Nat
  cls : OriginClass
  session : Nat
  hostId : Nat
  writer : Nat
  safety : Bool
  repeats : Bool
  wall : Nat
  payloads : List Long
deriving DecidableEq, Repr

/-! ## Snapshots and vote vectors -/

/-- A committed snapshot: the voted words of Table 2.5, when the first lane committed it, and the module states reported from it (R42). -/
structure Snapshot where
  number : Nat
  instant : Nat
  commitAt : Nat
  mini : Bool
  safeOut : BitVec 32
  state : BitVec 32768
  elemLock : BitVec 8192
  routeLock : BitVec 4096
  payloads : List (Nat × BitVec 8192)
  power : Power
  mode : Mode
  degradation : Degradation
  wall : Nat
deriving DecidableEq, Repr

/-- A vote vector (Table 2.5), with the force list of a mini-vote (Table 6.3; `forceAll` is COUNT 0xFFFF) and, at the Change Point of
an armed change, the outcome of step 3 of Table 5.7 and whether the lane has seen an abort. `laneTime` is in units of 40 ns. -/
structure Vector where
  number : Nat
  laneTime : Word
  lane : LaneId
  mini : Bool
  safeOut : BitVec 32
  state : BitVec 32768
  elemLock : BitVec 8192
  routeLock : BitVec 4096
  payloads : List (Nat × BitVec 8192)
  forces : List Force
  forceAll : Bool
  armPass : Option Bool
  abortSeen : Bool
deriving DecidableEq, Repr

/-- What a lane holds of another lane at a vote (R206, R211). -/
inductive Received where
  | nothing
  | vector (v : Vector)
  | notice (cause : Cause)
deriving DecidableEq, Repr

/-- A verdict word or a fault notice (Table 6.1). -/
structure Verdict where
  lane : LaneId
  rx : Lanes Bool
  committed : Bool
  notice : Bool
  cause : Option Cause
  snapLow : Nat
deriving DecidableEq, Repr

/-- A lane's part in the vote: the planned instant, its own vector or the fault notice in its place, what it holds of the others, whether
it has decided, the verdict it sent, the verdicts it holds, the vectors it missed (R214), its part in a mini-vote with its fault notice there
(R208), the lanes whose vectors that mini-vote awaits and the verdicts that follow one, whether a commit of the others has excluded it before
it has decided, so that its own isolation is still to come (R248), what the latch at the instant brought: the forces (R125), the streams with a dropout event (R169) and the events for the
Almanac, and whether a T1 cycle ends at the instant (R147). -/
structure VoteBox where
  instant : Nat
  own : Option Vector
  notice : Option Verdict
  rx : Lanes Received
  decided : Bool
  committed : Bool
  sent : Option Verdict
  verdicts : Lanes (Option Verdict)
  missed : Lanes Bool
  miniOwn : Received
  miniRx : Lanes Received
  miniStart : Nat
  miniSent : Option Verdict
  miniNotice : Option Verdict
  miniAwaits : List LaneId
  miniVerdicts : Lanes (Option Verdict)
  owesIsolation : Bool
  preempts : Nat
  forced : List Force
  dropped : List Nat
  events : List Queued
  t1Ended : Bool
deriving DecidableEq, Repr

/-- A fast-path mark (R147, R427): an output forced, or an output fault found by a lane. -/
inductive Mark where
  | forced (f : Force)
  | fault (kind : OutFault) (output : Nat)
  | short (output : Nat)
deriving DecidableEq, Repr

/-! ## Tasks, streams and inputs -/

/-- A TE run that waits (R171, Table 4.8), with the number of the snapshot that released it, its logical time and the published variables as
of its release (R146, R154), and the T1 cycles that have ended since. -/
structure TeRun where
  stream : Nat
  peer : Nat
  ageLimit : Nat
  age : Nat
  latchTime : Nat
  dropoutNo : Nat
  snapshot : Nat
  logical : Nat
  pubs : List (Nat × Nat)
  ended : Nat
deriving DecidableEq, Repr

/-- An accepted payload with its arrival stamp (R139). -/
structure Stamped where
  payload : BitVec 8192
  stamp : Nat
deriving DecidableEq, Repr

/-- An incoming stream in one lane (R282, R283): the latest accepted payload, the one before it with the age it had, the read
buffer, the age of the ready buffer, the status word of Table 4.7 and the figures of Table 10.20. `accepted` says that a frame
was accepted in this cycle, `isClosed` that its slot close has passed and `aged` that the stream has aged in this cycle. -/
structure RxStream where
  id : Nat
  ready : Option Stamped
  previous : Option Stamped
  age : Nat
  prevAge : Nat
  read : BitVec 8192
  latchAge : Nat
  maxAge : Nat
  subst : Bool
  never : Bool
  returned : Bool
  dropouts : Nat
  accepted : Bool
  isClosed : Bool
  aged : Bool
  check : Word
  split : Word
deriving DecidableEq, Repr

/-- A telegram whose decision under Table 8.6 is open in a lane: what the lane itself found, what each other lane sends of what it found, and
which of these verdicts have arrived; `late` says that its stream's slot close has passed (R313), `slot` is the receive entry, and `logged`
that another lane has rejected it with its record (R327). -/
structure RxPending where
  host : Bool
  port : Nat
  stream : Nat
  lastBit : Nat
  frame : NdFrame
  own : CheckResult × CheckResult
  sent : Lanes (Option (CheckResult × CheckResult))
  others : Lanes (Option (CheckResult × CheckResult))
  offsetNs : Int
  late : Bool
  slot : Nat
  logged : Bool
deriving DecidableEq, Repr

/-- A frame or reply that waits for its check values (R315, R316): values by engine, verifications by lane, and the last instant at which
one counts (R316, R344). -/
structure TxPending where
  host : Bool
  stream : Nat
  valueP : Option Word
  valueQ : Option Word
  verified : Lanes (Option (CheckResult × CheckResult))
  last : Nat
deriving DecidableEq, Repr

/-! ## Almanac records -/

/-- An Almanac record (Table 14.1): `count` is REPEAT; the flags are those of Table 14.3; `payload` is bytes 24 to 31. -/
structure Record where
  seq : Nat
  count : Nat
  wall : Nat
  cls : OriginClass
  session : Nat
  writer : Nat
  hostId : Nat
  code : Nat
  isOpen : Bool
  safety : Bool
  local_ : Bool
  cont : Bool
  saturated : Bool
  timeUnset : Bool
  stashed : Bool
  payload : Long
  last : Nat
deriving DecidableEq, Repr

/-- A task body's completed output image (R141, step 1): its output fields by the first permission record of their group, its published
variables, and for T1 the route engine's new state with the Almanac events that its commit carries. -/
structure TaskOut where
  task : Task
  fields : List (Nat × Nat)
  pubs : List (Nat × Nat)
  engine : Option Engine
  events : List Queued
deriving DecidableEq, Repr

/-- The Almanac memory and its shared counts (R510, R527-R533): `records` newest first; `events` are the events that the
next committed snapshot carries (R514, R516), in the order in which they arose. -/
structure Almanac where
  events : List Queued
  next : Nat
  first : Nat
  records : List Record
  quotas : List (OriginClass × Nat)
  dropped : List (OriginClass × Nat)
  dropping : List OriginClass
  stashMode : Bool
  failed : Bool
  timeSet : Bool
deriving DecidableEq, Repr

/-! ## Start, Dusk and repair -/

/-- A Dusk record (Table 16.5). -/
structure DuskRecord where
  magic : Nat
  format : Nat
  lane : LaneId
  fwVersion : Nat
  runNo : Nat
  wall : Nat
  patterns : Nat
  clockKhz : Nat
  signature : Nat
  verdict : Nat
  march : Nat
  newRepairs : Nat
  vmin : Nat
  vmax : Nat
  marker : Nat
  markerPatterns : Nat
  crcOk : Bool
deriving DecidableEq, Repr

/-! ## The trusted key list -/

/-- A trusted key list (Table 10.17, R540). -/
structure KeyList where
  version : Nat
  keys : List Bytes
deriving DecidableEq, Repr

/-- A command for the route engine or the intake (R97, R202, R392, R451, R454). `removed` says that the cancel removed a ROUTE_SET
from intake (R119); `profile` is a profile request in the intake lists of a pair. -/
inductive EngineCmd where
  | routeSet (r : Nat)
  | routeCancel (r : Nat) (removed : Bool)
  | routeRelease (r : Nat)
  | signalStop (e : Nat)
  | allStop
  | pointMove (p position : Nat)
  | pointBlock (p : Nat)
  | pointUnblock (first last : Nat)
  | sectionReset (e : Nat)
  | params (values : List (Nat × Word))
  | mode (m : Mode) (steps : Nat) (breakpoints : Option (List Nat))
  | power (p : Power)
  | profile (target : Nat) (fromPins : Bool)
deriving DecidableEq, Repr

/-- A command that awaits intake (R97): its identity, its content CRC when a restrictive copy acts anew (R341), its origin
and the stamps at which the lanes accepted it. `due` is a T1 start before which it is not listed (R452, R606). -/
structure Intake where
  key : RecKey
  content : Option Word
  cmd : EngineCmd
  cls : OriginClass
  session : Nat
  hostId : Nat
  originId : Nat
  opcode : Nat
  stamps : Lanes Nat
  due : Nat
deriving DecidableEq, Repr

/-! ## Input images -/

/-- The field part of an input image (R138): the latch instant, each incoming stream with its status word (Table 4.7) and read buffer, the
safe input samples, and the host commands accepted since the previous latch. -/
structure FieldPart where
  instant : Nat
  streams : List (Nat × Word × BitVec 8192)
  levels : BitVec 64
  commands : List RecKey
deriving DecidableEq, Repr

/-- The input image of a task cycle (R137, R146): its field part, the snapshot of its committed part by number, and the published
variables as their writers' images had closed. -/
structure InputImage where
  field : FieldPart
  snapshot : Nat
  pubs : List (Nat × Nat)
deriving DecidableEq, Repr

/-! ## A lane -/

/-- The counters of groups 0 to 2 of Table 10.8, in the order of the table; each wraps at 32 bits (R383). -/
structure LaneCounters where
  routeReject : List Word
  routeDiverse : Word
  pointTimeout : Word
  stopHold : Word
  intakeCarry : Word
  inputStraddle : Word
  teRuns : Word
  teOverflow : Word
  forceHold : Word
  badNibble : Word
  voteCycle : Word
  voteMini : Word
  miniEmpty : Word
  forceAlone : Word
  linkErr : Lanes Word
  missing : Lanes Word
  exclusions : List Word
  cvFailP : Word
  cvFailQ : Word
  split : Word
  cwMiss : Lanes Word
  txHold : Word
  badCheckX : Word
  badCheckY : Word
deriving DecidableEq, Repr

/-- A request that waits at the table-store port (R481 to R483): its requester, the bursts that it still wants, since when it waits and the
rounds it has lost. Port time is in clocks of 0.625 ns (R490). -/
structure PortRequest where
  req : Nat
  bursts : Nat
  since : Nat
  lost : Nat
deriving DecidableEq, Repr

/-- The run that holds the grant: its requester, the bursts left of it, and the base priority that its next burst boundary still uses
where a write has changed it meanwhile (Table 13.3). -/
structure PortRun where
  req : Nat
  bursts : Nat
  oldBase : Option Nat
deriving DecidableEq, Repr

/-- The memories of a lane (13): scrubbers, replay counts and the latest replay, the words of the table store and of the on-lane SRAM whose
stored parity is wrong (R469, by word number), the freeze bit, and the table-store arbiter: the requests that wait, the run that holds the
grant, the port time of the last event, priorities, boosts and counters; `ringKept` are the snapshots whose ring entries a freeze kept
(R489). -/
structure Store where
  tsReplayed : Word
  sramReplayed : Word
  tsPasses : Word
  tsPos : Nat
  sramPasses : Word
  sramPos : Nat
  lastErrAddr : Nat
  lastErrTime : Nat
  badTable : List Nat
  badSram : List Nat
  frozen : Bool
  frozenSince : Nat
  ringKept : List Snapshot
  freezes : Word
  collides : Word
  waiting : List PortRequest
  grant : Option PortRun
  portAt : Nat
  priority : List Nat
  boost : List Nat
  grants : List Word
  waits : List Word
  longestRounds : List Nat
  longestNs : List Nat
deriving DecidableEq, Repr

/-- The first-execution rule that an entry from STOP has left (R153): that of RUN holds until each detector has executed, that of HOLD in its
first step. -/
inductive StopRule where
  | off | run | hold
deriving DecidableEq, Repr

/-- The program side of a lane (04): completed output images, the bodies in progress with the number of the snapshot from
which each started, the image of T1 that closed at the vote in progress, the latest closed output fields by the first
permission record of their group, the TE queue, the logical times of T0, T1 and T2, the place of the next T0 start in its 10 ms (`phase`, log entry 24), the instance data (with PREV, ELAPSED and
PRESET at the offsets of R72; `timers` holds the type, IN and Q of each timer and `lastExec` the logical instant of each instance's last
execution), the edge detectors that have executed since their data was set, the rule that an entry from STOP has left and the detectors that
have executed since (R153), what the last T1
intake took in, and whether in-flight routes are to be discarded: `upset` by the next T1 body, `bodyUpset` by the one in
progress (R127); `working` is the route engine with its events as the T1 body in progress has changed it so far. `inImages` are the input
images of the latest cycle of each task (R137), `pubs` the published variables as last closed (R146), `tePubs` the TE output image that
is being written with the T1 cycles that have ended since its first run was released (R172), and `edges` the outputs RISE, FALL and CHANGE
of each edge detector at its last execution (R151); `overdue` are the timers that an online change carried at or past their new PRESET and
that have not executed since (R195). -/
structure Program where
  done : List TaskOut
  bodies : List (Task × Nat)
  closed : Option TaskOut
  fields : List (Nat × Nat)
  teQueue : List TeRun
  logical : Lanes Nat
  phase : Nat
  data : Mem
  timers : List ((Nat × Nat) × (TimerType × Bool × Bool))
  lastExec : List (Nat × Nat)
  executed : List (Nat × Nat)
  stopRule : StopRule
  sinceStop : List (Nat × Nat)
  intake : List Intake
  marks : List (Mark × Nat)
  upset : Bool
  bodyUpset : Bool
  working : Option (Engine × List Queued)
  inImages : List (Task × InputImage)
  pubs : List (Nat × Nat)
  tePubs : List (Nat × List (Nat × Nat))
  edges : List ((Nat × Nat) × (Word × Word × Word))
  overdue : List (Nat × Nat)
deriving DecidableEq, Repr

/-- The forces of a lane (06, 04): pending with the instant at which each arose (R219, R225), holds with 0 until a T1 cycle starts after
the commit that began them and 1 in that cycle, with whose end they end (R147), marks for the next intake (R148, R427), and the instants of FORCE_ALONE within 1 s. -/
structure Forces where
  pending : List (Force × Nat)
  holds : List (Force × Nat)
  marks : List Mark
  alone : List Nat
deriving DecidableEq, Repr

/-- How long a lane's reading of a switch has differed from the voted one (R559): since when, whether the lane has written its record,
and since when it has agreed again. -/
structure Differ where
  since : Nat
  recorded : Bool
  agreed : Option Nat
deriving DecidableEq, Repr

/-- A filtered change of a safe input with its stamp, until a latch has taken it (R139, R414). -/
structure LevelChange where
  input : Nat
  stamp : Nat
  level : Bool
deriving DecidableEq, Repr

/-- The inputs of a lane (11, 15): filtered safe input levels, those of the last latch with the changes since, element stamps for input straddles, the
incoming streams, the field part of the latest latch (R138), open receive decisions and transmit values, and seal and pin readings. -/
structure Inputs where
  level : BitVec 64
  latched : BitVec 64
  changes : List LevelChange
  elemStamp : List (Nat × Nat)
  streams : List RxStream
  field : FieldPart
  rxPending : List RxPending
  txPending : List TxPending
  seals : List Reading
  psel : Nat
  differs : List (Nat × Differ)
  checkUnits : List (Nat × List Word)
deriving DecidableEq, Repr

/-- One lane. `held` says that its core supply monitor holds it in reset (R645). `localFault` is a fault of its own that it reports (R229); `expel` the cause for which the others exclude it at
the next vote (R214, R229). -/
structure Lane where
  mode : LaneMode
  cause : Option Cause
  localFault : Option Cause
  expel : Option Cause
  isolatedAt : Nat
  isolatedFor : Option Cause
  exclusions : Nat
  sentTime : Word
  offset : Int
  lastCommit : Nat
  lastNumber : Nat
  meridianToggles : Bool
  supervisionToggles : Bool
  supplyClosed : Bool
  elements : BitVec 32
  pace : Nat
  minPace : Nat
  lowPaces : Nat
  paceMargin : Bool
  paceGoodSince : Nat
  vote : VoteBox
  engine : Engine
  program : Program
  forces : Forces
  inputs : Inputs
  counters : LaneCounters
  store : Store
  checkpoint : Nat
  mapWritten : Bool
  dusk : Option DuskRecord
  duskRuns : Nat
  softRepairs : List Nat
  fusedRepairs : List Nat
  fuseRunning : Bool
  startPassed : Bool
  bistNeeded : Bool
  held : Bool
  katFail : Option Nat
  shadowSince : Nat
  shadowDiffer : Bool
  queue : List Queued
  almLost : Word
  almLostPending : Bool
  stashFlash : List Record
  stash : List Record
  stashNext : Nat
  stashLost : Word
deriving DecidableEq, Repr

/-! ## Images -/

/-- The status of a profile slot (R89). -/
inductive SlotStatus where
  | empty | verifying | valid | invalid
deriving DecidableEq, Repr

/-- The state of a staging slot (Table 5.1; WRITING under R381). -/
inductive StageState where
  | empty | isOpen | writing | verifying | verified | failed | armed
deriving DecidableEq, Repr

/-- A change report entry (Table 5.4). -/
structure ReportEntry where
  kind : Nat
  index : Nat
  ident : Nat
  old : Nat
  new : Nat
deriving DecidableEq, Repr

/-- A change report (Table 5.3). -/
structure Report where
  newImage : Nat
  oldImage : Nat
  running : Bool
  carried : Nat
  carriedBytes : Nat
  entries : List ReportEntry
deriving DecidableEq, Repr

/-- A copy from the exchange RAM under way (R387, R503); `touched` are the addresses that the maintenance bus has written since it
began. -/
structure CopyRun where
  offset : Nat
  length : Nat
  xram : Nat
  since : Nat
  guarded : Bool
  abandoned : Bool
  key : Option RecKey
  touched : List Nat
deriving DecidableEq, Repr

/-- A staging slot. `armedAt` is the instant of the snapshot that committed the arm; `abortStamps` are the stamps at which the lanes decided a
CHANGE_ABORT (R390), and `abortKey` names it; `load` says that the slot holds a profile load (R188). -/
structure Staging where
  state : StageState
  target : Nat
  high : Nat
  check : Nat
  copy : Option CopyRun
  report : Option Report
  hash : Bytes
  keyId : Bytes
  armedAt : Option Nat
  abortStamps : Option (Lanes Nat)
  abortKey : Option RecKey
  load : Bool
deriving DecidableEq, Repr

/-- A profile slot: its region, status and the hash kept with it (R548). -/
structure Profile where
  region : Nat
  status : SlotStatus
  hash : Bytes
deriving DecidableEq, Repr

/-- A profile request (R202): the target and whether it comes from the pins. -/
structure ProfileRequest where
  target : Nat
  fromPins : Bool
  key : Option RecKey
deriving DecidableEq, Repr

/-- The images of the module (02, 05): the contents of the six table store regions and of the six flash areas that the slot map numbers alike (R88, R197), the slot map, the profile and staging slots; `displaced` is the image that still executes after a profile load has
replaced the running slot (R188). -/
structure Images where
  regions : List Mem
  flash : List Mem
  profiles : List Profile
  stagingRegions : List Nat
  staging : List Staging
  runningSlot : Nat
  recordedSlot : Option Nat
  lastCheck : Nat
  pendingProfile : Option ProfileRequest
  takenProfile : Option ProfileRequest
  takenAt : Nat
  mapPending : Bool
  oldMap : Option (List Nat × List Nat)
  lostImage : Nat
  params : List (Nat × Word)
  pendingParams : List (Nat × Word)
  pendingArm : Option (Nat × RecKey)
  displaced : Option Mem
deriving DecidableEq, Repr

/-! ## Host interface -/

/-- A quote (Table 10.16), bytes 0 to 287, with its signature once signed. -/
structure Quote where
  nonce : Bytes
  captured : Option Bytes
  signature : Option Bytes
  since : Nat
deriving DecidableEq, Repr

/-- A host session (R348-R358). `openedAt` is absent until the first snapshot after the decision commits (R371). -/
structure Session where
  number : Nat
  tag : Word
  hostId : Nat
  cls : OriginClass
  openedAt : Option (Lanes Nat)
  credit : Nat
  high : Nat
  leaseEnd : Nat
  pathX : Option ReturnPath
  pathY : Option ReturnPath
  cursor : Nat
  quote : Option Quote
deriving DecidableEq, Repr

/-- How a record was decided (R338, R341). -/
structure Decision where
  status : Nat
  snapshot : Nat
  data : Bytes
  bytes : Bytes
deriving DecidableEq, Repr

/-- The record of a command (R338): `bytes` is the first copy before CV_P, `opened` its stamps t1 and `window` the W it
opened with (R337). It is open while it holds no decision (`isOpen`); a restrictive copy that acts anew has a record of its own (R341).
`outstanding` follows R351. The paths are those of its copies, for
a SESSION_OPEN that has no session. -/
structure HostRec where
  key : RecKey
  session : Nat
  opcode : Nat
  originId : Nat
  net : Net
  bytes : Bytes
  opened : Nat
  window : Nat
  decisions : List Decision
  decidedAt : Nat
  outstanding : Bool
  pathX : Option ReturnPath
  pathY : Option ReturnPath
deriving DecidableEq, Repr

/-- A reply (Table 9.3) or, with `ki40`, a KI-40 reply (Table 17.2). -/
structure Reply where
  net : Net
  ki40 : Bool
  repeated : Bool
  late : Bool
  oneLane : Bool
  session : Nat
  seq : Nat
  opcode : Nat
  originId : Nat
  reqSnap : Nat
  hostTime : Nat
  status : Nat
  snapshot : Nat
  data : Bytes
  path : Option ReturnPath
  bytes : Bytes
  decided : Nat
deriving DecidableEq, Repr

/-- The counters of one host network (R359). -/
structure NetCounters where
  copies : Word
  ipDrop : Word
  malformed : Word
  dupNet : Word
  repeats : Word
  single : Word
  copyDiffer : Word
  seqReject : Word
  ahead : Word
  overrun : Word
deriving DecidableEq, Repr

/-- A copy in a queue (R345), with its opcode. -/
structure QueuedCopy where
  opcode : Nat
  copy : HostCopy
deriving DecidableEq, Repr

/-- The transaction lock (R353). -/
structure Lock where
  session : Nat
  leaseEnd : Nat
deriving DecidableEq, Repr

/-- The host interface (09). The OPEN_NONCE (R400) is the 16 free bytes from the index `nonce`, and that of the period before those
from `noncePrev`; `svcFrames` counts the frames at the service port, on each of which the SVC LED flickers (R654). -/
structure HostSide where
  sessions : List Session
  recs : List HostRec
  lock : Option Lock
  restrictiveQueue : List QueuedCopy
  otherQueue : List QueuedCopy
  arrivals : List Nat
  nonce : Nat
  noncePrev : Option Nat
  nonceAt : Nat
  noncesUsed : List Nat
  awaiting : List Intake
  taken : List Intake
  takenMarks : List (Mark × Nat)
  replies : List Reply
  countersX : NetCounters
  countersY : NetCounters
  countersS : NetCounters
  overrunX : Bool
  overrunY : Bool
  overrunS : Bool
  keys : KeyList
  keysOther : KeyList
  pendingKeys : Option (KeyList × RecKey)
  svcFrames : Nat
deriving DecidableEq, Repr

/-! ## Ndezo -/

/-- The Dawn states of Table 7.8. -/
inductive Dawn where
  | listen | cold | aligning | aligned | joined
deriving DecidableEq, Repr

/-- A Constellation change under way (R297, Table 10.18): announced, or readiness reported. -/
structure ConstChange where
  k : Nat
  cycle : Nat
  reported : Bool
  heard : Bool
  ready : Bool
deriving DecidableEq, Repr

/-- The counters of a port (R300). -/
structure PortCounters where
  rxOk : Word
  stray : Word
  windowEarly : Word
  windowLate : Word
  trunc : Word
  fcs : Word
  header : Word
  check : Word
  edge : Word
  dup : Word
  fwd : Word
  fwdDrop : Word
  fwdStomp : Word
  linkMiss : Word
deriving DecidableEq, Repr

/-- What each lane counts of a port at its own decisions under Table 8.6 (R300, R311, R404). -/
structure PortDecided where
  rxOk : Word
  check : Word
  edge : Word
  dup : Word
deriving DecidableEq, Repr

/-- A port that differs from a port never used; `counters` are what every lane counts alike, `decided` what each counts by itself; enable setting, the setting that waits for a domain cycle start and whether a
snapshot has committed it (R405), link delay, what the last LINK frames brought. -/
structure Port where
  number : Nat
  disabled : Bool
  disablePending : Option Bool
  pendingCommitted : Bool
  delay : Option Nat
  lastTx : Nat
  lastTxPrev : Nat
  lastRx : Option LinkFrame
  prevRx : Option LinkFrame
  missed : Nat
  counters : PortCounters
  decided : Lanes PortDecided
deriving DecidableEq, Repr

/-- A transmit buffer (R285): the slot, the payload taken with its RESTRICTED bit, and the snapshot it came from. -/
structure TxBuffer where
  slot : Nat
  stream : Nat
  payload : BitVec 8192
  restricted : Bool
  snapshot : Nat
  instant : Nat
deriving DecidableEq, Repr

/-- The Ndezo link (07). `claimed` tells a claimant (R271) from the winner of a cold start, `rate` is in steps of 0.1 ppm,
`syncForwarded` says that a copy of this cycle has been forwarded or, at the Polestar, sent; `syncTaken` that the node has taken a copy
as its SYNC copy of this cycle, usable or not (R266), `copyValid` that this copy is usable and fits (R289), `lowerSent` that a Polestar has
forwarded a copy of a lower one in this cycle (R265), and `corrected` that the time base and its rate have been corrected in it (R267). -/
structure Ndezo where
  dawn : Dawn
  stratum : Nat
  parent : Option Nat
  theta : Int
  rate : Int
  coarse : Bool
  polestar : Nat
  isPolestar : Bool
  claimed : Bool
  constNo : Nat
  cycle64 : Nat
  cycleStart : Nat
  syncHeard : Bool
  syncTaken : Bool
  corrected : Bool
  syncForwarded : Bool
  lowerSent : Bool
  copyValid : Bool
  missedSyncs : Nat
  outCycles : Nat
  outOfStep : Bool
  mergeCycles : Nat
  mergeHeard : Bool
  mergeWith : Nat
  validSoFar : Bool
  validCycle : Bool
  alignedCycles : Nat
  held : Nat
  tags : List Nat
  change : Option ConstChange
  request : Option Nat
  listenSince : Nat
  mismatchAt : Option Nat
  banned : Bool
  quiet : Bool
  recordedCycle : Nat
  ports : List Port
  buffers : List TxBuffer
  emax : List (Nat × Nat)
  syncMiss : Word
  outOfSteps : Word
  dawnRuns : Word
  coldStarts : Word
  coldYields : Word
  claims : Word
  commits : Word
  abandons : Word
deriving DecidableEq, Repr

/-! ## Safe outputs -/

/-- The safety supply switch as Table 11.9 reports it. -/
inductive Supply where
  | isOpen | isClosed | testing | failed
deriving DecidableEq, Repr

/-- Where an element test stands (Table 11.4): before p + 1,000 µs, with the lane's two elements open, and closed again. -/
inductive ElementStage where
  | before | opened | closedAgain
deriving DecidableEq, Repr

/-- A running test (R423): an off-pulse, `cut` once a commit to 0 has ended the pulse (R425); the element test of a lane; a dark test with the
step that is next to be judged. -/
inductive TestKind where
  | offPulse (cut : Bool) | element (lane : LaneId) (stage : ElementStage) | dark (step : Nat)
deriving DecidableEq, Repr

structure TestRun where
  output : Nat
  start : Nat
  kind : TestKind
deriving DecidableEq, Repr

/-- The safe output stage (11); `outputLow` says that the voltage behind the safety supply switch is below 15 V (R631). -/
structure SafeIo where
  supply : Supply
  closedAt : Nat
  test : Option TestRun
  lastPulse : List (Nat × Nat)
  lastTested : List (Nat × Nat)
  energisedAt : List (Nat × Nat)
  openedAt : List (Nat × Nat)
  zeroSince : List (Nat × Nat)
  marker : List (Nat × LaneId)
  untested : List Nat
  liveSeen : List (Nat × Bool)
  passed : Word
  abandoned : Word
  shorts : Word
  outputLow : Bool
deriving DecidableEq, Repr

/-! ## Standby pair -/

/-- The roles of Table 10.21, and `undecided` before the pair listen ends (R449). -/
inductive PairRole where
  | unpaired | undecided | active | standby
deriving DecidableEq, Repr

inductive StandbyState where
  | notReady | copying | ready
deriving DecidableEq, Repr

/-- The last heartbeat heard (Table 12.2). -/
structure Beat where
  role : Nat
  state : Nat
  degradation : Nat
  modes : Nat
  epoch : Nat
  snapshot : Nat
  digestTime : Nat
  digest : Word
  imageId : Nat
  intakeAck : Nat
  switchAck : Nat
deriving DecidableEq, Repr

/-- The standby pair controller (12); `epochNext` is the epoch that a standby takes at an announced switchover; `peerStaged` are the images and targets that the other unit holds VERIFIED (check 9 of
Table 5.6); `changeDue` is the change that the active unit has armed: its Change Point, image and target (R201); `switchedAt` is the instant at
which this unit last changed its image or slot; `intakeParts` are the parts of INTAKE lists not yet complete: T1 start, offset and bytes;
`lastCompared` is the latest DIGEST_TIME compared (R455); `silenceNoted` says that the silence of both paths has begun its quarantine (R458). -/
structure Pair where
  role : PairRole
  standby : StandbyState
  peerStandby : StandbyState
  epoch : Nat
  epochFlash : Nat
  epochPending : Bool
  epochNext : Option Nat
  heardEpoch : Nat
  listenSince : Nat
  heardRole : Option Nat
  last1 : Nat
  last2 : Nat
  silent1 : Bool
  silent2 : Bool
  path1Alarm : Bool
  pairAlarm : Bool
  quarantineFrom : Option Nat
  silenceNoted : Bool
  txSeq0 : Nat
  txSeq1 : Nat
  rxSeq0 : Nat
  rxSeq1 : Nat
  beat : Option Beat
  differs : Nat
  lastCompared : Nat
  outputDiffs : Word
  differSince : Option Nat
  matchSince : Option Nat
  intakeHeld : List (Nat × List Intake)
  intakeParts : List (Nat × Nat × Bytes)
  intakeAck : Nat
  deferred : List (Nat × List Intake)
  copyAsked : Bool
  copyPoint : Option Nat
  copyBytes : Bytes
  copyNext : Nat
  copyHash : Option Bytes
  copyDone : Bool
  caughtUp : Bool
  switchAt : Option Nat
  switchAck : Nat
  lastSwitch : Nat
  lastSwitchAt : Nat
  switchDue : Bool
  peerStaged : List (Nat × Nat)
  changeDue : Option (Nat × Nat × Nat)
  switchedAt : Nat
deriving DecidableEq, Repr

/-! ## Exchange RAM -/

/-- The last access window in which a maintenance cycle and a lane access met on one word (Table 13.6): its instant, the word, whether the lane
wrote it, and whether the lane side was warned. -/
structure Clash where
  instant : Nat
  word : Nat
  laneWrite : Bool
  warned : Bool
deriving DecidableEq, Repr

/-- The exchange RAM bank and the maintenance port (13): the holding register with the word it belongs to, whether an atomic load
of that word was the last maintenance cycle, and whether the register holds OLD; the last conflict of the two sides. -/
structure Xram where
  mem : Mem
  filled : Bool
  holding : Word
  holdingAddr : Nat
  loaded : Bool
  hasOld : Bool
  clash : Option Clash
deriving DecidableEq, Repr

/-! ## Seal, supplies and start -/

/-- The seal switches and pins (15, 18): the committed voted readings of SEAL0 to SEAL15 and those that the next vote commits (`next`), the node ID, role and mode in use, the
voted PSEL value, and the state of MRST_N, MSEAT_N and the supplies. -/
structure Seal where
  voted : List Reading
  next : Option (List Reading)
  pselNext : Option Nat
  nodeId : Nat
  nodeKnown : Bool
  role : Nat
  ki40 : Bool
  psel : Nat
  resetAsserted : Bool
  resetSince : Nat
  unseated : Bool
  unseatedSince : Nat
  releaseSince : Nat
  below : Bool
  belowSince : Nat
deriving DecidableEq, Repr

/-- The start and Dusk in progress (16); `noKeys` says that no two lanes agreed on the key list at the last start (R541). -/
structure Startup where
  restart : Bool
  begun : Nat
  retried : Bool
  retryAt : Nat
  bistTurn : Option LaneId
  bistRan : Bool
  accepted : Lanes Bool
  noKeys : Bool
  hadRecord : Bool
  anyFail : Bool
  duskTurn : Option LaneId
  duskStop : Bool
  duskOff : Bool
  duskOutcome : Nat
  offSnapshot : Nat
  resetStuck : Option Nat
  stuckLogged : Bool
deriving DecidableEq, Repr

/-! ## KI-40 mode -/

/-- The snapshot from which KI-40 replies are built (R602), with what they report beside it: the number of its cycle, the route
table, FLAGS, IMAGE_ID, LOAD and LOAD_CHECK. -/
structure Ki40View where
  cycle : Nat
  snapshot : Snapshot
  routes : List (Nat × RouteEntry)
  flags : Nat
  image : Nat
  load : Nat
  loadCheck : Nat
deriving DecidableEq, Repr

/-- The KI-40 emulation (17); `cycle` numbers the KI-40 cycle that started last, `held` are the replies that wait for their window
(R599), `loadHigh` is the number of bytes that DATA_LOAD has written, `pollAt` the P of each port in this round, `waiting` the queued
copies with their opcodes (R600). -/
structure Ki40 where
  cycle : Nat
  view : Option Ki40View
  held : List Reply
  round : Nat
  roundStart : Nat
  pollDone : Bool
  polled : Bool
  load : Nat
  loadCheck : Nat
  loadHigh : Nat
  loadCopy : Option CopyRun
  pollAt : List (Nat × Nat)
  waiting : List (Nat × Ki40Copy)
  pathX : Option ReturnPath
  pathY : Option ReturnPath
deriving DecidableEq, Repr

/-! ## Program mode and power -/

/-- The committed and pending program mode and power state (04, 16; `pendingTest` asks for Dusk, `pendingAgain` for a start at its end), the STOP that SEAL15 calls for (R33), the HOLD controls and
breakpoints (R163-R165). `voted` and `votedDue` are the degradation state and the entry to Nadir that stood when the last cycle-end
vote was committed first, by which every lane decides that vote; `stepKey` names the MODE_SET that set the steps. -/
structure Control where
  phase : Phase
  power : Power
  pendingPower : Option (Power × Option RecKey)
  pendingTest : Bool
  pendingAgain : Bool
  mode : Mode
  pendingMode : Option (Mode × Option RecKey)
  executing : Bool
  sealStop : Bool
  pendingBreaks : Option (List Nat)
  pendingSteps : Nat
  steps : Nat
  stepBroken : Bool
  firstHold : Bool
  breakpoints : List Nat
  degradation : Degradation
  reducedUsed : Nat
  reducedSince : Nat
  reducedWarned : Bool
  nadirEntries : Word
  dawnSince : Nat
  nadirDue : Option Nat
  voted : Degradation
  votedDue : Option Nat
  stepKey : Option RecKey
deriving DecidableEq, Repr

/-! ## What the module sends -/

/-- A DATA or PAIR frame that a port sends (Tables 7.2 and 7.3): the frame instant of its first preamble bit (R259), the header fields, the
payload and its check values. -/
structure SentFrame where
  instant : Nat
  type : Nat
  constNo : Nat
  restricted : Bool
  cycle : Nat
  epoch : Nat
  constTag : Nat
  payload : Bytes
  cvP : Word
  cvQ : Word
deriving DecidableEq, Repr

/-- What leaves the module. -/
inductive Tx where
  | reply (r : Reply)
  | data (port slot : Nat) (stream : Nat) (f : SentFrame)
  | pairFrame (link : PairLink) (kind seq : Nat) (payload : Bytes) (sender epoch : Nat) (cvP cvQ : Word)
  | linkFrame (port : Nat) (f : LinkFrame)
  | sync (port : Nat) (f : SyncFrame)
  | cold (port : Nat) (f : SyncFrame)
  | forwarded (port slot : Nat) (f : NdFrame) (stomped : Bool)
  | poll (port : Nat) (pollNo : Nat) (live : Bool) (data : BitVec 8192) (crcC crcT : Half)
  | arp (port : Nat) (ip mac : Nat)
  | bus (ack busy : Bool) (data : Option Half)
deriving DecidableEq, Repr

/-- The identity of the module (Table 10.15) that the manual lets differ between modules: part, suffix and whether each
lane can read the identity region (R546). -/
structure Identity where
  part : Part
  extTemp : Bool
  readable : Lanes Bool
deriving DecidableEq, Repr

/-- The state of the block. -/
structure State where
  now : Nat
  control : Control
  lanes : Lanes Lane
  snapshots : List Snapshot
  nextNumber : Nat
  wallOffset : Int
  pendingWall : Option (Nat × RecKey)
  images : Images
  host : HostSide
  ndezo : Ndezo
  safeIo : SafeIo
  pair : Pair
  xram : Xram
  almanac : Almanac
  sealBank : Seal
  startup : Startup
  ki40 : Ki40
  identity : Identity
  freeCtr : Nat
  sent : List Tx
  pending : List Instr
deriving DecidableEq, Repr

/-! ## Reset -/

/-- Three equal lanes. -/
def Lanes3 {α : Type} (x : α) : Lanes α := { a := x, b := x, c := x }

def RouteTable.none : List (Nat × RouteEntry) := []

/-- R115: every route IDLE, every point end blocked and every signal held. Which elements are point ends and signals is
known only with an image, so the sets hold every number and are read through the element types (log entry 6). -/
def Engine.afterStart : Engine :=
  { routes := RouteTable.none, block := BitVec.allOnes 8192, stop := BitVec.allOnes 8192, calls := [], resets := [],
    requested := [], positioned := [], keys := [], faultSet := 0, degradedSet := 0, shortSet := 0, shorts := [] }

def VoteBox.fresh : VoteBox :=
  { instant := 0, own := none, notice := none, rx := Lanes3 .nothing, decided := true, committed := true, sent := none, verdicts := Lanes3 none,
    missed := Lanes3 false, miniOwn := .nothing, miniRx := Lanes3 .nothing, miniStart := 0, miniSent := none, miniNotice := none,
    miniAwaits := [], miniVerdicts := Lanes3 none, owesIsolation := false, preempts := 0, forced := [], dropped := [], events := [], t1Ended := false }

def LaneCounters.zero : LaneCounters :=
  { routeReject := List.replicate 6 0, routeDiverse := 0, pointTimeout := 0, stopHold := 0, intakeCarry := 0, inputStraddle := 0,
    teRuns := 0, teOverflow := 0, forceHold := 0, badNibble := 0, voteCycle := 0, voteMini := 0, miniEmpty := 0, forceAlone := 0,
    linkErr := Lanes3 0, missing := Lanes3 0, exclusions := List.replicate 12 0, cvFailP := 0, cvFailQ := 0, split := 0,
    cwMiss := Lanes3 0, txHold := 0, badCheckX := 0, badCheckY := 0 }

/-- The base priorities of Table 13.2, REQ 0 to 13. -/
def defaultPriorities : List Nat := [5, 5, 6, 3, 7, 6, 1, 2, 4, 4, 4, 4, 4, 4]

def Store.fresh : Store :=
  { tsReplayed := 0, sramReplayed := 0, tsPasses := 0, tsPos := 0, sramPasses := 0, sramPos := 0,
    lastErrAddr := 0xFFFFFFFF, lastErrTime := 0, badTable := [], badSram := [], frozen := false, frozenSince := 0, ringKept := [], freezes := 0,
    collides := 0, waiting := [], grant := none, portAt := 0,
    priority := defaultPriorities, boost := List.replicate 14 0, grants := List.replicate 14 0, waits := List.replicate 14 0,
    longestRounds := List.replicate 14 0, longestNs := List.replicate 14 0 }

def Program.fresh : Program :=
  { done := [], bodies := [], closed := none, fields := [], teQueue := [], logical := Lanes3 0, phase := 0, data := [], timers := [],
    lastExec := [], executed := [], stopRule := .off, sinceStop := [], intake := [], marks := [], upset := false, bodyUpset := false, working := none, inImages := [],
    pubs := [], tePubs := [], edges := [], overdue := [] }

def FieldPart.fresh : FieldPart := { instant := 0, streams := [], levels := 0, commands := [] }

def Inputs.fresh : Inputs :=
  { level := 0, latched := 0, changes := [], elemStamp := [], streams := [], field := FieldPart.fresh, rxPending := [], txPending := [],
    seals := List.replicate 16 .unfiltered, psel := 0, differs := [], checkUnits := [] }

/-- A lane held in reset, as delivered: R88, R527, R542 and Table 13.2 give its stored values. -/
def Lane.atReset : Lane :=
  { mode := .voting, cause := none, localFault := none, expel := none, isolatedAt := 0, isolatedFor := none, exclusions := 0, sentTime := 0, offset := 0,
    lastCommit := 0, lastNumber := 0, meridianToggles := false, supervisionToggles := false, supplyClosed := false, elements := 0,
    pace := 0, minPace := 0, lowPaces := 0, paceMargin := false, paceGoodSince := 0, vote := VoteBox.fresh,
    engine := Engine.afterStart, program := Program.fresh, forces := { pending := [], holds := [], marks := [], alone := [] },
    inputs := Inputs.fresh, counters := LaneCounters.zero, store := Store.fresh, checkpoint := 0, mapWritten := true,
    dusk := none, duskRuns := 0, softRepairs := [], fusedRepairs := [], fuseRunning := false, startPassed := false,
    bistNeeded := true, held := false, katFail := none, shadowSince := 0, shadowDiffer := false, queue := [], almLost := 0, almLostPending := false,
    stashFlash := [], stash := [],
    stashNext := 0, stashLost := 0 }

def Staging.empty : Staging :=
  { state := .empty, target := 0, high := 0, check := 0, copy := none, report := none, hash := [], keyId := [], armedAt := none,
    abortStamps := none, abortKey := none, load := false }

/-- R88: region k is profile slot k, regions 4 and 5 are the staging slots. -/
def Images.atReset : Images :=
  { regions := List.replicate 6 [], flash := List.replicate 6 [],
    profiles := [{ region := 0, status := .empty, hash := [] }, { region := 1, status := .empty, hash := [] },
      { region := 2, status := .empty, hash := [] }, { region := 3, status := .empty, hash := [] }],
    stagingRegions := [4, 5], staging := [Staging.empty, Staging.empty], runningSlot := 0, recordedSlot := none, lastCheck := 0,
    pendingProfile := none, takenProfile := none, takenAt := 0, mapPending := false, oldMap := none, lostImage := 0, params := [], pendingParams := [],
    pendingArm := none, displaced := none }

def NetCounters.zero : NetCounters :=
  { copies := 0, ipDrop := 0, malformed := 0, dupNet := 0, repeats := 0, single := 0, copyDiffer := 0, seqReject := 0, ahead := 0,
    overrun := 0 }

def HostSide.atReset : HostSide :=
  { sessions := [], recs := [], lock := none, restrictiveQueue := [], otherQueue := [], arrivals := [], nonce := 0, noncePrev := none, nonceAt := 0,
    noncesUsed := [], awaiting := [], taken := [], takenMarks := [], replies := [], countersX := NetCounters.zero, countersY := NetCounters.zero,
    countersS := NetCounters.zero, overrunX := false, overrunY := false, overrunS := false,
    keys := { version := 1, keys := [Config.malrekKey] }, keysOther := { version := 0, keys := [] }, pendingKeys := none,
    svcFrames := 0 }

def PortCounters.zero : PortCounters :=
  { rxOk := 0, stray := 0, windowEarly := 0, windowLate := 0, trunc := 0, fcs := 0, header := 0, check := 0, edge := 0, dup := 0,
    fwd := 0, fwdDrop := 0, fwdStomp := 0, linkMiss := 0 }

def Ndezo.atReset : Ndezo :=
  { dawn := .listen, stratum := 31, parent := none, theta := 0, rate := 0, coarse := false, polestar := 0, isPolestar := false, claimed := false,
    constNo := 0, cycle64 := 0, cycleStart := 0, syncHeard := false, syncTaken := false, corrected := false,
    syncForwarded := false, lowerSent := false, copyValid := false, missedSyncs := 0, outCycles := 0, outOfStep := false, mergeCycles := 0, mergeHeard := false, mergeWith := 0, validSoFar := false, validCycle := false, alignedCycles := 0, held := 0,
    tags := List.replicate 8 0, change := none, request := none, listenSince := 0, mismatchAt := none, banned := false,
    quiet := false, recordedCycle := 0, ports := [], buffers := [], emax := [], syncMiss := 0, outOfSteps := 0, dawnRuns := 0,
    coldStarts := 0, coldYields := 0, claims := 0, commits := 0, abandons := 0 }

def SafeIo.atReset : SafeIo :=
  { supply := .isOpen, closedAt := 0, test := none, lastPulse := [], lastTested := [], energisedAt := [],
    openedAt := [], zeroSince := [], marker := [], untested := [], liveSeen := [], passed := 0, abandoned := 0, shorts := 0, outputLow := false }

def Pair.atReset : Pair :=
  { role := .unpaired, standby := .notReady, peerStandby := .notReady, epoch := 0, epochFlash := 0, epochPending := false, epochNext := none,
    heardEpoch := 0, listenSince := 0, heardRole := none, last1 := 0, last2 := 0, silent1 := false, silent2 := false,
    path1Alarm := false, pairAlarm := false, quarantineFrom := none, silenceNoted := false, txSeq0 := 0, txSeq1 := 0, rxSeq0 := 0, rxSeq1 := 0,
    beat := none, differs := 0, lastCompared := 0, outputDiffs := 0, differSince := none, matchSince := none, intakeHeld := [], intakeParts := [],
    intakeAck := 0, deferred := [], copyAsked := false, copyPoint := none, copyBytes := [], copyNext := 0, copyHash := none,
    copyDone := false, caughtUp := false, switchAt := none, switchAck := 0, lastSwitch := 0, lastSwitchAt := 0, switchDue := false, peerStaged := [],
    changeDue := none, switchedAt := 0 }

def Xram.atReset : Xram := { mem := [], filled := false, holding := 0, holdingAddr := 0, loaded := false, hasOld := false, clash := none }

/-- R527: the quotas delivered by Malrek. -/
def Almanac.atReset : Almanac :=
  { events := [], next := 0, first := 0, records := [], quotas := [(.operator, 262144), (.engineer, 131072), (.maintenance, 16384)],
    dropped := [], dropping := [], stashMode := false, failed := false, timeSet := false }

def Seal.atReset : Seal :=
  { voted := List.replicate 16 .isOpen, next := none, pselNext := none, nodeId := 0, nodeKnown := false, role := 0xFF, ki40 := false, psel := 0,
    resetAsserted := false, resetSince := 0, unseated := false, unseatedSince := 0, releaseSince := 0, below := false, belowSince := 0 }

def Startup.atReset : Startup :=
  { restart := false, begun := 0, retried := false, retryAt := 0, bistTurn := none, bistRan := false, accepted := Lanes3 false, noKeys := false, hadRecord := false,
    anyFail := false, duskTurn := none, duskStop := false, duskOff := false, duskOutcome := 0, offSnapshot := 0,
    resetStuck := none, stuckLogged := false }

def Ki40.atReset : Ki40 :=
  { cycle := 0, view := none, held := [], round := 0, roundStart := 0, pollDone := false, polled := false, load := 0,
    loadCheck := 0, loadHigh := 0, loadCopy := none, pollAt := [], waiting := [], pathX := none, pathY := none }

def Control.atReset : Control :=
  { phase := .release, power := .off, pendingPower := none, pendingTest := false, pendingAgain := false, mode := .stop, pendingMode := none, executing := false, sealStop := false, pendingBreaks := none, pendingSteps := 0,
    steps := 0,
    stepBroken := false, firstHold := false, breakpoints := [], degradation := .full, reducedUsed := 0, reducedSince := 0,
    reducedWarned := false, nadirEntries := 0, dawnSince := 0, nadirDue := none,
    voted := .full, votedDue := none, stepKey := none }

/-- The module as delivered, in OFF, at the instant 0 at which MRST_N is released with a supply in range: the 100 ms of
release before s0 begin (16, Start-up; log entry 2). -/
def State.reset : State :=
  { now := 0, control := Control.atReset, lanes := Lanes3 Lane.atReset, snapshots := [], nextNumber := 0, wallOffset := 0,
    pendingWall := none, images := Images.atReset, host := HostSide.atReset, ndezo := Ndezo.atReset, safeIo := SafeIo.atReset,
    pair := Pair.atReset, xram := Xram.atReset, almanac := Almanac.atReset, sealBank := Seal.atReset, startup := Startup.atReset,
    ki40 := Ki40.atReset, identity := { part := .hk7348, extTemp := false, readable := Lanes3 true }, freeCtr := 16, sent := [],
    pending := [] }

end Sys2Proof.Machine
end

