-- ==== Sys2Proof/Machine/Operands.lean ====
section
/-! DEFINITION. Byte strings and bit fields as the telegrams, images and records lay them out: little-endian, bit 0 the
least significant (00_scope, Conventions). Reading past the end of a string reads 0. -/

namespace Sys2Proof.Machine

/-- `k` bytes of a number, least significant first. -/
def leBytes : Nat → Nat → Bytes
  | 0, _ => []
  | k + 1, n => BitVec.ofNat 8 n :: leBytes k (n / 256)

/-- `k` bytes of a number, most significant first. -/
def beBytes (k n : Nat) : Bytes := (leBytes k n).reverse

/-- The number whose bytes, least significant first, are `b`. -/
def leNat : Bytes → Nat
  | [] => 0
  | x :: r => x.toNat + 256 * leNat r

def beNat (b : Bytes) : Nat := leNat b.reverse

def zeros (k : Nat) : Bytes := List.replicate k 0

/-- Bytes `off` to `off + k - 1`, zero-filled past the end. -/
def slice (b : Bytes) (off k : Nat) : Bytes :=
  let x := (b.drop off).take k
  x ++ zeros (k - x.length)

def rd8 (b : Bytes) (off : Nat) : Nat := (b.getD off 0).toNat
def rd16 (b : Bytes) (off : Nat) : Nat := leNat (slice b off 2)
def rd32 (b : Bytes) (off : Nat) : Nat := leNat (slice b off 4)
def rd64 (b : Bytes) (off : Nat) : Nat := leNat (slice b off 8)

def b8 (n : Nat) : Bytes := leBytes 1 n
def b16 (n : Nat) : Bytes := leBytes 2 n
def b32 (n : Nat) : Bytes := leBytes 4 n
def b64 (n : Nat) : Bytes := leBytes 8 n

/-- Bits `lo + w - 1 : lo` of a number. -/
def bitsAt (n lo w : Nat) : Nat := (n >>> lo) % 2 ^ w

def bitAt (n k : Nat) : Bool := Nat.testBit n k

/-- 0 or 1. -/
def flag (b : Bool) : Nat := if b then 1 else 0

/-- A number of flags, the first at bit 0. -/
def packBits : List Bool → Nat
  | [] => 0
  | b :: r => flag b + 2 * packBits r

/-- A field of `w` bits set to `v` at bit `lo` of a vector. -/
def setField {n : Nat} (x : BitVec n) (lo w v : Nat) : BitVec n :=
  (x &&& ~~~(BitVec.ofNat n ((2 ^ w - 1) <<< lo))) ||| BitVec.ofNat n ((v % 2 ^ w) <<< lo)

def getField {n : Nat} (x : BitVec n) (lo w : Nat) : Nat := bitsAt x.toNat lo w

def setBit {n : Nat} (x : BitVec n) (k : Nat) (b : Bool) : BitVec n := setField x k 1 (flag b)

def getBit {n : Nat} (x : BitVec n) (k : Nat) : Bool := x.getLsbD k

/-- The vector with exactly the given bits set. -/
def bitSet (n : Nat) (l : List Nat) : BitVec n := l.foldl (fun x k => setBit x k true) 0

/-- The bits set in a vector, ascending. -/
def bitList {n : Nat} (x : BitVec n) : List Nat := (List.range n).filter (fun k => getBit x k)

/-- How many bits are set. -/
def bitCount {n : Nat} (x : BitVec n) : Nat := (bitList x).length

/-- The bytes of a vector, least significant first. -/
def vecBytes {n : Nat} (x : BitVec n) : Bytes := leBytes (n / 8) x.toNat

/-- A payload (R60): bit b of the payload is bit b mod 8 of its byte b / 8. -/
def payloadOf (b : Bytes) : BitVec 8192 := BitVec.ofNat 8192 (leNat b)

def payloadBytes (p : BitVec 8192) (len : Nat) : Bytes := leBytes len p.toNat

/-- The nibble of element `n` in a state vector (R60). -/
def nibbleOf (s : BitVec 32768) (n : Nat) : Nat := getField s (4 * n) 4

def setNibble (s : BitVec 32768) (n v : Nat) : BitVec 32768 := setField s (4 * n) 4 v

/-! ## Association lists in ascending order of their keys -/

def assoc {α : Type} (l : List (Nat × α)) (k : Nat) : Option α := (l.find? (fun p => p.1 == k)).map (·.2)

def assocD {α : Type} (l : List (Nat × α)) (k : Nat) (d : α) : α := (assoc l k).getD d

def assocErase {α : Type} (l : List (Nat × α)) (k : Nat) : List (Nat × α) := l.filter (fun p => p.1 != k)

def assocSet {α : Type} : List (Nat × α) → Nat → α → List (Nat × α)
  | [], k, v => [(k, v)]
  | p :: r, k, v => if k < p.1 then (k, v) :: p :: r else if k = p.1 then (k, v) :: r else p :: assocSet r k v

/-- The list with element `k` replaced; a list too short stays as it is. -/
def listSet {α : Type} (l : List α) (k : Nat) (v : α) : List α := l.set k v

def listMod {α : Type} (l : List α) (k : Nat) (f : α → α) : List α := l.modify k f

def insertSorted (l : List Nat) (k : Nat) : List Nat :=
  match l with
  | [] => [k]
  | x :: r => if k < x then k :: x :: r else if k = x then x :: r else x :: insertSorted r k

/-- The bit-wise or element-wise majority of three (R213). -/
def maj3 {n : Nat} (a b c : BitVec n) : BitVec n := (a &&& b) ||| (b &&& c) ||| (a &&& c)

/-- The median of three. -/
def median3 (a b c : Int) : Int := max (min a b) (min (max a b) c)

end Sys2Proof.Machine
end

