-- ==== Sys2Proof/Machine/Crc.lean ====
section
/-! DEFINITION. The check values: CV-P and CV-Q of Table 8.1 over the check message of Table 8.2, the CRC-32C of image
records, and the KI-40 pair of Table 17.3. -/

namespace Sys2Proof.Machine

/-- One bit of a reflected CRC of width `n` with the bit-reversed polynomial. -/
def crcStepR {n : Nat} (poly r : BitVec n) : BitVec n := if r.getLsbD 0 then (r >>> 1) ^^^ poly else r >>> 1

/-- One byte of a reflected CRC: eight steps. -/
def crcByteR {n : Nat} (poly r : BitVec n) (b : Byte) : BitVec n :=
  (List.range 8).foldl (fun x _ => crcStepR poly x) (r ^^^ b.setWidth n)

def crcReflected {n : Nat} (poly init out : BitVec n) (m : Bytes) : BitVec n := m.foldl (crcByteR poly) init ^^^ out

/-- One bit of an unreflected CRC. -/
def crcStepN {n : Nat} (poly r : BitVec n) : BitVec n := if r.getLsbD (n - 1) then (r <<< 1) ^^^ poly else r <<< 1

def crcByteN {n : Nat} (poly r : BitVec n) (b : Byte) : BitVec n :=
  (List.range 8).foldl (fun x _ => crcStepN poly x) (r ^^^ (b.setWidth n <<< (n - 8)))

def crcPlain {n : Nat} (poly init out : BitVec n) (m : Bytes) : BitVec n := m.foldl (crcByteN poly) init ^^^ out

/-- CV-P (Table 8.1): polynomial 0x1EDC_6F41, reflected. -/
def cvP (m : Bytes) : Word := crcReflected ((0x1EDC6F41 : Word).reverse) 0xFFFFFFFF 0xFFFFFFFF m

/-- CV-Q (Table 8.1): polynomial 0x741B_8CD7, reflected. -/
def cvQ (m : Bytes) : Word := crcReflected ((0x741B8CD7 : Word).reverse) 0xFFFFFFFF 0xFFFFFFFF m

/-- CRC-32C is CV-P's CRC. -/
def crc32c (m : Bytes) : Word := cvP m

/-- The Ethernet CRC of a frame, whose polynomial the manual does not give: that of IEEE 802.3 (PRESUMED, log entry 118). -/
def fcs (m : Bytes) : Word := crcReflected ((0x04C11DB7 : Word).reverse) 0xFFFFFFFF 0xFFFFFFFF m

/-- CRC_C (Table 17.3). -/
def crcC (m : Bytes) : Half := crcPlain 0x1021 0xFFFF 0 m

/-- CRC_T (Table 17.3). -/
def crcT (m : Bytes) : Half := crcPlain 0x8BB7 0 0 m

/-- The fold of a telegram (Table 8.2, bytes 0 to 9). -/
structure Fold where
  seq : Nat
  source : Nat
  dest : Nat
  stream : Nat
deriving DecidableEq, Repr

/-- The check message (Table 8.2): the fold, then the covered bytes. -/
def checkMessage (f : Fold) (covered : Bytes) : Bytes := b32 f.seq ++ b16 f.source ++ b16 f.dest ++ b16 f.stream ++ covered

end Sys2Proof.Machine
end

