-- ==== Sys2Proof/Machine/Flags.lean ====
section
/-! DEFINITION. The flag fields of the records and telegrams: Table 14.3 with the markings of Table 14.4, and the FLAGS of a
reply (Tables 9.3 and 17.2). -/

namespace Sys2Proof.Machine

/-- Which codes Table 14.4 marks safety-relevant. A MEMORY record is one when it is a fault (byte 27 is 0). -/
def codeSafety (code : Nat) (p : Long) : Bool :=
  if code = 0x0406 then getField p 24 8 == 0
  else [0x0101, 0x0102, 0x0103, 0x0104, 0x0201, 0x0204, 0x0205, 0x0206, 0x0301, 0x0304, 0x0305, 0x0306, 0x0307, 0x0308, 0x0309,
    0x0401, 0x0402, 0x0403, 0x0405, 0x0506, 0x0508, 0x0509, 0x0606, 0x0701, 0x0702, 0x0703, 0x0704, 0x0901, 0x0902, 0x0904, 0x0905,
    0x0908].contains code

/-- Which codes Table 14.4 marks "Repeat". -/
def codeRepeat (code : Nat) : Bool :=
  [0x0206, 0x0308, 0x0406, 0x0504, 0x0506, 0x0507, 0x0509, 0x0604, 0x0605, 0x0702, 0x0803, 0x0908].contains code

/-- The FLAGS of a record (Table 14.3). -/
def Record.flags (r : Record) : Nat :=
  packBits [r.isOpen, r.safety, r.local_, r.cont, r.saturated, r.timeUnset, r.stashed]

/-- The FLAGS of a native reply (Table 9.3): bit 0 tells a reply from a command. -/
def Reply.flags (r : Reply) : Nat := packBits [true, r.net == .y, r.repeated, r.late, r.oneLane]

/-- The FLAGS of a KI-40 reply (Table 17.2). -/
def Reply.ki40Flags (r : Reply) : Nat := packBits [r.net == .y, r.repeated]

end Sys2Proof.Machine
end

