-- ==== Sys2Proof/Machine/Ops.lean ====
section
/-! DEFINITION. The named operations over the state: lanes, memories, the clock, committed snapshots, Almanac events and
what the module sends. -/

namespace Sys2Proof

/-- The value of a lane. -/
def Lanes.get {α : Type} (l : Lanes α) : LaneId → α
  | .A => l.a
  | .B => l.b
  | .C => l.c

def Lanes.put {α : Type} (l : Lanes α) (i : LaneId) (x : α) : Lanes α :=
  match i with
  | .A => { l with a := x }
  | .B => { l with b := x }
  | .C => { l with c := x }

def Lanes.mapI {α β : Type} (l : Lanes α) (f : LaneId → α → β) : Lanes β :=
  { a := f .A l.a, b := f .B l.b, c := f .C l.c }

/-- The lanes in the order A, B, C. -/
def allLanes : List LaneId := [.A, .B, .C]

def LaneId.index : LaneId → Nat
  | .A => 0
  | .B => 1
  | .C => 2

/-- The lane of a number 0, 1 or 2. -/
def laneOf (n : Nat) : Option LaneId := allLanes[n]?

/-- The other two lanes. -/
def LaneId.others : LaneId → List LaneId
  | .A => [.B, .C]
  | .B => [.A, .C]
  | .C => [.A, .B]

namespace Machine

/-! ## Memory -/

/-- The byte at an address; an unlisted address reads 0. -/
def Mem.read (m : Mem) (a : Nat) : Byte :=
  match m with
  | [] => 0
  | c :: r => if c.1 = a then c.2 else Mem.read r a

/-- Write one byte, keeping the canonical form. -/
def Mem.write (m : Mem) (a : Nat) (b : Byte) : Mem :=
  match m with
  | [] => if b = 0 then [] else [(a, b)]
  | c :: r =>
    if a < c.1 then (if b = 0 then c :: r else (a, b) :: c :: r)
    else if a = c.1 then (if b = 0 then r else (a, b) :: r)
    else c :: Mem.write r a b

/-- `k` bytes from an address, in ascending order. -/
def Mem.bytes (m : Mem) (a : Nat) : Nat → Bytes
  | 0 => []
  | k + 1 => Mem.read m a :: Mem.bytes m (a + 1) k

/-- Write a string of bytes from an address. -/
def Mem.store (m : Mem) (a : Nat) : Bytes → Mem
  | [] => m
  | b :: r => Mem.store (Mem.write m a b) (a + 1) r

/-- The number in `k` bytes from an address, least significant first. -/
def Mem.le (m : Mem) (a k : Nat) : Nat := leNat (Mem.bytes m a k)

/-- Zero the bytes from `a` to `a + n - 1`. -/
def Mem.clear (m : Mem) (a n : Nat) : Mem := m.filter (fun c => c.1 < a || a + n ≤ c.1)

/-! ## The clock -/

def second : Nat := 1000000000

/-- The instant of a command: the clock never goes back. -/
def State.tick (t : Nat) (s : State) : State := { s with now := max s.now t }

/-- The state after a command: its clock and the queue of commands that wait. -/
def State.close (u : State) (now : Nat) (queue : List Instr) : State := { u with now := now, pending := queue }

/-- Every command: its effect `f` at its instant, which leaves the clock there and the queue alone. -/
def run (t : Nat) (f : State → State) (s : State) : Host.Outcome State Fault Refusal :=
  .next ((f (s.tick t)).close (max s.now t) s.pending)

/-- The wall time at an instant (14, Wall time). -/
def State.wallAt (s : State) (t : Nat) : Nat := (Int.ofNat t + s.wallOffset).toNat

/-! ## Lanes -/

def State.lane (s : State) (i : LaneId) : Lane := s.lanes.get i

def State.setLane (s : State) (i : LaneId) (l : Lane) : State := { s with lanes := s.lanes.put i l }

def State.modLane (s : State) (i : LaneId) (f : Lane → Lane) : State := s.setLane i (f (s.lane i))

def State.mapLanes (s : State) (f : Lane → Lane) : State := { s with lanes := s.lanes.mapI (fun _ l => f l) }

def State.mapVoting (s : State) (f : Lane → Lane) : State :=
  { s with lanes := s.lanes.mapI (fun _ l => if l.mode = .voting then f l else l) }

/-- The lanes in VOTING (Table 6.5), in the order A, B, C. -/
def State.voting (s : State) : List LaneId := allLanes.filter (fun i => (s.lane i).mode = .voting)

def State.lowest (s : State) : Option LaneId := s.voting.head?

/-- The lane whose copy of what every voting lane holds alike is read: the lowest voting lane, and lane A with none. -/
def State.lead (s : State) : LaneId := s.lowest.getD .A

def State.leadLane (s : State) : Lane := s.lane s.lead

/-- The bits of the voting lanes, bit k for lane k. -/
def State.votingBits (s : State) : Nat := packBits (allLanes.map (fun i => decide ((s.lane i).mode = .voting)))

/-! ## Snapshots -/

/-- The state before the first snapshot: every vector 0, which is the most restrictive (R56). -/
def Snapshot.none : Snapshot :=
  { number := 0, instant := 0, commitAt := 0, mini := false, safeOut := 0, state := 0, elemLock := 0, routeLock := 0, payloads := [], power := .idle,
    mode := .stop, degradation := .full, wall := 0 }

/-- The latest committed snapshot. -/
def State.snap (s : State) : Snapshot := s.snapshots.headD Snapshot.none

/-- R489: a frozen lane's snapshot ring keeps the entry that the next snapshot overwrites in the other lanes. -/
def State.keepRings (s : State) : State :=
  if s.lanes.a.store.frozen || s.lanes.b.store.frozen || s.lanes.c.store.frozen then
    s.mapLanes (fun l => if l.store.frozen then { l with store := { l.store with ringKept := l.store.ringKept ++ s.snapshots.drop 2047 } } else l)
  else s

def Snapshot.nibble (p : Snapshot) (e : Nat) : Nat := nibbleOf p.state e
def Snapshot.elemLocked (p : Snapshot) (e : Nat) : Bool := getBit p.elemLock e
def Snapshot.routeLocked (p : Snapshot) (r : Nat) : Bool := getBit p.routeLock r

/-! ## Free values -/

/-- A value of the manual's that nothing fixes: drawn with the counter, which advances. -/
def State.drawn (s : State) : State := { s with freeCtr := s.freeCtr + 1 }

def State.freeWord (s : State) : Word := Config.freeWord s.freeCtr
def State.freeHalf (s : State) : Half := Config.freeHalf s.freeCtr
def State.freeByte (s : State) : Byte := Config.freeByte s.freeCtr

/-- `k` free bytes. -/
def State.freeBytes (s : State) (k : Nat) : Bytes := (List.range k).map (fun i => Config.freeByte (s.freeCtr + i))

/-! ## What leaves the module -/

def State.send (s : State) (x : Tx) : State := { s with sent := s.sent ++ [x] }

/-- A frame at the service port, in either direction: the SVC LED flickers (R654). -/
def State.svcFrame (s : State) : State := { s with host := { s.host with svcFrames := s.host.svcFrames + 1 } }

/-- A reply leaves. -/
def State.sendReply (s : State) (r : Reply) : State := if r.net = .service then (s.send (.reply r)).svcFrame else s.send (.reply r)

/-! ## Almanac events -/

/-- An event payload (Table 14.4): the fields as byte (24 to 31), number of bytes and value. -/
def payloadFields (l : List (Nat × Nat × Nat)) : Long :=
  BitVec.ofNat 64 (l.foldl (fun n f => n + (f.2.2 % 256 ^ f.2.1) * 256 ^ (f.1 - 24)) 0)

/-- Who caused an event (Table 14.2). -/
structure Origin where
  cls : OriginClass
  session : Nat
  hostId : Nat
deriving DecidableEq, Repr

def Origin.internal : Origin := { cls := .internal, session := 0, hostId := 0 }

/-- The origin of a KI-40 command (R612). -/
def Origin.ki40 : Origin := { cls := .operator, session := 0, hostId := 0 }

/-- The entry of a writer's queue for an event. -/
def queuedOf (code writer wall : Nat) (o : Origin) (ps : List Long) : Queued :=
  { code := code, cls := o.cls, session := o.session, hostId := o.hostId, writer := writer, safety := codeSafety code (ps.headD 0),
    repeats := codeRepeat code, wall := wall, payloads := ps }

/-- An event that the next committed snapshot carries (R514, R516). -/
def State.event (s : State) (code : Nat) (o : Origin) (l : List (Nat × Nat × Nat)) : State :=
  { s with almanac := { s.almanac with events := s.almanac.events ++ [queuedOf code 0 0 o [payloadFields l]] } }

/-- A record group (R513). -/
def State.eventGroup (s : State) (code : Nat) (o : Origin) (ls : List (List (Nat × Nat × Nat))) : State :=
  { s with almanac := { s.almanac with events := s.almanac.events ++ [queuedOf code 0 0 o (ls.map payloadFields)] } }

/-- How many records wait in a writer's queue. -/
def queueLength (q : List Queued) : Nat := (q.map (fun x => x.payloads.length)).sum

/-- The queue without its newest entry whose SAFETY is 0, and how many records that lost; nothing where there is none. -/
def dropUnsafe (q : List Queued) : Option (List Queued × Nat) :=
  match q.reverse.span (fun x => x.safety) with
  | (_, []) => none
  | (after, x :: before) => some ((after ++ before).reverse, x.payloads.length)

/-- R517: a record enters a writer's queue of 2,048. With a full queue of safety-relevant records the new one is lost
(DESIGN CHOICE, log entry 11: the manual names no record to give up there). -/
def Lane.enqueue (l : Lane) (q : Queued) : Lane :=
  if queueLength l.queue + q.payloads.length ≤ 2048 then { l with queue := l.queue ++ [q] }
  else
    match dropUnsafe l.queue with
    | some (rest, n) => { l with queue := rest ++ [q], almLost := l.almLost + BitVec.ofNat 32 n, almLostPending := true }
    | none => { l with almLost := l.almLost + BitVec.ofNat 32 q.payloads.length, almLostPending := true }

/-- The wall time at a lane's own time (R516), in steps of 40 ns. -/
def State.laneWall (s : State) (i : LaneId) : Nat :=
  (Int.ofNat s.now + (s.lane i).offset + s.wallOffset).toNat / 40 * 40

/-- A lane-local record (R514): WRITER is the lane and the origin INTERNAL. -/
def State.laneEvent (s : State) (i : LaneId) (code : Nat) (l : List (Nat × Nat × Nat)) : State :=
  s.modLane i (fun x => x.enqueue (queuedOf code (i.index + 1) (s.laneWall i) Origin.internal [payloadFields l]))

/-- The KI-40 event of a native record (Table 17.8) and its OBJECT. -/
def ki40EventOf (code : Nat) (p : Long) : Option (Nat × Nat) :=
  let a := getField p 0 16
  let b24 := getField p 0 8
  let b25 := getField p 8 8
  let b26 := getField p 16 8
  let b27 := getField p 24 8
  let peer := getField p 16 16
  if code = 0x0101 then
    if b26 = 5 then some (0x01, a)
    else if b26 ≠ 0 then none
    else if b27 = 0x00 ∨ b27 = 0x01 ∨ b27 = 0x0B then some (0x02, a)
    else if 0x02 ≤ b27 ∧ b27 ≤ 0x0A then some (0x03, a) else none
  else if code = 0x0104 then (if b27 = 2 then some (0x04, a) else none)
  else if code = 0x0204 then some (0x05, peer)
  else if code = 0x0205 then some (0x06, peer)
  else if code = 0x0401 then (if b25 = 2 then some (0x07, b24) else none)
  else if code = 0x0402 then (if b24 = 2 ∨ b24 = 3 then some (0x08, 0) else none)
  else if code = 0x0901 then some (0x09, b24)
  else if code = 0x0903 then some (0x0A, 0)
  else none

/-- R612: a native record is followed by its KI-40 event, with CYCLE. -/
def Queued.withKi40 (q : Queued) (cycle : Nat) : List Queued :=
  match ki40EventOf q.code (q.payloads.headD 0) with
  | some (c, object) => [q, { q with code := 0x0A00 + c, repeats := false, payloads := [payloadFields [(24, 1, c), (26, 2, object), (28, 4, cycle)]] }]
  | none => [q]

/-- Where the records of a committed snapshot go (R514, R531): into the queue of the lowest voting lane, in stash mode into
that of every voting lane. -/
def State.flushEvents (s : State) (wall : Nat) : State :=
  let evs := s.almanac.events.flatMap (fun q =>
    let x : Queued := { q with wall := wall }
    if s.sealBank.ki40 then x.withKi40 (s.snap.instant / 50000000) else [x])
  let s1 := { s with almanac := { s.almanac with events := [] } }
  let targets := if s.almanac.stashMode then s.voting else s.voting.take 1
  targets.foldl (fun st i => st.modLane i (fun l => evs.foldl Lane.enqueue l)) s1

/-- One more on a counter that wraps at 32 bits (R383). -/
def inc (w : Word) : Word := w + 1

/-- One more on a counter that stops at 65,535. -/
def incSat (n : Nat) : Nat := min 65535 (n + 1)

end Machine
end Sys2Proof
end

