-- ==== Sys2Proof/Machine/Image.lean ====
section
/-! DEFINITION. The fields of a compiled image in its region (02): header, directory, elements, routes, permissions,
instances, Constellations, streams, parameters and the I/O map. -/

namespace Sys2Proof.Machine

/-- The listed bytes from `a` to `a + n - 1`. -/
def Mem.window (m : Mem) (a n : Nat) : Mem := (m.dropWhile (fun c => c.1 < a)).takeWhile (fun c => c.1 < a + n)

/-- `count` windows of `sz` bytes from `a`, each with its address. -/
def Mem.chunks : Mem → Nat → Nat → Nat → List (Nat × Mem)
  | _, _, _, 0 => []
  | w, a, sz, k + 1 => (a, w.takeWhile (fun c => c.1 < a + sz)) :: Mem.chunks (w.dropWhile (fun c => c.1 < a + sz)) (a + sz) sz k

/-- The number whose bytes lie at `a` to `a + n - 1`, in one pass over the listed bytes. -/
def Mem.big (m : Mem) (a n : Nat) : Nat := (Mem.window m a n).foldr (fun c x => c.2.toNat * 256 ^ (c.1 - a) + x) 0

/-! ## Header and directory (Tables 2.1, 2.2) -/

def imgMagic (m : Mem) : Nat := Mem.le m 0 4
def imgFormat (m : Mem) : Nat := Mem.le m 4 2
def imgHdrSize (m : Mem) : Nat := Mem.le m 6 2
def imgLen (m : Mem) : Nat := Mem.le m 8 4
def imgRole (m : Mem) : Nat := Mem.le m 12 1
def imgMode (m : Mem) : Nat := Mem.le m 13 1
def imgMaxFport (m : Mem) : Nat := Mem.le m 14 1
def imgConstCount (m : Mem) : Nat := Mem.le m 15 1
def imgId (m : Mem) : Nat := Mem.le m 16 8
def imgPredId (m : Mem) : Nat := Mem.le m 24 8
def imgRouteCount (m : Mem) : Nat := Mem.le m 40 2
def imgPermCount (m : Mem) : Nat := Mem.le m 42 2
def imgInstCount (m : Mem) : Nat := Mem.le m 44 4
def imgStreamIn (m : Mem) : Nat := Mem.le m 48 2
def imgStreamOut (m : Mem) : Nat := Mem.le m 50 2
def imgParamCount (m : Mem) : Nat := Mem.le m 52 2
def imgIomapCount (m : Mem) : Nat := Mem.le m 54 2
def imgOutWords (m : Mem) : Nat := Mem.le m 56 2
def imgT0Wcet (m : Mem) : Nat := Mem.le m 60 4
def imgDirOff (m : Mem) (k : Nat) : Nat := Mem.le m (64 + 8 * k) 4
def imgDirLen (m : Mem) (k : Nat) : Nat := Mem.le m (68 + 8 * k) 4

/-! ## Elements (Table 2.3) -/

/-- An element table entry. -/
structure Elem where
  etype : Nat
  subst : Nat
  cmdNode : Nat
  cmdProg : Bool
  source : Nat
  srcId : Nat
  srcBit : Nat
  permFirst : Nat
  permN : Nat
  reserved : Bool
deriving DecidableEq, Repr

/-- The entry of type NONE (R55). -/
def Elem.none : Elem :=
  { etype := 0, subst := 0, cmdNode := 0, cmdProg := true, source := 0, srcId := 0, srcBit := 0, permFirst := 0xFFFF, permN := 0,
    reserved := true }

def elemParse (w : Mem) (a : Nat) : Elem :=
  { etype := Mem.big w a 1, subst := bitsAt (Mem.big w (a + 1) 1) 0 4, cmdNode := bitsAt (Mem.big w (a + 2) 2) 0 10,
    cmdProg := bitAt (Mem.big w (a + 2) 2) 15, source := Mem.big w (a + 4) 1, srcId := Mem.big w (a + 6) 2,
    srcBit := Mem.big w (a + 8) 2, permFirst := Mem.big w (a + 10) 2, permN := Mem.big w (a + 12) 2,
    reserved := bitsAt (Mem.big w (a + 1) 1) 4 4 == 0 && bitsAt (Mem.big w (a + 2) 2) 10 5 == 0 && Mem.big w (a + 5) 1 == 0 &&
      Mem.big w (a + 14) 2 == 0 }

/-- Entry `n` of the element table; a number with no entry is of type NONE. -/
def elemAt (m : Mem) (n : Nat) : Elem :=
  let a := imgDirOff m 0 + 16 * n
  if 16 * n + 16 ≤ imgDirLen m 0 then elemParse (Mem.window m a 16) a else Elem.none

/-- Every entry with its number, ascending. -/
def elems (m : Mem) : List (Nat × Elem) :=
  let off := imgDirOff m 0
  let cs := Mem.chunks (Mem.window m off (imgDirLen m 0)) off 16 (imgDirLen m 0 / 16)
  cs.map (fun c => ((c.1 - off) / 16, elemParse c.2 c.1))

def tyPoint : Nat := 1
def tySection : Nat := 2
def tySignal : Nat := 3
def tyCrossing : Nat := 4

/-- The elements of a type, as a mask over the element numbers. -/
def typeMask (m : Mem) (ty : Nat) : BitVec 8192 := bitSet 8192 (((elems m).filter (fun e => e.2.etype == ty)).map (·.1))

/-- The point-type mask P (R65): nibble 0xF for every POINT_END. -/
def pointMask (m : Mem) : BitVec 32768 :=
  ((elems m).filter (fun e => e.2.etype == tyPoint)).foldl (fun x e => setNibble x e.1 15) 0

/-- Table 2.4: may an element of this type hold the code? -/
def nibbleLegal (ty v : Nat) : Bool :=
  if ty = tyPoint then v ≤ 3 else if ty = tySection then v ≤ 2 else if ty = tySignal then v ≤ 15
  else if ty = tyCrossing then v ≤ 4 else v == 0

/-! ## Routes (Tables 2.6 to 2.8) -/

/-- A route record header with its lists. -/
structure Route where
  no : Nat
  isDefined : Bool
  shunt : Bool
  approachLock : Bool
  emergRel : Bool
  hasOverlap : Bool
  entrySignal : Nat
  exitSignal : Nat
  clearAspect : Nat
  approachSection : Nat
  approachTime : Nat
  detectTimeout : Nat
  emergTime : Nat
  overlapTime : Nat
  points : List Nat
  release : List Nat
  overlap : List Nat
  flank : List Nat
deriving DecidableEq, Repr

def routeOff (m : Mem) (r : Nat) : Nat := imgDirOff m 1 + 9472 * r

/-- The record of route r; only r below ROUTE_COUNT has one. -/
def routeAt (m : Mem) (r : Nat) : Option Route :=
  if r < imgRouteCount m then
    let a := routeOff m r
    let w := Mem.window m a 9472
    let f := Mem.big w (a + 2) 2
    let np := Mem.big w (a + 20) 1
    let nr := Mem.big w (a + 21) 1
    let no := Mem.big w (a + 22) 1
    let nf := Mem.big w (a + 23) 1
    let lst := fun first n => (List.range n).map (fun k => Mem.big w (a + 9280 + 2 * (first + k)) 2)
    some { no := Mem.big w a 2, isDefined := bitAt f 0, shunt := bitAt f 1, approachLock := bitAt f 2, emergRel := bitAt f 3,
           hasOverlap := bitAt f 4, entrySignal := Mem.big w (a + 4) 2, exitSignal := Mem.big w (a + 6) 2,
           clearAspect := bitsAt (Mem.big w (a + 8) 1) 0 4, approachSection := Mem.big w (a + 10) 2,
           approachTime := Mem.big w (a + 12) 2, detectTimeout := Mem.big w (a + 14) 2, emergTime := Mem.big w (a + 16) 2,
           overlapTime := Mem.big w (a + 18) 2, points := lst 0 np, release := lst np nr, overlap := lst (np + nr) no,
           flank := lst (np + nr + no) nf }
  else none

/-- A defined route. -/
def routeDef (m : Mem) (r : Nat) : Option Route := (routeAt m r).filter (fun x => x.isDefined)

def reqMask (m : Mem) (r : Nat) : BitVec 32768 := BitVec.ofNat 32768 (Mem.big m (routeOff m r + 64) 4096)
def reqExpected (m : Mem) (r : Nat) : BitVec 32768 := BitVec.ofNat 32768 (Mem.big m (routeOff m r + 4160) 4096)
def reqConflict (m : Mem) (r : Nat) : BitVec 8192 := BitVec.ofNat 8192 (Mem.big m (routeOff m r + 8256) 1024)

/-- The element of a list entry (Table 2.8, bits 12:0). -/
def entryElem (e : Nat) : Nat := bitsAt e 0 13

/-- The position of a point-call or flank entry: 1 NORMAL, 2 REVERSE (bit 13). -/
def entryPosition (e : Nat) : Nat := if bitAt e 13 then 2 else 1

/-! ## Permissions (Table 2.9) -/

/-- A permission record. -/
structure Perm where
  kind : Nat
  width : Nat
  stream : Nat
  bit : Nat
  element : Nat
  restrictive : Nat
  ownLock : Nat
  route : Nat
  valueSet : Nat
  prove : List (Nat × Nat)
deriving DecidableEq, Repr

/-- A permission record at an address of the window. An N_PROVE above the 58 entries of the record is read as 58: Table 2.9 and R92 give the
limit, and no check of Table 2.17 names it (DESIGN CHOICE, log entry 111). -/
def permParse (w : Mem) (a : Nat) : Perm :=
  { kind := Mem.big w a 1, width := Mem.big w (a + 1) 1, stream := Mem.big w (a + 2) 2, bit := Mem.big w (a + 4) 2,
    element := Mem.big w (a + 6) 2, restrictive := bitsAt (Mem.big w (a + 8) 1) 0 4, ownLock := Mem.big w (a + 9) 1,
    route := Mem.big w (a + 10) 2, valueSet := Mem.big w (a + 12) 2,
    prove := (List.range (min 58 (Mem.big w (a + 14) 1))).map
      (fun k => (bitsAt (Mem.big w (a + 16 + 4 * k) 2) 0 13, Mem.big w (a + 18 + 4 * k) 2)) }

/-- Every permission record of the image with its number. -/
def perms (m : Mem) : List (Nat × Perm) :=
  let off := imgDirOff m 2
  let cs := Mem.chunks (Mem.window m off (256 * imgPermCount m)) off 256 (imgPermCount m)
  cs.map (fun c => ((c.1 - off) / 256, permParse c.2 c.1))

/-- A permission group (02): the records of one output, named by its first record. -/
structure Group where
  first : Nat
  kind : Nat
  width : Nat
  stream : Nat
  bit : Nat
  element : Nat
  restrictive : Nat
  records : List Perm
deriving DecidableEq, Repr

def Group.ofPerm (n : Nat) (p : Perm) : Group :=
  { first := n, kind := p.kind, width := p.width, stream := p.stream, bit := p.bit, element := p.element,
    restrictive := p.restrictive, records := [p] }

/-- Does the record name the output of the group? -/
def Group.names (g : Group) (p : Perm) : Bool := g.kind == p.kind && g.stream == p.stream && g.bit == p.bit

/-- The permission groups: the records of a group stand consecutively. -/
def groupsOf (ps : List (Nat × Perm)) : List Group :=
  (ps.foldl (fun acc p =>
    match acc with
    | g :: r => if g.names p.2 then { g with records := g.records ++ [p.2] } :: r else Group.ofPerm p.1 p.2 :: g :: r
    | [] => [Group.ofPerm p.1 p.2]) []).reverse

def groups (m : Mem) : List Group := groupsOf (perms m)

/-- The groups whose element is the given one. -/
def groupsFor (m : Mem) (e : Nat) : List Group :=
  let x := elemAt m e
  if x.permFirst = 0xFFFF then [] else (groups m).filter (fun g => g.first == x.permFirst)

/-! ## Instances (Table 2.10) -/

/-- An instance table entry. -/
structure Inst where
  id : Nat
  typeId : Nat
  off : Nat
  size : Nat
  task : Nat
  timers : Nat
  edges : Nat
deriving DecidableEq, Repr

def instParse (w : Mem) (a : Nat) : Inst :=
  { id := Mem.big w a 4, typeId := Mem.big w (a + 4) 4, off := Mem.big w (a + 8) 4, size := Mem.big w (a + 12) 4,
    task := Mem.big w (a + 16) 1, timers := Mem.big w (a + 18) 2, edges := Mem.big w (a + 20) 2 }

def insts (m : Mem) : List Inst :=
  let off := imgDirOff m 4
  (Mem.chunks (Mem.window m off (24 * imgInstCount m)) off 24 (imgInstCount m)).map (fun c => instParse c.2 c.1)

def instOf (m : Mem) (id : Nat) : Option Inst := (insts m).find? (fun i => i.id == id)

/-! ## Constellations (Table 2.11) -/

/-- A slot entry. -/
structure Slot where
  start : Nat
  frameLen : Nat
  stream : Nat
  sender : Nat
  outPorts : Nat
  action : Nat
  inPort : Nat
deriving DecidableEq, Repr

def Slot.sends (x : Slot) : Bool := bitAt x.action 0
def Slot.receives (x : Slot) : Bool := bitAt x.action 1
def Slot.forwards (x : Slot) : Bool := bitAt x.action 2

/-- A Constellation table. -/
structure Constel where
  no : Nat
  cycleNs : Nat
  id : Nat
  slots : List Slot
deriving DecidableEq, Repr

def slotParse (w : Mem) (a : Nat) : Slot :=
  { start := 250 * Mem.big w a 2, frameLen := Mem.big w (a + 2) 2, stream := Mem.big w (a + 4) 2, sender := Mem.big w (a + 6) 2,
    outPorts := Mem.big w (a + 8) 8, action := Mem.big w (a + 16) 1, inPort := Mem.big w (a + 17) 1 }

/-- The Constellation tables from an address, `k` of them: they follow one another with no gap. -/
def constelsFrom (m : Mem) (a : Nat) : Nat → List Constel
  | 0 => []
  | k + 1 =>
    let n := Mem.le m (a + 2) 2
    { no := Mem.le m a 1, cycleNs := Mem.le m (a + 4) 4, id := Mem.le m (a + 8) 8,
      slots := (Mem.chunks (Mem.window m (a + 64) (24 * n)) (a + 64) 24 n).map (fun c => slotParse c.2 c.1) } ::
      constelsFrom m (a + 64 + 24 * n) k

def constels (m : Mem) : List Constel := constelsFrom m (imgDirOff m 5) (imgConstCount m)

def constelOf (m : Mem) (k : Nat) : Option Constel := (constels m).find? (fun c => c.no == k)

/-! ## Streams (Table 2.12) -/

/-- A stream entry. -/
structure Stream where
  id : Nat
  dir : Nat
  ageLimit : Nat
  peer : Nat
  len : Nat
  substOff : Nat
deriving DecidableEq, Repr

def streamParse (w : Mem) (a : Nat) : Stream :=
  { id := Mem.big w a 2, dir := Mem.big w (a + 2) 1, ageLimit := Mem.big w (a + 3) 1, peer := Mem.big w (a + 4) 2,
    len := Mem.big w (a + 6) 2, substOff := Mem.big w (a + 8) 4 }

def streams (m : Mem) : List Stream :=
  let off := imgDirOff m 6
  let n := imgStreamIn m + imgStreamOut m
  (Mem.chunks (Mem.window m off (16 * n)) off 16 n).map (fun c => streamParse c.2 c.1)

def inStreams (m : Mem) : List Stream := (streams m).filter (fun x => x.dir == 0)
def outStreams (m : Mem) : List Stream := (streams m).filter (fun x => x.dir == 1)
def inStream (m : Mem) (id : Nat) : Option Stream := (inStreams m).find? (fun x => x.id == id)
def outStream (m : Mem) (id : Nat) : Option Stream := (outStreams m).find? (fun x => x.id == id)

/-- The substitute payload of an incoming stream (Table 2.12). No check of Table 2.17 holds PAYLOAD_LEN to 1,024 bytes: of a longer payload the model
keeps the low 1,024 bytes (R92; DESIGN CHOICE, log entry 146). -/
def substPayload (m : Mem) (x : Stream) : BitVec 8192 := BitVec.ofNat 8192 (Mem.big m (imgDirOff m 6 + x.substOff) x.len)

/-! ## Parameters (Tables 2.13, 2.14) -/

/-- A parameter entry. -/
structure Param where
  id : Nat
  unit : Nat
  classes : Nat
  value : Nat
  min : Nat
  max : Nat
deriving DecidableEq, Repr

def paramParse (w : Mem) (a : Nat) : Param :=
  { id := Mem.big w a 2, unit := Mem.big w (a + 2) 1, classes := Mem.big w (a + 3) 1, value := Mem.big w (a + 4) 4,
    min := Mem.big w (a + 8) 4, max := Mem.big w (a + 12) 4 }

def params (m : Mem) : List Param :=
  let off := imgDirOff m 7
  (Mem.chunks (Mem.window m off (16 * imgParamCount m)) off 16 (imgParamCount m)).map (fun c => paramParse c.2 c.1)

def paramOf (m : Mem) (id : Nat) : Option Param := (params m).find? (fun p => p.id == id)

/-- The default of a system parameter (Table 2.14). -/
def systemDefault (id : Nat) : Nat :=
  match id with
  | 1 => 250
  | 2 => 72
  | 3 => 1200
  | 4 => 80
  | 5 => 2000
  | 6 => 3
  | 8 => 32
  | 10 => 1800
  | 11 => 168
  | _ => 0

/-- The value of a system parameter: that of the image, or the default (R79). -/
def systemParam (m : Mem) (id : Nat) : Nat := ((paramOf m id).map (·.value)).getD (systemDefault id)

/-! ## I/O map (Table 2.15) -/

/-- An I/O map entry. -/
structure IoMap where
  kind : Nat
  ioNo : Nat
  stream : Nat
  bit : Nat
  element : Nat
deriving DecidableEq, Repr

def iomapParse (w : Mem) (a : Nat) : IoMap :=
  { kind := Mem.big w a 1, ioNo := Mem.big w (a + 1) 1, stream := Mem.big w (a + 2) 2, bit := Mem.big w (a + 4) 2,
    element := bitsAt (Mem.big w (a + 6) 2) 0 13 }

def iomap (m : Mem) : List IoMap :=
  let off := imgDirOff m 8
  (Mem.chunks (Mem.window m off (8 * imgIomapCount m)) off 8 (imgIomapCount m)).map (fun c => iomapParse c.2 c.1)

/-! ## The running image -/

/-- The region of a profile slot, and the image in it. -/
def Images.profileMem (g : Images) (k : Nat) : Mem := g.regions.getD ((g.profiles.getD k { region := 6, status := .empty, hash := [] }).region) []

/-- The image that a lane keeps at the start of its region, with every byte from IMAGE_LEN on zero (R87). A header whose IMAGE_LEN check 2
refuses leaves the region as it is. -/
def Mem.cutToImage (m : Mem) : Mem := if 4096 ≤ imgLen m then Mem.window m 0 (imgLen m) else m

def Images.stagingMem (g : Images) (k : Nat) : Mem := g.regions.getD (g.stagingRegions.getD k 6) []

/-- The image that the module runs: that of the running profile slot, or the one that still executes after a profile load has replaced it
there (R188). -/
def State.img (s : State) : Mem := s.images.displaced.getD (s.images.profileMem s.images.runningSlot)

/-- Does the module run an image (WARM or LIVE)? -/
def State.hasImage (s : State) : Bool := s.control.phase = .running && (s.control.power = .warm || s.control.power = .live)

/-- A system parameter of the running image; in IDLE, before an image runs, its default. -/
def State.param (s : State) (id : Nat) : Nat := if s.hasImage then systemParam s.img id else systemDefault id

/-- The T0 period in ns (parameter 0x0001). -/
def State.t0 (s : State) : Nat := 1000 * s.param 1

/-- The committed value of a parameter: written at run time, or the image's (R392, R393). -/
def State.paramValue (s : State) (id : Nat) : Nat :=
  match assoc s.images.params id with
  | some v => v.toNat
  | none => ((paramOf s.img id).map (·.value)).getD (systemDefault id)

end Sys2Proof.Machine
end

