-- ==== Sys2Proof/Machine/Arbiter.lean ====
section
/-! DEFINITION. The table-store arbiter of a lane: runs, rounds, break points, aging and counters (R480 to R491), and the words of a lane's
memories whose stored parity is wrong (R468 to R470). -/

namespace Sys2Proof.Machine

/-! ## What a part's arbiter does -/

/-- The arbiter of a module: does a loser age (R485, the HK-7348), are counters kept (R490), and how many requesters are there (R408)? -/
structure ArbRules where
  ages : Bool
  counts : Bool
  requesters : Nat
deriving DecidableEq, Repr

/-- How many requesters a part has (R408). -/
def Part.requesters : Part → Nat
  | .hk7348 => 14
  | .hk7332 => 12
  | .hk7316 => 10

/-- Does the arbiter keep counters (R486, R490)? -/
def State.counts (s : State) : Bool := s.identity.part == .hk7348 && s.hasImage && s.param 7 == 1

def State.arbRules (s : State) : ArbRules :=
  { ages := s.identity.part == .hk7348, counts := s.counts, requesters := s.identity.part.requesters }

/-- Run limits (Table 13.2): 8 bursts of Meridian, requester 4, and 4 of the others. -/
def runLimit (req : Nat) : Nat := if req = 4 then 8 else 4

/-! ## Rounds (R482 to R486) -/

/-- The effective priority of a requester (R485, R486). -/
def Store.effective (x : Store) (r : ArbRules) (req : Nat) : Nat :=
  let base := x.priority.getD req 0
  if r.ages then min 15 (base + x.boost.getD req 0) else base

/-- Is the request `p` served before `q`: by effective priority, by the longer wait, by the lower REQ (R482)? -/
def Store.before (x : Store) (r : ArbRules) (p q : PortRequest) : Bool :=
  let e := x.effective r p.req
  let f := x.effective r q.req
  decide (f < e) || (e == f && (decide (p.since < q.since) || (p.since == q.since && decide (p.req < q.req))))

/-- The request that a round grants. -/
def Store.winner (x : Store) (r : ArbRules) : Option PortRequest :=
  x.waiting.foldl (fun best p => match best with
    | some b => some (if x.before r p b then p else b)
    | none => some p) none

/-- A requester loses a round (R482, R485): its boost rises unless its effective priority is 15. -/
def Store.lose (x : Store) (r : ArbRules) (req : Nat) : Store :=
  { x with
    waiting := x.waiting.map (fun p => if p.req = req then { p with lost := p.lost + 1 } else p)
    boost := if r.ages && decide (x.effective r req < 15) then listSet x.boost req (x.boost.getD req 0 + 1) else x.boost }

/-- Every requester that still waits after a round has lost it. -/
def Store.loseAll (x : Store) (r : ArbRules) : Store := x.waiting.foldl (fun y p => y.lose r p.req) x

/-- The wait of a request in ns, from clocks of 0.625 ns, rounded up (R490). -/
def waitNs (clocks : Nat) : Nat := min 0xFFFFFFFF ((5 * clocks + 7) / 8)

/-- The counters of a grant (R490). -/
def Store.count (x : Store) (p : PortRequest) : Store :=
  { x with
    grants := listSet x.grants p.req (inc (x.grants.getD p.req 0))
    waits := if p.lost = 0 then x.waits else listSet x.waits p.req (inc (x.waits.getD p.req 0))
    longestRounds := listSet x.longestRounds p.req (max (x.longestRounds.getD p.req 0) (min 65535 p.lost))
    longestNs := listSet x.longestNs p.req (max (x.longestNs.getD p.req 0) (waitNs (x.portAt - p.since))) }

/-- A request is granted, and its boost clears (R485). -/
def Store.award (x : Store) (r : ArbRules) (p : PortRequest) : Store :=
  let y := if r.counts then x.count p else x
  { y with
    waiting := x.waiting.filter (fun q => q.req != p.req)
    boost := listSet x.boost p.req 0
    grant := some { req := p.req, bursts := p.bursts, oldBase := none } }

/-- The round of a port that no run holds. -/
def Store.round (x : Store) (r : ArbRules) : Store :=
  match x.winner r with
  | some p => (x.award r p).loseAll r
  | none => x

/-- The base priority that a break decision uses: the old one where a write came while the run held the grant (Table 13.3). -/
def Store.holderBase (x : Store) (g : PortRun) : Nat := g.oldBase.getD (x.priority.getD g.req 0)

/-- The round of a break point (R482, R483). Meridian's run is never broken (R481). A broken run's requester keeps its request raised for
the bursts that it has not had, and has lost this round. -/
def Store.breakRound (x : Store) (r : ArbRules) (g : PortRun) : Store :=
  match x.winner r with
  | none => x
  | some p =>
    if g.req ≠ 4 ∧ x.holderBase g < x.effective r p.req then
      let y := x.award r p
      ({ y with waiting := y.waiting ++ [({ req := g.req, bursts := g.bursts, since := x.portAt, lost := 0 } : PortRequest)] }).loseAll r
    else x.loseAll r

/-! ## The events of the port -/

/-- An event of the port: the clocks of port time since the last one, whether a burst ends at it, and the requests raised at it, each
with the bursts that it asks for. -/
structure PortEvent where
  gap : Nat
  burstEnds : Bool
  raised : List (Nat × Nat)
deriving DecidableEq, Repr

/-- A requester raises its request for a run of 1 to L bursts (R481). One that waits or holds the grant raises no other. -/
def Store.raise (x : Store) (r : ArbRules) (req bursts : Nat) : Store :=
  if decide (r.requesters ≤ req) || x.waiting.any (fun p => p.req == req) || x.grant.any (fun g => g.req == req) then x
  else { x with waiting := x.waiting ++ [{ req := req, bursts := max 1 (min bursts (runLimit req)), since := x.portAt, lost := 0 }] }

def Store.raiseAll (x : Store) (r : ArbRules) (l : List (Nat × Nat)) : Store := l.foldl (fun y q => y.raise r q.1 q.2) x

/-- A burst of the run in progress ends: the run ends, or its break point comes. -/
def Store.burstEnd (x : Store) (r : ArbRules) (l : List (Nat × Nat)) : Store :=
  match x.grant with
  | none => x
  | some g =>
    if g.bursts ≤ 1 then (({ x with grant := none }).raiseAll r l).round r
    else
      let left : PortRun := { g with bursts := g.bursts - 1 }
      let y := ({ x with grant := some ({ left with oldBase := none } : PortRun) }).raiseAll r l
      y.breakRound r left

/-- An event of the port. -/
def Store.event (x : Store) (r : ArbRules) (e : PortEvent) : Store :=
  let y := { x with portAt := x.portAt + e.gap }
  if e.burstEnds && x.grant.isSome then y.burstEnd r e.raised
  else
    let z := y.raiseAll r e.raised
    if z.grant.isSome then z else z.round r

/-- The private traffic of the requesters is no row of the table: the events since the arbiter was last looked at are free values, by an
index (DESIGN CHOICE, log entry 35). -/
def freeEvent (n : Nat) : PortEvent :=
  let mask := (Config.freeWord (n + 1)).toNat
  let runs := (Config.freeLong n).toNat
  { gap := (Config.freeWord n).toNat
    burstEnds := bitAt mask 14
    raised := ((List.range 14).filter (bitAt mask)).map (fun j => (j, bitsAt runs (3 * j) 3 + 1)) }

/-- The traffic since the arbiter was last looked at. -/
def Store.traffic (x : Store) (r : ArbRules) (n count : Nat) : Store :=
  (List.range count).foldl (fun y k => y.event r (freeEvent (n + 2 * k))) x

/-- A lane's arbiter as it now stands. While it is frozen nothing moves (R488). -/
def State.rounds (s : State) (i : LaneId) : State :=
  if (s.lane i).store.frozen then s
  else
    let count := (Config.freeWord s.freeCtr).toNat
    { s.modLane i (fun l => { l with store := l.store.traffic s.arbRules (s.freeCtr + 1) count }) with freeCtr := s.freeCtr + 2 * count + 1 }

/-! ## What ARB_CONTROL does -/

/-- The freeze bit is set (R488): the run in progress completes, and no round takes place. Port time stands still until it is cleared. -/
def Store.stopRounds (x : Store) (now : Nat) : Store :=
  { x with grant := none, frozen := true, frozenSince := now, freezes := inc x.freezes }

/-- Table 13.3: a base priority is written. -/
def Store.setPriority (x : Store) (req priority : Nat) : Store :=
  { x with
    priority := listSet x.priority req priority
    boost := if x.waiting.any (fun p => p.req == req) then listSet x.boost req 0 else x.boost
    grant := x.grant.map (fun g => if g.req = req then { g with oldBase := some (x.holderBase g) } else g) }

/-- The four counters of each requester start again (R490). -/
def Store.clearCounters (x : Store) : Store :=
  { x with grants := List.replicate 14 0, waits := List.replicate 14 0, longestRounds := List.replicate 14 0, longestNs := List.replicate 14 0 }

/-! ## Parity (R468 to R470) -/

/-- The memory that a read or a write concerns. -/
inductive Memory where
  | tableStore | sram
deriving DecidableEq, Repr

/-- The code of the memory in a MEMORY record. -/
def Memory.code : Memory → Nat
  | .tableStore => 0
  | .sram => 1

/-- The words, by number, whose stored parity is wrong. -/
def Store.bad (x : Store) : Memory → List Nat
  | .tableStore => x.badTable
  | .sram => x.badSram

def Store.setBad (x : Store) (m : Memory) (l : List Nat) : Store :=
  match m with
  | .tableStore => { x with badTable := l }
  | .sram => { x with badSram := l }

/-- Is a burst free of words with a wrong stored parity? A burst holds 16 words. -/
def Store.burstGood (x : Store) (m : Memory) (burst : Nat) : Bool := (x.bad m).all (fun w => w / 16 != burst)

/-- R471: three reads in a row of a burst have failed, so a word of it is wrong in its cell; which one, the reads do not say. -/
def Store.spoil (x : Store) (m : Memory) (burst : Nat) (word : Nat) : Store :=
  if x.burstGood m burst then x.setBad m (x.bad m ++ [16 * burst + word % 16]) else x

/-- R469: whole words are written with their parity, without a read of the old words. -/
def Store.writeWords (x : Store) (m : Memory) (first count : Nat) : Store :=
  x.setBad m ((x.bad m).filter (fun w => decide (w < first) || decide (first + count ≤ w)))

/-- R469: a write of `len` bytes at `addr`. A word that it covers in part is read first, and a wrong parity there is a memory fault: nothing
is written. -/
def Store.write (x : Store) (m : Memory) (addr len : Nat) : Option Store :=
  let partly := fun w => decide (4 * w < addr + len) && decide (addr < 4 * w + 4) && !(decide (addr ≤ 4 * w) && decide (4 * w + 4 ≤ addr + len))
  if (x.bad m).any partly then none else some (x.writeWords m ((addr + 3) / 4) ((addr + len) / 4 - (addr + 3) / 4))

/-! ## Lane faults and the MEMORY record (R474, R479) -/

/-- A lane finds a fault of its own; its first one stands. -/
def State.faultLane (s : State) (i : LaneId) (c : Cause) : State :=
  s.modLane i (fun l => { l with localFault := some (l.localFault.getD c) })

/-- The MEMORY record of a lane: the memory, the requester, whether a replay cleared the error, and the address of the burst. -/
def State.memoryEvent (s : State) (i : LaneId) (m : Memory) (req : Nat) (cleared : Bool) (addr : Nat) : State :=
  s.laneEvent i 0x0406 [(24, 1, i.index), (25, 1, m.code), (26, 1, req), (27, 1, flag cleared), (28, 4, addr)]

/-- The image loader of a lane, requester 6, writes `len` bytes at an address of its table store. -/
def State.loaderWrite (s : State) (addr len : Nat) (i : LaneId) : State :=
  match (s.lane i).store.write .tableStore addr len with
  | some x => s.modLane i (fun l => { l with store := x })
  | none => (s.faultLane i .memory).memoryEvent i .tableStore 6 false (addr / 64 * 64)

/-- Where a region of the table store starts (Table 2.18). -/
def regionBase (r : Nat) : Nat := 0x04000000 * r

/-- The image loaders write `len` bytes at an offset of a region, whose contents are then `m`. -/
def State.setRegion (s : State) (r : Nat) (m : Mem) (off len : Nat) : State :=
  allLanes.foldl (fun (u : State) i => u.loaderWrite (regionBase r + off) len i)
    { s with images := { s.images with regions := listSet s.images.regions r m } }

end Sys2Proof.Machine
end

