-- ==== Sys2Proof/Machine/Admission.lean ====
section
/-! DEFINITION. The admission checks of Table 2.17 (R83), with the signature rules of R536 to R538. -/

namespace Sys2Proof.Machine

/-- The highest field port of a part, plus one (Table 0.1). -/
def Part.fieldPorts : Part → Nat
  | .hk7348 => 48
  | .hk7332 => 32
  | .hk7316 => 16

def hashBytes (h : BitVec 384) : Bytes := beBytes 48 h.toNat

/-- The SHA-384 hash of a string (FIPS 180-4). -/
def sha384 (b : Bytes) : Bytes := hashBytes (Config.sha384 b)

/-- The KEY_ID of a public key (R537): the first 8 bytes of its hash. -/
def keyId (key : Bytes) : Bytes := (sha384 key).take 8

/-- A signature block offset from the end of the image (Table 2.16). -/
def sigBytes (m : Mem) (off k : Nat) : Bytes := Mem.bytes (Mem.window m (imgLen m - 128 + off) k) (imgLen m - 128 + off) k

/-- The hash of the whole image (R548). -/
def imageHash (m : Mem) : Bytes := sha384 (Mem.bytes (Mem.window m 0 (imgLen m)) 0 (imgLen m))

/-- R536, R537: the image's signature verifies with the trusted key that its KEY_ID names. -/
def signatureOk (keys : List Bytes) (m : Mem) : Bool :=
  let r := sigBytes m 16 48
  let s := sigBytes m 64 48
  leNat (sigBytes m 0 2) == 1 && beNat r != 0 && beNat s != 0 &&
  match keys.find? (fun k => keyId k == sigBytes m 8 8) with
  | none => false
  | some k => Config.ecdsaVerify k (Config.sha384 (Mem.bytes (Mem.window m 0 (imgLen m - 128)) 0 (imgLen m - 128))) r s

/-- Check 1. -/
def check1 (m : Mem) : Bool := imgMagic m == 0x4D494B48 && imgFormat m == 1 && imgHdrSize m == 256

/-- Check 2. -/
def check2 (m : Mem) (loaded : Nat) : Bool :=
  decide (4096 ≤ imgLen m) && decide (imgLen m ≤ 67108864) && imgLen m % 64 == 0 && decide (imgLen m ≤ loaded)

def round64 (n : Nat) : Nat := (n + 63) / 64 * 64

/-- R52: the sections present lie in order, each at the first multiple of 64 after the one before it, with zero padding;
the end of the last one, or nothing where one breaks this. -/
def sectionsEnd (m : Mem) : List Nat → Nat → Option Nat
  | [], e => some e
  | k :: r, e =>
    let off := imgDirOff m k
    let len := imgDirLen m k
    if off = 0 ∧ len = 0 then sectionsEnd m r e
    else if off = round64 e ∧ Mem.window m e (off - e) = [] then sectionsEnd m r (off + len)
    else none

def sectionPresent (m : Mem) (k : Nat) : Bool := imgDirLen m k != 0

/-- R53: a section that is absent has offset and length both zero, so a present one may have no entries. -/
def sectionAbsent (m : Mem) (k : Nat) : Bool := imgDirOff m k == 0 && imgDirLen m k == 0

/-- Table 2.2, column Present: the sections that an image must hold. -/
def sectionRequired (m : Mem) (k : Nat) : Bool :=
  match k with
  | 0 | 7 | 9 => true
  | 1 | 3 | 4 => imgRole m != 1
  | 2 => imgPermCount m != 0
  | 5 => imgMode m != 1
  | 6 => imgStreamIn m + imgStreamOut m != 0
  | 8 => imgRole m != 0 || imgIomapCount m != 0
  | _ => false

/-- The bytes of `k` Constellation tables from an address, which follow one another with no gap: 64 + 24 × N_SLOTS each. -/
def constelBytes (m : Mem) (a : Nat) : Nat → Nat
  | 0 => 0
  | k + 1 =>
    let n := 64 + 24 * Mem.le m (a + 2) 2
    n + constelBytes m (a + n) k

/-- The bytes of the stream section: its entries, then the substitute payloads of the incoming streams (R76). -/
def streamBytes (m : Mem) : Nat :=
  16 * (imgStreamIn m + imgStreamOut m) + (((streams m).take (imgStreamIn m)).map (·.len)).sum

/-- The length of a section as Table 2.2 gives it from its entry size; nothing where it leaves it variable. -/
def sectionLength (m : Mem) (k : Nat) : Option Nat :=
  match k with
  | 0 => some 131072
  | 1 => some (9472 * imgRouteCount m)
  | 2 => some (256 * imgPermCount m)
  | 4 => some (24 * imgInstCount m)
  | 5 => if sectionAbsent m 5 then none else some (constelBytes m (imgDirOff m 5) (imgConstCount m))
  | 6 => some (streamBytes m)
  | 7 => some (16 * imgParamCount m)
  | 8 => some (8 * imgIomapCount m)
  | 9 => some 128
  | _ => none

/-- Check 3: R52, R53 and the sections that Table 2.2 requires. -/
def check3 (m : Mem) : Bool :=
  (match sectionsEnd m (List.range 10) 256 with
   | some e => e == imgLen m
   | none => false) &&
  (List.range 10).all (fun k => match sectionLength m k with
    | some n => imgDirLen m k == n
    | none => true) &&
  (List.range 10).all (fun k => !(sectionRequired m k && sectionAbsent m k))

/-- Check 5. -/
def check5 (m : Mem) (part : Part) : Bool :=
  decide (imgRole m ≤ 2) && decide (imgMode m ≤ 1) && decide (imgRouteCount m ≤ 4096) && decide (imgPermCount m ≤ 16384) &&
  decide (imgInstCount m ≤ 65536) && decide (imgStreamIn m ≤ 192) && decide (imgStreamOut m ≤ 192) &&
  decide (imgParamCount m ≤ 1024) && decide (imgIomapCount m ≤ 96) && decide (imgOutWords m ≤ 2048) &&
  (if imgMode m = 0 then decide (1 ≤ imgConstCount m) && decide (imgConstCount m ≤ 8) else imgConstCount m == 0) &&
  (imgRole m != 1 || (imgRouteCount m == 0 && imgInstCount m == 0 && !sectionPresent m 3)) &&
  (imgMaxFport m == 0xFF || decide (imgMaxFport m < part.fieldPorts)) &&
  (part == .hk7348 || systemParam m 7 != 1) &&
  (imgMode m != 0 || decide (systemParam m 9 < imgConstCount m))

/-- Check 6. -/
def check6 (m : Mem) (ki40 slot0 : Bool) : Bool := imgMode m == flag ki40 && (imgMode m != 1 || slot0)

/-- R55 to R58 on one entry; for a safe input, a reserved decoding rule (Table 11.3) is no value of SRC_BIT. -/
def elemOk (e : Elem) : Bool :=
  decide (e.etype ≤ 4) && decide (e.source ≤ 2) && e.reserved &&
  (e.subst == 0 || (e.etype == tySection && e.subst == 2)) &&
  (e.permFirst == 0xFFFF || decide (e.permFirst ≤ 16383)) && decide (e.permN ≤ 16384) &&
  (e.source != 2 || (decide (e.srcId ≤ 63) && decide (bitsAt e.srcBit 0 4 ≤ 4))) &&
  (e.etype != tySection || e.cmdProg) &&
  (e.etype != 0 || (e.source == 0 && e.srcId == 0 && e.srcBit == 0 && e.cmdProg && e.cmdNode == 0 && e.permFirst == 0xFFFF && e.permN == 0))

def typeCount (es : List (Nat × Elem)) (ty : Nat) : Nat := (es.filter (fun e => e.2.etype == ty)).length

/-- Check 7. -/
def check7 (m : Mem) : Bool :=
  let es := elems m
  es.all (fun e => elemOk e.2) && decide (typeCount es tyPoint ≤ 2048) && decide (typeCount es tySignal ≤ 4096) &&
  decide (typeCount es tySection ≤ 8192) && decide (typeCount es tyCrossing ≤ 256)

/-- R67 on the masks of a route. -/
def masksOk (m : Mem) (typed : BitVec 32768) (r : Nat) : Bool :=
  let q := reqMask m r
  let ones : BitVec 32768 := BitVec.ofNat 32768 ((2 ^ 32768 - 1) / 15)
  ((q &&& ones).toNat * 15 == q.toNat) && (q &&& ~~~typed) == 0 && (reqExpected m r &&& ~~~q) == 0

/-- The CRC-32C of `n` bytes at `a` with the four bytes at `a + f` taken as zero. -/
def recordCrc (m : Mem) (a n f : Nat) : Word :=
  let b := Mem.bytes (Mem.window m a n) a n
  crc32c (b.take f ++ zeros 4 ++ b.drop (f + 4))

/-- R64 on the lists of a route; `ty` gives the type of an element. -/
def listsOk (m : Mem) (ty : Nat → Nat) (r : Nat) (x : Route) : Bool :=
  let used := x.points.length + x.release.length + x.overlap.length + x.flank.length
  decide (used ≤ 96) && Mem.window m (routeOff m r + 9280 + 2 * used) (192 - 2 * used) == [] &&
  x.points.all (fun e => ty (entryElem e) == tyPoint) &&
  x.release.all (fun e => bitsAt e 13 2 == 0 && (if bitAt e 15 then ty (entryElem e) != 0 else ty (entryElem e) == tySection)) &&
  !(x.release.head?.any (fun e => bitAt e 15)) &&
  x.overlap.all (fun e => bitsAt e 13 3 == 0 && (ty (entryElem e) == tySection || ty (entryElem e) == tyPoint)) &&
  x.flank.all (fun e => bitsAt e 14 2 == 0 && (ty (entryElem e) == tyPoint || ty (entryElem e) == tySignal))

/-- Check 8. -/
def check8 (m : Mem) : Bool :=
  let typed := ((elems m).filter (fun e => e.2.etype != 0)).foldl (fun x e => setNibble x e.1 15) (0 : BitVec 32768)
  (List.range (imgRouteCount m)).all (fun r =>
    match routeAt m r with
    | none => false
    | some x => x.no == r && (recordCrc m (routeOff m r) 9472 28).toNat == Mem.le m (routeOff m r + 28) 4 &&
        listsOk m (fun e => (elemAt m e).etype) r x && masksOk m typed r)

/-- Does an element exist: a number below 8,192 of a type other than NONE (DEDUCED, log entry 12). -/
def elemExists (m : Mem) (e : Nat) : Bool := decide (e < 8192) && (elemAt m e).etype != 0

/-- Check 9 on one record. Bits 15:13 of all 58 entries of PROVE_LIST are reserved, used or not. -/
def permOk (m : Mem) (n : Nat) (p : Perm) : Bool :=
  let a := imgDirOff m 2 + 256 * n
  (recordCrc m a 256 248).toNat == Mem.le m (a + 248) 4 && decide (p.kind ≤ 1) && decide (1 ≤ p.width) && decide (p.width ≤ 4) &&
  (p.kind != 0 || p.width == 1) && decide (p.ownLock ≤ 2) && (p.ownLock == 0 || p.element != 0xFFFF) &&
  (p.element == 0xFFFF || elemExists m p.element) && (p.route == 0xFFFF || (routeDef m p.route).isSome) &&
  (p.kind != 1 || (outStream m p.stream).isSome) && p.prove.all (fun x => elemExists m x.1) &&
  bitsAt (Mem.le m (a + 8) 1) 4 4 == 0 && Mem.le m (a + 15) 1 == 0 && Mem.le m (a + 252) 4 == 0 &&
  (List.range 58).all (fun k => bitsAt (Mem.le m (a + 16 + 4 * k) 2) 13 3 == 0)

/-- The sort key of a record. -/
def permKey (p : Perm) : Nat := (p.kind * 65536 + p.stream) * 65536 + p.bit

def ascending : List Nat → Bool
  | a :: b :: r => decide (a ≤ b) && ascending (b :: r)
  | _ => true

/-- Strictly ascending. -/
def rising : List Nat → Bool
  | a :: b :: r => decide (a < b) && rising (b :: r)
  | _ => true

/-- Check 9. -/
def check9 (m : Mem) : Bool :=
  let ps := perms m
  ascending (ps.map (fun p => permKey p.2)) && ps.all (fun p => permOk m p.1 p.2)

/-- Check 10, in tenths of a nanosecond. -/
def check10 (m : Mem) : Bool :=
  decide (10 * imgT0Wcet m + 13 * ((1413 + imgOutWords m) * 4 + 6) ≤ 10000 * systemParam m 1)

/-- The unit, lowest and highest value of a system parameter (Table 2.14), in an image with `consts` Constellations. Parameter 0x0009 has
no value in one with none. -/
def systemRange (consts id : Nat) : Option (Nat × Nat × Nat) :=
  match id with
  | 1 => some (1, 100, 1000)
  | 2 => some (3, 0, 168)
  | 3 => some (2, 10, 6000)
  | 4 => some (2, 10, 600)
  | 5 => some (1, 100, 20000)
  | 6 => some (4, 1, 15)
  | 7 => some (0, 0, 1)
  | 8 => some (0, 1, 256)
  | 9 => if consts = 0 then none else some (0, 0, consts - 1)
  | 10 => some (2, 10, 6000)
  | 11 => some (3, 1, 720)
  | _ => none

/-- R78 and R79 on one entry. -/
def paramOk (consts : Nat) (p : Param) : Bool :=
  decide (1 ≤ p.id) && decide (p.id ≤ 0x0FFF) && decide (p.unit ≤ 4) && decide (p.classes ≤ 3) && decide (p.min ≤ p.value) &&
  decide (p.value ≤ p.max) &&
  (decide (0x100 ≤ p.id) ||
    match systemRange consts p.id with
    | none => false
    | some (_, lo, hi) => p.classes == 0 && decide (lo ≤ p.value) && decide (p.value ≤ hi) &&
        (p.id != 1 || [100, 125, 200, 250, 500, 1000].contains p.value))

/-- Check 11. -/
def check11 (m : Mem) : Bool := rising ((params m).map (·.id)) && (params m).all (paramOk (imgConstCount m))

/-- The number of the first check of Table 2.17 that fails; 0 when the image is admitted. `loaded` is the number of bytes
loaded, `slot0` that the slot is profile slot 0. -/
def admission (m : Mem) (loaded : Nat) (keys : List Bytes) (part : Part) (ki40 slot0 : Bool) : Nat :=
  if !check1 m then 1
  else if !check2 m loaded then 2
  else if !check3 m then 3
  else if !signatureOk keys m then 4
  else if !check5 m part then 5
  else if !check6 m ki40 slot0 then 6
  else if !check7 m then 7
  else if !check8 m then 8
  else if !check9 m then 9
  else if !check10 m then 10
  else if !check11 m then 11
  else 0

end Sys2Proof.Machine
end

