-- ==== Sys2Proof/Machine/RouteEngine.lean ====
section
/-! DEFINITION. The route engine (03): Meridian's checks, the locks, and one T1 body in the order of R99. -/

namespace Sys2Proof.Machine

/-! ## Meridian (R65, R69, R70) -/

/-- The availability check of R65. -/
def availabilityCheck (s e mask p : BitVec 32768) (l c : BitVec 8192) : Bool :=
  ((s ^^^ e) &&& mask &&& ~~~p) == 0 && (l &&& c) == 0

/-- The locking check of R65. -/
def lockingCheck (s e mask : BitVec 32768) (l c : BitVec 8192) : Bool := ((s ^^^ e) &&& mask) == 0 && (l &&& c) == 0

/-- R69: does the record permit value `v` in the snapshot? -/
def Perm.permits (p : Perm) (v : Nat) (s : Snapshot) : Bool :=
  bitAt p.valueSet v && (p.route == 0xFFFF || s.routeLocked p.route) && p.prove.all (fun x => bitAt x.2 (s.nibble x.1)) &&
  (if p.ownLock = 1 then !s.elemLocked p.element else if p.ownLock = 2 then s.elemLocked p.element else true)

/-- R70: is value `v` of the output drivable? -/
def Group.drivable (g : Group) (v : Nat) (s : Snapshot) : Bool := v == g.restrictive || g.records.any (fun p => p.permits v s)

/-- What the lane offers of an output (R20): the value, or the restrictive value where Meridian does not find it drivable. -/
def Group.offer (g : Group) (v : Nat) (s : Snapshot) : Nat := if g.drivable v s then v else g.restrictive

/-- R651: the entry signal's records for the route permit the aspect. -/
def entryPermits (m : Mem) (x : Route) (r v : Nat) (s : Snapshot) : Bool :=
  v == 0 || (groupsFor m x.entrySignal).any (fun g => g.records.any (fun p => p.route == r && p.permits v s))

/-! ## Route table -/

/-- Is a route active (R96)? -/
def RouteState.isActive (x : RouteState) : Bool := x != .idle

/-- In flight: active and not yet locked (R127). -/
def RouteState.inFlight : RouteState → Bool
  | .requested | .checked | .pointsCalled | .inPosition => true
  | _ => false

/-- R95: the states in which the route lock bit is 1. -/
def RouteState.isLocked : RouteState → Bool
  | .locked | .cleared | .approachLocked | .occupied | .emergTiming => true
  | _ => false

/-- The codes of Table 3.1. -/
def RouteState.code : RouteState → Nat
  | .idle => 0
  | .requested => 1
  | .checked => 2
  | .pointsCalled => 3
  | .inPosition => 4
  | .locked => 5
  | .cleared => 6
  | .approachLocked => 7
  | .occupied => 8
  | .emergTiming => 9

def TimerKind.code : TimerKind → Nat
  | .none => 0
  | .detection => 1
  | .approach => 2
  | .emergency => 3
  | .overlap => 4

/-- A route table entry in its 8 bytes (Table 3.1). -/
def RouteEntry.bytes (x : RouteEntry) : Bytes :=
  b8 (x.state.code + 16 * flag x.stepSeen) ++ b8 x.reason ++ b8 x.step ++ b8 (x.timerKind.code + 8 * flag x.cancelled) ++ b32 x.timer

def Engine.entry (e : Engine) (r : Nat) : RouteEntry := assocD e.routes r RouteEntry.idle

def Engine.putEntry (e : Engine) (r : Nat) (x : RouteEntry) : Engine :=
  { e with routes := if x = RouteEntry.idle then assocErase e.routes r else assocSet e.routes r x }

/-- The active routes, ascending. -/
def Engine.actives (e : Engine) : List Nat := (e.routes.filter (fun p => p.2.state.isActive)).map (·.1)

/-- The route lock vector (R95). -/
def Engine.routeLock (e : Engine) : BitVec 4096 :=
  bitSet 4096 ((e.routes.filter (fun p => p.2.state.isLocked)).map (·.1))

/-- The release steps of a release list (03, Sequential release): a section, then the elements released with it. -/
def releaseSteps (l : List Nat) : List (List Nat) :=
  (l.foldl (fun acc x =>
    if bitAt x 15 then
      match acc with
      | st :: r => (st ++ [entryElem x]) :: r
      | [] => []
    else [entryElem x] :: acc) []).reverse

/-- The section of release step k. -/
def stepSection (x : Route) (k : Nat) : Option Nat := ((releaseSteps x.release)[k]?).bind List.head?

/-- The elements of a route that its entry has released: those of the steps below STEP, but for the overlap (R121, R122),
and the overlap once its timer has expired. -/
def releasedElems (x : Route) (n : RouteEntry) : List Nat :=
  let ovl := x.overlap.map entryElem
  ((releaseSteps x.release).take n.step).flatten.filter (fun e => !ovl.contains e) ++ (if n.overlapDone then ovl else [])

/-- The elements whose lock bit a route holds (R107): its lock set but for what it has released, and its flank list. -/
def heldBy (m : Mem) (r : Nat) (n : RouteEntry) : BitVec 8192 :=
  match routeAt m r with
  | none => 0
  | some x =>
    if n.state.isLocked then
      (reqConflict m r &&& ~~~(bitSet 8192 (releasedElems x n))) ||| bitSet 8192 (x.flank.map entryElem)
    else 0

/-- The point ends of the block set. -/
def Engine.blocked (e : Engine) (m : Mem) : BitVec 8192 := e.block &&& typeMask m tyPoint

/-- The signals of the stop set. -/
def Engine.stopped (e : Engine) (m : Mem) : BitVec 8192 := e.stop &&& typeMask m tySignal

/-- The element lock vector (R107). -/
def Engine.elemLock (e : Engine) (m : Mem) : BitVec 8192 :=
  e.routes.foldl (fun x p => x ||| heldBy m p.1 p.2) (e.blocked m)

/-- The reservation set (R109). -/
def Engine.reservation (e : Engine) (m : Mem) : BitVec 8192 :=
  e.routes.foldl (fun x p =>
    if p.2.state = .checked ∨ p.2.state = .pointsCalled ∨ p.2.state = .inPosition then x ||| reqConflict m p.1 else x) 0

/-- What R98 compares: the bytes of the route table, the block set, the stop set and the sets of R428. -/
def Engine.agreementBytes (e : Engine) : Bytes :=
  (e.routes.map (fun p => b16 p.1 ++ p.2.bytes)).flatten ++ vecBytes e.block ++ vecBytes e.stop ++ vecBytes e.faultSet ++
  vecBytes e.degradedSet ++ vecBytes e.shortSet

/-! ## The work of one body -/

/-- What a body works on: the image, the committed snapshot from which it started (R104), the routes at which this lane's
Meridian fails although its inputs pass, whether R204 forbids the locking check, and whether the body first discards the
in-flight routes (Table 3.10). -/
structure BodyCtx where
  m : Mem
  p : Snapshot
  diverge : List Nat
  noLock : Bool
  discard : Bool
deriving DecidableEq, Repr

/-- The engine as the body has changed it, with the events and counts so far, the routes whose timer it loaded and those that
left REQUESTED in it. -/
structure Work where
  eng : Engine
  events : List Queued
  rejects : List Nat
  timeouts : Nat
  holds : Nat
  loaded : List Nat
  left : List Nat
deriving DecidableEq, Repr

def Work.start (e : Engine) : Work := { eng := e, events := [], rejects := [], timeouts := 0, holds := 0, loaded := [], left := [] }

def Work.log (w : Work) (code : Nat) (o : Origin) (l : List (Nat × Nat × Nat)) : Work :=
  { w with events := w.events ++ [queuedOf code 0 0 o [payloadFields l]] }

/-- R128: the route states that get a record. -/
def RouteState.recorded : RouteState → Bool
  | .idle | .checked | .locked | .cleared | .approachLocked | .occupied | .emergTiming => true
  | _ => false

/-- A route takes a state. The snapshot number of the record is written at the commit. -/
def Work.setState (w : Work) (r : Nat) (x : RouteEntry) : Work :=
  let w1 := { w with eng := { w.eng.putEntry r x with
    requested := if x.state = .requested then w.eng.requested ++ [r] else w.eng.requested.filter (· != r),
    positioned := if x.state = .inPosition then w.eng.positioned ++ [r] else w.eng.positioned.filter (· != r),
    keys := if x.state.inFlight then w.eng.keys else assocErase w.eng.keys r } }
  if x.state.recorded then
    w1.log 0x0101 Origin.internal [(24, 2, r), (26, 1, x.state.code), (27, 1, if x.state = .idle then x.reason else 0)]
  else w1

/-- A signal enters the stop set (Table 3.7); a signal already in it stays. -/
def Work.stopEnter (w : Work) (sig cause : Nat) (o : Origin) : Work :=
  if getBit w.eng.stop sig ∨ 8192 ≤ sig then w
  else ({ w with eng := { w.eng with stop := setBit w.eng.stop sig true }, holds := w.holds + 1 }).log 0x0102 o
    [(24, 2, sig), (26, 1, 1), (27, 1, cause)]

/-- Every signal enters the stop set, with one record where any was outside it (R128). -/
def Work.stopAll (w : Work) (m : Mem) (cause : Nat) (o : Origin) : Work :=
  let all := typeMask m tySignal
  if (all &&& ~~~w.eng.stop) = 0 then w
  else ({ w with eng := { w.eng with stop := w.eng.stop ||| all }, holds := w.holds + bitCount (all &&& ~~~w.eng.stop) }).log 0x0102 o
    [(24, 2, 0xFFFF), (26, 1, 1), (27, 1, cause)]

/-- A signal leaves the stop set. -/
def Work.stopLeave (w : Work) (sig cause : Nat) (o : Origin) : Work :=
  if getBit w.eng.stop sig then
    ({ w with eng := { w.eng with stop := setBit w.eng.stop sig false } }).log 0x0102 o [(24, 2, sig), (26, 1, 0), (27, 1, cause)]
  else w

/-- A point call ends at a stage of POINT_CALL (Table 14.4): 1 in position, 2 timeout, 4 ended by the route. -/
def Work.endCall (w : Work) (c : PointCall) (stage : Nat) : Work :=
  ({ w with eng := { w.eng with calls := w.eng.calls.filter (· != c) },
            timeouts := w.timeouts + (if stage = 2 then 1 else 0) }).log 0x0104 Origin.internal
    [(24, 2, c.point), (26, 1, c.position), (27, 1, stage), (28, 2, c.route)]

/-- A point call is issued (stage 0); a call of the point that already runs gives way (log entry 13). -/
def Work.issue (w : Work) (c : PointCall) : Work :=
  let w1 := (w.eng.calls.filter (fun d => d.point == c.point)).foldl (fun u d => u.endCall d 4) w
  ({ w1 with eng := { w1.eng with calls := w1.eng.calls ++ [c] } }).log 0x0104 Origin.internal
    [(24, 2, c.point), (26, 1, c.position), (27, 1, 0), (28, 2, c.route)]

/-- A route returns to IDLE (Table 3.4): its point calls end at `stage`, its reservation and locks go, and the entry signal of
a route that was locked leaves the stop set (Table 3.7). -/
def Work.toIdle (w : Work) (m : Mem) (r reason stage : Nat) : Work :=
  let was := (w.eng.entry r).state
  let w1 := (w.eng.calls.filter (fun c => c.route == r)).foldl (fun u c => u.endCall c stage) w
  let w2 := { w1 with rejects := if 2 ≤ reason ∧ reason ≤ 7 then w1.rejects ++ [reason] else w1.rejects }
  let w3 := w2.setState r { RouteEntry.idle with reason := reason }
  match routeAt m r with
  | some x => if was.isLocked then w3.stopLeave x.entrySignal 7 Origin.internal else w3
  | none => w3

/-- A route time in T1 cycles: d in 0.1 s units is d × 100 cycles, 0 takes the parameter. -/
def routeCycles (m : Mem) (d param : Nat) : Nat := 100 * (if d = 0 then systemParam m param else d)

/-- Load the timer of a route: it is not counted down in the body that loads it (log entry 14). -/
def Work.load (w : Work) (r : Nat) (k : TimerKind) (n : Nat) : Work :=
  { w with eng := w.eng.putEntry r { w.eng.entry r with timerKind := k, timer := n }, loaded := r :: w.loaded }

/-- The entry with no timer. -/
def RouteEntry.noTimer (x : RouteEntry) : RouteEntry := { x with timerKind := .none, timer := 0 }

/-- The transitions of Table 3.4 to APPROACH_LOCKED and to OCCUPIED, of a route in CLEARED or APPROACH_LOCKED (R99, step 1). A
cancel pending in CLEARED takes the timed path from APPROACH_LOCKED (DEDUCED, log entry 15). -/
def Work.approachEntry (w : Work) (c : BodyCtx) (r : Nat) (x : Route) : Work :=
  let n := w.eng.entry r
  let w1 :=
    if n.state = .cleared ∧ x.approachLock = true ∧ x.approachSection < 8192 ∧ c.p.nibble x.approachSection = 0 then
      let u := w.setState r { n with state := .approachLocked }
      if n.cancelled then u.load r .approach (routeCycles c.m x.approachTime 3) else u
    else w
  let n1 := w1.eng.entry r
  match stepSection x 0 with
  | none => w1
  | some sec =>
    if (n1.state = .cleared ∨ n1.state = .approachLocked) ∧ c.p.nibble sec = 0 then
      (w1.setState r { n1.noTimer with state := .occupied, cancelled := false, step := 0, stepSeen := false, overlapDone := false }).stopLeave
        x.entrySignal 6 Origin.internal
    else w1

/-! ## Step 1 of R99 -/

/-- ROUTE_CANCEL at intake (Table 3.8). A further one for a route whose CANCELLED is set changes nothing (R652). -/
def Work.cancel (w : Work) (c : BodyCtx) (r : Nat) (removed : Bool) : Work :=
  match routeDef c.m r with
  | none => w
  | some x =>
    let n := w.eng.entry r
    if n.state = .idle then
      if removed then { w with eng := w.eng.putEntry r { n with reason := 1 } } else w
    else
      let w1 := if n.state = .cleared ∨ n.state = .approachLocked then w.approachEntry c r x else w
      let n1 := w1.eng.entry r
      if n1.state.inFlight ∨ (n1.state = .locked ∧ n1.cancelled = false) then w1.toIdle c.m r 1 4
      else if n1.state = .cleared then { w1 with eng := w1.eng.putEntry r { n1 with cancelled := true } }
      else if n1.state = .approachLocked ∧ n1.cancelled = false then
        ({ w1 with eng := w1.eng.putEntry r { n1 with cancelled := true } }).load r .approach (routeCycles c.m x.approachTime 3)
      else w1

/-- POINT_BLOCK at intake (R114). -/
def Work.block (w : Work) (p : Nat) (o : Origin) : Work :=
  if getBit w.eng.block p then w
  else ({ w with eng := { w.eng with block := setBit w.eng.block p true } }).log 0x0103 o [(24, 2, p), (26, 1, 1), (27, 1, 0), (28, 2, 1)]

/-- The origin of a command that awaits intake. -/
def Intake.origin (i : Intake) : Origin := { cls := i.cls, session := i.session, hostId := i.hostId }

/-- A restrictive command (R99, step 1). -/
def Work.restrictive (w : Work) (c : BodyCtx) (i : Intake) : Work :=
  match i.cmd with
  | .routeCancel r removed => w.cancel c r removed
  | .signalStop e => w.stopEnter e 0 i.origin
  | .allStop => w.stopAll c.m 0 i.origin
  | .pointBlock p => w.block p i.origin
  | _ => w

/-! ## Step 2 of R99 -/

/-- Count a route's timer down by one T1 cycle, unless this body loaded it. -/
def Work.count (w : Work) (r : Nat) : Work :=
  let n := w.eng.entry r
  if n.timerKind = .none ∨ w.loaded.contains r then w
  else { w with eng := w.eng.putEntry r { n with timer := n.timer - 1 } }

/-- Has the timer of a kind reached 0? -/
def RouteEntry.expired (n : RouteEntry) (k : TimerKind) : Bool := n.timerKind == k && n.timer == 0

/-- The level crossings that a route locks. -/
def lockedCrossings (m : Mem) (r : Nat) : List Nat := bitList (reqConflict m r &&& typeMask m tyCrossing)

/-- The clearing conditions of 03. -/
def clearing (c : BodyCtx) (r : Nat) (x : Route) : Bool :=
  (bitList (typeMask c.m tySection)).all (fun e =>
    nibbleOf (reqMask c.m r) e == 0 || c.p.nibble e == nibbleOf (reqExpected c.m r) e) &&
  x.points.all (fun e => c.p.nibble (entryElem e) == entryPosition e) &&
  (lockedCrossings c.m r).all (fun e => c.p.nibble e == 3) && entryPermits c.m x r x.clearAspect c.p

/-- The release steps of a route in OCCUPIED (R121, R122), as many as the conditions allow. -/
def Work.release (w : Work) (c : BodyCtx) (r : Nat) (x : Route) : Nat → Work
  | 0 => w
  | fuel + 1 =>
    let n := w.eng.entry r
    match stepSection x n.step with
    | none => w
    | some sec =>
      let seen := n.stepSeen || c.p.nibble sec == 0
      let w1 := { w with eng := w.eng.putEntry r { n with stepSeen := seen } }
      let isLast := n.step + 1 == (releaseSteps x.release).length
      let next := match stepSection x (n.step + 1) with
        | some q => c.p.nibble q == 0
        | none => false
      if seen && c.p.nibble sec == 1 && (isLast || next) then
        if isLast then w1.toIdle c.m r 0 4
        else ({ w1 with eng := w1.eng.putEntry r { n with step := n.step + 1, stepSeen := false } }).release c r x fuel
      else w1

/-- R122: the overlap timer is loaded when the section of the last step first reads OCCUPIED. -/
def Work.overlapLoad (w : Work) (c : BodyCtx) (r : Nat) (x : Route) : Work :=
  let n := w.eng.entry r
  match stepSection x ((releaseSteps x.release).length - 1) with
  | none => w
  | some sec =>
    if n.state = .occupied ∧ x.overlapTime ≠ 0 ∧ n.timerKind = .none ∧ n.overlapDone = false ∧ c.p.nibble sec = 0 then
      w.load r .overlap (100 * x.overlapTime)
    else w

/-- The detection timer of a route expires (Table 3.4). -/
def Work.detectExpiry (w : Work) (m : Mem) (r : Nat) : Work := w.toIdle m r 6 2

/-- The approach timer of a cancelled route expires (Table 3.8). -/
def Work.approachExpiry (w : Work) (m : Mem) (r : Nat) : Work := w.toIdle m r 1 4

/-- The emergency timer expires (R120). -/
def Work.emergExpiry (w : Work) (m : Mem) (r : Nat) : Work := w.toIdle m r 11 4

/-- The overlap timer expires: the elements of the overlap list release together (R122). -/
def Work.overlapExpiry (w : Work) (r : Nat) : Work :=
  { w with eng := w.eng.putEntry r { (w.eng.entry r).noTimer with overlapDone := true } }

/-- A proving loss (Table 3.4, R117): the entry signal enters the stop set and a route in CLEARED falls to LOCKED. -/
def Work.provingLoss (w : Work) (r : Nat) (x : Route) (cause : Nat) : Work :=
  let w1 := w.stopEnter x.entrySignal cause Origin.internal
  let n := w1.eng.entry r
  if n.state = .cleared then w1.setState r { n with state := .locked } else w1

/-- Step 2 of R99 on one active route. -/
def Work.update (w0 : Work) (c : BodyCtx) (r : Nat) : Work :=
  match routeAt c.m r with
  | none => w0
  | some x =>
    let w := w0.count r
    let n := w.eng.entry r
    if n.state = .pointsCalled then (if n.expired .detection then w.detectExpiry c.m r else w)
    else if n.state = .locked ∧ n.cancelled = true then (if c.p.nibble x.entrySignal = 0 then w.toIdle c.m r 1 4 else w)
    else if n.state = .emergTiming then (if n.expired .emergency then w.emergExpiry c.m r else w)
    else
      let w1 := if n.state = .locked ∧ getBit w.eng.stop x.entrySignal = false ∧ clearing c r x = true then
          w.setState r { n with state := .cleared } else w
      let w2 := w1.approachEntry c r x
      let n2 := w2.eng.entry r
      if n2.state = .cleared ∧ n2.cancelled = true ∧ c.p.nibble x.entrySignal = 0 ∧ n.state = .cleared then w2.toIdle c.m r 1 4
      else
        let w3 := if (n2.state = .cleared ∨ n2.state = .approachLocked) ∧ entryPermits c.m x r x.clearAspect c.p = false then
            w2.provingLoss r x 1 else w2
        let n3 := w3.eng.entry r
        if n3.state = .approachLocked ∧ n3.expired .approach = true then w3.approachExpiry c.m r
        else if n3.state = .occupied then
          let w4 := if n3.expired .overlap then w3.overlapExpiry r else w3
          (w4.overlapLoad c r x).release c r x 97
        else w3

/-- Point calls in progress: each ends when its point reads the commanded position, and one of POINT_MOVE when its timer
expires (R112, R113). -/
def Work.pointCalls (w : Work) (c : BodyCtx) : Work :=
  w.eng.calls.foldl (fun u d =>
    if c.p.nibble d.point = d.position then u.endCall d 1
    else if d.route = 0xFFFF then
      if d.timer ≤ 1 then u.endCall d 2
      else { u with eng := { u.eng with calls := u.eng.calls.map (fun q => if q = d then { d with timer := d.timer - 1 } else q) } }
    else u) w

/-- Section resets in progress count one T1 cycle (R124). -/
def Work.countResets (w : Work) : Work :=
  { w with eng := { w.eng with resets := (w.eng.resets.map (fun q => { q with left := q.left - 1 })).filter (fun q => q.left != 0) } }

/-- R148: the marks taken in, after step 2. -/
def Work.forceMarks (w : Work) (c : BodyCtx) (marks : List Mark) : Work :=
  let sigs := marks.filterMap (fun k => match k with
    | .forced (.field f) => ((groups c.m).find? (fun g => g.first == f)).map (fun g => g.element)
    | .forced (.output k) => ((groups c.m).find? (fun g => g.kind == 0 && g.bit == k)).map (fun g => g.element)
    | _ => none)
  w.eng.actives.foldl (fun u r =>
    match routeAt c.m r with
    | none => u
    | some x =>
      let st := (u.eng.entry r).state
      if sigs.contains x.entrySignal ∧ (st = .cleared ∨ st = .approachLocked) then u.provingLoss r x 2 else u) w

/-! ## Output marks (R427, R428) -/

/-- The codes of OUTPUT_FAULT (Table 14.4). -/
def outFaultCode : OutFault → Nat
  | .stuckOn => 0
  | .elementClosed => 1
  | .elementOpen => 2

/-- An output mark taken in at an intake at instant `t` (Table 11.6, R428), with the lane that first marked it. STUCK_ON acts at
the module and not here. -/
def Work.outputMark (w : Work) (t : Nat) (first : Nat) (k : Mark) : Work :=
  match k with
  | .fault .stuckOn o => w.log 0x0701 Origin.internal [(24, 1, o), (25, 1, 0), (26, 1, first)]
  | .fault .elementClosed o =>
    ({ w with eng := { w.eng with faultSet := setBit w.eng.faultSet o true } }).log 0x0701 Origin.internal
      [(24, 1, o), (25, 1, 1), (26, 1, first)]
  | .fault .elementOpen o =>
    ({ w with eng := { w.eng with degradedSet := setBit w.eng.degradedSet o true } }).log 0x0701 Origin.internal
      [(24, 1, o), (25, 1, 2), (26, 1, first)]
  | .short o =>
    let recent := (w.eng.shorts.filter (fun p => t < p.2 + 60 * second)) ++ [(o, t)]
    let third := decide (3 ≤ (recent.filter (fun p => p.1 == o)).length)
    ({ w with eng := { w.eng with shorts := recent, shortSet := setBit w.eng.shortSet o true,
                                  faultSet := if third then setBit w.eng.faultSet o true else w.eng.faultSet } }).log
      0x0701 Origin.internal [(24, 1, o), (25, 1, 3), (26, 1, first)]
  | .forced _ => w

/-! ## Steps 3 and 4 of R99 -/

/-- A permissive command other than ROUTE_SET (R99, step 3). The ends that one POINT_UNBLOCK frees make one range, whether or not their numbers are
consecutive: one BLOCK_SET record with the first end and their number (R128; DESIGN CHOICE, log entry 148). -/
def Work.permissive (w : Work) (c : BodyCtx) (i : Intake) : Work :=
  match i.cmd with
  | .routeRelease r =>
    (match routeDef c.m r with
     | none => w
     | some x =>
       let n := w.eng.entry r
       if x.emergRel = true ∧ (n.state = .locked ∨ n.state = .cleared ∨ n.state = .approachLocked ∨ n.state = .occupied) then
         (w.setState r { n with state := .emergTiming, cancelled := false }).load r .emergency (routeCycles c.m x.emergTime 10)
       else w)
  | .pointMove p pos =>
    if getBit (w.eng.elemLock c.m ||| w.eng.reservation c.m) p then
      w.log 0x0104 Origin.internal [(24, 2, p), (26, 1, pos), (27, 1, 3), (28, 2, 0xFFFF)]
    else w.issue { point := p, position := pos, route := 0xFFFF, timer := 100 * systemParam c.m 4 }
  | .pointUnblock a b =>
    let hit := (bitList (w.eng.blocked c.m)).filter (fun e => decide (a ≤ e) && decide (e ≤ b))
    (match hit with
     | [] => w
     | f :: _ => ({ w with eng := { w.eng with block := w.eng.block &&& ~~~(bitSet 8192 hit) } }).log 0x0103 i.origin
         [(24, 2, f), (26, 1, 0), (27, 1, 0), (28, 2, hit.length)])
  | .sectionReset e =>
    { w with eng := { w.eng with resets := w.eng.resets.filter (fun q => q.element != e) ++ [{ element := e, left := 10 }] } }
  | _ => w

/-- ROUTE_SET at intake (R102). -/
def Work.routeSet (w : Work) (c : BodyCtx) (i : Intake) : Work :=
  match i.cmd with
  | .routeSet r =>
    (match routeDef c.m r with
     | none => w
     | some x =>
       let n := w.eng.entry r
       if n.state = .idle then
         let u := w.setState r { RouteEntry.idle with state := .requested }
         { u with eng := { u.eng with keys := assocSet u.eng.keys r i.key } }
       else if n.state = .locked ∧ getBit w.eng.stop x.entrySignal = true then w.stopLeave x.entrySignal 5 i.origin
       else w)
  | _ => w

/-! ## Steps 5 and 6 of R99 -/

/-- The availability check of one REQUESTED route (Table 3.4, R105, R109). -/
def Work.available (w : Work) (c : BodyCtx) (mask : BitVec 32768) (r : Nat) : Work :=
  let con := reqConflict c.m r
  let w1 := { w with left := r :: w.left }
  if (con &&& (w.eng.reservation c.m ||| w.eng.elemLock c.m)) ≠ 0 then w1.toIdle c.m r 2 4
  else if ((c.p.state ^^^ reqExpected c.m r) &&& reqMask c.m r &&& ~~~mask) ≠ 0 then w1.toIdle c.m r 3 4
  else if availabilityCheck c.p.state (reqExpected c.m r) (reqMask c.m r) mask c.p.elemLock con = false ∨ c.diverge.contains r then
    w1.toIdle c.m r 4 4
  else w1.setState r { w1.eng.entry r with state := .checked }

/-- A route in CHECKED: its points are called, or it returns to IDLE (Table 3.4, R112). -/
def Work.callPoints (w : Work) (c : BodyCtx) (r : Nat) (x : Route) : Work :=
  let need := x.points.filter (fun e => c.p.nibble (entryElem e) != entryPosition e)
  let ok := need.all (fun e =>
    match groupsFor c.m (entryElem e) with
    | [] => false
    | gs => gs.all (fun g => g.drivable (entryPosition e) c.p))
  if ok then
    let w1 := need.foldl (fun u e => u.issue { point := entryElem e, position := entryPosition e, route := r, timer := 0 }) w
    (w1.setState r { w1.eng.entry r with state := .pointsCalled }).load r .detection (routeCycles c.m x.detectTimeout 4)
  else w.toIdle c.m r 5 4

/-- Step 6 of R99 on one route, up to IN_POSITION. -/
def Work.advance (w : Work) (c : BodyCtx) (r : Nat) : Work :=
  match routeAt c.m r with
  | none => w
  | some x =>
    let w1 := if (w.eng.entry r).state = .checked then w.callPoints c r x else w
    let n := w1.eng.entry r
    if n.state = .pointsCalled ∧ x.points.all (fun e => c.p.nibble (entryElem e) == entryPosition e) = true then
      w1.setState r { n.noTimer with state := .inPosition }
    else w1

/-- The locking check of one route (Table 3.4, R105). With 1,024 routes locked it fails (R93; DEDUCED, log entry 113: R96 lets no route
come so far). -/
def Work.lockCheck (w : Work) (c : BodyCtx) (r : Nat) : Work :=
  let pass := lockingCheck c.p.state (reqExpected c.m r) (reqMask c.m r) c.p.elemLock (reqConflict c.m r)
  let full := decide (1024 ≤ (w.eng.actives.filter (fun q => (w.eng.entry q).state.isLocked)).length)
  if pass = false ∨ full = true then w.toIdle c.m r 7 4
  else if c.diverge.contains r then w.toIdle c.m r 4 4
  else w.setState r { w.eng.entry r with state := .locked, step := 0, stepSeen := false, overlapDone := false }

/-- The in-flight routes return to IDLE with a reason. -/
def Work.discardInFlight (w : Work) (m : Mem) (reason : Nat) : Work :=
  (w.eng.actives.filter (fun r => (w.eng.entry r).state.inFlight)).foldl (fun u r => u.toIdle m r reason 4) w

/-- One T1 body of the route engine in the order of R99: the commands and marks of its intake, at instant `t`. -/
def engineBody (c : BodyCtx) (t : Nat) (cmds : List Intake) (marks : List (Mark × Nat)) (e : Engine) : Work :=
  let w0 := if c.discard then (Work.start e).discardInFlight c.m 10 else Work.start e
  let w1 := cmds.foldl (fun w i => w.restrictive c i) w0
  let w2 := marks.foldl (fun w k => w.outputMark t k.2 k.1) w1
  let w3 := (w2.pointCalls c).countResets
  let w4 := w3.eng.actives.foldl (fun w r => w.update c r) w3
  let w5 := w4.forceMarks c (marks.map (·.1))
  let w6 := cmds.foldl (fun w i => w.permissive c i) w5
  let w7 := cmds.foldl (fun w i => w.routeSet c i) w6
  let mask := pointMask c.m
  let w8 := (w7.eng.requested.take 127).foldl (fun w r => w.available c mask r) w7
  let w9 := w8.eng.actives.foldl (fun w r => w.advance c r) w8
  match (w9.eng.positioned.filter (fun r => !w9.left.contains r)).head? with
  | some r => if c.noLock then w9 else w9.lockCheck c r
  | none => w9

/-! ## Faults, modes and discarded routes (Table 3.10) -/

/-- The reload of a route's running timer in full. -/
def reloadTimer (m : Mem) (x : Route) (n : RouteEntry) : Nat :=
  match n.timerKind with
  | .none => 0
  | .detection => routeCycles m x.detectTimeout 4
  | .approach => routeCycles m x.approachTime 3
  | .emergency => routeCycles m x.emergTime 10
  | .overlap => 100 * x.overlapTime

/-- Restart from Nadir through WARM: OCCUPIED routes keep STEP with STEP_SEEN cleared, timers are reloaded in full. -/
def Engine.restart (e : Engine) (m : Mem) : Engine :=
  { e with routes := e.routes.map (fun p =>
      match routeAt m p.1 with
      | none => p
      | some x => (p.1, { p.2 with stepSeen := p.2.stepSeen && p.2.state != .occupied, timer := reloadTimer m x p.2 })) }

/-! ## Command outputs (R111, R116, R123, R124) -/

/-- The elements that the station program commands through their own output (R30). -/
def commanded (m : Mem) : List (Nat × Elem) := (elems m).filter (fun e => e.2.cmdProg && e.2.permFirst != 0xFFFF && e.2.etype != 0)

/-- The command value of a point, crossing or section (step 7 of R99); `rel` are the crossings that the program releases. -/
def Engine.command (e : Engine) (m : Mem) (rel : List Nat) (n : Nat) (x : Elem) : Nat :=
  if x.etype = tyPoint then
    (if getBit e.block n then 0 else ((e.calls.find? (fun c => c.point == n)).map (·.position)).getD 0)
  else if x.etype = tyCrossing then flag (rel.contains n && !getBit (e.elemLock m) n)
  else if x.etype = tySection then flag (e.resets.any (fun q => q.element == n))
  else 0

/-- The aspect request of a signal (R116, R145): CLEAR_ASPECT of the route in CLEARED that it enters, when it is not in the
stop set; the route number comes with it. A route in APPROACH_LOCKED requests none (log entry 16). -/
def Engine.aspectRequest (e : Engine) (m : Mem) (sig : Nat) : Option (Nat × Nat) :=
  if getBit e.stop sig then none
  else
    (e.routes.filter (fun p => p.2.state == .cleared)).findSome? (fun p =>
      match routeAt m p.1 with
      | some x => if x.entrySignal = sig then some (p.1, x.clearAspect) else none
      | none => none)

/-- The aspect that the program commands (R116): the request, or a lower value that it chooses from the VALUE_SET of the
route's record. -/
def Engine.aspect (e : Engine) (m : Mem) (choice : List (Nat × Nat)) (sig : Nat) : Nat :=
  match e.aspectRequest m sig with
  | none => 0
  | some (r, a) =>
    match assoc choice sig with
    | some v =>
      if v < a ∧ (groupsFor m sig).any (fun g => g.records.any (fun p => p.route == r && bitAt p.valueSet v)) = true then v else a
    | none => a

end Sys2Proof.Machine
end

