-- ==== Sys2Proof/Machine/Tasks.lean ====
section
/-! DEFINITION. Function blocks, timers and edges (R149 to R157), and the bodies of the five tasks (R130, R131). -/

namespace Sys2Proof.Machine

/-! ## Timers and edges -/

/-- One execution of a timer (Table 4.5): the new ELAPSED and Q. -/
def timerStep (ty : TimerType) (now prev q : Bool) (elapsed preset delta : Nat) : Nat × Bool :=
  let run := min (elapsed + delta) preset
  match ty with
  | .ton => if !now then (0, false) else if !prev then (0, preset == 0) else (run, decide (preset ≤ run))
  | .tof =>
    if now then (0, true) else if prev then (0, preset != 0)
    else
      let e := if q then run else elapsed
      (e, decide (e < preset))
  | .tp =>
    if !q && now && !prev then (0, preset != 0) else if q then (run, decide (run < preset)) else (elapsed, false)

/-- The outputs of an edge detector (Table 4.4): RISE, FALL and CHANGE. -/
def edgeOutputs (prev x : Word) : Word × Word × Word := (x &&& ~~~prev, prev &&& ~~~x, x ^^^ prev)

/-- R153: at a first execution PREV takes the input before the comparison. -/
def edgeStep (first : Bool) (prev x : Word) : Word × Word × Word := edgeOutputs (if first then x else prev) x

/-- The initial data of every instance of an image (R150). -/
def instanceInit (m : Mem) : Mem :=
  (insts m).foldl (fun d i => Mem.store d i.off (slice (Config.initialData (imgId m) i.id) 0 i.size)) []

/-- The logical time of a task (R154). A TE run has that of its release, the planned time of the commit that released it; TB, which has no
planned start, takes that of T0 (DESIGN CHOICE, log entry 17). -/
def Program.logicalOf (p : Program) : Task → Nat
  | .t0 | .tb => p.logical.a
  | .t1 => p.logical.b
  | .t2 => p.logical.c
  | .te => ((p.teQueue.head?).map (·.logical)).getD p.logical.a

/-- A timer of an instance as its last execution left it: its type, IN and Q. -/
def Program.timerAt (p : Program) (i : Inst) (k : Nat) : TimerType × Bool × Bool :=
  ((p.timers.find? (fun y => y.1 == (i.id, k))).map (·.2)).getD (.ton, false, false)

/-- One timer of an instance executes (R72, R155, R156); one that R195 names starts at its PRESET. Its IN and its Q before its first execution are 0 and 0: R150 gives an instance the
image's initial values, and the manual gives these two no place in the data (DESIGN CHOICE, log entry 112). -/
def Program.timerExec (p : Program) (i : Inst) (delta k : Nat) (x : TimerType × Bool) : Program :=
  let a := i.off + 16 * k
  let st := (p.timerAt i k).2
  let preset := Mem.le p.data (a + 8) 8
  let elapsed := Mem.le p.data a 8
  let r := timerStep x.1 x.2 st.1 st.2 (if p.overdue.contains (i.id, k) then min elapsed preset else elapsed) preset delta
  { p with overdue := p.overdue.filter (fun y => y != (i.id, k)), data := Mem.store p.data a (b64 r.1), timers := ((i.id, k), (x.1, x.2, r.2)) :: p.timers.filter (fun y => y.1 != (i.id, k)) }

/-- Does the first-execution rule apply to a detector (R153): its first execution since its data was set, or since an entry from STOP? -/
def Program.firstExec (p : Program) (d : Nat × Nat) : Bool := !p.executed.contains d || (p.stopRule != .off && !p.sinceStop.contains d)

/-- The rule of the first step of a HOLD entered from STOP is over (R153). -/
def Program.endFirstStep (p : Program) : Program := { p with stopRule := if p.stopRule = .hold then .off else p.stopRule }

/-- A list of detectors with one more. -/
def addDetector (l : List (Nat × Nat)) (d : Nat × Nat) : List (Nat × Nat) := if l.contains d then l else l ++ [d]

/-- One edge detector of an instance executes (R151, R153): its outputs of Table 4.4 against PREV, and PREV takes its input. -/
def Program.edgeExec (p : Program) (i : Inst) (k : Nat) (x : Word) : Program :=
  let a := i.off + 16 * i.timers + 4 * k
  { p with
    data := Mem.store p.data a (leBytes 4 x.toNat)
    edges := ((i.id, k), edgeStep (p.firstExec (i.id, k)) (BitVec.ofNat 32 (Mem.le p.data a 4)) x) :: p.edges.filter (fun y => y.1 != (i.id, k))
    executed := addDetector p.executed (i.id, k)
    sinceStop := addDetector p.sinceStop (i.id, k) }

/-- May the code of an instance write the byte at an offset of its data: a PRESET or another variable, not an ELAPSED nor a PREV (R72)? -/
def Inst.writable (i : Inst) (off : Nat) : Bool :=
  decide (off < i.size) && (if off < 16 * i.timers then decide (8 ≤ off % 16) else decide (16 * i.timers + 4 * i.edges ≤ off))

/-- The code of an instance writes its data (R149). -/
def Program.writeData (p : Program) (i : Inst) (l : List (Nat × Nat)) : Program :=
  { p with data := (l.filter (fun x => i.writable x.1)).foldl (fun d x => Mem.store d (i.off + x.1) (b8 x.2)) p.data }

/-- One execution of a function block (R149): its code writes its variables, every timer advances by Δ (R155), with the IN that the code gives
it or else its previous one, and the detectors that the code calls execute (DEDUCED, log entry 133). -/
def Program.fbExec (p : Program) (m : Mem) (task : Task) (x : FbExec) : Program :=
  match instOf m x.inst with
  | none => p
  | some i =>
    let now := p.logicalOf task
    let delta := match assoc p.lastExec i.id with
      | some l => now - l
      | none => 0
    let p0 := p.writeData i x.writes
    let p1 := (List.range i.timers).foldl (fun q k =>
      q.timerExec i delta k (x.timers.getD k ((q.timerAt i k).1, (q.timerAt i k).2.1))) p0
    let p2 := (x.edges.zipIdx.filter (fun y => decide (y.2 < i.edges))).foldl (fun q y => match y.1 with
      | some w => q.edgeExec i y.2 w
      | none => q) p1
    { p2 with lastExec := assocSet p2.lastExec i.id now }

/-! ## Outputs of the bodies -/

/-- The groups of a signal's command: T0 writes them (R145). -/
def signalGroup (m : Mem) (g : Group) : Bool :=
  let x := elemAt m g.element
  decide (g.element < 8192) && x.etype == tySignal && x.permFirst == g.first && x.cmdProg

/-- The groups of the commands of points, crossings and sections: T1 writes them (R145). -/
def engineGroup (m : Mem) (g : Group) : Bool :=
  let x := elemAt m g.element
  decide (g.element < 8192) && (x.etype == tyPoint || x.etype == tyCrossing || x.etype == tySection) && x.permFirst == g.first && x.cmdProg

/-- A safe output that a remote central commands (R430). -/
def remoteGroup (m : Mem) (g : Group) : Bool := g.kind == 0 && (iomap m).any (fun x => x.kind == 0 && x.ioNo == g.bit)

/-- The outputs that the station program writes itself: neither element commands nor a remote central's. -/
def programGroup (m : Mem) (g : Group) : Bool := !signalGroup m g && !engineGroup m g && !remoteGroup m g

/-- What the program code of a body writes to an output, where it writes it. -/
def bodyOutput (b : BodyRun) (g : Group) : Option Nat :=
  if g.kind = 0 then (b.safeOut.find? (fun x => x.1 == g.bit)).map (fun x => flag x.2) else (b.fields.find? (fun x => x.1 == g.first)).map (·.2)

/-- The program's own outputs in a body, as the lane offers them (R20). -/
def programOutputs (m : Mem) (p : Snapshot) (b : BodyRun) : List (Nat × Nat) :=
  ((groups m).filter (programGroup m)).filterMap (fun g => (bodyOutput b g).map (fun v => (g.first, g.offer v p)))

/-- The output image of a T0 body: the signals under R116, then the program's own outputs. -/
def t0Image (m : Mem) (p : Snapshot) (e : Engine) (b : BodyRun) : TaskOut :=
  { task := .t0,
    fields := ((groups m).filter (signalGroup m)).map (fun g => (g.first, g.offer (e.aspect m b.aspects g.element) p)) ++
      programOutputs m p b,
    pubs := b.pubs, engine := none, events := [] }

/-- The output image of a T1 body: the route engine's work and its commands, then the program's own outputs. -/
def t1Image (m : Mem) (p : Snapshot) (w : Work) (b : BodyRun) : TaskOut :=
  { task := .t1,
    fields := ((groups m).filter (engineGroup m)).map
        (fun g => (g.first, g.offer (w.eng.command m b.release g.element (elemAt m g.element)) p)) ++ programOutputs m p b,
    pubs := b.pubs, engine := some w.eng, events := w.events }

/-! ## Task bodies -/

/-- Degradation is Nadir, with several lanes or one. -/
def Degradation.isNadir : Degradation → Bool
  | .nadir | .oneLane => true
  | _ => false

/-- The snapshot from which a body started, by its number. -/
def State.snapNo (s : State) (n : Nat) : Snapshot := (s.snapshots.find? (fun p => p.number == n)).getD s.snap

/-- The counts of a route engine body (R129). -/
def LaneCounters.ofWork (k : LaneCounters) (w : Work) : LaneCounters :=
  { k with
    routeReject := k.routeReject.zipIdx.map (fun x => x.1 + BitVec.ofNat 32 (w.rejects.filter (fun r => r == x.2 + 2)).length)
    routeDiverse := k.routeDiverse + BitVec.ofNat 32 (w.rejects.filter (fun r => r == 4)).length
    pointTimeout := k.pointTimeout + BitVec.ofNat 32 w.timeouts
    stopHold := k.stopHold + BitVec.ofNat 32 w.holds }

/-- The TASK field of a task (Table 2.10). -/
def taskCode : Task → Nat
  | .t0 => 0
  | .t1 => 1
  | .t2 => 2
  | .tb => 3
  | .te => 4

/-- The calls of a body with at most one of each instance: an instance executes once in a cycle of its task (R149). -/
def onceEach (l : List FbExec) : List FbExec := l.foldl (fun acc x => if acc.any (fun y => y.inst == x.inst) then acc else acc ++ [x]) []

/-- The function blocks that a body executes: the instances of its task that it called, each once (R130, R149). -/
def calledBlocks (m : Mem) (task : Task) (b : BodyRun) : List FbExec :=
  (onceEach b.blocks).filter (fun x => (instOf m x.inst).any (fun i => i.task == taskCode task))

def Program.runBlocks (p : Program) (m : Mem) (task : Task) (b : BodyRun) : Program :=
  (calledBlocks m task b).foldl (fun q x => q.fbExec m task x) p

/-- The published variables that the TE runs of one T1 cycle write, in the order of their release (R172). -/
def appendPubs : List (Nat × List (Nat × Nat)) → Nat → List (Nat × Nat) → List (Nat × List (Nat × Nat))
  | [], k, w => [(k, w)]
  | p :: r, k, w => if p.1 = k then (k, p.2 ++ w) :: r else p :: appendPubs r k w

/-- The front TE run has completed: it writes published variables only (Table 4.1) into the TE output image of the T1 cycle in which it
was released (R172). -/
def Program.teDone (p : Program) (b : BodyRun) : Program :=
  match p.teQueue with
  | [] => p
  | r :: rest => { p with teQueue := rest, tePubs := appendPubs p.tePubs r.ended b.pubs }

/-- The dropout descriptor in the input image of the front TE run (R172, Table 4.8); PENDING counts the runs still queued after it. -/
def Program.descriptor (p : Program) : Option Bytes :=
  p.teQueue.head?.map (fun r => b16 r.stream ++ b16 (r.peer % 1024) ++ b8 r.ageLimit ++ b8 (min 31 r.age) ++ b16 0 ++ b64 r.latchTime ++
    b16 r.dropoutNo ++ b16 (p.teQueue.length - 1) ++ b32 0)

/-- A lane with a task's body complete (R131). T1's body runs the route engine on what its intake took in. -/
def Lane.bodyDone (l : Lane) (s : State) (m : Mem) (task : Task) (p : Snapshot) (b : BodyRun) : Lane :=
  let prog := { (l.program.runBlocks m task b) with bodies := l.program.bodies.filter (fun x => x.1 != task) }
  match task with
  | .t0 => { l with program := { prog with done := prog.done ++ [t0Image m p l.engine b] } }
  | .t1 =>
    let c : BodyCtx := { m := m, p := p, diverge := b.meridianFails, noLock := s.images.takenProfile.isSome, discard := l.program.bodyUpset }
    let e := l.program.working.getD (l.engine, [])
    let w0 := engineBody c p.instant l.program.intake l.program.marks e.1
    let w := { w0 with events := e.2 ++ w0.events }
    { l with program := { prog with done := prog.done ++ [t1Image m p w b], intake := [], marks := [], bodyUpset := false, working := none },
             counters := l.counters.ofWork w }
  | .t2 => { l with program := { prog with done := prog.done ++ [{ task := .t2, fields := programOutputs m p b, pubs := b.pubs, engine := none, events := [] }] } }
  | .te =>
    { l with program := prog.teDone b, counters := { l.counters with teRuns := inc l.counters.teRuns } }
  | .tb => { l with program := { prog with bodies := l.program.bodies } }

/-- The breakpoints (R165) that the executions of a body met. -/
def breaksMet (bps : List Nat) (l : List FbExec) : List Nat := (l.map (·.inst)).filter (fun i => bps.contains i)

/-- May a body of the task complete in the lane now? TB and TE have no body of their own in the list: TB runs while the program executes,
and a TE run, the front of the TE queue, in executed cycles only (R162, R163). Bodies of T1 and T2 also run on when a step of HOLD ends
(R164). Which core runs which of several ready bodies Garpo assigns (R131). -/
def State.bodyReady (s : State) (l : Lane) (task : Task) : Bool :=
  let runs := s.hasImage && s.control.executing && !s.control.degradation.isNadir
  match task with
  | .te => runs && l.program.teQueue != []
  | .tb => runs
  | _ => l.program.bodies.any (fun x => x.1 == task)

/-- The snapshot in the committed part of a task's input image (R137, R172): for TB that of its image (DESIGN CHOICE, log entry 132). -/
def State.bodySnapshot (s : State) (l : Lane) (task : Task) : Nat :=
  match task with
  | .te => ((l.program.teQueue.head?).map (·.snapshot)).getD s.snap.number
  | .tb => ((l.program.inImages.find? (fun x => x.1 == task)).map (·.2.snapshot)).getD s.snap.number
  | _ => ((l.program.bodies.find? (fun x => x.1 == task)).map (·.2)).getD s.snap.number

/-- TASK_BODY_COMPLETE: a body in progress in a voting lane completes its output image. -/
def State.taskBody (s : State) (i : LaneId) (task : Task) (b : BodyRun) : State :=
  let l := s.lane i
  if l.mode = .voting ∧ s.bodyReady l task = true then
    let s1 := s.setLane i (l.bodyDone s s.img task (s.snapNo (s.bodySnapshot l task)) b)
    let met := breaksMet s.control.breakpoints (calledBlocks s.img task b)
    match s.control.mode, met with
    | .hold, _ :: _ =>
      if i = s.lead then
        { (met.foldl (fun u k => u.event 0x0203 Origin.internal
            [(24, 4, k), (28, 4, l.program.logical.a / s.t0)]) s1) with control := { s1.control with stepBroken := true } }
      else s1
    | _, _ => s1
  else s

/-- TASK_BODY_COMPLETE (R131). -/
def execTaskBodyComplete (t : Nat) (lane : LaneId) (task : Task) (b : BodyRun) (s : State) : Host.Outcome State Fault Refusal :=
  run t (fun u => u.taskBody lane task b) s

end Sys2Proof.Machine
end

