-- ==== Sys2Proof/Machine/Latch.lean ====
section
/-! DEFINITION. Steps 1 to 4 of Table 4.2: closing images, the latch of the field inputs, decoding the state vector, Meridian's
re-evaluation (R125) and the vote vector (Table 2.5). -/

namespace Sys2Proof.Machine

/-! ## The latch of a stream (R139, R167 to R173) -/

/-- The age limit of a stream (R168). -/
def ageLimit (m : Mem) (x : Stream) : Nat := if x.ageLimit = 0 then systemParam m 6 else x.ageLimit

/-- What a latch at instant `t` takes of a stream: the payload stamped before `t`, and its age. -/
def RxStream.taken (x : RxStream) (t : Nat) : Option Stamped × Nat :=
  match x.ready with
  | some r => if r.stamp < t then (some r, x.age) else (x.previous, x.prevAge)
  | none => (none, x.age)

/-- The stream after a latch (R168, R169, R173). -/
def RxStream.latch (x : RxStream) (m : Mem) (e : Stream) (t : Nat) : RxStream :=
  let k := x.taken t
  let y := { x with latchAge := k.2, maxAge := max x.maxAge k.2, returned := false }
  match k.1 with
  | none => if x.subst then { y with read := substPayload m e } else y
  | some p =>
    if k.2 ≤ ageLimit m e then { y with read := p.payload, subst := false, never := false, returned := x.subst && !x.never }
    else { y with read := substPayload m e, subst := true, dropouts := if x.subst then x.dropouts else (x.dropouts + 1) % 65536 }

/-- Did this latch bring a dropout event (R169)? -/
def droppedOut (old new : RxStream) : Bool := !old.subst && new.subst

/-- The stream status word (Table 4.7). -/
def RxStream.status (x : RxStream) : Word :=
  BitVec.ofNat 32 (min 31 x.latchAge + 32 * flag x.subst + 64 * flag x.never + 128 * flag x.returned + 65536 * x.dropouts)

/-- A stream as at entry to WARM (R168): SUBST and NEVER are 1; its age is 31 until a frame comes (DESIGN CHOICE, log entry 18). -/
def RxStream.fresh (m : Mem) (e : Stream) : RxStream :=
  { id := e.id, ready := none, previous := none, age := 31, prevAge := 31, read := substPayload m e, latchAge := 31, maxAge := 31,
    subst := true, never := true, returned := false, dropouts := 0, accepted := false, isClosed := false, aged := false, check := 0, split := 0 }

/-! ## Decoding (R57, R77, R324, R418) -/

/-- The bit offsets that elements, command fields and the I/O map use in a stream's payload. -/
def streamOffsets (m : Mem) (id : Nat) : List Nat :=
  ((elems m).filter (fun e => e.2.source == 1 && e.2.srcId == id)).map (fun e => e.2.srcBit) ++
  ((perms m).filter (fun p => p.2.kind == 1 && p.2.stream == id)).map (fun p => p.2.bit) ++
  ((iomap m).filter (fun x => x.stream == id)).map (fun x => x.bit)

/-- A stream laid out in the object controller profile (R323): nothing of it lies in the profile word (DEDUCED, log entry 19: the
image has no field that says so). The 32 bytes of a KI-40 poll or answer have no profile word: LIVE stands before them (Table 17.6). -/
def inProfile (m : Mem) (id : Nat) : Bool := imgMode m != 1 && (streamOffsets m id).all (fun b => decide (32 ≤ b))

/-- The nibble that a safe input pair gives (Table 11.3); `prev` is the element's nibble in the previous committed snapshot. -/
def inputNibble (level : BitVec 64) (e : Elem) (prev : Nat) : Nat :=
  let a := getBit level e.srcId
  let b := getBit level (bitsAt e.srcBit 4 6)
  match bitsAt e.srcBit 0 4 with
  | 0 => flag a
  | 1 => if a && !b then 1 else if !a && b then 0 else 2
  | 2 => if a && !b then 1 else if !a && b then 2 else if !a && !b then 3 else 0
  | 3 => if a then bitsAt e.srcBit 12 4 else 0
  | 4 => if a && !b then 3 else if !a && b then 1 else if a && b then 0
         else if prev = 1 ∨ prev = 2 then 2 else if prev = 3 ∨ prev = 4 then 4 else 0
  | _ => 0

/-- Does the decoding rule of an element read the input (R418)? SECOND counts for the two-input rules only. -/
def Elem.readsInput (e : Elem) (input : Nat) : Bool :=
  e.source == 2 && (e.srcId == input || ([1, 2, 4].contains (bitsAt e.srcBit 0 4) && bitsAt e.srcBit 4 6 == input))

/-- What the safe inputs of an element deliver: 0 for a code that its type does not have (R57), as under a RULE that does not match it. -/
def inputCode (level : BitVec 64) (e : Elem) (prev : Nat) : Nat :=
  if nibbleLegal e.etype (inputNibble level e prev) then inputNibble level e prev else 0

/-- What a stream's payload delivers for an element: its nibble, 0 for a reserved code and under R324. -/
def streamNibble (profile : Bool) (read : BitVec 8192) (e : Elem) : Nat :=
  let v := getField read e.srcBit 4
  if (profile && getField read 0 8 != 1) || !nibbleLegal e.etype v then 0 else v

/-- The nibble of an element in a lane's latch. -/
def latchNibble (m : Mem) (streams : List RxStream) (level : BitVec 64) (prev : Snapshot) (n : Nat) (e : Elem) : Nat :=
  if e.source = 1 then
    match streams.find? (fun x => x.id == e.srcId) with
    | some x => if x.subst then e.subst else streamNibble (inProfile m x.id) x.read e
    | none => e.subst
  else if e.source = 2 then inputCode level e (prev.nibble n)
  else 0

/-- The proposed state vector (step 3 of Table 4.2). -/
def latchState (m : Mem) (streams : List RxStream) (level : BitVec 64) (prev : Snapshot) : BitVec 32768 :=
  (elems m).foldl (fun v e => setNibble v e.1 (latchNibble m streams level prev e.1 e.2)) 0

/-- The filtered levels that a latch at instant `t` takes: those of the last latch with the changes stamped before `t` (R139). -/
def Inputs.levelAt (x : Inputs) (t : Nat) : BitVec 64 :=
  x.changes.foldl (fun v c => if c.stamp < t then setBit v c.input c.level else v) x.latched

/-- The elements to which a reserved code, or a wrong PROFILE, has come since the last latch at `p` (R57): counted at the latch at `t` that
takes the frame or the change of input (log entry 20). -/
def badNibbles (m : Mem) (x : Inputs) (streams : List RxStream) (prev : Snapshot) (p t : Nat) : Nat :=
  ((elems m).filter (fun e =>
    (e.2.source == 1 && streams.any (fun y => y.id == e.2.srcId && !y.subst &&
      (y.taken t).1.any (fun r => decide (p ≤ r.stamp) && decide (r.stamp < t)) &&
      ((inProfile m y.id && getField y.read 0 8 != 1) || !nibbleLegal e.2.etype (getField y.read e.2.srcBit 4)))) ||
    (x.changes.any (fun q => e.2.readsInput q.input && decide (p ≤ q.stamp) && decide (q.stamp < t)) &&
      !nibbleLegal e.2.etype (inputNibble (x.levelAt t) e.2 (prev.nibble e.1))))).length

/-! ## Outputs in a vector -/

/-- The force that names an output (R224). -/
def Group.force (g : Group) : Force := if g.kind = 0 then .output g.bit else .field g.first

/-- The value of an output in a vector. -/
def outValue (safeOut : BitVec 32) (payloads : List (Nat × BitVec 8192)) (g : Group) : Nat :=
  if g.kind = 0 then flag (getBit safeOut g.bit) else getField (assocD payloads g.stream 0) g.bit g.width

/-- A vector's outputs with one of them set. -/
def putOut (o : BitVec 32 × List (Nat × BitVec 8192)) (g : Group) (v : Nat) : BitVec 32 × List (Nat × BitVec 8192) :=
  if g.kind = 0 then (setBit o.1 g.bit (v != 0), o.2)
  else (o.1, o.2.map (fun p => if p.1 = g.stream then (p.1, setField p.2 g.bit g.width v) else p))

/-- Outputs with the given groups at their restrictive value. -/
def restrictGroups (o : BitVec 32 × List (Nat × BitVec 8192)) (gs : List Group) : BitVec 32 × List (Nat × BitVec 8192) :=
  gs.foldl (fun x g => putOut x g g.restrictive) o

/-- The last snapshot of a planned instant: mini-votes stand between the planned instants. -/
def State.lastCycle (s : State) : Snapshot := (s.snapshots.find? (fun p => !p.mini)).getD Snapshot.none

/-- The bits that a KIND 1 entry reports (Table 11.7): of SRC_ID and of SECOND. -/
def reportedLevels (rule nib : Nat) : Bool × Bool :=
  match rule with
  | 0 => (nib == 1, false)
  | 1 => (nib == 1, nib == 0)
  | 2 => (nib == 1, nib == 2)
  | 3 => (nib != 0, false)
  | 4 => (nib == 3, nib == 1)
  | _ => (false, false)

/-- The report bit of a safe input (R435), by the element that reads it as SRC_ID or SECOND. -/
def reportBit (m : Mem) (p : Snapshot) (si : Nat) : Bool :=
  match (elems m).find? (fun e => e.2.readsInput si) with
  | none => false
  | some e =>
    let r := reportedLevels (bitsAt e.2.srcBit 0 4) (p.nibble e.1)
    if e.2.srcId = si then r.1 else r.2

/-- The report fields of a stream (R434), from the snapshot of the previous planned instant. -/
def reportFields (m : Mem) (p : Snapshot) (id : Nat) (x : BitVec 8192) : BitVec 8192 :=
  ((iomap m).filter (fun e => e.stream == id)).foldl (fun v e =>
    if e.kind = 1 then setField v e.bit 1 (flag (reportBit m p e.ioNo))
    else if e.kind = 2 then (List.range e.ioNo).foldl (fun u k => setField u (e.bit + 4 * k) 4 (p.nibble (e.element + k))) v
    else v) x

/-- LIVE of the profile word (R436). -/
def State.liveFlag (s : State) : Bool :=
  s.control.power == .live && !s.control.degradation.isNadir && s.safeIo.supply == .isClosed

/-- An outgoing payload before its command fields: the profile word (R324) and the report fields. -/
def basePayload (m : Mem) (live : Bool) (p : Snapshot) (x : Stream) : BitVec 8192 :=
  reportFields m p x.id (if inProfile m x.id then BitVec.ofNat 8192 (1 + 256 * flag live) else 0)

/-- The read bit of a KIND 0 output (R430): the bit, SUBST 0 and LIVE. -/
def remoteBit (m : Mem) (streams : List RxStream) (k : Nat) : Bool :=
  match (iomap m).find? (fun x => x.kind == 0 && x.ioNo == k) with
  | none => false
  | some x =>
    match streams.find? (fun y => y.id == x.stream) with
    | none => false
    | some y => getBit y.read x.bit && !y.subst && getBit y.read 8

/-- May the program's outputs differ from their restrictive values: not in STOP, in Nadir or without an image. -/
def State.outputsRun (s : State) : Bool := s.hasImage && s.control.mode != .stop && !s.control.degradation.isNadir

/-- The value of an output that a lane proposes in the vote of the latch `p`, before forces and holds (R144, R430, R428; in WARM every safe
output is 0). -/
def Lane.proposed (l : Lane) (s : State) (m : Mem) (streams : List RxStream) (p : Snapshot) (g : Group) : Nat :=
  let v :=
    if remoteGroup m g then
      (if remoteBit m streams g.bit && g.drivable 1 p && !s.control.degradation.isNadir then 1 else g.restrictive)
    else if s.outputsRun then assocD l.program.fields g.first g.restrictive
    else g.restrictive
  if g.kind = 0 ∧ (s.control.power ≠ .live ∨ getBit (l.engine.faultSet ||| l.engine.shortSet) g.bit = true) then 0 else v

/-- R125: the outputs that prove an element of the list and whose value is not drivable in the snapshot. -/
def undrivable (gs : List Group) (changed : List Nat) (value : Group → Nat) (p : Snapshot) : List Group :=
  gs.filter (fun g => g.records.any (fun r => r.prove.any (fun x => changed.contains x.1)) && !g.drivable (value g) p)

/-- The elements whose nibbles differ between two state vectors. -/
def changedElems (a b : BitVec 32768) : List Nat :=
  if a = b then [] else (List.range 8192).filter (fun e => nibbleOf a e != nibbleOf b e)

/-- R174: the outputs from which the substitute values of the changed elements withdraw a permission: some value of theirs is drivable in
the snapshot `p`, and no longer in `p'`. -/
def withdrawn (gs : List Group) (changed : List Nat) (p p' : Snapshot) : List Group :=
  gs.filter (fun g => g.records.any (fun r => r.prove.any (fun x => changed.contains x.1)) &&
    (List.range 16).any (fun v => g.drivable v p && !g.drivable v p'))

/-- The outputs that a lane's holds (R147) and pending forces keep restrictive. A hold counts from its commit to the commit that ends it. -/
def Forces.keeps (f : Forces) (x : Force) : Bool := f.holds.any (fun h => h.1 == x) || f.pending.any (fun h => h.1 == x)

/-! ## The engine that a vote sees -/

/-- Routes that a body locked although they had been discarded meanwhile are not locked (R241). -/
def undoLocks (old new : Engine) : Engine :=
  { new with
    keys := [],
    routes := new.routes.map (fun p =>
      let o := old.entry p.1
      if p.2.state.isLocked ∧ o.state.isLocked = false then
        (p.1, { p.2.noTimer with state := RouteState.inPosition, cancelled := false }) else p) }

/-- The Almanac events of a closed T1 image, without those of the locks that are undone. -/
def Lane.closedEvents (l : Lane) (d : TaskOut) : List Queued :=
  if l.program.upset then
    d.events.filter (fun q =>
      let w := (q.payloads.headD 0).toNat
      !(q.code == 0x0101 && w / 65536 % 256 == RouteState.locked.code && !(l.engine.entry (w % 65536)).state.isLocked))
  else d.events

/-- The route engine of a lane takes the state that its closed T1 image holds. -/
def Lane.closeEngine (l : Lane) : Lane :=
  match l.program.closed.bind (·.engine) with
  | some e => { l with engine := if l.program.upset then undoLocks l.engine e else e, program := { l.program with closed := none } }
  | none => { l with program := { l.program with closed := none } }

/-- What the latch and the assembly give a lane: its vector and its forces. -/
structure Assembled where
  vector : Vector
  forced : List Force
deriving DecidableEq, Repr

/-- A time of a lane as LANE_TIME holds it: bits 31:0 in units of 40 ns (Table 2.5). -/
def laneWord (x : Int) : Word := BitVec.ofInt 32 (x / 40)

/-- Steps 3 and 4 of Table 4.2 in lane `i`, at its planned instant `t`, from the streams as latched; `dropped` are those with a dropout
event. -/
def Lane.assemble (l : Lane) (s : State) (i : LaneId) (m : Mem) (streams : List RxStream) (dropped : List Nat) (t : Nat) : Assembled :=
  let st := latchState m streams l.inputs.latched s.snap
  let gs := groups m
  let outs0 := (outStreams m).map (fun x => (x.id, basePayload m s.liveFlag s.lastCycle x))
  let p' : Snapshot := { s.snap with state := st }
  let outs1 := gs.foldl (fun o g => putOut o g (l.proposed s m streams p' g)) ((0 : BitVec 32), outs0)
  let changed := changedElems s.snap.state st
  let lost := if dropped.isEmpty then [] else changed.filter (fun n => (elemAt m n).source == 1 && dropped.contains (elemAt m n).srcId)
  let bad := undrivable gs changed (outValue outs1.1 outs1.2) p' ++ (if lost.isEmpty then [] else withdrawn gs lost s.snap p')
  let kept := gs.filter (fun g => l.forces.keeps g.force)
  let outs2 := restrictGroups outs1 (bad ++ kept)
  let e := l.closeEngine.engine
  { vector := { number := l.lastNumber + 1, laneTime := laneWord (Int.ofNat t + l.offset), lane := i, mini := false, safeOut := outs2.1, state := st,
                elemLock := e.elemLock m, routeLock := e.routeLock, payloads := outs2.2, forces := [], forceAll := false, armPass := none,
                abortSeen := false },
    forced := (bad.map (·.force)).eraseDups }

/-! ## Closing images (step 1) -/

def ms : Nat := 1000000

/-- Does a cycle of the task end at the T0 start whose place in its 10 ms is `phase`? TE closes with the T1 cycle. -/
def cycleEnds (phase : Nat) : Task → Bool
  | .t0 => true
  | .t1 | .te => phase % ms == 0
  | .t2 => phase % (10 * ms) == 0
  | .tb => false

/-- R132: a body of a cycle that ends now is not complete; a TE run is due at the end of the T1 cycle after the one of its release (R172).
R164 lifts the rule in HOLD. -/
def Program.late (p : Program) : Bool :=
  p.bodies.any (fun b => cycleEnds p.phase b.1) || (p.phase % ms == 0 && p.teQueue.any (fun r => r.ended != 0))

/-- Values replace earlier ones of the same number. -/
def assocAll (old new : List (Nat × Nat)) : List (Nat × Nat) := new.foldl (fun g x => assocSet g x.1 x.2) old

/-- A T1 cycle ends: the TE output image of the runs released in the T1 cycle before it closes, and the runs and images of the cycle that
ends are one cycle older (R172). -/
def Program.closeTe (p : Program) : Program :=
  let due := p.tePubs.filter (fun x => x.1 != 0)
  { p with
    pubs := due.foldl (fun g x => assocAll g x.2) p.pubs
    tePubs := (p.tePubs.filter (fun x => x.1 == 0)).map (fun x => (1, x.2))
    teQueue := p.teQueue.map (fun r => { r with ended := r.ended + 1 }) }

/-- Does a T1 cycle end at this planned start? -/
def Program.endsT1 (p : Program) (all : Bool) : Bool := all || p.phase % ms == 0

/-- The images of the cycles that end close: their output fields and published variables replace the earlier ones (R144, R146). With `all`
every complete image closes, when RUN resumes from HOLD (Table 4.6; log entry 24). -/
def Program.close (p : Program) (all : Bool) : Program :=
  let ends := fun (d : TaskOut) => all || cycleEnds p.phase d.task
  let now := p.done.filter ends
  let q := { p with
    fields := now.foldl (fun f d => assocAll f d.fields) p.fields
    pubs := now.foldl (fun f d => assocAll f d.pubs) p.pubs
    done := p.done.filter (fun d => !ends d)
    closed := now.find? (fun d => d.task == .t1) }
  if p.endsT1 all then q.closeTe else q

/-- R159: the bodies in progress are abandoned with their output images; the output fields take their restrictive values until an image closes
again, and the published variables keep their last closed values. -/
def Program.abandon (p : Program) : Program :=
  { p with bodies := [], done := [], fields := [], teQueue := [], tePubs := [], intake := [], marks := [], working := none }

end Sys2Proof.Machine
end

