-- ==== Sys2Proof/Machine/Vote.lean ====
section
/-! DEFINITION. The decisions of Zenith (06): agreement and straddles (R142, R213), Table 6.2, R217, R234, R235, the link rule
(R214) and the mini-vote (R222), as functions of what a lane holds. -/

namespace Sys2Proof.Machine

/-- What a lane decides at a cycle-end vote; a straddle counts where Table 4.3 says so. -/
inductive Ballot where
  /-- Commit the vector, with lanes excluded in this vote, and whether this lane adopted straddled nibbles or outputs. -/
  | commit (v : Vector) (excluded : List (LaneId × Cause)) (straddled : Bool)
  /-- Isolate, with no commit; whether a vector was missing. -/
  | isolate (missing : Bool)
  /-- Enter Nadir by a row of Table 6.6, with lanes excluded in this vote; a vector is committed under R234 or R235. -/
  | nadir (row : Nat) (v : Vector) (excluded : List (LaneId × Cause))
  /-- Nothing commits and every lane isolates (R234). -/
  | fall
deriving DecidableEq, Repr

/-! ## The words on the links -/

/-- The codes of Table 6.4. -/
def Cause.code : Cause → Nat
  | .vote => 1
  | .link => 2
  | .deadline => 3
  | .pace => 4
  | .memory => 5
  | .intake => 6
  | .admission => 7
  | .arm => 8
  | .watchdog => 9
  | .time => 10
  | .force => 11
  | .selfTest => 12

def causeCode (c : Option Cause) : Nat := (c.map Cause.code).getD 0

/-- The words of a bit vector, the least significant first. -/
def vecWords {n : Nat} (x : BitVec n) (k : Nat) : List Word := (List.range k).map (fun j => BitVec.ofNat 32 (x.toNat >>> (32 * j)))

/-- A vote vector as its words (R61, Table 2.5); `len` gives the length of a payload in words. -/
def Vector.words (v : Vector) (len : Nat → Nat) : List Word :=
  [BitVec.ofNat 32 v.number, BitVec.ofNat 32 (v.number / 2 ^ 32), v.laneTime, BitVec.ofNat 32 (v.lane.index + 4 * flag v.mini), v.safeOut] ++
  (if v.mini then vecWords v.routeLock 128
   else vecWords v.state 1024 ++ vecWords v.elemLock 256 ++ vecWords v.routeLock 128 ++ v.payloads.flatMap (fun p => vecWords p.2 (len p.1)))

/-- The fields that a force list names. -/
def Vector.fieldNames (v : Vector) : List Nat :=
  v.forces.filterMap (fun x => match x with
    | .field n => some n
    | .output _ => none)

/-- Halves in words, a missing last one padded with 0xFFFF. -/
def halfWords : List Nat → List Word
  | [] => []
  | [a] => [BitVec.ofNat 32 (a + 65536 * 0xFFFF)]
  | a :: b :: r => BitVec.ofNat 32 (a + 65536 * b) :: halfWords r

/-- The force list that follows the vector of a mini-vote (R224, Table 6.3). -/
def Vector.forceWords (v : Vector) : List Word :=
  let names := if v.forceAll then [] else v.fieldNames
  BitVec.ofNat 32 ((if v.forceAll then 0xFFFF else names.length) + 65536 * (v.number % 65536)) :: halfWords names

/-- A verdict word or a fault notice (Table 6.1). -/
def Verdict.word (v : Verdict) : Word :=
  BitVec.ofNat 32 (v.lane.index + 4 * packBits [v.rx.a, v.rx.b, v.rx.c, v.committed, false, v.notice] + 256 * causeCode v.cause +
    65536 * (v.snapLow % 65536))

/-! ## Agreement -/

/-- The elements whose input changed within [s − 1 µs, s + 1 µs) in a lane's stamps (R142). -/
def Lane.stray (l : Lane) (t : Nat) : List Nat :=
  (l.inputs.elemStamp.filter (fun x => decide (t ≤ x.2 + 1000) && decide (x.2 < t + 1000))).map (·.1)

/-- The output groups whose value differs between two vectors. -/
def diffGroups (gs : List Group) (a b : Vector) : List Group :=
  gs.filter (fun g => outValue a.safeOut a.payloads g != outValue b.safeOut b.payloads g)

/-- The voted words of two vectors other than the state vector and the outputs of the groups `gs`. -/
def sameRest (gs : List Group) (a b : Vector) : Bool :=
  let o := gs.foldl (fun o g => putOut o g (outValue b.safeOut b.payloads g)) (a.safeOut, a.payloads)
  a.number == b.number && a.mini == b.mini && a.elemLock == b.elemLock && a.routeLock == b.routeLock && o.1 == b.safeOut && o.2 == b.payloads

/-- Equal in every voted bit (Table 6.2, "agree exactly"). -/
def Vector.same (a b : Vector) : Bool := a.state == b.state && sameRest [] a b

/-- R142, R213: a vector's differences from the majority are input straddles and force straddles. -/
def straddleOnly (gs : List Group) (stray : List Nat) (x w : Vector) : Bool :=
  let nibs := changedElems x.state w.state
  let d := diffGroups gs x w
  nibs.all (fun e => stray.contains e) && sameRest d x w &&
  d.all (fun g => outValue x.safeOut x.payloads g == g.restrictive && g.records.any (fun r => r.prove.any (fun y => nibs.contains y.1)))

/-- Bit by bit majority of three payload lists of one shape. -/
def majPayloads : List (Nat × BitVec 8192) → List (Nat × BitVec 8192) → List (Nat × BitVec 8192) → List (Nat × BitVec 8192)
  | p :: ps, q :: qs, r :: rs => (p.1, maj3 p.2 q.2 r.2) :: majPayloads ps qs rs
  | _, _, _ => []

/-- The number that at least two propose, else the first. -/
def majNumber (a b c : Nat) : Nat := if b = c then b else a

/-- The bitwise majority of three vectors. -/
def majVector (a b c : Vector) : Vector :=
  { a with number := majNumber a.number b.number c.number, safeOut := maj3 a.safeOut b.safeOut c.safeOut, state := maj3 a.state b.state c.state,
           elemLock := maj3 a.elemLock b.elemLock c.elemLock, routeLock := maj3 a.routeLock b.routeLock c.routeLock,
           payloads := majPayloads a.payloads b.payloads c.payloads }

/-- R217: two vectors settled: a straddled nibble keeps the value of the previous snapshot, an output that differs by force
straddle takes its restrictive value; nothing where they disagree. -/
def settle (gs : List Group) (stray : List Nat) (prev : Snapshot) (a b : Vector) : Option Vector :=
  let nibs := changedElems a.state b.state
  let d := diffGroups gs a b
  let ok := nibs.all (fun e => stray.contains e) && sameRest d a b &&
    d.all (fun g => (outValue a.safeOut a.payloads g == g.restrictive || outValue b.safeOut b.payloads g == g.restrictive) &&
      g.records.any (fun r => r.prove.any (fun y => nibs.contains y.1)))
  if ok then
    let o := restrictGroups (a.safeOut, a.payloads) d
    some { a with state := nibs.foldl (fun v e => setNibble v e (prev.nibble e)) a.state, safeOut := o.1, payloads := o.2 }
  else none

/-! ## What a lane holds -/

/-- How far one LANE_TIME lies after another, in units of 40 ns; the field holds bits 31:0 only, so the nearer way round counts. -/
def timeDiff (x m : Word) : Int := (x - m).toInt

/-- R212: a LANE_TIME more than 1 µs from the median. -/
def timeOff (x m : Word) : Bool := decide (25 < (timeDiff x m).natAbs)

/-- The median of three LANE_TIMEs. -/
def medianTime (a b c : Word) : Word := a + BitVec.ofInt 32 (median3 0 (timeDiff b a) (timeDiff c a))

/-- What a vote gives of a lane: a lane that the others exclude at this vote, or have excluded in it, counts as one that sent a notice. -/
def State.heard (s : State) (i j : LaneId) : Received :=
  match (s.lane j).expel, (s.lane j).mode with
  | some c, _ => .notice c
  | none, .excluded => .notice ((s.lane j).cause.getD .vote)
  | none, _ => (s.lane i).vote.rx.get j

/-- The lanes whose vectors count (Table 6.5) or that have left VOTING without a commit excluding them. -/
def State.unexcluded (s : State) : List LaneId :=
  allLanes.filter (fun i => (s.lane i).mode = .voting || (s.lane i).mode = .isolated)

/-- The deadline of the cycle-end vote after its planned instant, in tenths of a nanosecond (R210). -/
def State.voteBound (s : State) : Nat := 13 * (4 * (1413 + (if s.hasImage then imgOutWords s.img else 0)) + 6) + 10000

/-- Since the planned instant in the lane's own time, in tenths of a nanosecond. -/
def State.sinceInstant (s : State) (i : LaneId) : Int :=
  10 * (Int.ofNat s.now + (s.lane i).offset - Int.ofNat (s.lane i).vote.instant)

/-- Is the deadline of the cycle-end vote past (R210)? -/
def State.pastDeadline (s : State) (i : LaneId) : Bool := decide (Int.ofNat s.voteBound ≤ s.sinceInstant i)

/-- Is the time for the other lane's verdict past in reduced operation: 1 µs after the deadline (R217)? -/
def State.pastVerdict (s : State) (i : LaneId) : Bool := decide (Int.ofNat (s.voteBound + 10000) < s.sinceInstant i)

/-- Has lane `j` entered VOTING at the last cycle-end vote, in which it had no part (R244)? -/
def State.newcomer (s : State) (j : LaneId) : Bool :=
  (s.lane j).mode == .voting && allLanes.any (fun i => decide ((s.lane j).vote.instant < (s.lane i).vote.instant))

/-- The other lanes whose vectors lane `i` waits for in its vote: not excluded before it, and not joined since (R244). -/
def State.partners (s : State) (i : LaneId) : List LaneId := i.others.filter (fun j => s.unexcluded.contains j && !s.newcomer j)

/-- The other lanes of which lane `i` awaits a vector in its vote, up to its deadline: those that take part, those isolated, and those that
another lane has excluded in this vote. -/
def State.awaited (s : State) (i : LaneId) : List LaneId :=
  i.others.filter (fun j => (s.lane j).mode == .isolated ||
    ((s.lane j).vote.instant == (s.lane i).vote.instant && ((s.lane j).mode == .voting || (s.lane j).mode == .excluded)))

/-- Does the lane hold a vector or a notice of every lane of which it awaits one (R211)? -/
def State.holdsAll (s : State) (i : LaneId) : Bool := (s.awaited i).all (fun j => (s.lane i).vote.rx.get j != .nothing)

/-! ## The content of a Nadir snapshot (R234) -/

/-- The nibble that at least two lanes propose, or 0x0. -/
def majNibbles : List (BitVec 32768) → BitVec 32768
  | [a, b] => (changedElems a b).foldl (fun v e => setNibble v e 0) a
  | [a, b, c] =>
    ((changedElems a b) ++ (changedElems a c)).foldl (fun v e =>
      let x := nibbleOf a e
      let y := nibbleOf b e
      let z := nibbleOf c e
      setNibble v e (if x = y ∨ x = z then x else if y = z then y else 0)) a
  | [a] => a
  | _ => 0

/-- A vector's outputs are all restrictive. -/
def allRestrictive (gs : List Group) (v : Vector) : Bool := (diffGroups gs v { v with safeOut := (restrictGroups (v.safeOut, v.payloads) gs).1,
                                                                                      payloads := (restrictGroups (v.safeOut, v.payloads) gs).2 }).isEmpty

/-- The snapshot of a Nadir vote from the vectors that count: outputs restrictive, locks ORed (R234). -/
def nadirVector (gs : List Group) (vs : List Vector) (a : Vector) : Vector :=
  let o := restrictGroups ((0 : BitVec 32), a.payloads) gs
  { a with state := majNibbles (vs.map (·.state)), elemLock := vs.foldl (fun x v => x ||| v.elemLock) 0,
           routeLock := vs.foldl (fun x v => x ||| v.routeLock) 0, safeOut := o.1, payloads := o.2 }

/-! ## Table 6.2 -/

/-- Does a vector that a lane commits on with another count as an input straddle of its own (Table 4.3): the two differ in the state
vector and in nothing else that is voted? -/
def countsStraddle (gs : List Group) (a b : Vector) : Bool := a.state != b.state && (diffGroups gs a b).isEmpty

/-- R191: the outcome of step 3 of Table 5.7 in `a` differs from that in the other two. -/
def armOdd (a b c : Vector) : Bool := a.armPass != b.armPass && b.armPass == c.armPass

/-- The lane fault that a cycle-end vote with three vectors finds in the lane of `a` (Table 6.2, R191, R212); `ok` says that it agrees. -/
def voteFault (ok : Bool) (med : Word) (a b c : Vector) : Option Cause :=
  if !ok then some .vote else if armOdd a b c then some .arm else if timeOff a.laneTime med then some .time else none

/-- Full operation with both other vectors in hand. `strays` gives the straddled elements of a lane. Where the words of two lanes agree and
two of the three still have a lane fault, both are excluded in this vote and the third goes on in one-lane Nadir (R212, row 3 of
Table 6.6). -/
def decideThree (gs : List Group) (prev : Snapshot) (strays : LaneId → List Nat) (i j k : LaneId) (a b c : Vector) : Ballot :=
  let w := majVector a b c
  let med := medianTime a.laneTime b.laneTime c.laneTime
  let ok := fun (x : LaneId) (v : Vector) => straddleOnly gs (strays x) v w
  let fa := voteFault (ok i a) med a b c
  let fb := voteFault (ok j b) med b a c
  let fc := voteFault (ok k c) med c a b
  match fa, fb, fc with
  | none, none, none => .commit w [] (countsStraddle gs a w)
  | none, none, some x =>
    (match settle gs (strays i ++ strays j) prev a b with
     | some v => .commit v [(k, x)] (countsStraddle gs a b)
     | none => .nadir 1 (nadirVector gs [a, b, c] a) [])
  | none, some x, none =>
    (match settle gs (strays i ++ strays k) prev a c with
     | some v => .commit v [(j, x)] (countsStraddle gs a c)
     | none => .nadir 1 (nadirVector gs [a, b, c] a) [])
  | some _, none, none => .isolate false
  | none, some x, some y =>
    if x = .vote ∧ y = .vote then .nadir 1 (nadirVector gs [a, b, c] a) [] else .nadir 3 (nadirVector gs [a] a) [(j, x), (k, y)]
  | some x, some y, none | some x, none, some y =>
    if x = .vote ∧ y = .vote then .nadir 1 (nadirVector gs [a, b, c] a) [] else .isolate false
  | some _, some _, some _ => .nadir 1 (nadirVector gs [a, b, c] a) []

/-- Full operation (Table 6.2) for lane `i` with what it holds of `j` and `k`. -/
def decideFull (gs : List Group) (prev : Snapshot) (strays : LaneId → List Nat) (i j k : LaneId) (own : Option Vector)
    (rj rk : Received) : Ballot :=
  match own with
  | none => .isolate false
  | some a =>
    match rj, rk with
    | .vector b, .vector c => decideThree gs prev strays i j k a b c
    | .vector b, .notice x =>
      (match settle gs (strays i ++ strays j) prev a b with
       | some v => .commit v [(k, x)] (countsStraddle gs a b)
       | none => .isolate false)
    | .notice x, .vector c =>
      (match settle gs (strays i ++ strays k) prev a c with
       | some v => .commit v [(j, x)] (countsStraddle gs a c)
       | none => .isolate false)
    | .vector b, .nothing => if a.same b then .commit b [] false else .isolate true
    | .nothing, .vector c => if a.same c then .commit c [] false else .isolate true
    | .notice x, .notice y => .nadir 3 (nadirVector gs [a] a) [(j, x), (k, y)]
    | _, _ => .isolate true

/-- Reduced operation (R217) for lane `i` with the other lane `j`. -/
def decideReduced (gs : List Group) (prev : Snapshot) (strays : LaneId → List Nat) (i j : LaneId) (own : Option Vector) (rj : Received) : Ballot :=
  match own with
  | none => .isolate false
  | some a =>
    match rj with
    | .vector b =>
      if timeOff a.laneTime b.laneTime then .nadir 4 (nadirVector gs [a, b] a) []
      else
        (match settle gs (strays i ++ strays j) prev a b with
         | some v => .commit v [] (countsStraddle gs a b)
         | none => .nadir 4 (nadirVector gs [a, b] a) [])
    | .notice x => .nadir 6 (nadirVector gs [a] a) [(j, x)]
    | .nothing => if i.index < j.index then .nadir 6 (nadirVector gs [a] a) [(j, .link)] else .isolate true

/-! ## Nadir (R234, R235) -/

/-- The number that at least two lanes propose. -/
def commonNumber (ns : List Nat) : Option Nat := ns.find? (fun n => decide (2 ≤ (ns.filter (· == n)).length))

/-- The lane faults that a Nadir vote finds in the vectors of lane `i` and the others (R212, R234): a number that differs from the common one,
an output that is not restrictive, and, with three LANE_TIMEs to take the median of, one more than 1 µs from it. -/
def nadirFaults (gs : List Group) (n : Nat) (vs : List (LaneId × Vector)) : List (LaneId × Cause) :=
  let med := match vs.map (fun x => x.2.laneTime) with
    | [a, b, c] => some (medianTime a b c)
    | _ => none
  vs.filterMap (fun x =>
    if x.2.number ≠ n ∨ allRestrictive gs x.2 = false then some (x.1, Cause.vote)
    else if med.any (fun m => timeOff x.2.laneTime m) = true then some (x.1, Cause.time) else none)

/-- Nadir with two or three lanes (R234), for lane `i`: `held` are the voting lanes with what it has of them, itself included. A lane whose
others have all sent notices goes on alone; of two lanes of which one lacks the other's vector the earlier goes on, as R217 states for
reduced operation, and a lane of three that lacks the vectors it would commit with isolates, as Table 6.2 states (DEDUCED, log entry 21). -/
def decideNadir (gs : List Group) (i : LaneId) (held : List (LaneId × Received)) : Ballot :=
  let vs := held.filterMap (fun x => match x.2 with
    | .vector v => some (x.1, v)
    | _ => none)
  let out := held.filterMap (fun x => match x.2 with
    | .notice c => some (x.1, c)
    | _ => none)
  let gone := held.filter (fun x => x.2 == .nothing)
  match commonNumber (vs.map (fun x => x.2.number)), vs, gone with
  | none, [x], [] => if x.1 = i then .nadir 7 (nadirVector gs [x.2] x.2) out else .fall
  | none, [x], y :: _ =>
    if x.1 ≠ i then .fall
    else if held.length = 2 ∧ i.index < y.1.index then .nadir 7 (nadirVector gs [x.2] x.2) [(y.1, .link)]
    else .isolate true
  | none, _, _ => .fall
  | some n, _, _ =>
    let bad := nadirFaults gs n vs
    let good := vs.filter (fun x => !bad.any (fun y => y.1 == x.1))
    if bad.any (fun y => y.1 == i) then .isolate false
    else
      match good with
      | [] => .fall
      | x :: r =>
        let v := nadirVector gs ((x :: r).map (·.2)) x.2
        if r.isEmpty then .nadir 7 v (bad ++ out) else .commit v (bad ++ out) false

/-! ## The decision of a lane -/

/-- Has another lane already committed the vote that lane `i` decides? -/
def State.joins (s : State) (i : LaneId) : Bool := s.lastCycle.instant == (s.lane i).vote.instant && s.snapshots != []

/-- The snapshot before the vote of lane `i`. -/
def State.priorSnap (s : State) (i : LaneId) : Snapshot :=
  if s.joins i then ((s.snapshots.dropWhile (fun p => p.mini)).drop 1).headD Snapshot.none else s.snap

/-- A vote at which an event of Table 6.6 takes effect is decided as ever, with its exclusions, and what commits is the Nadir snapshot by
that row (R217, R229, R233). -/
def Ballot.due (gs : List Group) (row : Nat) (vs : List (LaneId × Vector)) (own : Option Vector) (b : Ballot) : Ballot :=
  match b, own with
  | .commit _ ex _, some a => .nadir row (nadirVector gs ((vs.filter (fun x => !ex.any (fun y => y.1 == x.1))).map (·.2)) a) ex
  | .nadir r v ex, _ => .nadir (if ex.isEmpty then row else r) v ex
  | _, _ => b

/-- What lane `i` holds of the lanes that are not excluded, itself included. -/
def State.heldAt (s : State) (i : LaneId) (own : Vector) : List (LaneId × Received) :=
  s.unexcluded.map (fun j => (j, if j = i then Received.vector own else s.heard i j))

/-- What lane `i` decides at the cycle-end vote on what it holds. A lane that the link rule expels isolates (R214). The lanes of one vote decide by one snapshot and one degradation
state, those before the vote, whichever of them commits first (DEDUCED, log entry 105). -/
def State.ballot (s : State) (i : LaneId) : Ballot :=
  let l := s.lane i
  let prev := s.priorSnap i
  let gs := if s.hasImage then groups s.img else []
  let strays := fun j => (s.lane j).stray l.vote.instant
  let row := if s.joins i then s.control.votedDue else s.control.nadirDue
  let held := match l.vote.own with
    | some a => s.heldAt i a
    | none => []
  let vs := held.filterMap (fun x => match x.2 with
    | .vector v => some (x.1, v)
    | _ => none)
  let settled := fun (b : Ballot) => match row with
    | some r => b.due gs r vs l.vote.own
    | none => b
  if l.expel.isSome then .isolate (l.expel == some .link)
  else
    match (if s.joins i then s.control.voted else s.control.degradation) with
    | .full =>
      (match i.others with
       | [j, k] => settled (decideFull gs prev strays i j k l.vote.own (s.heard i j) (s.heard i k))
       | _ => .isolate false)
    | .reduced =>
      (match s.partners i with
       | j :: _ => settled (decideReduced gs prev strays i j l.vote.own (s.heard i j))
       | [] => match l.vote.own with
         | some a => .nadir 6 (nadirVector gs [a] a) []
         | none => .isolate false)
    | .nadir => if l.vote.own.isSome then decideNadir gs i held else .isolate false
    | .oneLane => match l.vote.own with
      | some a => .commit (nadirVector gs [a] a) [] false
      | none => .isolate false

/-! ## The link rule (R214) -/

/-- Does a verdict show that the vector of lane `x` was missing? -/
def lacks (x : LaneId) (v : Option Verdict) : Bool := v.any (fun w => !(w.rx.get x))

/-- Did lane `y` show in a verdict, of the cycle-end vote or of a mini-vote since, that the vector of lane `x` was missing? A verdict counts
when another lane holds it. -/
def State.showsMissing (s : State) (x y : LaneId) : Bool :=
  y.others.any (fun z => lacks x ((s.lane z).vote.verdicts.get y) || lacks x ((s.lane z).vote.miniVerdicts.get y))

/-- The lanes that the link rule excludes at the next vote. A link of which an end lane is excluded, or was not in the vote because it has
entered VOTING since, is none that failed. -/
def State.linkRule (s : State) : List LaneId :=
  let ends := fun (x y : LaneId) => (s.partners x).contains y && (s.partners y).contains x
  let lost := allLanes.flatMap (fun y => (y.others.filter (fun x => ends x y && s.showsMissing x y)).map (fun x => (x, y)))
  let silent := allLanes.filter (fun x => x.others.all (fun y => lost.contains (x, y)))
  let deaf := allLanes.filter (fun y => y.others.all (fun x => lost.contains (x, y)))
  let rest := lost.filter (fun p => !(silent ++ deaf).contains p.1 && !(silent ++ deaf).contains p.2)
  allLanes.filter (fun x => silent.contains x || deaf.contains x ||
    rest.any (fun p => (if p.1.index < p.2.index then p.2 else p.1) == x))

end Sys2Proof.Machine
end

