-- ==== Sys2Proof/Machine/Reply.lean ====
section
/-! DEFINITION. Replies to the host (Table 9.3, Table 17.2), the records of commands (R338) and their end: repeats, late
replies and discards (R241, R341, R604). -/

namespace Sys2Proof.Machine

/-! ## Status codes (Table 10.1) -/

def stOk : Nat := 0x0000
def stAccepted : Nat := 0x0001
def stDiscarded : Nat := 0x0010
def stSingle : Nat := 0x0011
def stConflict : Nat := 0x0012
def stLocked : Nat := 0x0013
def stOrigin : Nat := 0x0014
def stSeal : Nat := 0x0015
def stCredit : Nat := 0x0016
def stState : Nat := 0x0017
def stBusy : Nat := 0x0018
def stNadir : Nat := 0x0019
def stBadCheck : Nat := 0x0020
def stBadParam : Nat := 0x0021
def stUnknown : Nat := 0x0022
def stCapacity : Nat := 0x0030
def stChanging : Nat := 0x0031
def stAhead : Nat := 0x0032
def stSeq : Nat := 0x0033
def stCert : Nat := 0x0034
def stSig : Nat := 0x0035

/-- The KI-40 status of a native status (Table 17.5); a native status that it does not name gives 0x0F. -/
def ki40Status (st : Nat) : Nat :=
  if st = stOk then 0x00 else if st = stAccepted then 0x01 else if st = stConflict then 0x02 else if st = stLocked then 0x03
  else if st = stState ∨ st = stSeal then 0x04 else if st = stSingle then 0x05 else if st = stBadParam then 0x06
  else if st = stNadir then 0x07 else if st = stDiscarded then 0x08 else if st = stBusy then 0x09 else if st = stCapacity then 0x0A
  else if st = stSeq then 0x0B else 0x0F

/-! ## Codes of states (Tables 10.4, 10.7) -/

def Power.code : Power → Nat
  | .off => 0
  | .idle => 1
  | .warm => 2
  | .live => 3

def Mode.code : Mode → Nat
  | .stop => 0
  | .run => 1
  | .hold => 2

def Degradation.code : Degradation → Nat
  | .full => 0
  | .reduced => 1
  | .nadir => 2
  | .oneLane => 3

def LaneMode.code : LaneMode → Nat
  | .voting => 0
  | .isolated => 1
  | .excluded => 2
  | .restarting => 3
  | .copying => 4
  | .shadow => 5

def OriginClass.code : OriginClass → Nat
  | .operator => 0
  | .engineer => 1
  | .maintenance => 2
  | .internal => 3

/-! ## Sessions and records -/

def State.sessionOf (s : State) (n : Nat) : Option Session := s.host.sessions.find? (fun x => x.number == n)

/-- The node ID of SEAL0 to SEAL9 in use (R554, R557). -/
def State.node (s : State) : Nat := s.sealBank.nodeId

def State.modSession (s : State) (n : Nat) (f : Session → Session) : State :=
  { s with host := { s.host with sessions := s.host.sessions.map (fun x => if x.number = n then f x else x) } }

def State.recOf (s : State) (k : RecKey) : Option HostRec := s.host.recs.find? (fun r => r.key == k)

def State.modRec (s : State) (k : RecKey) (f : HostRec → HostRec) : State :=
  { s with host := { s.host with recs := s.host.recs.map (fun r => if r.key = k then f r else r) } }

/-- R351: the command of a record is no longer outstanding. -/
def State.settled (s : State) (k : RecKey) : State := s.modRec k (fun r => { r with outstanding := false })

/-- The same for a record that may be absent. -/
def State.settledKey (s : State) (k : Option RecKey) : State := k.elim s s.settled

/-- How many commands of a session are outstanding. -/
def State.outstanding (s : State) (n : Nat) : Nat :=
  (s.host.recs.filter (fun r => r.session == n && r.outstanding)).length

/-- The accepted commands that have no commit of their own: they stop being outstanding with the next snapshot (R351). -/
def settlesNext (op : Nat) : Bool :=
  [0x0405, 0x0502, 0x0503, 0x0603, 0x0702, 0x0801, 0x0803, 0x0903, 0x0A01, 0x0A07].contains op

/-- A permissive command's record is open while it has no decision (R338). -/
def HostRec.isOpen (r : HostRec) : Bool := r.decisions.isEmpty

/-- The commands of an opcode are no longer outstanding. -/
def State.settledOp (s : State) (op : Nat) : State :=
  { s with host := { s.host with recs := s.host.recs.map (fun r => if r.opcode = op then { r with outstanding := false } else r) } }

/-! ## Building replies -/

/-- The fold of a reply (Table 8.3, R319): that of its session, or the SESSION_OPEN fold where it has none. -/
def State.replyFold (s : State) (opcode session : Nat) : Fold :=
  match s.sessionOf session with
  | some x => if opcode = 0x0001 then { seq := 0, source := 0, dest := 0, stream := 0 }
    else { seq := x.tag.toNat, source := s.node, dest := x.hostId, stream := session }
  | none => { seq := 0, source := 0, dest := 0, stream := 0 }

/-- The bytes of a native reply before CV_P (Table 9.3). -/
def Reply.head (r : Reply) : Bytes :=
  b8 1 ++ b8 r.flags ++ b16 r.session ++ b32 r.seq ++
  b16 r.opcode ++ b16 r.data.length ++ b32 r.originId ++ b32 r.reqSnap ++ b32 r.hostTime ++ b16 r.status ++ b16 0 ++ b64 r.snapshot ++ r.data

/-- The payload of a native reply with its check values. -/
def Reply.wire (r : Reply) (f : Fold) : Bytes :=
  r.head ++ b32 (cvP (checkMessage f r.head)).toNat ++ b32 (cvQ (checkMessage f r.head)).toNat

/-- The bytes of a KI-40 reply (Table 17.2): `status` is the KI-40 status, `data` bytes 12 to 59, `reqSnap` its CYCLE. -/
def Reply.ki40Wire (r : Reply) (node : Nat) : Bytes :=
  let h := b8 0xC2 ++ b8 r.opcode ++ b16 r.seq ++ b8 r.status ++ b8 r.ki40Flags ++ b16 node ++ b32 r.reqSnap ++ slice r.data 0 48
  h ++ b16 (crcC h).toNat ++ b16 (crcT h).toNat

/-- The lanes that share the ports and the check duties towards the host: those that no snapshot has excluded (R23, R308), and in a start or
Dusk those that are not under test (R583). -/
def State.answering (s : State) : List LaneId :=
  match s.control.phase with
  | .running => s.unexcluded
  | .starting => allLanes.filter (fun i => s.startup.bistTurn != some i)
  | .dusk => s.voting.filter (fun i => s.startup.duskTurn != some i)
  | _ => []

/-- The port owner (R22, R23): the lane of the port's number modulo 3, or the next one in the order A, B, C, A of the given lanes. -/
def portOwner (lanes : List LaneId) (port : Nat) : Option LaneId :=
  let order := match port % 3 with
    | 0 => [LaneId.A, .B, .C]
    | 1 => [LaneId.B, .C, .A]
    | _ => [LaneId.C, .A, .B]
  order.find? (fun i => lanes.contains i)

/-- The lane that drives a port's transmit path. Ports pass with the snapshot that excludes their lane (R23, R232); one that has isolated itself
transmits on none until then (R231). -/
def State.sender (s : State) (port : Nat) : Option LaneId :=
  (portOwner s.answering port).filter (fun i => s.control.phase != .running || (s.lane i).mode == .voting)

/-- Something leaves on a port, if its owner transmits. -/
def State.sendVia (s : State) (port : Nat) (x : Tx) : State := if (s.sender port).isSome then s.send x else s

/-- May the module answer at all (R39, R575, R588, R583)? During a start only after step 1, 150 ms after s0. -/
def State.answers (s : State) : Bool :=
  match s.control.phase with
  | .running | .dusk => true
  | .starting => decide (s.startup.begun + 150 * ms ≤ s.now) && (!s.startup.retried || decide (s.startup.retryAt + 150 * ms ≤ s.now))
  | _ => false

/-- Is the PHY of the service port powered (R654): from the end of step 1 of a start? A restart from Nadir is no start. -/
def State.phyPowered (s : State) : Bool :=
  match s.control.phase with
  | .running | .safeOff | .dusk | .retryWait => true
  | .starting => s.startup.restart || s.answers
  | _ => false

/-- Where a reply goes: its own path, or the return path of its session on its network (R339). -/
def State.replyPath (s : State) (r : Reply) : Option ReturnPath :=
  match r.path with
  | some p => some p
  | none => (s.sessionOf r.session).bind (fun x => if r.net = .y then x.pathY else x.pathX)

/-- A reply leaves: in one-lane Nadir the one lane computes both check values (R317), otherwise it waits for the check units. -/
def State.replyWith (s : State) (f : Fold) (r : Reply) : State :=
  if s.answers = false then s
  else
    match s.replyPath r with
    | none => s
    | some p =>
      let r1 := { r with path := some p, oneLane := s.control.degradation == Degradation.oneLane }
      let r2 := { r1 with bytes := if r.ki40 then r1.ki40Wire s.node else r1.wire f }
      if (s.answering).length ≤ 1 then s.sendReply r2
      else
        { s with
          host := { s.host with replies := s.host.replies ++ [r2] },
          lanes := s.lanes.mapI (fun i l =>
            if s.answering.contains i then
              { l with inputs := { l.inputs with txPending := l.inputs.txPending ++
                  [{ host := true, stream := r.session, valueP := none, valueQ := none, verified := Lanes3 none, last := s.now + 50000 }] } }
            else l) }

/-! ## Replies that wait for the check units (R317) -/

/-- The list without its first entry that passes a test. -/
def dropFirst {α : Type} (l : List α) (test : α → Bool) : List α :=
  match l with
  | [] => []
  | x :: r => if test x then r else x :: dropFirst r test

def TxPending.is (x : TxPending) (host : Bool) (stream : Nat) : Bool := x.host == host && x.stream == stream

/-- A telegram of a stream or session leaves, or never will: the lanes forget it. -/
def State.dropTx (s : State) (host : Bool) (stream : Nat) : State :=
  s.mapLanes (fun l => { l with inputs := { l.inputs with txPending := dropFirst l.inputs.txPending (fun x => x.is host stream) } })

/-- TX_HOLD in lane `i` (R316, R326, R327). -/
def State.txHold (s : State) (i : LaneId) (port stream : Nat) : State :=
  (s.modLane i (fun l => { l with counters := { l.counters with txHold := inc l.counters.txHold } })).event 0x0507 Origin.internal
    [(24, 1, port), (26, 2, stream)]

/-- A reply that the check units have not released within 50 µs is not sent (R317, R344); a port owner that transmits counts TX_HOLD. -/
def State.expireReplies (s : State) : State :=
  (s.host.replies.filter (fun r => decide (r.decided + 50000 < s.now))).foldl (fun u r =>
    let v : State := { u.dropTx true r.session with host := { u.host with replies := dropFirst u.host.replies (fun q => q.session == r.session) } }
    match u.sender ((r.path.map (·.port)).getD 0) with
    | some i => v.txHold i 0xFF r.session
    | none => v) s

def State.reply (s : State) (r : Reply) : State := s.replyWith (s.replyFold r.opcode r.session) r

/-- R599: a KI-40 reply is held until its window opens. -/
def State.holdReply (s : State) (r : Reply) : State := { s with ki40 := { s.ki40 with held := s.ki40.held ++ [r] } }

/-- The KI-40 cycle (R602). -/
def ki40Period : Nat := 50 * ms

/-- CYCLE of the snapshot from which a KI-40 reply is built (R602); before the first cycle start, that of the present instant. -/
def State.ki40Cycle (s : State) : Nat := (s.ki40.view.map (·.cycle)).getD (s.now / ki40Period)

/-- The networks on which a command of a class is answered: both, or the service port. -/
def replyNets (n : Net) : List Net :=
  match n with
  | .service => [.service]
  | _ => [.x, .y]

/-- The reply to the command of a record, on one network. In a KI-40 reply `snapshot` is its CYCLE. -/
def State.recReply (s : State) (r : HostRec) (net : Net) (late repeated : Bool) (status snapshot : Nat) (data : Bytes) : Reply :=
  let ki := r.key.isKi40
  { net := net, ki40 := ki, repeated := repeated, late := late, oneLane := false, session := if r.opcode = 0x0001 then 0 else r.session,
    seq := r.key.seq, opcode := r.opcode, originId := r.originId, reqSnap := if ki then snapshot else rd32 r.bytes 16,
    hostTime := if ki then 0 else rd32 r.bytes 20, status := status, snapshot := snapshot, data := data,
    path := if r.key.isOpening then (if net = .y then r.pathY else r.pathX)
      else if ki then (if net = .y then s.ki40.pathY else s.ki40.pathX) else none,
    bytes := [], decided := s.now }

/-- R389: every reply to CHANGE_ARM holds ARM_REASON, which is 0 where no arm check has failed. -/
def bareData (opcode : Nat) : Bytes := if opcode = 0x0406 then b32 0 else []

/-- The replies to a record leave on the given networks; a KI-40 reply is held from the instant `t` of R599. -/
def State.answerAt (s : State) (t : Nat) (r : HostRec) (nets : List Net) (late repeated : Bool) (status snapshot : Nat) (data : Bytes) : State :=
  nets.foldl (fun u n =>
    let x := s.recReply r n late repeated status snapshot data
    if x.ki40 then u.holdReply { x with decided := t } else u.reply x) s

def State.answer (s : State) (r : HostRec) (nets : List Net) (late repeated : Bool) (status snapshot : Nat) (data : Bytes) : State :=
  s.answerAt s.now r nets late repeated status snapshot data

/-- R241, R604: an accepted command that is not committed is discarded, and its session, if still open, is told. -/
def State.discardKey (s : State) (k : RecKey) : State :=
  match s.recOf k with
  | none => s
  | some r =>
    let ki := k.isKi40
    if ki || k.session?.any (fun n => (s.sessionOf n).isSome) then
      (s.answer r (replyNets r.net) true false (if ki then ki40Status stDiscarded else stDiscarded)
        (if ki then s.ki40Cycle else s.snap.number) (if ki then [] else bareData r.opcode)).settled k
    else s.settled k

def State.discardKeys (s : State) (ks : List RecKey) : State := ks.foldl State.discardKey s

/-- A reply of ST_DISCARDED that a commit has built quotes the number of the snapshot that carries the fault (R241, R346). -/
def State.quoting (s : State) (n : Nat) (r : Reply) : Reply :=
  if r.ki40 = false ∧ r.status = stDiscarded then
    { r with snapshot := n, bytes := Reply.wire { r with snapshot := n } (s.replyFold r.opcode r.session) }
  else r

/-- The commit of the snapshot `n`, whose replies are those of `s` beyond those of `old`. -/
def State.requote (s old : State) (n : Nat) : State :=
  { s with
    host := { s.host with
      replies := s.host.replies.take old.host.replies.length ++ (s.host.replies.drop old.host.replies.length).map (s.quoting n) },
    sent := s.sent.take old.sent.length ++ (s.sent.drop old.sent.length).map (fun (x : Tx) => match x with
      | .reply r => .reply (s.quoting n r)
      | y => y) }

/-! ## The origin of a record (R511) -/

def Origin.ofSession (x : Session) : Origin := { cls := x.cls, session := x.number, hostId := x.hostId }

/-- The origin of a command that commits: its session's, while that is open. -/
def State.originOf (s : State) : Option RecKey → Origin
  | some (.session n _) | some (.anew n _ _) => ((s.sessionOf n).map Origin.ofSession).getD Origin.internal
  | some (.ki40 _) | some (.ki40Anew _ _) => Origin.ki40
  | _ => Origin.internal

end Sys2Proof.Machine
end

