-- ==== Sys2Proof/Machine/Upset.lean ====
section
/-! DEFINITION. What a fault or a mode change discards and ends: isolation and exclusion (R230 to R232), entry to Nadir (R233 to
R236), Table 3.10, the aborts of Table 5.9 and of R205, and the clearing of lock words (R505). -/

namespace Sys2Proof.Machine

/-! ## Reduced operation (R37, R218) -/

/-- Does the time of R37 count: from the first exclusion until all three lanes vote again, while the lanes run (DEDUCED,
log entry 107)? -/
def State.counting (s : State) : Bool :=
  s.control.phase == .running && (s.control.degradation == .reduced ||
    (s.control.degradation.isNadir && allLanes.any (fun i => (s.lane i).mode != .voting && (s.lane i).mode != .isolated)))

/-- The time that reduced operation has lasted, in ns (R37, R576). -/
def State.reducedTime (s : State) : Nat := s.control.reducedUsed + (if s.counting then s.now - s.control.reducedSince else 0)

/-- The count as it stands in flash when the lanes stop (R576). -/
def State.keepCount (s : State) : State :=
  { s with control := { s.control with reducedUsed := s.reducedTime, reducedSince := s.now } }

def hour : Nat := 3600 * second

/-- The limit of R218 in ns. -/
def State.reducedLimit (s : State) : Nat := hour * s.param 2

/-! ## Isolation (R231) -/

/-- Is it a vector? A fault notice takes the place of one and is none (R206). -/
def Received.isVector : Received → Bool
  | .vector _ => true
  | _ => false

/-- RX_A to RX_C of a lane's verdict (Table 6.1): the vectors in hand, and its own. -/
def rxBits (i : LaneId) (rx : Lanes Received) : Lanes Bool := rx.mapI (fun j r => j == i || r.isVector)

/-- The verdict word that lane `i` sends after a vote (R206, R208). -/
def Lane.verdict (l : Lane) (i : LaneId) (rx : Lanes Received) (committed : Bool) (number : Nat) : Verdict :=
  { lane := i, rx := rxBits i rx, committed := committed, notice := false, cause := l.localFault, snapLow := number % 65536 }

/-- A lane isolates: its elements open, it sends a verdict with COMMITTED 0 and writes its own record with the cause that R230 gives it;
`missing` when it isolates because a vector or verdict was missing. -/
def State.isolate (s : State) (i : LaneId) (missing : Bool) : State :=
  let l := s.lane i
  let c := l.localFault.getD (if missing then .link else .vote)
  if l.mode = .voting then
    let s1 := s.laneEvent i 0x0401 [(24, 1, i.index), (25, 1, 1), (26, 1, c.code), (28, 4, s.snap.number)]
    s1.modLane i (fun x => { x with
      mode := .isolated, isolatedAt := s.now, isolatedFor := some c, elements := 0, supplyClosed := false, meridianToggles := false,
      vote := { x.vote with
        decided := true, committed := false, sent := some (x.verdict i x.vote.rx false s.snap.number),
        miniSent := if x.vote.miniOwn = .nothing then x.vote.miniSent else some (x.verdict i x.vote.miniRx false s.snap.number) },
      program := x.program.abandon })
  else s

/-- A lane that finds itself odd in what the lanes compare between votes: it has a lane fault and isolates itself, and the two lanes that
agree exclude it at the next vote (Table 6.4, INTAKE and ADMISSION). -/
def State.oddLane (s : State) (i : LaneId) (c : Cause) : State :=
  (s.modLane i (fun l => { l with localFault := some c, expel := some c })).isolate i false

/-! ## Aborts -/

/-- R450: a READY standby becomes NOT_READY; a copy goes on (Table 12.4 ends it only by R465). -/
def State.standbyFalls (s : State) (row : Nat) : State :=
  if s.pair.role = .standby ∧ s.pair.standby = .ready then
    ({ s with pair := { s.pair with standby := .notReady, matchSince := none, differs := 0, differSince := none } }).event 0x0801 Origin.internal [(24, 1, 2), (25, 1, 0), (26, 1, row)]
  else s

/-- An armed change aborts with a cause of Table 5.9 (R199). Where the active unit may still commit it, a standby is NOT_READY from its Change
Point (R201): a CHANGE_ABORT and a change of Constellation end it in both units. -/
def State.abortArmed (s : State) (cause : Nat) : State :=
  let s1 := (List.range s.images.staging.length).foldl (fun (u : State) k =>
    match u.images.staging[k]? with
    | some g =>
      if g.state = .armed then
        ({ u.settledKey g.abortKey with images := { u.images with
            staging := listSet u.images.staging k { g with state := .verified, armedAt := none, abortStamps := none, abortKey := none } } }).event 0x0306
          (if cause = 1 then u.originOf g.abortKey else Origin.internal) [(24, 1, cause), (25, 1, k)]
      else u
    | none => u) s
  if cause = 1 ∨ cause = 9 then { s1 with pair := { s1.pair with changeDue := none } } else s1

/-- R40: a CHANGE_ARM that is not committed is discarded. -/
def State.dropArm (s : State) : State :=
  match s.images.pendingArm with
  | some p => { s.discardKey p.2 with images := { (s.discardKey p.2).images with pendingArm := none } }
  | none => s

/-- A profile request that has been taken in is aborted (R205); a pin request becomes pending again, since the voted value still
differs (R562). -/
def State.abortProfile (s : State) : State :=
  match s.images.takenProfile with
  | some p =>
    let s1 := s.discardKeys p.key.toList
    ({ s1 with images := { s1.images with
        takenProfile := none,
        pendingProfile := if p.fromPins then some p else s1.images.pendingProfile } }).event 0x0308 Origin.internal
      [(24, 1, p.target), (25, 1, 3), (26, 1, if p.fromPins then 0 else 1)]
  | none => s

/-- R40: a power state or program mode that is not committed is discarded. -/
def State.dropPending (s : State) : State :=
  let k1 := (s.control.pendingPower.bind (·.2)).toList
  let k2 := (s.control.pendingMode.bind (·.2)).toList
  let s1 := s.discardKeys (k1 ++ k2)
  { s1 with control := { s1.control with pendingPower := none, pendingTest := false, pendingAgain := false, pendingMode := none, pendingBreaks := none, pendingSteps := 0 } }

/-! ## Discarded work (R241, Table 3.10) -/

/-- The keys of the ROUTE_SETs among commands taken in. -/
def routeSetKeys (l : List Intake) : List RecKey :=
  l.filterMap (fun i => match i.cmd with
    | .routeSet _ => some i.key
    | _ => none)

/-- The commands of in-flight routes and those that await intake are discarded and reported. -/
def State.discardWork (s : State) : State :=
  let flying := s.leadLane.engine.keys.map (·.2)
  let waiting := (s.host.awaiting ++ (s.pair.deferred.map (·.2)).flatten).map (·.key)
  let s1 := s.discardKeys (flying ++ routeSetKeys s.host.taken ++ waiting)
  { s1 with
    host := { s1.host with awaiting := [], taken := s1.host.taken.filter (fun i => !(routeSetKeys [i]).contains i.key) },
    pair := { s1.pair with deferred := [], intakeHeld := [] },
    lanes := s1.lanes.mapI (fun _ l => { l with engine := { l.engine with keys := [] } }) }

/-- Table 3.10 for a lane exclusion, a takeover, a profile switch and an aborted change: the T1 bodies return the in-flight
routes to IDLE with reason DISCARDED. -/
def State.upsetDiscard (s : State) : State :=
  let s1 := s.discardWork
  { s1 with lanes := s1.lanes.mapI (fun _ l => { l with program := { l.program with upset := true } }) }

/-- The abort of an armed change by itself (R199, R241): Table 3.10, row "online change aborted", follows it. -/
def State.abortChange (s : State) (cause : Nat) : State :=
  if s.images.staging.any (fun g => g.state == .armed) then (s.abortArmed cause).upsetDiscard else s

/-- Table 3.10 for entry to STOP (reason 8) and to Nadir (reason 9): the bodies in progress are abandoned with what they took in,
the parameters among it included (R241), the in-flight routes return to IDLE and every signal enters the stop set. The marks that the T1 body had taken in return to the lanes: no
mark is ever discarded (R148, R242). -/
def State.upsetStop (s : State) (reason : Nat) : State :=
  let taken := s.host.taken.map (·.key)
  let s1 := s.discardWork.discardKeys (taken.filter (fun k => !(routeSetKeys s.host.taken).contains k))
  let m := s.img
  let w := fun (e : Engine) => ((Work.start e).discardInFlight m reason).stopAll m 4 Origin.internal
  let evs := (w s1.leadLane.engine).events
  { s1 with
    host := { s1.host with taken := [], takenMarks := [] },
    images := { s1.images with pendingParams := [] },
    almanac := { s1.almanac with events := s1.almanac.events ++ evs },
    lanes := s1.lanes.mapI (fun _ l =>
      { l with engine := (w l.engine).eng, forces := { l.forces with marks := (l.forces.marks ++ s.host.takenMarks.map (·.1)).eraseDups },
               program := { l.program.abandon with upset := false, bodyUpset := false },
               counters := l.counters.ofWork (w l.engine) }) }

/-! ## Lock words (R502, R505) -/

def lockWordAddr (k : Nat) : Nat := 0xFF000 + 4 * k

def Xram.lockWord (x : Xram) (k : Nat) : Nat := Mem.le x.mem (lockWordAddr k) 4

/-- One lock word loses the claim bits of the lanes that are not voting, with a record for each. -/
def State.clearLockWord (s : State) (k : Nat) : State :=
  (allLanes.filter (fun i => (s.lane i).mode != .voting)).foldl (fun u i =>
    let w := u.xram.lockWord k
    if bitAt w i.index then
      ({ u with xram := { u.xram with mem := Mem.store u.xram.mem (lockWordAddr k) (b32 (w - 2 ^ i.index)) } }).event 0x0909
        Origin.internal [(24, 1, 1), (25, 1, i.index), (26, 1, k)]
    else u) s

/-- R505. -/
def State.clearLockWords (s : State) : State := (List.range 32).foldl State.clearLockWord s

/-! ## Exclusion (R230, R232) -/

def LaneCounters.excluded (k : LaneCounters) (c : Cause) : LaneCounters :=
  { k with exclusions := listMod k.exclusions (c.code - 1) inc }

/-- Has a lane that votes still to decide, at the cycle-end vote or at a mini-vote in which it takes part? -/
def Lane.undecided (l : Lane) : Bool := l.mode == .voting && (!l.vote.decided || l.vote.miniOwn != .nothing)

/-- A lane becomes EXCLUDED with a cause. One that has still to decide a vote comes to its own isolation when it does. -/
def State.markExcluded (s : State) (i : LaneId) (c : Cause) : State :=
  let s1 : State := { s with control := { s.control with reducedSince := if s.counting then s.control.reducedSince else s.now } }
  s1.modLane i (fun l => { l with
    mode := .excluded, cause := some c, localFault := none, expel := none, isolatedFor := none, exclusions := l.exclusions + 1,
    elements := 0, supplyClosed := false, meridianToggles := false, counters := l.counters.excluded c,
    vote := { l.vote with decided := l.vote.decided || l.mode != .voting, committed := false, owesIsolation := l.undecided },
    program := l.program.abandon, forces := { l.forces with pending := [] } })

/-- A commit excludes a lane, with its record (R230, R248). One that votes passes through ISOLATED (Table 6.5), with a record of its own: at
its own decision where that is still to come. -/
def State.excludeLane (s : State) (i : LaneId) (c : Cause) : State :=
  let s1 := if (s.lane i).undecided then s else s.isolate i (c == .link)
  (s1.markExcluded i c).event 0x0401 Origin.internal [(24, 1, i.index), (25, 1, 2), (26, 1, c.code)]

/-- A lane that the others have excluded before it decided comes to its own decision: it cannot commit and isolates, with its verdict and its
own record (R211, R231, R248). -/
def State.ownIsolation (s : State) (i : LaneId) (missing : Bool) : State :=
  let c := ((s.lane i).vote.notice.bind (·.cause)).getD (if missing then .link else .vote)
  (s.laneEvent i 0x0401 [(24, 1, i.index), (25, 1, 1), (26, 1, c.code), (28, 4, s.snap.number)]).modLane i (fun x => { x with
    vote := { x.vote with
      decided := true, owesIsolation := false, miniOwn := .nothing,
      sent := some { x.verdict i x.vote.rx false s.snap.number with cause := x.vote.notice.bind (·.cause) } } })

/-- The degradation state changes, with its record. -/
def State.degrade (s : State) (d : Degradation) (row : Nat) : State :=
  ({ s with control := { s.control with
      degradation := d,
      reducedSince := if s.control.degradation = Degradation.full then s.now else s.control.reducedSince } }).event 0x0402 Origin.internal
    [(24, 1, d.code), (25, 1, s.votingBits), (26, 1, row)]

/-- R503, R505: a KI-40 load's copy is lost with the lane that holds it. -/
def State.loseLoad (s : State) : State :=
  match s.ki40.loadCopy with
  | some c => ({ s with ki40 := { s.ki40 with loadCopy := none } }).discardKeys c.key.toList
  | none => s

/-- R503, R505: a staging copy of the lane that holds it is lost with the lane. -/
def State.loseCopies (s : State) : State :=
  (List.range s.images.staging.length).foldl (fun u k =>
    match u.images.staging[k]? with
    | some g =>
      match g.copy with
      | some c =>
        let u1 := { u with images := { u.images with staging := listSet u.images.staging k { g with state := .isOpen, copy := none } } }
        (match c.key with
         | some key => u1.discardKey key
         | none => u1)
      | none => u
    | none => u) s.loseLoad

/-- R244: a lane fault in a voting lane ends a reintegration. -/
def State.endReintegration (s : State) : State :=
  allLanes.foldl (fun u i =>
    let l := u.lane i
    if l.mode = .restarting ∨ l.mode = .copying ∨ l.mode = .shadow then
      (u.modLane i (fun x => { x with mode := .excluded })).event 0x0401 Origin.internal
        [(24, 1, i.index), (25, 1, 2), (26, 1, causeCode l.cause)]
    else u) s

/-- Table 5.9 and Table 3.10 at a commit that excludes lanes. -/
def State.exclusionEffects (s : State) : State :=
  ((((((s.dropPending).dropArm.abortArmed 2).abortProfile).upsetDiscard).loseCopies).endReintegration).standbyFalls 6

/-! ## The safe output stage (R420) -/

/-- The element that a dark test closes alone at this instant: its lane, whether it is the supply-side one, and its output (Table 11.4: each
for 20 µs at p + 25 µs × j, in the order A, B, C, each lane's supply side first). -/
def State.darkClosed (s : State) : Option (LaneId × Bool × Nat) :=
  match s.safeIo.test with
  | some r => (match r.kind with
    | .dark j =>
      if r.start + 25000 * j ≤ s.now ∧ s.now < r.start + 25000 * j + 20000 then (laneOf (j / 2)).map (fun i => (i, j % 2 == 0, r.output)) else none
    | _ => none)
  | none => none

/-- Is lane `i`'s supply-side or terminal-side element of an output closed? A lane closes both by its commits. -/
def State.sideClosed (s : State) (i : LaneId) (supplySide : Bool) (o : Nat) : Bool :=
  getBit (s.lane i).elements o || s.darkClosed == some (i, supplySide, o)

/-- The pairs AB, BC and CA: the lane on the supply side and the lane on the terminal side. -/
def pairLanes : List (LaneId × LaneId) := [(.A, .B), (.B, .C), (.C, .A)]

/-- Does the safety supply switch conduct: two of its three elements closed (R422), with a voltage behind it (R631)? -/
def State.supplyOn (s : State) : Bool :=
  !s.safeIo.outputLow && pairLanes.any (fun p => (s.lane p.1).supplyClosed && (s.lane p.2).supplyClosed)

/-- The outputs that conduct: at least one pair closed, with the safety supply switch closed (R420). -/
def State.terminals (s : State) : BitVec 32 :=
  if s.supplyOn then bitSet 32 ((List.range 32).filter (fun o => pairLanes.any (fun p => s.sideClosed p.1 true o && s.sideClosed p.2 false o))) else 0

/-! ## Nadir (R233 to R236) -/

/-- The safety supply switch is commanded open (R239): a running test ends with no verdict (Table 11.5). -/
def State.openSupply (s : State) : State :=
  { s with
    safeIo := { s.safeIo with
      supply := .isOpen, test := none,
      abandoned := if s.safeIo.test.isSome then inc s.safeIo.abandoned else s.safeIo.abandoned },
    lanes := s.lanes.mapI (fun _ l => { l with supplyClosed := false }) }

/-- A program mode commits, with its record, which carries the origin of its command where its cause is one (R511). -/
def State.putMode (s : State) (m : Mode) (cause : Nat) (o : Origin) : State :=
  ({ s with control := { s.control with mode := m } }).event 0x0201 o
    [(24, 1, m.code), (25, 1, s.control.mode.code), (26, 1, cause)]

/-- Entry to Nadir by a row of Table 6.6, or from Nadir to one-lane Nadir. The program mode stays until the restart (R162; DEDUCED,
log entry 106). -/
def State.enterNadir (s : State) (row : Nat) : State :=
  let d := if (s.voting).length ≤ 1 then Degradation.oneLane else .nadir
  if s.control.degradation.isNadir then s.degrade d row else
    let s1 := s.degrade d row
    let s3 := (((((s1.dropPending).dropArm.abortArmed 3).abortProfile).upsetStop 9).loseCopies).endReintegration
    let s4 := (s3.standbyFalls 6).openSupply
    { s4 with control := { s4.control with nadirEntries := inc s4.control.nadirEntries, nadirDue := none, steps := 0 } }

/-- The exclusions and the entry to Nadir that a vote commits; `row` is the row of Table 6.6 where it enters Nadir. An exclusion in Nadir
discards what has not committed as well (R40, row 7). -/
def State.applyBallot (s : State) (ex : List (LaneId × Cause)) (row : Option Nat) : State :=
  let s1 := ex.foldl (fun u x => u.excludeLane x.1 x.2) s
  let s2 := if ex.isEmpty then s1 else s1.clearLockWords
  match row with
  | some r => if ex.isEmpty ∨ s2.control.degradation.isNadir = false then s2.enterNadir r else s2.exclusionEffects.enterNadir r
  | none =>
    if ex.isEmpty then s2
    else
      let s3 := s2.exclusionEffects
      if s2.control.degradation = .full then
        let s4 := s3.degrade .reduced 0
        if s4.param 2 = 0 then s4.enterNadir 5 else s4
      else if s2.control.degradation = .nadir ∧ (s2.voting).length ≤ 1 then s3.enterNadir 7
      else s3

/-! ## Safe-off -/

def State.stagingAt (s : State) (k : Nat) : Staging := s.images.staging.getD k Staging.empty

/-- Staging slots that are OPEN (or WRITING) become EMPTY when the transaction lock is released or lapses (Table 5.1). -/
def State.dropOpenSlots (s : State) : State :=
  { s with images := { s.images with
      staging := s.images.staging.map (fun g => if g.state = .isOpen ∨ g.state = .writing then Staging.empty else g),
      regions := (List.range s.images.staging.length).foldl (fun rs k =>
        let g := s.stagingAt k
        if g.state = .isOpen ∨ g.state = .writing then listSet rs (s.images.stagingRegions.getD k 6) [] else rs) s.images.regions } }

/-- Every session ends and the lock is released, with its record (R360), at a unit that is no longer active, and in safe-off (Table 9.8). -/
def State.endAllSessions (s : State) : State :=
  let s1 := ({ s with
    host := { s.host with
              sessions := [], lock := none,
              recs := s.host.recs.filter (fun r => r.key.isKi40 || (r.key.isOpening && !r.decisions.isEmpty)) } }).dropOpenSlots
  if s.host.lock.isSome then s1.event 0x0602 Origin.internal [(24, 1, 2)] else s1

/-- Does a lane hold its supply element (R239)? -/
def Lane.holds (l : Lane) : Bool := l.meridianToggles && l.supervisionToggles

/-- The lanes that hold their supply elements. -/
def State.holders (s : State) : List LaneId := allLanes.filter (fun i => (s.lane i).holds)

/-- The cause that a lane gives in its SAFE_OFF record (Table 14.4). -/
def Lane.safeOffCause (l : Lane) : Nat :=
  if l.isolatedFor = some .watchdog then 0 else if l.holds then 3 else 1

/-- The module falls to safe-off (R38, R239): the supply is open, every lane isolates with its own record, an armed change and a
profile switch abort, every session ends without a record, and nothing is sent (R39, R241, Table 9.8). R248 leaves open which lanes can still
write their SAFE_OFF record: every lane does, EXCLUDED and RESTARTING ones included (DESIGN CHOICE, log entry 114). -/
def State.safeOffFor (s : State) (cause : Lane → Nat) : State :=
  let s0 := s.keepCount
  let s1 := { s0 with control := { s0.control with phase := .safeOff } }
  let s2 := (((s1.dropPending).dropArm.abortArmed 4).abortProfile).discardWork.endAllSessions.openSupply
  let s3 := allLanes.foldl (fun u i => u.laneEvent i 0x0405 [(24, 1, i.index), (25, 1, cause (u.lane i))]) s2
  { s3 with lanes := s3.lanes.mapI (fun _ (l : Lane) => { l with
      mode := if l.mode = LaneMode.voting then LaneMode.isolated else l.mode,
      elements := 0, supplyClosed := false, meridianToggles := false, supervisionToggles := false, program := l.program.abandon,
      vote := { l.vote with decided := true } }) }

def State.safeOff (s : State) : State := s.safeOffFor Lane.safeOffCause

/-- R239: with fewer than two lanes holding their supply elements, other than in one-lane Nadir, the module is in safe-off. -/
def State.checkSafeOff (s : State) : State :=
  if s.control.phase = .running ∧ s.control.degradation ≠ .oneLane ∧ (s.holders).length < 2 then s.safeOff else s

end Sys2Proof.Machine
end

