-- ==== Sys2Proof/Machine/Switch.lean ====
section
/-! DEFINITION. Changing the image (05): the changed set, the arm checks of Table 5.6, the carry-over of Table 5.8 and R196, and
the commits of an online change, a profile load, a profile switch and entry to WARM (R150, R563). -/

namespace Sys2Proof.Machine

/-! ## The changed set (R185) -/

/-- The bytes from `a` to `a + n - 1` by their offset from `a`. -/
def Mem.rel (m : Mem) (a n : Nat) : Mem := (Mem.window m a n).map (fun c => (c.1 - a, c.2))

def routePreserved (old new : Mem) (r : Nat) : Bool :=
  ((routeDef old r).isNone && (routeDef new r).isNone) ||
  (decide (r < imgRouteCount old) && decide (r < imgRouteCount new) &&
   Mem.rel old (routeOff old r) 24 == Mem.rel new (routeOff new r) 24 &&
   Mem.rel old (routeOff old r + 64) 9408 == Mem.rel new (routeOff new r + 64) 9408)

def elemPreserved (old new : Mem) (e : Nat) : Bool :=
  Mem.rel old (imgDirOff old 0 + 16 * e) 10 == Mem.rel new (imgDirOff new 0 + 16 * e) 10

def changedRoutes (old new : Mem) : List Nat :=
  (List.range (max (imgRouteCount old) (imgRouteCount new))).filter (fun r => !routePreserved old new r)

def changedElements (old new : Mem) : List Nat := (List.range 8192).filter (fun e => !elemPreserved old new e)

/-! ## Conditions -/

/-- SEALk as voted (R553). -/
def State.sealClosed (s : State) (k : Nat) : Bool := s.sealBank.voted.getD k .isOpen == .isClosed

/-- The keys that the module trusts: none where no two lanes agreed on the list at the last start, so that no lane admits any image (R541;
check 4 of Table 2.17 then fails: DEDUCED, log entry 130). -/
def State.trustedKeys (s : State) : List Bytes := if s.startup.noKeys then [] else s.host.keys.keys

/-- Is the profile slot the running one (R188: none is in IDLE)? -/
def State.slotRuns (s : State) (k : Nat) : Bool := s.control.power != .idle && k == s.images.runningSlot

def State.modStaging (s : State) (k : Nat) (f : Staging → Staging) : State :=
  { s with images := { s.images with staging := listMod s.images.staging k f } }

/-- The IMAGE_ID in a profile slot, 0 when it is EMPTY. -/
def State.slotImage (s : State) (k : Nat) : Nat :=
  match s.images.profiles[k]? with
  | some p => if p.status = .empty then 0 else imgId (s.images.profileMem k)
  | none => 0

/-- The image in a profile slot, nothing where it is EMPTY. -/
def State.slotMem (s : State) (k : Nat) : Mem := if s.slotImage k = 0 then [] else s.images.profileMem k

/-- The routes whose ROUTE_SET awaits intake. -/
def State.waitingRoutes (s : State) : List Nat :=
  (s.host.awaiting ++ (s.pair.deferred.map (·.2)).flatten).filterMap (fun i => match i.cmd with
    | .routeSet r => some r
    | _ => none)

/-- What counts towards the 1,024 of R96: the active routes, and the ROUTE_SETs that await intake or that the T1 cycle in progress has taken
in, whose routes are not active yet in the committed state (DEDUCED, log entry 113). -/
def State.routeLoad (s : State) : Nat :=
  s.leadLane.engine.actives.length + s.waitingRoutes.length + (routeSetKeys s.host.taken).length

/-- The points with a POINT_MOVE that awaits intake or is in progress (R113). -/
def State.movingPoints (s : State) (e : Engine) : List Nat :=
  (s.host.awaiting ++ (s.pair.deferred.map (·.2)).flatten).filterMap (fun i => match i.cmd with
    | .pointMove p _ => some p
    | _ => none) ++
  (e.calls.filter (fun c => c.route == 0xFFFF)).map (·.point)

/-- Is a Constellation change announced and not decided (R299)? -/
def State.constellationOpen (s : State) : Bool := s.ndezo.change.isSome

/-! ## The arm checks (Table 5.6) -/

/-- Check 4. -/
def State.armState (s : State) (k : Nat) : Bool :=
  let g := s.stagingAt k
  (s.control.power == .warm || s.control.power == .live || (s.control.power == .idle && !s.slotRuns g.target)) &&
  s.control.mode != .hold && s.control.degradation == .full &&
  (s.images.staging.zipIdx).all (fun x => x.2 == k || x.1.state != .armed) && s.images.takenProfile.isNone

/-- Check 7: a locked route, a locked element or, in a lane's block set, a point end in the changed set. -/
def State.armLocked (s : State) (e : Engine) (k : Nat) : Bool :=
  let g := s.stagingAt k
  let old := s.images.profileMem g.target
  let new := s.images.stagingMem k
  s.slotRuns g.target &&
  ((changedRoutes old new).any (fun r => s.snap.routeLocked r) ||
   (changedElements old new).any (fun n => s.snap.elemLocked n || ((elemAt old n).etype == tyPoint && getBit e.block n)))

/-- Check 8: a route active in a lane's table or waiting, or a moving point, in the changed set. -/
def State.armActive (s : State) (e : Engine) (k : Nat) : Bool :=
  let g := s.stagingAt k
  let old := s.images.profileMem g.target
  let new := s.images.stagingMem k
  s.slotRuns g.target &&
  ((changedRoutes old new).any (fun r => (e.entry r).state.isActive || s.waitingRoutes.contains r) ||
   (changedElements old new).any (fun n => (s.movingPoints e).contains n))

/-- Checks 2 to 9 of Table 5.6: status and ARM_REASON. R299 refuses with the status and reason of check 4. -/
def State.armCheck (s : State) (k : Nat) : Nat × Nat :=
  let g := s.stagingAt k
  if s.control.degradation.isNadir then (stNadir, 0)
  else if s.sealClosed 14 = false then (stSeal, 0)
  else if s.armState k = false ∨ s.constellationOpen = true then (stState, 1)
  else if g.state ≠ .verified then (stState, 2)
  else if (g.report.map (·.oldImage)).getD 0 ≠ s.slotImage g.target then (stState, 3)
  else if s.armLocked s.leadLane.engine k then (stLocked, 4)
  else if s.armActive s.leadLane.engine k then (stState, 5)
  else if s.pair.role = .active ∧
      s.pair.peerStaged.contains ((g.report.map (·.newImage)).getD 0, g.target) = false then (stState, 6)
  else (stAccepted, 0)

/-- Step 3 of Table 5.7 in a lane with the route engine `e`: checks 3, 4, 7 and 8 again. -/
def State.armHolds (s : State) (e : Engine) (k : Nat) : Bool :=
  s.sealClosed 14 && s.armState k && !s.armLocked e k && !s.armActive e k

/-! ## Carry-over -/

/-- An instance is carried: in both images with the same TYPE_ID (Table 5.8). -/
def carried (old : Mem) (i : Inst) : Option Inst := (instOf old i.id).filter (fun o => o.typeId == i.typeId)

/-- The data of a carried instance at its new place, with the PRESETs of the new image (Table 5.8). -/
def carryInst (oldData : Mem) (o i : Inst) (data : Mem) : Mem :=
  let kept := Mem.bytes oldData o.off i.size
  let withPresets := (List.range i.timers).foldl (fun b k =>
    b.take (16 * k + 8) ++ Mem.bytes data (i.off + 16 * k + 8) 8 ++ b.drop (16 * k + 16)) kept
  Mem.store data i.off withPresets

/-- The instance data of the new image, with the carried instances (R193). -/
def carryData (old new : Mem) (oldData : Mem) : Mem :=
  (insts new).foldl (fun d i => match carried old i with
    | some o => carryInst oldData o i d
    | none => d) (instanceInit new)

/-- The carried timers at or past their new PRESET (R195), by instance and index. -/
def expiredTimers (old new : Mem) (data : Mem) : List (Nat × Nat) :=
  (insts new).flatMap (fun i => match carried old i with
    | some _ => ((List.range i.timers).filter (fun k =>
        decide (Mem.le data (i.off + 16 * k + 8) 8 ≤ Mem.le data (i.off + 16 * k) 8))).map (fun k => (i.id, k))
    | none => [])

/-- The bytes of the carried instances (B of R184). -/
def carriedBytes (old new : Mem) : Nat := (((insts new).filter (fun i => (carried old i).isSome)).map (·.size)).sum

/-- The program side across an online change: instances, timers and edges of carried instances, TE runs of carried streams, and
output fields by the output that they name. -/
def Program.carry (p : Program) (old new : Mem) (keepStream : Nat → Bool) : Program :=
  let kept := ((insts new).filter (fun i => (carried old i).isSome)).map (·.id)
  let gs := groups old
  let data := carryData old new p.data
  { p with
    data := data,
    overdue := expiredTimers old new data,
    edges := p.edges.filter (fun t => kept.contains t.1.1),
    timers := p.timers.filter (fun t => kept.contains t.1.1),
    lastExec := p.lastExec.filter (fun x => kept.contains x.1),
    executed := p.executed.filter (fun x => kept.contains x.1),
    sinceStop := p.sinceStop.filter (fun x => kept.contains x.1),
    teQueue := p.teQueue.filter (fun r => keepStream r.stream),
    fields := (groups new).filterMap (fun g =>
      match gs.find? (fun o => o.kind == g.kind && o.stream == g.stream && o.bit == g.bit) with
      | some o => (assoc p.fields o.first).map (fun v => (g.first, v))
      | none => none) }

/-- A force by the output that it names in the new image. -/
def carryForce (old new : Mem) (f : Force) : Option Force :=
  match f with
  | .output k => some (.output k)
  | .field n =>
    match (groups old).find? (fun g => g.first == n) with
    | none => none
    | some o => ((groups new).find? (fun g => o.kind == g.kind && o.stream == g.stream && o.bit == g.bit)).map (fun g => Force.field g.first)

def Forces.carry (f : Forces) (old new : Mem) : Forces :=
  { f with
    pending := f.pending.filterMap (fun x => (carryForce old new x.1).map (fun y => (y, x.2))),
    holds := f.holds.filterMap (fun x => (carryForce old new x.1).map (fun y => (y, x.2))),
    marks := f.marks.filterMap (fun k => match k with
      | .forced x => (carryForce old new x).map Mark.forced
      | k => some k) }

/-- The incoming streams of the new image: those of both images with the same DIR, PEER and PAYLOAD_LEN keep theirs (R196). -/
def sameStream (old : Mem) (x : Stream) : Bool :=
  match inStream old x.id with
  | some o => o.peer == x.peer && o.len == x.len
  | none => false

def carryStreams (old new : Mem) (xs : List RxStream) : List RxStream :=
  (inStreams new).map (fun x =>
    match xs.find? (fun y => y.id == x.id), sameStream old x with
    | some y, true => y
    | _, _ => RxStream.fresh new x)

/-- The block set and the stop set in the new image (R196). -/
def Engine.carry (e : Engine) (old new : Mem) : Engine :=
  let op := typeMask old tyPoint
  let np := typeMask new tyPoint
  let os := typeMask old tySignal
  let ns := typeMask new tySignal
  { e with block := (e.block &&& np) ||| (np &&& ~~~op), stop := (e.stop &&& ns) ||| (ns &&& ~~~os) }

/-- The records of R128 for what enters and leaves the block set and the stop set at a change of image; the point ends that enter, and those that
leave, make one range each (DESIGN CHOICE, log entry 148). -/
def carryEvents (e : Engine) (old new : Mem) : List Queued :=
  let f := e.carry old new
  let bOld := e.block &&& typeMask old tyPoint
  let sOld := e.stop &&& typeMask old tySignal
  let bIn := bitList (f.block &&& ~~~bOld)
  let bOut := bitList (bOld &&& ~~~f.block)
  let sIn := bitList (f.stop &&& ~~~sOld)
  let sOut := bitList (sOld &&& ~~~f.stop)
  let one := fun (l : List Nat) (v : Nat) => match l with
    | [] => ([] : List Queued)
    | x :: _ => [queuedOf 0x0103 0 0 Origin.internal [payloadFields [(24, 2, x), (26, 1, v), (27, 1, 2), (28, 2, l.length)]]]
  one bIn 1 ++ one bOut 0 ++
  sIn.map (fun x => queuedOf 0x0102 0 0 Origin.internal [payloadFields [(24, 2, x), (26, 1, 1), (27, 1, 8)]]) ++
  sOut.map (fun x => queuedOf 0x0102 0 0 Origin.internal [payloadFields [(24, 2, x), (26, 1, 0), (27, 1, 8)]])

/-- The parameters written at run time that the new image keeps (R196). -/
def carryParams (old new : Mem) (ps : List (Nat × Word)) : List (Nat × Word) :=
  ps.filter (fun p =>
    match paramOf old p.1, paramOf new p.1 with
    | some o, some n => o.unit == n.unit && decide (n.min ≤ p.2.toNat) && decide (p.2.toNat ≤ n.max)
    | _, _ => false)

def State.addEvents (s : State) (l : List Queued) : State := { s with almanac := { s.almanac with events := s.almanac.events ++ l } }

/-! ## Commits -/

def State.settledAll (s : State) (ks : List RecKey) : State := ks.foldl State.settled s


/-- R88, R197: the slot map exchanges the two regions; each lane is to write it to its flash. -/
def State.swapRegions (s : State) (k : Nat) : State :=
  let g := s.stagingAt k
  let p := s.images.profiles.getD g.target { region := 6, status := .empty, hash := [] }
  let r := s.images.stagingRegions.getD k 6
  { s with
    images := { s.images with
      oldMap := if s.images.mapPending then s.images.oldMap else some (s.images.profiles.map (·.region), s.images.stagingRegions),
      profiles := listSet s.images.profiles g.target { region := r, status := .valid, hash := g.hash },
      stagingRegions := listSet s.images.stagingRegions k p.region,
      staging := listSet s.images.staging k Staging.empty, mapPending := true, lostImage := imgId (s.images.stagingMem k) },
    lanes := s.lanes.mapI (fun _ l => { l with mapWritten := false }) }

/-- The CHANGE_COMMIT record group (R198). -/
def State.commitEvent (s : State) (r : Report) (expired : Nat) : State :=
  let count := fun k => (r.entries.filter (fun e => e.kind == k)).length
  s.eventGroup 0x0305 Origin.internal [[(24, 8, r.newImage)], [(24, 8, r.oldImage)], [(24, 4, r.carried), (28, 4, count 1)],
    [(24, 4, count 2), (28, 2, count 3), (30, 2, expired)]]

/-- An armed change commits at a Change Point (R190, R193, R196). With a profile load only the slot map changes (R188): where its target
runs, the image that it replaces there still executes. -/
def State.commitChange (s : State) (k : Nat) : State :=
  let g := s.stagingAt k
  let rep := g.report.getD { newImage := 0, oldImage := 0, running := false, carried := 0, carriedBytes := 0, entries := [] }
  if g.load = false then
    let old := s.img
    let new := s.images.stagingMem k
    let s1 := ({ s with images := { s.images with displaced := none } } : State).swapRegions k
    let evs := carryEvents s.leadLane.engine old new
    let keep := fun id => match inStream new id with
      | some x => sameStream old x
      | none => false
    let s2 := { s1 with
      images := { s1.images with params := carryParams old new s1.images.params },
      lanes := s1.lanes.mapI (fun _ l => { l with
        engine := l.engine.carry old new, program := l.program.carry old new keep, forces := l.forces.carry old new,
        inputs := { l.inputs with streams := carryStreams old new l.inputs.streams } }) }
    (s2.commitEvent rep s2.leadLane.program.overdue.length).addEvents evs
  else
    let kept := if s.slotRuns g.target then some s.img else s.images.displaced
    (({ s with images := { s.images with displaced := kept } } : State).swapRegions k).commitEvent rep 0

/-- The program side as R150 leaves it: every instance at its initial data, and no published variable closed yet. -/
def Program.restart (p : Program) (m : Mem) : Program :=
  { p with
    data := instanceInit m, timers := [], lastExec := [], executed := [], stopRule := .off, sinceStop := [], edges := [], overdue := [], pubs := [], tePubs := [],
    inImages := [] }

/-- A profile switch commits at a Change Point (R204). Whether application parameters written at run time outlast it the manual does not
say: none does (DESIGN CHOICE, log entry 115). -/
def State.commitProfile (s : State) (p : ProfileRequest) : State :=
  let old := s.img
  let new := s.images.profileMem p.target
  let s1 := (s.settledAll p.key.toList).upsetDiscard
  let evs := carryEvents s1.leadLane.engine old new
  let keep := fun id => match inStream new id with
    | some x => sameStream old x
    | none => false
  let s2 := { s1 with
    images := { s1.images with runningSlot := p.target, recordedSlot := some p.target, takenProfile := none, params := [], displaced := none },
    lanes := s1.lanes.mapI (fun _ l => { l with
      engine := l.engine.carry old new, program := (l.program.carry old new keep).restart new, forces := l.forces.carry old new,
      inputs := { l.inputs with streams := carryStreams old new l.inputs.streams } }) }
  (s2.event 0x0308 (s.originOf p.key) [(24, 1, p.target), (25, 1, 0), (26, 1, if p.fromPins then 0 else 1)]).addEvents evs

/-- The selected profile slot in IDLE (R563); slot 0 in KI-40 mode (R561). -/
def State.selectedSlot (s : State) : Nat :=
  if s.sealBank.ki40 then 0 else if s.sealClosed 13 then s.images.recordedSlot.getD 0 else s.sealBank.psel % 4

/-- Does the image hold send entries of this module's pair streams only (R442, R443)? -/
def pairSenders (m : Mem) : List Nat :=
  ((constels m).flatMap (·.slots)).filterMap (fun x => if x.sends ∧ 0xFF00 ≤ x.stream then some x.sender else none)

/-- The peer of a unit that runs a twin (R442). -/
def pairPeer (m : Mem) : Option Nat :=
  ((constels m).flatMap (·.slots)).findSome? (fun x => if x.receives ∧ 0xFF00 ≤ x.stream then some x.sender else none)

/-- R484: a lane's base priorities take the values of Table 13.2. -/
def Lane.defaultPriorities (l : Lane) : Lane := { l with store := { l.store with priority := Machine.defaultPriorities } }

/-! ## Dawn (R287, R301) -/

def Dawn.code : Dawn → Nat
  | .listen => 0
  | .cold => 1
  | .aligning => 2
  | .aligned => 3
  | .joined => 4

/-- A change of Dawn state, with its record (R301). -/
def State.toDawn (s : State) (d : Dawn) : State :=
  if s.ndezo.dawn = d then s
  else ({ s with ndezo := { s.ndezo with dawn := d } }).event 0x0501 Origin.internal
    [(24, 1, d.code), (25, 1, s.ndezo.dawn.code), (26, 1, s.ndezo.parent.getD 0xFF)]

/-- Entry to WARM with the image of a profile slot (Table 16.2, R150, R161, R168, R287, R449, R563). -/
def State.enterWarmAt (s : State) (k : Nat) : State :=
  let new := s.images.profileMem k
  let switched := s.images.recordedSlot.any (fun o => o != k)
  let old := match s.images.recordedSlot with
    | some o => s.images.profileMem o
    | none => new
  let keepRoutes := !switched
  let evs := if switched then carryEvents s.leadLane.engine old new else []
  let s0 := ({ s with ndezo := { s.ndezo with parent := none } } : State).toDawn .listen
  let s1 := { s0 with
    images := { s.images with runningSlot := k, recordedSlot := some k, params := if switched then [] else s.images.params, displaced := none },
    lanes := s.lanes.mapI (fun _ l => { l with
      engine := (let e := if switched then l.engine.carry old new else l.engine
                 if keepRoutes then e else { e with routes := RouteTable.none, calls := [], resets := [], requested := [], positioned := [], keys := [] }),
      program := (l.program.restart new).abandon,
      forces := { l.forces with pending := [], holds := [] },
      inputs := { l.inputs with streams := (inStreams new).map (RxStream.fresh new), rxPending := [] } }),
    ndezo := { s0.ndezo with listenSince := s.now, stratum := 31, parent := none, coarse := false, isPolestar := false, claimed := false,
                             constNo := systemParam new 9, missedSyncs := 0, syncForwarded := false, held := 0,
                             syncHeard := false, validCycle := false, alignedCycles := 0, outCycles := 0, outOfStep := false,
                             mergeCycles := 0, change := none, request := none, emax := [], buffers := [], quiet := false,
                             dawnRuns := inc s.ndezo.dawnRuns },
    pair := { s.pair with
      role := if (pairPeer new).isSome then .undecided else .unpaired, standby := .notReady, listenSince := s.now, heardRole := none,
      last1 := s.now, last2 := s.now, silent1 := false, silent2 := false, quarantineFrom := none, txSeq0 := 0, txSeq1 := 0,
      rxSeq0 := 0, rxSeq1 := 0, beat := none, differs := 0, differSince := none, matchSince := none,
      intakeHeld := [], intakeParts := [], intakeAck := 0, deferred := [], copyAsked := false, copyPoint := none, copyBytes := [], copyDone := false,
      caughtUp := false, switchAt := none, switchAck := 0, epochNext := none, path1Alarm := false, silenceNoted := false, peerStaged := [],
      peerStandby := .notReady, changeDue := none, lastCompared := 0, switchedAt := s.lastCycle.instant, epoch := if (pairPeer new).isSome then s.pair.epoch else 0 },
    ki40 := { s.ki40 with pollDone := false, polled := false } }
  let s2 := if switched then s1.event 0x0308 Origin.internal [(24, 1, k), (25, 1, 0), (26, 1, flag (s.sealClosed 13))] else s1
  (s2.addEvents evs).mapLanes Lane.defaultPriorities

/-- Entry to WARM from IDLE: the selected slot runs. -/
def State.enterWarm (s : State) : State := s.enterWarmAt s.selectedSlot

/-! ## The conditions of Table 1.6 -/

/-- A twin of a pair image (R442). -/
def imgTwin (m : Mem) : Bool := (pairPeer m).isSome || pairSenders m != []

/-- The SENDERs of an image's send entries. -/
def imgSenders (m : Mem) : List Nat := ((constels m).flatMap (·.slots)).filterMap (fun x => if x.sends then some x.sender else none)

/-- R443: a twin whose send entries name another node. -/
def State.wrongTwin (s : State) (m : Mem) : Bool := imgTwin m && (imgSenders m).any (fun n => n != s.node)

/-- The condition of IDLE to WARM in Table 1.6: the selected profile slot is VALID, its image has the role of the seal switches and
is not a twin of another node. -/
def State.warmReady (s : State) : Bool :=
  let m := s.images.profileMem s.selectedSlot
  (s.images.profiles[s.selectedSlot]?).any (fun p => p.status == .valid) && imgRole m == s.sealBank.role && !s.wrongTwin m

/-- The Dawn condition of Table 1.6; in KI-40 mode a poll round since the last entry to WARM (R592). -/
def State.dawnComplete (s : State) : Bool := if s.sealBank.ki40 then s.ki40.pollDone else s.ndezo.dawn == .joined

/-- R563: entry to WARM from another slot than the recorded one, with a route locked. -/
def State.switchLocked (s : State) (p : Power) : Bool :=
  s.control.power == .idle && p == .warm && s.images.recordedSlot.any (fun o => o != s.selectedSlot) &&
  s.leadLane.engine.routeLock != 0

/-- Does Table 1.6 let the power state change to `p`? WARM in Nadir is the restart of R36. -/
def State.powerAllowed (s : State) (p : Power) : Bool :=
  match s.control.power, p with
  | .idle, .warm => s.warmReady && !s.switchLocked p
  | .warm, .live =>
    s.control.mode != .hold && s.dawnComplete && (s.control.degradation == .full || s.control.degradation == .reduced)
  | .warm, .warm => s.control.degradation.isNadir
  | .live, .warm | .warm, .idle | .idle, .off | .warm, .off | .live, .off => true
  | _, _ => false

end Sys2Proof.Machine
end

