-- ==== Sys2Proof/Machine/PairCore.lean ====
section
/-! DEFINITION. The parts of the standby pair (12) that a vote decides: Table 12.5, takeover (R460), switchover (R466) and the
authority epochs (R456, R458). -/

namespace Sys2Proof.Machine

/-- The running Constellation. -/
def State.constel (s : State) : Option Constel := constelOf s.img s.ndezo.constNo

/-- The domain cycle in ns; before a Constellation runs, that of parameter 0x0009. -/
def State.domainCycle (s : State) : Nat :=
  match s.constel with
  | some c => c.cycleNs
  | none => ((constelOf s.img (s.param 9)).map (·.cycleNs)).getD ms

/-- Is this the lower unit of its pair (R440)? -/
def State.isLower (s : State) : Bool := decide (s.node < (pairPeer s.img).getD 0xFFFF)

/-- The smallest epoch of a parity above every given one (R456). -/
def nextEpoch (lower : Bool) (es : List Nat) : Nat :=
  let m := es.foldl max 0
  let want := if lower then 0 else 1
  if (m + 1) % 2 = want then m + 1 else m + 2

/-- The epoch that this unit would take (R456). -/
def State.newEpoch (s : State) : Nat := nextEpoch s.isLower [s.pair.epoch, s.pair.heardEpoch, s.pair.epochFlash, s.pair.epochNext.getD 0]

/-- A record of the pair's state (0x0801). -/
def State.pairEvent (s : State) (row : Nat) : State :=
  s.event 0x0801 Origin.internal
    [(24, 1, match s.pair.role with
        | .active => 1
        | .standby => 2
        | _ => 0),
     (25, 1, match s.pair.role, s.pair.standby with
        | .standby, .notReady => 0
        | .standby, .copying => 1
        | .standby, .ready => 2
        | _, _ => 0xFF),
     (26, 1, row)]

def State.pairAlarmEvent (s : State) (kind : Nat) : State := s.event 0x0803 Origin.internal [(24, 1, kind)]

/-- The standby leaves its state for NOT_READY. -/
def State.notReady (s : State) (row : Nat) : State :=
  ({ s with pair := { s.pair with
      standby := .notReady, copyPoint := none, copyBytes := [], copyNext := 0, copyHash := none, copyDone := false, caughtUp := false,
      matchSince := none, differs := 0, differSince := none, intakeParts := [] } }).pairEvent row

/-! ## The end of a session (Table 9.8) -/

/-- R178: this session holds the transaction lock. -/
def State.holdsLock (s : State) (session : Nat) : Bool := s.host.lock.any (fun l => l.session == session)

/-- The transaction lock is released or lapses; `kind` is byte 24 of its LOCK record. -/
def State.dropLock (s : State) (o : Origin) (kind : Nat) : State :=
  (({ s with host := { s.host with lock := none } }).dropOpenSlots).event 0x0602 o [(24, 1, kind)]

/-- A session ends (R350). `kind` is byte 24 of its SESSION record: 1 closed, 2 lapsed, 3 ended by SEAL15. Records of a command
that is accepted and not yet committed stay, so that it takes effect; it gets no further reply. -/
def State.endSession (s : State) (n kind : Nat) : State :=
  match s.sessionOf n with
  | none => s
  | some x =>
    let o := if kind = 1 then Origin.ofSession x else Origin.internal
    let s1 : State := { s with host := { s.host with
      sessions := s.host.sessions.filter (fun y => y.number != n),
      recs := s.host.recs.filter (fun r => r.key.session? != some n) } }
    let s2 := s1.event 0x0601 o [(24, 1, kind)]
    if s.holdsLock n then s2.dropLock o 2 else s2

/-- The record group of a takeover or switchover. -/
def State.switchEvent (s : State) (kind new old number : Nat) : State :=
  s.eventGroup 0x0802 Origin.internal [[(24, 1, kind), (28, 4, new)], [(24, 4, old)], [(24, 8, number)]]

/-- What is accepted and not committed is discarded at both units of a takeover (R241, Table 9.8, Table 3.10). -/
def State.discardAccepted (s : State) : State := ((((s.dropPending).dropArm).abortArmed 5).abortProfile).upsetDiscard

/-- Takeover (R460): this READY standby becomes the active unit in this vote. -/
def State.takeover (s : State) : State :=
  let e := s.newEpoch
  let n := match s.pair.beat with
    | some b => max s.nextNumber (b.snapshot + 65536)
    | none => s.nextNumber
  let s1 := ({ s with nextNumber := n }).discardAccepted
  let s2 := { s1 with pair := { s1.pair with
    role := .active, standby := .notReady, peerStandby := .notReady, epoch := e, epochPending := true, epochNext := none, switchAt := none,
    switchAck := 0, intakeHeld := [], intakeParts := [], deferred := [], changeDue := none, quarantineFrom := none, silenceNoted := false,
    lastSwitch := s.wallAt s.now, lastSwitchAt := s.now, switchDue := false } }
  (s2.switchEvent 0 e s.pair.epoch n).pairEvent 8

/-- A standby acts on no profile request of its own (R451): one that is pending ends with the role. -/
def State.dropRequest (s : State) : State :=
  let s1 := s.discardKeys (s.images.pendingProfile.bind (·.key)).toList
  { s1 with images := { s1.images with pendingProfile := none } }

/-- An active unit that has heard a higher epoch becomes a NOT_READY standby (R458): the other unit has taken over. -/
def State.stepDown (s : State) : State :=
  let s1 := ((s.settledOp 0x0902).discardAccepted).dropRequest
  (({ s1 with pair := { s1.pair with
      role := .standby, standby := .notReady, deferred := [], epoch := s.pair.heardEpoch, switchAt := none, switchAck := 0, copyPoint := none,
      quarantineFrom := none, silenceNoted := false } }).endAllSessions).pairEvent 0

/-- Table 12.5, at a planned instant. -/
def State.pairDecision (s : State) : State :=
  match s.pair.role with
  | .standby =>
    (match s.pair.standby, s.pair.silent1, s.pair.silent2 with
     | .ready, true, true => s.takeover
     | .ready, true, false => (({ s with pair := { s.pair with path1Alarm := true } }).notReady 7).pairAlarmEvent 0
     | .copying, true, _ => (s.notReady 3).event 0x0805 Origin.internal [(24, 1, 2), (25, 1, 1)]
     | _, _, _ => s)
  | .active =>
    if s.pair.heardEpoch > s.pair.epoch then s.stepDown
    else
      (match s.pair.silent1, s.pair.silent2 with
       | true, true =>
         if s.pair.silenceNoted then s
         else (({ s with pair := { s.pair with
             pairAlarm := true, silenceNoted := true, quarantineFrom := some (max s.pair.last1 s.pair.last2),
             peerStandby := .notReady } }).pairAlarmEvent 2).pairAlarmEvent 3
       | true, false =>
         if s.pair.path1Alarm then s
         else ({ s with pair := { s.pair with path1Alarm := true, peerStandby := .notReady } }).pairAlarmEvent 0
       | _, _ => s)
  | _ => s

/-- A switchover at its Change Point (R466): the units exchange their roles and discard what is accepted and not committed, as at a takeover. -/
def State.switchover (s : State) : State :=
  match s.pair.role, s.pair.switchAt with
  | .active, some c =>
    if s.pair.switchAck = c then
      let s1 := ((((s.settledOp 0x0902).dropPending).dropArm).upsetDiscard).dropRequest
      let s2 := ({ s1 with pair := { s1.pair with
        role := .standby, standby := .ready, switchAt := none, deferred := [], quarantineFrom := none, silenceNoted := false, lastSwitch := s.wallAt s.now, lastSwitchAt := s.now, switchDue := false } }).endAllSessions
      (s2.switchEvent 1 s.pair.heardEpoch s.pair.epoch s.nextNumber).pairEvent 0
    else { s.settledOp 0x0902 with pair := { s.pair with switchAt := none } }
  | .standby, some _ =>
    if s.pair.standby = .ready ∧ s.pair.switchAt = some s.pair.switchAck then
      let e := s.pair.epochNext.getD s.newEpoch
      let s1 := ((s.dropPending).dropArm).upsetDiscard
      let s2 := { s1 with pair := { s1.pair with
        role := .active, standby := .notReady, peerStandby := .ready, intakeHeld := [], intakeParts := [], epoch := e, epochPending := s.pair.epochFlash != e, epochNext := none, switchAt := none,
        switchAck := 0, lastSwitch := s.wallAt s.now, lastSwitchAt := s.now, switchDue := false } }
      (s2.switchEvent 1 e s.pair.epoch s.nextNumber).pairEvent 0
    else { s with pair := { s.pair with switchAt := none, epochNext := none } }
  | _, _ => s

/-- READY at the first Change Point after 1 s of matching digests (R464, Table 12.4). -/
def State.commitReady (s : State) : State :=
  if s.pair.role = .standby ∧ s.pair.standby = .copying ∧ s.pair.caughtUp = true ∧
      (s.pair.matchSince.any (fun m => decide (m + second ≤ s.now))) = true then
    let s1 : State := { s with pair := { s.pair with
      standby := .ready, copyPoint := none, copyBytes := [], copyNext := 0, copyHash := none, copyDone := false, caughtUp := false, differs := 0,
      differSince := none } }
    (s1.pairEvent 2).event 0x0805 Origin.internal [(24, 1, 3)]
  else s

/-- The end of the quarantine (R458). -/
def State.quarantineEnds (s : State) (q : Nat) : Nat := q + 5 * ms + s.t0 + 2 * s.domainCycle

/-- May the active unit take in the list of the T1 start `u` at `t` (R453)? -/
def State.listReady (s : State) (t u : Nat) : Bool :=
  decide (u + ms ≤ t) &&
  (match s.pair.quarantineFrom with
   | some q => decide (s.quarantineEnds q ≤ t)
   | none => s.pair.peerStandby == .notReady || decide (u ≤ s.pair.intakeAck))

end Sys2Proof.Machine
end

