-- ==== Sys2Proof/Machine/Intake.lean ====
section
/-! DEFINITION. The T1 intake (R97, R148, R166, R202, R427, R452, R453, R606): commands, marks and profile requests. -/

namespace Sys2Proof.Machine

/-- The voting lanes that list a command at the T1 start `t` (R97, R139). -/
def State.listing (s : State) (t : Nat) (i : Intake) : List LaneId :=
  if t < i.due then [] else s.voting.filter (fun j => decide (i.stamps.get j < t))

/-- R606: a KI-40 command is listed only at a KI-40 cycle start. -/
def Intake.listable (i : Intake) (t : Nat) : Bool :=
  !i.key.isKi40 || t % (50 * ms) == 0

/-- The commands that at least two lanes list, in their order. -/
def State.agreedList (s : State) (t : Nat) : List Intake :=
  s.host.awaiting.filter (fun i => i.listable t && decide (2 ≤ (s.listing t i).length))

/-- INTAKE_CARRY: how many commands a lane alone lists. R97 counts such a command once and does not name the lane: the model counts it in the
lane that lists it alone (DESIGN CHOICE, log entry 144). -/
def State.carriedAlone (s : State) (t : Nat) (j : LaneId) : Nat :=
  (s.host.awaiting.filter (fun i => i.listable t && s.listing t i == [j])).length

/-- The number of an output mark. -/
def markKey : Mark → Nat
  | .forced _ => 0
  | .fault k o => 1 + 4 * o + outFaultCode k
  | .short o => 1 + 4 * o + 3

/-- The marks that at least two voting lanes list, with the lane that first found each. -/
def State.agreedMarks (s : State) : List (Mark × Nat) :=
  let all := (s.voting.flatMap (fun j => (s.lane j).forces.marks)).eraseDups
  all.filterMap (fun k =>
    match s.voting.filter (fun j => (s.lane j).forces.marks.contains k) with
    | a :: _ :: _ => some (k, ((assoc s.safeIo.marker (markKey k)).getD a).index)
    | _ => none)

/-- STUCK_ON taken in: each voting lane stops toggling its supply element signals, and the module is in safe-off (Table 11.6, R239); its record,
where no T1 body writes it (`records`; R439). -/
def State.stuckOn (s : State) (marks : List (Mark × Nat)) (records : Bool) : State :=
  let found := marks.filterMap (fun k => match k.1 with
    | .fault .stuckOn o => some (o, k.2)
    | _ => none)
  if found.isEmpty then s
  else (if records then found.foldl (fun u x => u.event 0x0701 Origin.internal [(24, 1, x.1), (25, 1, 0), (26, 1, x.2)]) s else s).safeOffFor (fun _ => 2)

/-- The accepted commands that await intake, those included that a unit of a pair has listed and not taken in. -/
def State.waitingIntakes (s : State) : List Intake := (s.pair.deferred.map (·.2)).flatten ++ s.host.awaiting

/-- The waiting commands of a pair without some of them. -/
def Pair.dropWaiting (p : Pair) (out : Intake → Bool) : Pair :=
  { p with deferred := p.deferred.map (fun x => (x.1, x.2.filter (fun i => !out i))) }

def EngineCmd.mode? : EngineCmd → Option Mode
  | .mode m _ _ => some m
  | _ => none

def EngineCmd.isMode (c : EngineCmd) : Bool := c.mode?.isSome

def EngineCmd.isPower : EngineCmd → Bool
  | .power _ => true
  | _ => false

/-- The commands of the route engine; parameters, modes and power states act at the module. -/
def EngineCmd.forEngine : EngineCmd → Bool
  | .params _ | .mode _ _ _ | .power _ | .profile _ _ => false
  | _ => true

/-! ## Profile requests (R202, Table 5.10) -/

/-- The outcome of Table 5.10: 0 taken in, 1 refused ST_REJ_LOCKED, 2 refused ST_REJ_STATE; nothing while it is not evaluated. -/
def State.profileOutcome (s : State) (p : ProfileRequest) : Option Nat :=
  if s.images.staging.any (fun g => g.state == .armed) ∨ s.constellationOpen then none
  else if s.snap.routeLock ≠ 0 then some 1
  else
    let m := s.images.profileMem p.target
    let ok := (s.images.profiles.getD p.target { region := 6, status := .empty, hash := [] }).status == .valid &&
      imgRole m == s.sealBank.role && imgMode m == 0
    if !ok then some 2
    else
      match s.constel, constelOf m s.ndezo.constNo with
      | some c, some d => if c.id = d.id then some 0 else some 2
      | _, _ => some 2

/-- A profile request evaluated at the T1 intake at `t` (R202). -/
def State.evaluateProfile (s : State) (t : Nat) (p : ProfileRequest) : State :=
  match s.images.takenProfile, s.profileOutcome p with
  | some _, _ | none, none => s
  | none, some 0 => { s with images := { s.images with takenProfile := some p, takenAt := t, pendingProfile := none } }
  | none, some o =>
    let s1 := s.event 0x0308 (s.originOf p.key) [(24, 1, p.target), (25, 1, o), (26, 1, if p.fromPins then 0 else 1)]
    if p.fromPins then s1 else { s1.settledAll p.key.toList with images := { s1.images with pendingProfile := none } }

/-- A listed profile request is taken in: the pending one at the active unit, unless it has given way since; at the standby the one that the
list names (R451). -/
def State.takeProfile (s : State) (t target : Nat) (fromPins : Bool) : State :=
  if s.pair.role = .standby then s.evaluateProfile t { target := target, fromPins := fromPins, key := none }
  else
    match s.images.pendingProfile with
    | some p => if p.target = target ∧ p.fromPins = fromPins then s.evaluateProfile t p else s
    | none => s

/-- A command taken in that acts at the module: parameters commit with the T1 cycle (R392), modes and power states of a pair at
the next Change Point (R454), profile requests at the next one after theirs (R202). -/
def State.takeModule (t : Nat) (s : State) (i : Intake) : State :=
  match i.cmd with
  | .params vs => { s with images := { s.images with pendingParams := vs.foldl (fun l v => assocSet l v.1 v.2) s.images.pendingParams } }
  | .mode m n bps => { s with control := { s.control with
      pendingMode := some (m, some i.key), pendingSteps := n, pendingBreaks := bps } }
  | .power p => { s with control := { s.control with pendingPower := some (p, some i.key) } }
  | .profile target pins => s.takeProfile t target pins
  | _ => s

/-- The commands are taken in at the T1 start `t`. -/
def State.takeIn (s : State) (t : Nat) (l : List Intake) : State :=
  let s1 := l.foldl (State.takeModule t) s
  { s1 with host := { s1.host with taken := s1.host.taken ++ l.filter (fun i => match i.cmd with
    | .mode _ _ _ | .power _ | .profile _ _ => false
    | _ => true) } }

/-! ## Intake lists on the standby links

The manual gives an INTAKE frame no layout. What crosses is a stream of bytes: each command as a tag, its identity and its operands, and the
marks taken in at the T1 start. Each frame carries the T1 start, the offset and the length of the stream, and up to 1,024 bytes of it (DESIGN
CHOICE, log entry 22). -/

/-- A command as a tag and operands. -/
def EngineCmd.words : EngineCmd → Nat × List Nat
  | .routeSet r => (0, [r])
  | .routeCancel r removed => (1, [r, flag removed])
  | .routeRelease r => (2, [r])
  | .signalStop e => (3, [e])
  | .allStop => (4, [])
  | .pointMove p v => (5, [p, v])
  | .pointBlock p => (6, [p])
  | .pointUnblock f l => (7, [f, l])
  | .sectionReset e => (8, [e])
  | .params vs => (9, vs.flatMap (fun v => [v.1, v.2.toNat]))
  | .mode m n none => (10, [m.code, n])
  | .mode m n (some bps) => (11, m.code :: n :: bps)
  | .power p => (12, [p.code])
  | .profile k pins => (13, [k, flag pins])

/-- Words in pairs. -/
def wordPairs : List Nat → List (Nat × Word)
  | a :: b :: r => (a, BitVec.ofNat 32 b) :: wordPairs r
  | _ => []

def modeOfCode (n : Nat) : Mode := if n = 1 then .run else if n = 2 then .hold else .stop

def EngineCmd.ofWords (tag : Nat) (l : List Nat) : EngineCmd :=
  let a := l.getD 0 0
  let b := l.getD 1 0
  match tag with
  | 0 => .routeSet a
  | 1 => .routeCancel a (b != 0)
  | 2 => .routeRelease a
  | 3 => .signalStop a
  | 5 => .pointMove a b
  | 6 => .pointBlock a
  | 7 => .pointUnblock a b
  | 8 => .sectionReset a
  | 9 => .params (wordPairs l)
  | 10 => .mode (modeOfCode a) b none
  | 11 => .mode (modeOfCode a) b (some (l.drop 2))
  | 12 => .power (if a = 3 then .live else .warm)
  | 13 => .profile a (b != 0)
  | _ => .allStop

/-- A command of an intake list in bytes: 24 and 4 for each operand. -/
def Intake.bytes (i : Intake) : Bytes :=
  let w := i.cmd.words
  let key := (i.key.session?.getD 0, i.key.seq)
  b8 w.1 ++ b8 w.2.length ++ b16 i.opcode ++ b32 key.1 ++ b32 key.2 ++ b8 i.cls.code ++ b8 i.session ++ b16 i.hostId ++ b32 i.originId ++ b32 0 ++
    (w.2.map b32).flatten

/-- A mark as a tag, the lane that first found it, and the group or output. -/
def markBytes (k : Mark × Nat) : Bytes :=
  let w : Nat × Nat := match k.1 with
    | .forced (.output o) => (0, o)
    | .forced (.field g) => (1, g)
    | .fault f o => (2 + outFaultCode f, o)
    | .short o => (5, o)
  b8 w.1 ++ b8 k.2 ++ b16 w.2

/-- The bytes of an intake list and of the marks taken in at its T1 start (R452). -/
def intakeStream (l : List Intake) (marks : List (Mark × Nat)) : Bytes :=
  b32 l.length ++ b32 marks.length ++ (l.map Intake.bytes).flatten ++ (marks.map markBytes).flatten

/-- The payloads that carry a stream: its T1 start, their offset, its length and their bytes. -/
def intakePayloads (t total : Nat) : Nat → Nat → Bytes → List Bytes
  | 0, _, _ => []
  | n + 1, off, b => (b64 t ++ b32 off ++ b32 total ++ b.take 1024) :: intakePayloads t total n (off + 1024) (b.drop 1024)

/-- The frames of the list of the T1 start `t` (R452). -/
def intakeFrames (t : Nat) (l : List Intake) (marks : List (Mark × Nat)) : List Bytes :=
  let b := intakeStream l marks
  intakePayloads t b.length ((b.length + 1023) / 1024) 0 b

/-- The stream that the parts of the list of `t` make up, once none is missing. -/
def gatherParts (parts : List (Nat × Nat × Bytes)) (t total : Nat) : Option Bytes :=
  let b := (List.range ((total + 1023) / 1024)).flatMap (fun k =>
    ((parts.find? (fun x => x.1 == t && x.2.1 == 1024 * k)).map (·.2.2)).getD [])
  if b.length = total then some b else none

/-- The commands of an intake list as the standby reads them. -/
def readIntake : Nat → Bytes → List Intake
  | 0, _ => []
  | k + 1, b =>
    let n := rd8 b 1
    let args := (List.range n).map (fun j => rd32 b (24 + 4 * j))
    { key := .session (rd32 b 4) (rd32 b 8), content := none, cmd := EngineCmd.ofWords (rd8 b 0) args,
      cls := if rd8 b 12 = 1 then .engineer else if rd8 b 12 = 2 then .maintenance else if rd8 b 12 = 3 then .internal else .operator,
      session := rd8 b 13, hostId := rd16 b 14, originId := rd32 b 16, opcode := rd16 b 2, stamps := Lanes3 0, due := 0 } ::
      readIntake k (b.drop (24 + 4 * n))

/-- Header bytes 16 to 29 of a standby link frame and its payload (Table 12.1), which its check values cover (R447). -/
def pairCoveredBytes (sender seq epoch : Nat) (payload : Bytes) : Bytes :=
  b16 payload.length ++ b16 sender ++ b32 seq ++ b32 epoch ++ b16 0 ++ payload

/-- A payload of a standby link frame: at least 16 bytes long (Table 12.1), zeros after a shorter one. -/
def pairPayload (p : Bytes) : Bytes := p ++ zeros (16 - p.length)

/-- A standby link frame of this unit with its check values, folded with the unit's and its peer's node ID and the stream of the link (R446,
R447). -/
def State.pairOut (s : State) (link : PairLink) (kind seq : Nat) (payload : Bytes) : Tx :=
  let p := pairPayload payload
  let k : Fold := { seq := seq, source := s.node, dest := (pairPeer s.img).getD 0, stream := if link = .sl1 then 0xFFF1 else 0xFFF0 }
  let m := checkMessage k (pairCoveredBytes s.node seq s.pair.epoch p)
  .pairFrame link kind seq p s.node s.pair.epoch (cvP m) (cvQ m)

/-- The bytes of a sent standby link frame (Table 12.1). -/
def pairFrameBytes (kind seq : Nat) (payload : Bytes) (sender epoch : Nat) (p q : Word) : Bytes :=
  let body := [0x03, 0x4E, 0x44, 0x5A, 0, 0x01, 0x02, 0x4E, 0x44, 0x5A, 0, 0x01, 0x88, 0xB6] ++ b8 (1 + 16 * kind) ++ b8 0 ++
    pairCoveredBytes sender seq epoch payload ++ b32 p.toNat ++ b32 q.toNat
  let padded := body ++ zeros (60 - body.length)
  padded ++ b32 (fcs padded).toNat

/-- A frame leaves on a standby link with the next SEQ of its direction (R446), if the owner of its port transmits (R22, R231). -/
def State.sendPair (s : State) (link : PairLink) (kind : Nat) (payload : Bytes) : State :=
  match link with
  | .sl0 => if (s.sender 56).isSome then
      { s with pair := { s.pair with txSeq0 := s.pair.txSeq0 + 1 }, sent := s.sent ++ [s.pairOut .sl0 kind (s.pair.txSeq0 + 1) payload] } else s
  | .sl1 => if (s.sender 57).isSome then
      { s with pair := { s.pair with txSeq1 := s.pair.txSeq1 + 1 }, sent := s.sent ++ [s.pairOut .sl1 kind (s.pair.txSeq1 + 1) payload] } else s
  | .domain => s

def State.sendBoth (s : State) (kind : Nat) (payload : Bytes) : State := (s.sendPair .sl0 kind payload).sendPair .sl1 kind payload

/-- Is this module a unit of a pair (R449)? -/
def State.inPair (s : State) : Bool := s.hasImage && s.pair.role != .unpaired

/-- The images that a unit holds VERIFIED or ARMED, with their targets. -/
def State.stagedImages (s : State) : List (Nat × Nat) :=
  s.images.staging.filterMap (fun g => if g.state = .verified ∨ g.state = .armed then some ((g.report.map (·.newImage)).getD 0, g.target) else none)

/-- A unit of a pair tells its peer which images it holds VERIFIED (check 9 of Table 5.6), in a CHANGE frame, and may ask for those of the
peer (DESIGN CHOICE, log entry 22). -/
def State.tellStaged (s : State) (ask : Bool) : State :=
  if s.inPair then
    s.sendBoth 4 (b16 0x0405 ++ b8 s.stagedImages.length ++ b8 (flag ask) ++ (s.stagedImages.map (fun x => b64 x.1 ++ b8 x.2)).flatten)
  else s

/-- Does the active unit send its intake lists (R452)? -/
def State.sendsLists (s : State) : Bool :=
  s.pair.role == .active && (s.pair.peerStandby == .copying || s.pair.peerStandby == .ready)

/-- The pending profile request as the active unit lists it, at each T1 start until it is taken in or ends (R202, R451). -/
def State.listedProfile (s : State) : List Intake :=
  match s.images.pendingProfile with
  | some p => [{ key := .session 0 0, content := none, cmd := .profile p.target p.fromPins, cls := .internal, session := 0, hostId := 0, originId := 0,
                 opcode := 0x0402, stamps := Lanes3 0, due := 0 }]
  | none => []

/-- The intake of commands at the T1 start `t` (R97, R452, R453). -/
def State.intakeCommands (s : State) (t : Nat) : State :=
  let agreed := s.agreedList t
  let keep := s.host.awaiting.filter (fun i => !(agreed.any (fun j => j.key == i.key && j.content == i.content)))
  let s1 : State := { s with
    host := { s.host with awaiting := keep },
    lanes := s.lanes.mapI (fun j (l : Lane) => { l with counters := { l.counters with
      intakeCarry := l.counters.intakeCarry + BitVec.ofNat 32 (if l.mode = LaneMode.voting then s.carriedAlone t j else 0) } }) }
  match s.pair.role with
  | .active =>
    if s.sendsLists ∨ s.pair.deferred ≠ [] ∨ s.pair.quarantineFrom.isSome then
      let ready := s1.pair.deferred.takeWhile (fun x => s1.listReady t x.1)
      let rest := s1.pair.deferred.dropWhile (fun x => s1.listReady t x.1)
      let s2 := ({ s1 with pair := { s1.pair with deferred := rest } } : State).takeIn t (ready.flatMap (fun x => x.2))
      let s3 := if rest.any (fun x => decide (x.1 + ms = t) && x.2 != []) then s2.pairAlarmEvent 4 else s2
      let list := agreed ++ (if s.sendsLists then s3.listedProfile else [])
      let s4 := if s.sendsLists then (intakeFrames t list s.agreedMarks).foldl (fun (u : State) b => u.sendBoth 2 b) s3 else s3
      { s4 with pair := { s4.pair with deferred := rest ++ [(t, list)] } }
    else s1.takeIn t agreed
  | .standby =>
    let due := s1.pair.intakeHeld.filter (fun x => decide (x.1 + ms ≤ t))
    let s2 : State := { s1 with pair := { s1.pair with intakeHeld := s1.pair.intakeHeld.filter (fun x => !decide (x.1 + ms ≤ t)) } }
    s2.takeIn t (due.flatMap (fun x => x.2))
  | _ => s1.takeIn t agreed

/-- The intake of marks. In the field role, which has no T1, the sets of R428 take an output fault in at once (log entry 23). -/
def State.intakeMarks (s : State) (t : Nat) : State :=
  let ks := s.agreedMarks
  let s1 := s.stuckOn ks (imgRole s.img != 1)
  let s2 : State := { s1 with
      lanes := s1.lanes.mapI (fun _ (l : Lane) => { l with forces := { l.forces with
        marks := l.forces.marks.filter (fun k => !ks.any (fun q => q.1 == k)) } })
      safeIo := { s1.safeIo with marker := s1.safeIo.marker.filter (fun x => !ks.any (fun q => markKey q.1 == x.1)) } }
  if imgRole s.img = 1 then
    let w := ks.foldl (fun w k => w.outputMark t k.2 k.1) (Work.start s.leadLane.engine)
    let s3 : State := { s2 with lanes := s2.lanes.mapI (fun _ l => { l with engine := { l.engine with
        faultSet := w.eng.faultSet, degradedSet := w.eng.degradedSet, shortSet := w.eng.shortSet, shorts := w.eng.shorts } }) }
    s3.addEvents w.events
  else { s2 with host := { s2.host with takenMarks := s2.host.takenMarks ++ ks } }

/-- The pending profile request at a T1 intake at `t`; a pair takes it in through its intake lists. -/
def State.intakeProfile (s : State) (t : Nat) : State :=
  if s.sendsLists ∨ s.pair.role = .standby then s
  else
    match s.images.pendingProfile with
    | some p => s.evaluateProfile t p
    | none => s

/-- The T1 intake at `t`. -/
def State.intake (s : State) (t : Nat) : State := ((s.intakeCommands t).intakeMarks t).intakeProfile t

end Sys2Proof.Machine
end

