-- ==== Sys2Proof/Machine/PairCopy.lean ====
section
/-! DEFINITION. The state copy of a standby pair (R462 to R464): the copy set of Table 12.6 in bytes, its COPY frames and its loading. The
manual gives the copy set and its frames no layout; this one is the model's (DESIGN CHOICE, log entry 22). -/

namespace Sys2Proof.Machine

/-- A snapshot ring entry to offset 5,647 (Table 2.19). -/
def Snapshot.ringEntry (p : Snapshot) : Bytes :=
  b64 p.number ++ b32 p.safeOut.toNat ++ zeros 4 ++ vecBytes p.state ++ vecBytes p.elemLock ++ vecBytes p.routeLock

/-- The bytes that an image's instances take. -/
def instanceSize (m : Mem) : Nat := ((insts m).map (fun i => i.off + i.size)).foldl max 0

/-- A queued TE run; its logical time counts back from the logical time `base` of T0. -/
def TeRun.bytes (base : Nat) (r : TeRun) : Bytes :=
  b16 r.stream ++ b16 r.peer ++ b8 r.ageLimit ++ b8 r.age ++ b16 r.ended ++ b64 r.latchTime ++ b16 r.dropoutNo ++ leBytes 6 r.snapshot ++
    leBytes 7 (base - r.logical)

/-- Status word, age and ready buffer of an incoming stream. -/
def RxStream.copyBytes (x : RxStream) (len : Nat) : Bytes :=
  b32 x.status.toNat ++ b8 x.age ++ b8 (flag x.ready.isSome) ++ b16 0 ++ payloadBytes ((x.ready.map (·.payload)).getD 0) len

/-- The parts of Table 12.6 after one another, in its order. -/
def State.copySet (s : State) : Bytes :=
  let m := s.img
  let l := s.leadLane
  let e := l.engine
  let p := l.program
  s.snap.ringEntry ++ ((List.range 4096).map (fun r => (e.entry r).bytes)).flatten ++ vecBytes e.block ++ vecBytes e.stop ++
    Mem.bytes p.data 0 (instanceSize m) ++
    (b64 p.logical.a ++ b64 p.logical.b ++ b64 p.logical.c ++ b64 p.phase ++ b64 p.teQueue.length ++ (p.teQueue.map (TeRun.bytes p.logical.a)).flatten ++
      zeros (12248 - 31 * p.teQueue.length)) ++
    ((inStreams m).map (fun x => match l.inputs.streams.find? (fun y => y.id == x.id) with
      | some y => y.copyBytes x.len
      | none => zeros (8 + x.len))).flatten ++
    (b64 s.images.params.length ++ (s.images.params.map (fun q => b16 q.1 ++ b16 0 ++ b32 q.2.toNat)).flatten ++ zeros (8 * (1024 - s.images.params.length))) ++
    (b64 s.pair.epoch ++ b64 s.snap.number)

/-- The COPY frames of a copy set: the offset, a mark of the last frame, up to 1,024 bytes, and in the last frame the hash. -/
def copyFrames : Nat → Nat → Bytes → Bytes → List Bytes
  | 0, _, _, _ => []
  | fuel + 1, off, b, hash =>
    if b.length ≤ 976 then [b64 off ++ b64 1 ++ hash ++ b]
    else (b64 off ++ b64 0 ++ b.take 1024) :: copyFrames fuel (off + 1024) (b.drop 1024) hash

/-- At the copy point the active unit captures the copy set and sends it on both links (R462, R463). -/
def State.captureCopy (s : State) (t : Nat) : State :=
  match s.pair.role, s.pair.copyPoint with
  | .active, some c =>
    if c ≤ t then
      let b := s.copySet
      let s1 := (copyFrames (b.length / 1024 + 2) 0 b (sha384 b)).foldl (fun (u : State) f => u.sendBoth 6 f) s
      { s1 with pair := { s1.pair with copyPoint := none } }
    else s
  | _, _ => s

/-! ## Loading -/

/-- A route table entry from its 8 bytes (Table 3.1). -/
def routeStateOf (n : Nat) : RouteState :=
  match n with
  | 1 => .requested
  | 2 => .checked
  | 3 => .pointsCalled
  | 4 => .inPosition
  | 5 => .locked
  | 6 => .cleared
  | 7 => .approachLocked
  | 8 => .occupied
  | 9 => .emergTiming
  | _ => .idle

def timerKindOf (n : Nat) : TimerKind :=
  match n with
  | 1 => .detection
  | 2 => .approach
  | 3 => .emergency
  | 4 => .overlap
  | _ => .none

def readEntry (b : Bytes) : RouteEntry :=
  { state := routeStateOf (bitsAt (rd8 b 0) 0 4), stepSeen := bitAt (rd8 b 0) 4, reason := rd8 b 1, step := rd8 b 2,
    timerKind := timerKindOf (bitsAt (rd8 b 3) 0 3), cancelled := bitAt (rd8 b 3) 3, timer := rd32 b 4, overlapDone := false }

def readRoutes (b : Bytes) : List (Nat × RouteEntry) :=
  ((List.range 4096).map (fun r => (r, readEntry (slice b (8 * r) 8)))).filter (fun x => x.2 != RouteEntry.idle)

/-- A queued TE run; its input image holds the published variables `pubs` of the lane that loads it. -/
def readTe (base : Nat) (pubs : List (Nat × Nat)) (b : Bytes) : TeRun :=
  { stream := rd16 b 0, peer := rd16 b 2, ageLimit := rd8 b 4, age := rd8 b 5, latchTime := rd64 b 8, dropoutNo := rd16 b 16,
    snapshot := leNat (slice b 18 6), ended := rd16 b 6, logical := base - leNat (slice b 24 7), pubs := pubs }

/-- The streams of a copy set, in the order of the stream table. -/
def readStreams (t : Nat) : List Stream → Bytes → List RxStream → List RxStream
  | [], _, _ => []
  | x :: r, b, old =>
    let w := rd32 b 0
    let y := (old.find? (fun (q : RxStream) => q.id == x.id)).getD (RxStream.fresh [] x)
    let z : RxStream := { y with
      age := rd8 b 4, latchAge := bitsAt w 0 5, subst := bitAt w 5, never := bitAt w 6, returned := bitAt w 7, dropouts := w / 65536,
      ready := if rd8 b 5 = 1 then some { payload := payloadOf (slice b 8 x.len), stamp := t } else none }
    z :: readStreams t r (b.drop (8 + x.len)) old

/-- Has a copied route released its overlap? It is OCCUPIED with no timer, and the copied element lock vector shows an element of its overlap
free, or another route holds one (R122; DESIGN CHOICE, log entry 134). -/
def overlapGone (m : Mem) (rs : List (Nat × RouteEntry)) (lock : BitVec 8192) (r : Nat) (n : RouteEntry) : Bool :=
  match routeAt m r with
  | none => false
  | some x => n.state == .occupied && n.timerKind == .none && (x.overlap.map entryElem).any (fun e =>
      !getBit lock e || rs.any (fun q => q.1 != r && getBit (heldBy m q.1 q.2) e))

/-- The point calls of the copied routes in POINTS_CALLED: their points that the copied snapshot does not show in position (R112; DESIGN
CHOICE, log entry 134). -/
def copiedCalls (m : Mem) (p : Snapshot) (rs : List (Nat × RouteEntry)) : List PointCall :=
  rs.flatMap (fun q => match routeAt m q.1 with
    | some x => if q.2.state = .pointsCalled then
        (x.points.filter (fun e => p.nibble (entryElem e) != entryPosition e)).map (fun e =>
          { point := entryElem e, position := entryPosition e, route := q.1, timer := 0 })
      else []
    | none => [])

/-- The route engine from the route table, block set and stop set of a copy set and its snapshot `p`. Routes that wait for a check stand in
ascending route number: their order is not copied (R99, R100; DESIGN CHOICE, log entry 134). -/
def Engine.loaded (e : Engine) (m : Mem) (p : Snapshot) (b : Bytes) : Engine :=
  let rs := readRoutes b
  let ids := fun (k : RouteState) => (rs.filter (fun q => q.2.state == k)).map (·.1)
  { e with
    routes := rs.map (fun q => (q.1, { q.2 with overlapDone := overlapGone m rs p.elemLock q.1 q.2 })),
    block := BitVec.ofNat 8192 (leNat (slice b 32768 1024)), stop := BitVec.ofNat 8192 (leNat (slice b 33792 1024)),
    calls := copiedCalls m p rs, requested := ids .requested, positioned := ids .inPosition }

/-- The standby loads a copy set whose hash agrees (R463); its own snapshot numbers go on from the copied one by the T0 cycles since
the copy point. -/
def State.loadCopy (s : State) (b : Bytes) (point : Nat) : State :=
  let m := s.img
  let size := instanceSize m
  let p : Snapshot := { s.snap with
    number := rd64 b 0, state := BitVec.ofNat 32768 (leNat (slice b 16 4096)), elemLock := BitVec.ofNat 8192 (leNat (slice b 4112 1024)) }
  let b1 := b.drop 5648
  let b2 := b1.drop 34816
  let b3 := b2.drop size
  let n := rd64 b3 32
  let b4 := b3.drop 12288
  let xs := inStreams m
  let b5 := b4.drop ((xs.map (fun x => 8 + x.len)).foldl (· + ·) 0)
  let k := rd64 b5 0
  let b6 := b5.drop (8 + 8192)
  { s with
    nextNumber := rd64 b6 8 + 1 + (s.now - point) / s.t0,
    images := { s.images with params := (List.range k).map (fun j => (rd16 b5 (8 + 8 * j), BitVec.ofNat 32 (rd32 b5 (12 + 8 * j)))) },
    pair := { s.pair with epoch := rd64 b6 0 },
    lanes := s.lanes.mapI (fun _ l => { l with
      engine := l.engine.loaded m p b1,
      program := { l.program with
        data := Mem.store [] 0 (b2.take size), logical := { a := rd64 b3 0, b := rd64 b3 8, c := rd64 b3 16 }, phase := rd64 b3 24,
        teQueue := (List.range n).map (fun j => readTe (rd64 b3 0) l.program.pubs (slice b3 (40 + 31 * j) 31)) },
      inputs := { l.inputs with streams := readStreams s.now xs b4 l.inputs.streams } }) }

end Sys2Proof.Machine
end

