-- ==== Sys2Proof/Machine/Commit.lean ====
section
/-! DEFINITION. What a cycle-end commit does: the effects of the first lane that commits at an instant on the module, and of each
lane that commits on itself (Table 4.2 from step 5, Table 4.6, Table 5.7, Table 16.2, R226 to R232, R438, R506). -/

namespace Sys2Proof.Machine

/-! ## Closing the T1 cycle -/

/-- The T1 cycle that ends at this vote commits: the route engine, its records, the parameters of R392, and what it took in is no
longer outstanding (R351). -/
def State.closeT1 (s : State) (i : LaneId) : State :=
  match (s.lane i).program.closed with
  | none => s
  | some d =>
    let s1 := s.settledAll (s.host.taken.map (·.key))
    { s1 with
      almanac := { s1.almanac with events := s1.almanac.events ++ (s.lane i).closedEvents d },
      host := { s1.host with taken := [], takenMarks := [] },
      images := { s1.images with
        params := s1.images.pendingParams.foldl (fun l v => assocSet l v.1 v.2) s1.images.params, pendingParams := [] },
      lanes := s1.lanes.mapI (fun _ l => l.closeEngine) }

/-! ## Power states and program modes -/

/-- Entry to STOP (Table 4.6, Table 3.10, R159). -/
def State.toStop (s : State) (cause : Nat) (o : Origin) : State :=
  let s1 := (s.putMode .stop cause o).upsetStop 8
  { s1 with control := { s1.control with steps := 0, stepBroken := false, pendingSteps := 0 } }

/-- R568, step 2: the Almanac writer queues are flushed by ALMANAC_APPEND; in stash mode each lane writes its stash to flash. -/
def State.saveStash (s : State) : State :=
  if s.almanac.stashMode then s.mapLanes (fun l => { l with stashFlash := l.stash }) else s

/-- The header of a Dusk record (Table 16.5, offsets 0 to 23), with the rest zero. -/
def duskHeader (i : LaneId) (run wall : Nat) : DuskRecord :=
  { magic := 0x4B535544, format := 1, lane := i, fwVersion := Config.fwVersion, runNo := run, wall := wall, patterns := 0, clockKhz := 0,
    signature := 0, verdict := 0, march := 0, newRepairs := 0, vmin := 0, vmax := 0, marker := 0, markerPatterns := 0, crcOk := false }

/-- A lane's turn in Dusk begins (R578, step 1). -/
def State.beginDusk (s : State) (i : LaneId) : State :=
  let s1 := s.modLane i (fun l => { l with duskRuns := l.duskRuns + 1, dusk := some (duskHeader i (l.duskRuns + 1) (s.wallAt s.now)) })
  { s1 with startup := { s1.startup with duskTurn := some i, duskStop := false } }

/-- The shut-down of R568 at the commit of OFF; `test` asks for Dusk, and `again` for a start at its end (DUSK_RUN). -/
def State.shutDown (s : State) (test again : Bool) : State :=
  let s1 := s.keepCount.openSupply.saveStash
  let s2 : State := { s1 with
    control := { s1.control with phase := if test then .dusk else .off },
    lanes := s1.lanes.mapI (fun _ l => { l with elements := 0, program := l.program.abandon }),
    ndezo := { s1.ndezo with quiet := true },
    startup := { s1.startup with duskTurn := none, duskOff := !again, offSnapshot := s1.nextNumber } }
  if test then s2.beginDusk .A else s2

/-- Does the image change the power state's conditions for the pair (R454): both units commit at a Change Point? -/
def State.pairSteps (s : State) : Bool :=
  (s.pair.role == .active && s.pair.peerStandby != .notReady) || (s.pair.role == .standby && s.pair.standby != .notReady)

/-- The record of a power state. -/
def State.powerEvent (s : State) (new old : Power) (test : Bool) (o : Origin) : State :=
  s.event 0x0901 o [(24, 1, new.code), (25, 1, old.code), (26, 1, flag test)]

/-- R36: POWER_STATE_SET to WARM in Nadir restarts the lanes through their start-up self-test. -/
def State.restartLanes (s : State) : State :=
  let s1 := s.keepCount.openSupply
  { s1 with
    control := { s1.control with phase := .starting },
    startup := { s1.startup with restart := true, begun := s.now, retried := false, bistTurn := some .A, bistRan := true,
                                 accepted := Lanes3 false, hadRecord := false, anyFail := false },
    lanes := s1.lanes.mapI (fun _ l => { l with startPassed := false, bistNeeded := true, held := false, elements := 0, program := l.program.abandon }) }

/-- A power state commits (Table 16.2). -/
def State.putPower (s : State) (p : Power) (o : Origin) : State :=
  let old := s.control.power
  let test := s.control.pendingTest
  if p = .warm ∧ s.control.degradation.isNadir = true then (s.powerEvent .warm old false o).restartLanes
  else
    let s1 := { s with control := { s.control with power := p } }.powerEvent p old test o
    match p with
    | .off =>
      let s2 := s1.abortChange 7
      (if s2.control.mode = .stop then s2 else s2.toStop 2 Origin.internal).shutDown test s.control.pendingAgain
    | .idle =>
      let s2 := if s1.control.mode = .stop then s1 else s1.toStop 2 Origin.internal
      let s3 := s2.abortChange 7
      { s3 with ndezo := { s3.ndezo with quiet := true }, pair := { s3.pair with role := .unpaired, path1Alarm := false } }
    | .warm => if old = .live then s1.openSupply else s1.enterWarm
    | .live => { s1 with safeIo := { s1.safeIo with supply := .testing } }

/-- A POWER_STATE_SET that no vote can commit any more is discarded: the module changes its power state only as Table 1.6 shows (R31; DESIGN
CHOICE, log entry 116). -/
def State.dropPower (s : State) (k : Option RecKey) : State :=
  let s1 := s.discardKeys k.toList
  { s1 with control := { s1.control with pendingPower := none, pendingTest := false, pendingAgain := false } }

/-- The pending power state commits in the vote at a planned instant `t` (R567), of a pair at a Change Point (R454). -/
def State.commitPower (s : State) (t : Nat) : State :=
  match s.control.pendingPower with
  | some (p, k) =>
    if s.powerAllowed p = false then s.dropPower k
    else if s.pairSteps ∧ t % (10 * ms) ≠ 0 ∧ (p = .warm ∨ p = .live) then s
    else
      let s1 := (s.putPower p (s.originOf k)).settledAll k.toList
      { s1 with control := { s1.control with pendingPower := none, pendingTest := false, pendingAgain := false } }
  | none => s

/-- The instant at which Table 4.6 lets a mode commit. -/
def State.modeDue (s : State) (m : Mode) (t : Nat) : Bool :=
  if m = .stop ∧ s.pairSteps = false then true
  else t % (10 * ms) == 0 && (s.control.mode != .hold || s.control.steps == 0)

/-- The modes of Table 1.7. -/
def State.modeAllowed (s : State) (m : Mode) : Bool :=
  match m with
  | .stop => true
  | .run => s.control.power == .warm || s.control.power == .live
  | .hold => s.control.power == .warm && s.sealClosed 15

/-- The first-execution rule at an entry from STOP (R153); the rule of a HOLD entered from STOP does not outlast that HOLD. -/
def Program.leaveStop (p : Program) (old : Mode) (rule : StopRule) : Program :=
  if old = .stop then { p with stopRule := rule, sinceStop := [] } else p.endFirstStep

/-- RUN resumes from HOLD: every complete image closes, since T0, T1 and T2 start together (Table 4.6; DEDUCED, log entry 24). -/
def State.closeAll (s : State) : State :=
  ({ s with lanes := s.lanes.mapI (fun _ l => { l with program := l.program.close true }) } : State).closeT1 s.lead

/-- A program mode commits (Table 4.6): the first-execution rule applies after STOP. -/
def State.toMode (s : State) (m : Mode) (cause : Nat) (o : Origin) : State :=
  match m with
  | .stop => s.toStop cause o
  | .run =>
    let s0 := if s.control.mode = .hold then s.closeAll else s
    let s1 := s0.putMode .run cause o
    { s1 with control := { s1.control with steps := 0, stepBroken := false },
              lanes := s1.lanes.mapI (fun _ l => { l.defaultPriorities with program := { l.program.leaveStop s.control.mode .run with phase := 0 } }) }
  | .hold =>
    let s1 := ((s.abortChange 7).standbyFalls 6).putMode .hold cause o
    { s1 with control := { s1.control with steps := 0, stepBroken := false, firstHold := s.control.mode == .stop },
              lanes := s1.lanes.mapI (fun _ l => { l with program := { l.program.leaveStop s.control.mode .hold with phase := 0 } }) }

/-- R33: SEAL15 has opened in HOLD, and the module enters STOP. -/
def State.commitSealStop (s : State) : State :=
  let s1 : State := { s with control := { s.control with sealStop := false } }
  if s.control.sealStop ∧ s.control.mode = .hold then s1.toStop 1 Origin.internal else s1

/-- The 16-bit word of a list of readings, a discrepant switch shown as 0 (R555). -/
def readingWord (l : List Reading) : Nat := packBits (l.map (fun r => r == .isClosed))

/-- The voted readings of the switches change in this commit, with their record (R553, R556), and end what they forbid: an armed change
(SEAL14), every ENGINEER session and HOLD (SEAL15), a pending pin request (SEAL13, Table 15.4). -/
def State.commitSeals (s : State) : State :=
  match s.sealBank.next with
  | none => s
  | some new =>
    let old := s.sealBank.voted
    let changed := fun k => decide (old.getD k .isOpen ≠ new.getD k .isOpen)
    let opens := fun k => decide (old.getD k .isOpen = .isClosed) && decide (new.getD k .isOpen ≠ .isClosed)
    let s1 := ({ s with sealBank := { s.sealBank with voted := new, next := none } }).event 0x0902 Origin.internal
      [(24, 2, readingWord old), (26, 2, readingWord new), (28, 1, flag ((List.range 13).any changed))]
    let s2 := if opens 14 then s1.abortChange 6 else s1
    let s3 := if opens 15 then
        (((s2.host.sessions.filter (fun x => x.cls == .engineer)).map (·.number)).foldl (fun (u : State) n => u.endSession n 3) s2) else s2
    let s4 : State := if opens 15 ∧ s3.control.mode = .hold then { s3 with control := { s3.control with sealStop := true } } else s3
    if changed 13 = true ∧ s4.sealClosed 13 = true then
      match s4.images.pendingProfile with
      | some p => if p.fromPins then
          ({ s4 with images := { s4.images with pendingProfile := none } }).event 0x0308 Origin.internal [(24, 1, p.target), (25, 1, 3), (26, 1, 0)]
        else s4
      | none => s4
    else s4

/-- The voted value of PSEL1:PSEL0 changes in this commit. -/
def State.commitPins (s : State) : State :=
  match s.sealBank.pselNext with
  | some v => { s with sealBank := { s.sealBank with psel := v, pselNext := none } }
  | none => s

/-- R562, R564: while SEAL13 is 0 in WARM or LIVE, a voted pin value that differs from the running slot is a pending request, which
follows the pins; a standby does not act on its pins (R451). A PROFILE_SELECT that SEAL13 finds pending gives way to the pins and is discarded (DESIGN CHOICE, log entry 40). -/
def State.pinRequest (s : State) : State :=
  if s.pair.role = .standby ∨ s.sealBank.ki40 = true ∨ s.sealClosed 13 = true ∨ ¬ (s.control.power = .warm ∨ s.control.power = .live) ∨ s.images.takenProfile.isSome then s
  else
    let s1 := match s.images.pendingProfile with
      | some p => if p.fromPins then s else s.discardKeys p.key.toList
      | none => s
    { s1 with images := { s1.images with
        pendingProfile := if s.sealBank.psel % 4 = s.images.runningSlot then none
          else some { target := s.sealBank.psel % 4, fromPins := true, key := none } } }

/-- The last executions of instances, moved by what the logical time of their task jumps (R154). -/
def shiftExec (m : Mem) (l : List (Nat × Nat)) (jump : Nat → Int) : List (Nat × Nat) :=
  l.map (fun x => match instOf m x.1 with
    | some i => (x.1, (Int.ofNat x.2 + jump i.task).toNat)
    | none => x)

/-- R154: the logical times of T0, T1 and T2 go on from the planned time `t` at which RUN commits. The timers resume from their ELAPSED: no
Δ counts the time that the program stood still. -/
def Program.resumeAt (p : Program) (m : Mem) (t0 t : Nat) : Program :=
  let a := Int.ofNat t - Int.ofNat (p.logical.a + t0)
  let b := Int.ofNat t - Int.ofNat (p.logical.b + ms)
  let c := Int.ofNat t - Int.ofNat (p.logical.c + 10 * ms)
  { p with lastExec := shiftExec m p.lastExec (fun k => if k = 1 then b else if k = 2 then c else a) }

/-- A mode commits at the planned instant `t`. -/
def State.toModeAt (s : State) (m : Mode) (t : Nat) (o : Origin) : State :=
  let s1 := s.toMode m 0 o
  if m = .run then s1.mapLanes (fun l => { l with program := l.program.resumeAt s.img s.t0 t }) else s1

/-- A MODE_SET that no vote can commit any more is discarded: the power state that has committed or SEAL15 forbids its mode (R32, Table 1.7;
DESIGN CHOICE, log entry 116). -/
def State.dropMode (s : State) (k : Option RecKey) : State :=
  let s1 := s.discardKeys k.toList
  { s1 with control := { s1.control with pendingMode := none, pendingBreaks := none, pendingSteps := 0 } }

/-- The pending program mode commits, where it is due (R158, R655) and still allowed (R32), with the breakpoints that it sets (R165). A
MODE_SET that names the committed mode commits nothing. -/
def State.commitMode (s : State) (t : Nat) : State :=
  match s.control.pendingMode with
  | some (m, k) =>
    if m ≠ s.control.mode ∧ s.modeAllowed m = false then s.dropMode k
    else if m = s.control.mode ∨ s.modeDue m t = true then
      let s1 := (if m = s.control.mode then s else s.toModeAt m t (s.originOf k)).settledAll k.toList
      { s1 with control := { s1.control with
          pendingMode := none, pendingBreaks := none, pendingSteps := s.control.pendingSteps, stepKey := k,
          breakpoints := s.control.pendingBreaks.getD s1.control.breakpoints } }
    else s
  | none => s

/-- A step of HOLD begins (R163, R176); in the second one the rule of R153 for the first is over. -/
def State.commitStep (s : State) : State :=
  if s.control.mode = .hold ∧ s.control.steps = 0 ∧ s.control.pendingSteps ≠ 0 then
    let s1 := if s.control.firstHold then s else s.mapLanes (fun l => { l with program := l.program.endFirstStep })
    ({ s1 with control := { s.control with steps := s.control.pendingSteps, pendingSteps := 0, stepBroken := false, firstHold := false } }).event 0x0202
      (s.originOf s.control.stepKey) [(24, 2, s.control.pendingSteps), (28, 4, s.leadLane.program.logical.a / s.t0)]
  else s

/-! ## Other commits -/

/-- CHANGE_ARM commits (Table 5.1); a change armed in IDLE or for a slot that does not run is a profile load (R188). A slot that a
STAGE_OPEN has taken out of VERIFIED meanwhile is not armed, and the command is discarded (DESIGN CHOICE, log entry 116). -/
def State.commitArm (s : State) (t : Nat) : State :=
  match s.images.pendingArm with
  | some (k, key) =>
    let g := s.stagingAt k
    if g.state ≠ .verified then s.dropArm else
    let load := g.load || !s.slotRuns g.target
    let s1 := (s.modStaging k (fun g => { g with state := .armed, armedAt := some t, load := load })).settled key
    ({ s1 with images := { s1.images with pendingArm := none } }).event 0x0304 (s.originOf (some key))
      [(24, 1, k), (25, 1, g.target), (28, 4, (g.report.map (fun (r : Report) => r.newImage)).getD 0)]
  | none => s

/-- TIME_SET commits: wall time runs from the new time (R399, R525). -/
def State.commitWall (s : State) (t : Nat) : State :=
  match s.pendingWall with
  | some (new, key) =>
    let old := s.wallAt t
    let s1 := s.settled key
    ({ s1 with wallOffset := Int.ofNat new - Int.ofNat t, pendingWall := none, almanac := { s1.almanac with timeSet := true } }).event 0x0903 (s.originOf (some key))
      [(24, 8, old)]
  | none => s

/-- R543: a staged image whose KEY_ID is not in the new list fails check 4. -/
def State.dropUntrusted (s : State) (keys : List Bytes) : State :=
  (List.range 2).foldl (fun (u : State) k =>
    let g := u.stagingAt k
    let m := u.images.stagingMem k
    if (g.state = .verifying ∨ g.state = .verified) ∧ (keys.map keyId).contains (sigBytes m 8 8) = false then
      (({ u with images := { u.images with lastCheck := 4 } }).modStaging k (fun g =>
        { g with state := .failed, check := 4, report := none })).event 0x0303 Origin.internal
        [(24, 1, k), (25, 1, 1), (26, 1, 4), (28, 4, imgId m)]
    else u) s

/-- A new key list commits and is written to the flash of every lane (R402, R540). -/
def State.commitKeys (s : State) : State :=
  match s.host.pendingKeys with
  | some (l, key) =>
    (({ s.settled key with host := { (s.settled key).host with keys := l, keysOther := s.host.keys, pendingKeys := none } }).event 0x0309
      (s.originOf (some key)) [(24, 4, l.version), (28, 1, l.keys.length)]).dropUntrusted l.keys
  | none => s

/-- R371: the sessions that wait open in this snapshot, with which the commands without a commit of their own stop being
outstanding (R351) and a PORT_ENABLE commits (R405). -/
def State.commitSessions (s : State) : State :=
  { s with
    host := { s.host with
      sessions := s.host.sessions.map (fun x => if x.openedAt = none then { x with openedAt := some (Lanes3 s.now) } else x),
      recs := s.host.recs.map (fun r => if settlesNext r.opcode || r.opcode == 0x0001 then { r with outstanding := false } else r) },
    ndezo := { s.ndezo with ports := s.ndezo.ports.map (fun p => if p.disablePending.isSome then { p with pendingCommitted := true } else p) } }

/-- The SEAL word (Table 10.7). -/
def State.sealWord (s : State) : Nat := packBits ((List.range 16).map s.sealClosed)

/-- Bytes 0 to 287 of a quote (Table 10.16, R547, R548). -/
def State.quoteBytes (s : State) (nonce : Bytes) : Bytes :=
  let valid := fun k => match s.images.profiles[k]? with
    | some p => p.status == .valid
    | none => false
  let hash := fun k => match s.images.profiles[k]? with
    | some p => if p.status = .valid then slice p.hash 0 48 else zeros 48
    | none => zeros 48
  b16 1 ++ b16 s.sealWord ++ b8 s.images.runningSlot ++ b8 (packBits ((List.range 4).map valid)) ++ b16 0 ++ b64 s.snap.number ++ slice nonce 0 32 ++
    hash s.images.runningSlot ++ ((List.range 4).map hash).flatten

/-- The quotes that wait are captured in this snapshot. -/
def State.commitQuotes (s : State) : State :=
  { s with host := { s.host with sessions := s.host.sessions.map (fun x =>
      match x.quote with
      | some q => if q.captured = none then { x with quote := some { q with captured := some (s.quoteBytes q.nonce), since := s.now } } else x
      | none => x) } }

/-- R244: a lane in SHADOW for 1 s without a difference enters VOTING at a Change Point. It takes no part in the vote that has just
committed: its box names no planned instant. -/
def State.commitShadow (s : State) : State :=
  allLanes.foldl (fun u i =>
    let l := u.lane i
    if l.mode = .shadow ∧ l.shadowDiffer = false ∧ l.shadowSince + second ≤ u.now then
      let lead := u.leadLane
      let u1 := (u.modLane i (fun x => { x with
        mode := .voting, lastNumber := u.snap.number, lastCommit := u.now, meridianToggles := true, supervisionToggles := true,
        offset := lead.offset, supplyClosed := lead.supplyClosed, engine := lead.engine, program := lead.program, forces := lead.forces,
        isolatedFor := none, vote := { VoteBox.fresh with decided := true, committed := true } })).event 0x0401 Origin.internal [(24, 1, i.index), (25, 1, 0), (26, 1, 0)]
      if (u1.voting).length = 3 then
        let u2 := u1.degrade .full 0
        { u2.clearLockWords with control := { u2.control with reducedUsed := 0, reducedWarned := false } }
      else u1
    else u) s

/-! ## Outputs -/

/-- The output whose elements a test holds open in lane `i`: an off-pulse in every lane until a commit to 0 ends it (R425), an element test in
its own lane (Table 11.4). -/
def SafeIo.pulse (x : SafeIo) (i : LaneId) : BitVec 32 :=
  match x.test with
  | some r => (match r.kind with
    | .offPulse cut => if cut then 0 else bitSet 32 [r.output]
    | .element j .opened => if j = i then bitSet 32 [r.output] else 0
    | _ => 0)
  | none => 0

/-- How the committed outputs bear on a running test (Table 11.5) at instant `t`; an element test runs from p + 1,000 µs. A commit to 0 ends an
off-pulse, which is still judged at p + 250 µs. -/
def SafeIo.meet (x : SafeIo) (new : BitVec 32) (t : Nat) : SafeIo :=
  match x.test with
  | some r =>
    let on := getBit new r.output
    (match r.kind with
     | .offPulse _ => if on then x else { x with test := some { r with kind := .offPulse true } }
     | .element _ _ => if on then x else { x with test := none, abandoned := if r.start + ms ≤ t then inc x.abandoned else x.abandoned }
     | .dark _ => if on then { x with test := none, abandoned := inc x.abandoned } else x)
  | none => x

/-- When an output was energised or opened by a commit; one energised anew counts its 1 s of R426 anew. -/
def SafeIo.mark (x : SafeIo) (old new : BitVec 32) (t : Nat) : SafeIo :=
  (List.range 32).foldl (fun z k =>
    match getBit old k, getBit new k with
    | false, true => { z with energisedAt := assocSet z.energisedAt k t, untested := z.untested.filter (· != k) }
    | true, false => { z with openedAt := assocSet z.openedAt k t }
    | _, _ => z) x

/-- The safe output stage takes the committed outputs at instant `t` (R420); an off-pulse keeps its output open. -/
def SafeIo.take (x : SafeIo) (old new : BitVec 32) (t : Nat) : SafeIo :=
  if old = new then x else (x.meet new t).mark old new t

/-- R428: since when the writers of the outputs have proposed 0 in committed snapshots. -/
def SafeIo.writers (x : SafeIo) (on : BitVec 32) (t : Nat) : SafeIo :=
  { x with zeroSince := (List.range 32).foldl (fun z k =>
      if getBit on k then assocErase z k else if (assoc z k).isSome then z else assocSet z k t) x.zeroSince }

/-- The safe outputs that their writers propose at 1 in the vote that gives the state vector of `p`: the program, or a remote central (R428,
R430). -/
def Lane.writersOn (l : Lane) (s : State) (m : Mem) (p : Snapshot) : BitVec 32 :=
  bitSet 32 (((groups m).filter (fun g => g.kind == 0 && (if remoteGroup m g then remoteBit m l.inputs.streams g.bit && g.drivable 1 p
    else s.outputsRun && assocD l.program.fields g.first g.restrictive == 1))).map (·.bit))

/-- The outputs that STOP makes restrictive (R34): those that the program writes, and whatever drives a signal, a level crossing or a point,
on an output that a remote central commands too. -/
def stopsIn (m : Mem) (g : Group) : Bool :=
  !remoteGroup m g || (decide (g.element < 8192) && [tySignal, tyCrossing, tyPoint].contains (elemAt m g.element).etype)

/-- The voted outputs after what the vote has committed: restrictive in STOP and Nadir (R34, R35), safe outputs 0 outside LIVE, and
LIVE of the profile word as R436 states. -/
def State.settleOutputs (s : State) (m : Mem) (v : BitVec 32 × List (Nat × BitVec 8192)) : BitVec 32 × List (Nat × BitVec 8192) :=
  let gs := groups m
  let o1 := if s.control.degradation.isNadir then restrictGroups v gs
    else if s.control.mode = .stop then restrictGroups v (gs.filter (stopsIn m))
    else v
  let o2 := if s.control.power = .live then o1 else ((0 : BitVec 32), o1.2)
  if s.liveFlag then o2 else (o2.1, o2.2.map (fun p => if inProfile m p.1 then (p.1, setField p.2 8 1 0) else p))

/-! ## Status blocks -/

def Xram.put (x : Xram) (a : Nat) (b : Bytes) : Xram := { x with mem := Mem.store x.mem a b }

/-- The safe I/O status block (Table 11.9). -/
def State.safeIoBlock (s : State) (i : LaneId) : Bytes :=
  let e := (s.lane i).engine
  let tested := bitSet 32 ((s.safeIo.lastTested.filter (fun p => decide (s.now ≤ p.2 + second))).map (·.1))
  let sup := match s.safeIo.supply with
    | .isOpen => 0
    | .isClosed => 1
    | .testing => 2
    | .failed => 3
  b64 s.snap.number ++ b32 s.snap.safeOut.toNat ++ b32 s.terminals.toNat ++ b32 e.faultSet.toNat ++ b32 e.degradedSet.toNat ++
    b32 e.shortSet.toNat ++ b32 tested.toNat ++ b64 (s.lane i).inputs.level.toNat ++ b8 sup ++ b8 i.index ++ b16 0 ++ b32 s.safeIo.passed.toNat ++
    b32 s.safeIo.abandoned.toNat ++ b32 s.safeIo.shorts.toNat ++ zeros 8

/-- The memory status block of a lane (Table 13.8). -/
def State.memoryBlock (s : State) (i : LaneId) : Bytes :=
  let x := (s.lane i).store
  b64 s.snap.number ++ b32 x.tsReplayed.toNat ++ b32 x.sramReplayed.toNat ++ b32 x.tsPasses.toNat ++ b32 x.tsPos ++ b32 x.sramPasses.toNat ++
    b32 x.lastErrAddr ++ b64 x.lastErrTime ++ b8 (flag x.frozen) ++ b8 i.index ++ b16 0 ++ b32 x.freezes.toNat ++ b32 x.collides.toNat ++ zeros 12

/-- R438, R506: the status blocks at a Change Point. -/
def State.writeBlocks (s : State) : State :=
  let x1 := s.voting.foldl (fun x i => x.put (0xFFE00 + 64 * i.index) (s.memoryBlock i)) s.xram
  let x2 := match s.lowest with
    | some i => x1.put 0xFFF00 (s.safeIoBlock i)
    | none => x1
  { s with xram := x2 }

/-! ## Records of the snapshot -/

/-- The records that carry the low word of the snapshot's number (Table 14.4). -/
def stampLow (n : Nat) (q : Queued) : Queued :=
  if [0x0101, 0x0102, 0x0201, 0x0401, 0x0402].contains q.code then { q with payloads := q.payloads.map (fun p => setField p 32 32 n) } else q

/-- R530, R531: a reported Almanac failure puts the module into stash mode, with the record of kind 0 first. -/
def State.commitStash (s : State) : State :=
  if s.almanac.failed ∧ s.almanac.stashMode = false then
    { s with
      almanac := { s.almanac with
        stashMode := true, events := queuedOf 0x0908 0 0 Origin.internal [payloadFields [(24, 1, 0)]] :: s.almanac.events },
      lanes := s.lanes.mapI (fun _ l => { l with stashNext := s.almanac.next }) }
  else s

/-! ## KI-40 replies -/

/-- What KI-40 replies report of a snapshot (R602, R603). -/
def State.ki40ViewOf (s : State) (cycle : Nat) : Ki40View :=
  let powered := s.control.power == .warm || s.control.power == .live
  let lost := fun (k : Nat) => match s.leadLane.inputs.streams.find? (fun (x : RxStream) => x.id == k) with
    | some x => x.subst
    | none => true
  { cycle := cycle, snapshot := s.snap, routes := s.leadLane.engine.routes,
    flags := packBits [s.almanac.stashMode, allLanes.any (fun i => (s.lane i).paceMargin), powered && s.ki40.pollDone,
      powered && (inStreams s.img).any (fun x => decide (0x100 ≤ x.id) && decide (x.id < 0x110) && lost x.id)],
    image := if s.hasImage then imgId s.img else 0, load := s.ki40.load, loadCheck := s.ki40.loadCheck }

/-- R602: the snapshot of a KI-40 cycle start is the one that replies are built from until the next. -/
def State.captureCycle (s : State) : State :=
  if s.sealBank.ki40 = true ∧ s.snap.instant = ki40Period * s.ki40.cycle then
    { s with ki40 := { s.ki40 with view := some (s.ki40ViewOf s.ki40.cycle) } }
  else s

/-! ## The first commit at an instant -/

/-- The TE runs that a commit releases at the logical time `now` with the published variables of that instant, and the streams that find the
queue full (R146, R154, R171). -/
def teSplit (m : Mem) (xs : List RxStream) (q : List TeRun) (t number now : Nat) (pubs : List (Nat × Nat)) (dropped : List Nat) :
    List TeRun × List Nat :=
  dropped.foldl (fun acc id =>
    if acc.1.length < 384 then
      match inStream m id, xs.find? (fun x => x.id == id) with
      | some e, some x =>
        (acc.1 ++ [{ stream := id, peer := e.peer, ageLimit := ageLimit m e, age := x.latchAge, latchTime := t, dropoutNo := x.dropouts,
                     snapshot := number, logical := now, pubs := pubs, ended := 0 }], acc.2)
      | _, _ => acc
    else (acc.1, acc.2 ++ [id])) (q, [])

/-- Does the program execute from this vote on: RUN, or an executed cycle of HOLD, with an image that holds a program (R134,
R162, R163)? -/
def State.executes (s : State) : Bool :=
  s.hasImage && !s.control.degradation.isNadir && imgRole s.img != 1 &&
  (s.control.mode == .run || (s.control.mode == .hold && s.control.steps != 0))

/-- Does T1 (or T2, by its period) start with the next T0 cycle? T0, T1 and T2 start together at entry to RUN and in the first step
of HOLD; from there the T0 cycles released decide, in RUN and in HOLD alike (R135, R163; log entry 24). -/
def Program.starts (p : Program) (period : Nat) : Bool := p.phase % period == 0

/-- The online changes and profile switches of a Change Point (R188, R190, R204); `passed` tells how many lanes report that the
arm checks hold, `aborts` how many report a CHANGE_ABORT decided before it (R390). -/
def State.changePoint (s : State) (t passed aborts : Nat) : State :=
  let s1 := (List.range s.images.staging.length).foldl (fun (u : State) k =>
    let g := u.stagingAt k
    if g.state = .armed ∧ (g.armedAt.any (fun a => decide (a < t))) = true then
      (if 2 ≤ aborts then u.abortChange 1 else if 2 ≤ passed then (u.settledKey g.abortKey).commitChange k else u.abortChange 8)
    else u) s
  let s2 := match s1.images.takenProfile with
    | some p => if s1.images.takenAt < t then s1.commitProfile p else s1
    | none => s1
  if s2.images.runningSlot = s.images.runningSlot ∧ imgId s2.img = imgId s.img then s2
  else { s2 with pair := { s2.pair with switchedAt := t } }

/-- R201: a standby that has not committed the change of the active unit at its Change Point is NOT_READY. -/
def State.changeMissed (s : State) (t : Nat) : State :=
  match s.pair.changeDue with
  | some (c, image, target) =>
    if c ≤ t then
      let s1 : State := { s with pair := { s.pair with changeDue := none } }
      if s.slotImage target = image then s1 else s1.standbyFalls 6
    else s
  | none => s

/-- MODE_SET and POWER_STATE_SET of a pair at a T1 start in which the program does not execute, where no T1 cycle begins that could take
them in, with the lists that wait for their T1 start (R453, R454; DESIGN CHOICE, log entry 27). -/
def State.intakeModes (s : State) (t : Nat) : State :=
  let acts := fun (i : Intake) => i.cmd.isMode || i.cmd.isPower
  if t % ms = 0 ∧ ((s.pairSteps && s.host.awaiting.any acts) || s.pair.deferred != [] || s.pair.intakeHeld != []) = true then
    let s1 : State := { s with host := { s.host with awaiting := s.host.awaiting.filter acts } }
    let s2 := s1.intakeCommands t
    { s2 with host := { s2.host with awaiting := s2.host.awaiting ++ s.host.awaiting.filter (fun i => !acts i) } }
  else s

/-- The voting lanes that report a CHANGE_ABORT decided before the Change Point (R390). -/
def State.abortReports (s : State) : Nat := ((s.voting).filter (fun i => ((s.lane i).vote.own.map (·.abortSeen)).getD false)).length

/-- The lanes that report a pass at step 3 of Table 5.7. -/
def State.armPasses (s : State) : Nat := ((s.voting).filter (fun i => ((s.lane i).vote.own.bind (·.armPass)).getD false)).length

/-- R147: the holds at a commit before its own forces: those whose T1 cycle has ended are over, and those still without one take the T1
cycle that starts now. -/
def Forces.turnHolds (f : Forces) (ended starts : Bool) : Forces :=
  let kept := if ended then f.holds.filter (fun h => h.2 == 0) else f.holds
  { f with holds := if starts then kept.map (fun h => (h.1, 1)) else kept }

/-- Holds begin for the forces that a commit carries; forces that it does not carry stay pending (R147, R213). -/
def Lane.holdForces (l : Lane) (carried lost : List Force) (pendingAt : Nat) : Lane :=
  let fresh := carried.filter (fun f => !l.forces.holds.any (fun h => h.1 == f))
  { l with
    forces := { l.forces with
      holds := (l.forces.holds.filter (fun h => !carried.contains h.1)) ++ carried.map (fun f => (f, 0)),
      pending := (l.forces.pending.filter (fun p => !carried.contains p.1)) ++
        (lost.filter (fun f => !l.forces.pending.any (fun p => p.1 == f))).map (fun f => (f, pendingAt)) },
    counters := { l.counters with forceHold := l.counters.forceHold + BitVec.ofNat 32 fresh.length } }

/-- Marks are recorded for the forces that a commit carries (R147). -/
def Lane.markForces (l : Lane) (carried : List Force) : Lane :=
  { l with forces := { l.forces with marks := l.forces.marks ++ (carried.map Mark.forced).filter (fun k => !l.forces.marks.contains k) } }

/-- The value that a snapshot holds of the output that a force names. -/
def Snapshot.forceRestrictive (p : Snapshot) (gs : List Group) (f : Force) : Bool :=
  match gs.find? (fun g => g.force == f) with
  | some g => outValue p.safeOut p.payloads g == g.restrictive
  | Option.none => true

/-- Does a T1 cycle start at the planned start `t` that has just committed, from which the program executes or not (`exec`)? A field role has
no T1 (R134): its holds count whole milliseconds (DESIGN CHOICE, log entry 23). -/
def Lane.t1Starts (l : Lane) (m : Mem) (exec : Bool) (t : Nat) : Bool :=
  if imgRole m = 1 then t % ms == 0 else exec && l.program.starts ms

/-- The holds and marks of the snapshot `p` begin in every voting lane: the forces of the vote that it carries, and the pending ones (R147,
R213; step 5 of Table 4.2, before the intake of step 6). -/
def State.carryForces (s : State) (p : Snapshot) (exec : Bool) (t : Nat) : State :=
  let gs := if s.hasImage then groups s.img else []
  let forced := (s.voting.flatMap (fun j => (s.lane j).vote.forced)).eraseDups.filter (fun f => p.forceRestrictive gs f)
  s.mapVoting (fun l =>
    let carried := (forced ++ (l.forces.pending.map (·.1)).filter (fun f => p.forceRestrictive gs f)).eraseDups
    let lost := l.vote.forced.filter (fun f => !p.forceRestrictive gs f)
    (({ l with forces := l.forces.turnHolds l.vote.t1Ended (s.hasImage && l.t1Starts s.img exec t) } : Lane).holdForces carried lost s.now).markForces
      carried)

/-- A lane in SHADOW proposes the number after the last one committed, as the voting lanes do that compare its vector (R209, R244; DEDUCED,
log entry 131). -/
def State.shadowsFollow (s : State) (n : Nat) : State :=
  s.mapLanes (fun l => if l.mode = LaneMode.shadow then { l with lastNumber := n } else l)

/-- The effects on the module of the first commit of the vote at `t`: lane `i` commits the vector `v` with exclusions `ex` or enters
Nadir by `row`. R216: what mini-votes forced during the vote keeps its restrictive value. -/
def State.firstCommit (s : State) (i : LaneId) (v : Vector) (ex : List (LaneId × Cause)) (row : Option Nat) : State :=
  let t := (s.lane i).vote.instant
  let isCP := t % (10 * ms) == 0
  let m := s.img
  let box := (s.lane i).vote
  let passes := s.armPasses
  let aborts := s.abortReports
  let s1 := (s.closeT1 i).addEvents box.events
  let s2 := s1.applyBallot ex row
  let clean := ex.isEmpty && row.isNone
  let s2s := ((s2.commitSealStop).commitSeals).commitPins
  let s3 := if clean then ((s2s.commitPower t).commitMode t).commitArm t else s2s
  let s4 := ((((s3.commitStep).commitWall t).commitKeys).commitSessions).pinRequest
  let s5 := if s4.hasImage then s4.pairDecision else s4
  let s6 := if s5.pair.switchAt.any (fun c => decide (c ≤ t)) then s5.switchover else s5
  let held := restrictGroups (v.safeOut, v.payloads) ((groups m).filter (fun g =>
    (s.lane i).forces.holds.any (fun h => h.1 == g.force)))
  let outs := if s.hasImage then s6.settleOutputs m held else ((0 : BitVec 32), v.payloads)
  let p : Snapshot := { number := s6.nextNumber, instant := t, commitAt := s.now, mini := false, safeOut := outs.1, state := v.state, elemLock := v.elemLock,
                        routeLock := v.routeLock, payloads := outs.2, power := s6.control.power, mode := s6.control.mode,
                        degradation := s6.control.degradation, wall := s6.wallAt t }
  let wrote := if s.hasImage then (s.lane i).writersOn s m { s.snap with state := v.state } else 0
  let s6b := (s6.shadowsFollow p.number).keepRings
  let s7 : State := { s6b with
    snapshots := (p :: s6.snapshots).take 2048, nextNumber := s6.nextNumber + 1,
    safeIo := (s6.safeIo.take s.snap.safeOut outs.1 t).writers wrote t }
  let s8 := (s7.requote s p.number).commitQuotes
  let s9 := if isCP ∧ s8.control.phase = .running then (((((if clean then s8.changePoint t passes aborts else s8).changeMissed t).commitShadow).commitReady).captureCopy t).writeBlocks else s8
  let exec := s9.executes
  let s9 := s9.carryForces p exec t
  let s10 := if exec ∧ s9.leadLane.program.starts ms then s9.intake t
    else if s9.hasImage ∧ imgRole s9.img = 1 ∧ s9.control.mode = .run ∧ t % ms = 0 then s9.intake t
    else if s9.hasImage ∧ exec = false then s9.intakeModes t else s9
  let tooMany := if exec then (teSplit m (s.lane i).inputs.streams (s10.lane i).program.teQueue t p.number 0 [] box.dropped).2 else []
  let s11 := tooMany.foldl (fun u id => u.event 0x0206 Origin.internal [(24, 2, id), (26, 2, ((inStream m id).map (·.peer)).getD 0)]) s10
  let s12 : State := { s11 with control := { s11.control with executing := exec } }
  let s12b := if s12.stagedImages = s.stagedImages then s12 else s12.tellStaged false
  let s13 := s12b.commitStash.captureCycle
  ({ s13 with almanac := { s13.almanac with events := s13.almanac.events.map (stampLow p.number) } }).flushEvents p.wall

/-! ## The commit of a lane -/

/-- R212: by how many ns a lane moves its time base: towards the median of the LANE_TIMEs, in reduced operation towards their midpoint, by
at most 40 ns. -/
def timeStep (own : Word) (others : List Word) : Int :=
  let target := match others with
    | [a, b] => 40 * median3 0 (timeDiff a own) (timeDiff b own)
    | [a] => 20 * timeDiff a own
    | _ => 0
  max (-40) (min 40 target)

/-- The vectors that a lane holds of the others. -/
def VoteBox.heldVectors (b : VoteBox) : List Vector :=
  allLanes.filterMap (fun j => match b.rx.get j with
    | .vector v => some v
    | _ => none)

/-- The tasks that start with the next T0 cycle. -/
def Program.starting (p : Program) : List Task :=
  [Task.t0] ++ (if p.starts ms then [Task.t1] else []) ++ (if p.starts (10 * ms) then [Task.t2] else [])

/-- The logical time of a task that starts at the planned start `t`: the planned time in RUN, one period further in HOLD (R154). -/
def State.stepTime (s : State) (old period t : Nat) : Nat := if s.control.mode = .run then t else old + period

/-- Steps 7 to 9 of Table 4.2 in a lane at the planned start `t`: the input images of the starting tasks are filled (R137, R140), their
bodies are released, and logical time advances: in RUN to the planned time, in HOLD by the period (R131, R154). TB, which has no planned start of its own, finds the latch, the snapshot and
the published variables of the last one in its input image (DESIGN CHOICE, log entry 132). -/
def Lane.release (l : Lane) (s : State) (number t : Nat) : Lane :=
  let p := l.program
  let go := p.starting
  let s1 := go.contains .t1
  let s2 := go.contains .t2
  let image : InputImage := { field := l.inputs.field, snapshot := number, pubs := p.pubs }
  let step := fun (on : Bool) (old period : Nat) => if on then s.stepTime old period t else old
  { l with program := { p with
      bodies := p.bodies.filter (fun b => !go.contains b.1) ++ go.map (fun k => (k, number)),
      inImages := p.inImages.filter (fun b => !(go ++ [Task.tb]).contains b.1) ++ (go ++ [Task.tb]).map (fun k => (k, image)),
      phase := (p.phase + s.t0) % (10 * ms),
      logical := { a := step true p.logical.a s.t0, b := step s1 p.logical.b ms, c := step s2 p.logical.c (10 * ms) },
      intake := if s1 then s.host.taken else p.intake, marks := if s1 then s.host.takenMarks else p.marks,
      bodyUpset := if s1 then p.upset else p.bodyUpset, working := if s1 then none else p.working, upset := if s1 then false else p.upset } }

/-- What lane `i` does when it commits the snapshot `p` of the vote (R42, R147, R226, R227, R238, Table 4.2). -/
def Lane.commit (l : Lane) (i : LaneId) (s : State) (p : Snapshot) (straddled : Bool) : Lane :=
  let t := l.vote.instant
  let own := (l.vote.own.map (·.laneTime)).getD 0
  let l2 := { l with
    lastNumber := p.number, lastCommit := s.now, meridianToggles := true, elements := p.safeOut &&& ~~~s.safeIo.pulse i,
    supplyClosed := s.safeIo.supply == .isClosed && l.supervisionToggles,
    offset := l.offset + timeStep own (l.vote.heldVectors.map (·.laneTime)),
    checkpoint := if p.number % 2 ^ 20 = 0 then p.number else l.checkpoint,
    vote := { l.vote with decided := true, committed := true, sent := some (l.verdict i l.vote.rx true p.number) },
    counters := { l.counters with
      voteCycle := inc l.counters.voteCycle,
      inputStraddle := if straddled then inc l.counters.inputStraddle else l.counters.inputStraddle } }
  if s.control.executing then
    let q := teSplit s.img l2.inputs.streams l2.program.teQueue t p.number (s.stepTime l2.program.logical.a s.t0 t) l2.program.pubs l.vote.dropped
    let l3 := { l2 with program := { l2.program with teQueue := q.1 },
                        counters := { l2.counters with teOverflow := l2.counters.teOverflow + BitVec.ofNat 32 q.2.length } }
    l3.release s p.number t
  else l2

/-- The lane commits at its part of the vote. R371: a session opened in this snapshot counts from the lane's own commit. -/
def State.laneCommit (s : State) (i : LaneId) (straddled : Bool) : State :=
  let p := s.lastCycle
  let t := (s.lane i).vote.instant
  let s1 := s.modLane i (fun l => l.commit i s p straddled)
  { s1 with host := { s1.host with sessions := s1.host.sessions.map (fun x =>
      match x.openedAt with
      | some o => if t ≤ o.a ∧ t ≤ o.b ∧ t ≤ o.c then { x with openedAt := some (o.put i s.now) } else x
      | none => x) } }

/-- The exclusions that no commit has made yet. -/
def State.freshOf (s : State) (ex : List (LaneId × Cause)) : List (LaneId × Cause) := ex.filter (fun x => (s.lane x.1).mode != .excluded)

/-- The committed snapshot `p` of a vote carries the exclusions, the entry to Nadir and the words that a later decision of that vote gives it
(DEDUCED, log entry 105). -/
def State.amend (s : State) (p words : Snapshot) (ex : List (LaneId × Cause)) (row : Option Nat) : State :=
  let s1 := s.applyBallot ex row
  let o := if s.hasImage then s1.settleOutputs s.img (words.safeOut, words.payloads) else ((0 : BitVec 32), words.payloads)
  let q : Snapshot := { words with safeOut := o.1, payloads := o.2, mode := s1.control.mode, degradation := s1.control.degradation }
  let s2 : State := ({ s1 with
    snapshots := s1.snapshots.map (fun (x : Snapshot) => if x.number = p.number then q else x), safeIo := s1.safeIo.take s.snap.safeOut o.1 s.now,
    control := { s1.control with executing := s1.control.executing && !s1.control.degradation.isNadir } }).requote s q.number
  ({ s2 with almanac := { s2.almanac with events := s2.almanac.events.map (stampLow q.number) } }).flushEvents q.wall

/-- A lane commits: with the module's effects where it is the first of this vote. A later lane of the vote may exclude a lane that the first one
has not: Table 6.2 holds for each deciding lane. -/
def State.commitLane (s : State) (i : LaneId) (v : Vector) (ex : List (LaneId × Cause)) (row : Option Nat) (straddled : Bool) : State :=
  let t := (s.lane i).vote.instant
  let s1 := if s.lastCycle.instant = t ∧ s.snapshots ≠ [] then
      if (s.freshOf ex).isEmpty then s else s.amend s.lastCycle s.lastCycle (s.freshOf ex) none
    else ({ s with control := { s.control with voted := s.control.degradation, votedDue := s.control.nadirDue } }).firstCommit i v ex row
  if (s1.lane i).mode = .voting then s1.laneCommit i straddled else s1

/-- R217: at its deadline the earlier lane of reduced operation excludes the later one, whether or not that one has committed the vote.
The snapshot of the vote is then the one that the earlier lane commits in one-lane Nadir (DEDUCED, log entry 105). -/
def State.overrule (s : State) (v : Vector) (ex : List (LaneId × Cause)) (row : Nat) : State :=
  let p := s.lastCycle
  s.amend p { p with safeOut := v.safeOut, state := v.state, elemLock := v.elemLock, routeLock := v.routeLock, payloads := v.payloads } (s.freshOf ex)
    (some row)

/-- Lane `i` decides its vote on what it holds. -/
def State.settleVote (s : State) (i : LaneId) : State :=
  if (s.lane i).vote.owesIsolation then s.ownIsolation i (allLanes.any (fun j => (s.lane i).vote.missed.get j))
  else
  match s.ballot i with
  | .commit v ex straddled => s.commitLane i v ex none straddled
  | .nadir row v ex =>
    if s.joins i ∧ s.control.degradation.isNadir = false then (s.overrule v ex row).laneCommit i false
    else s.commitLane i v ex (some row) false
  | .isolate missing => s.isolate i missing
  | .fall => ((s.voting).foldl (fun u j => u.isolate j false) s).checkSafeOff

end Sys2Proof.Machine
end

