-- ==== Sys2Proof/Machine/FastPath.lean ====
section
/-! DEFINITION. The stop fast path (R125, R126, Table 3.9) outside a latch: pending forces (R219). -/

namespace Sys2Proof.Machine

/-- A force becomes pending in a lane (R219); one that is pending stays as it arose. -/
def Lane.pend (l : Lane) (t : Nat) (f : Force) : Lane :=
  if l.forces.pending.any (fun p => p.1 == f) then l
  else { l with forces := { l.forces with pending := l.forces.pending ++ [(f, t)] } }

/-- Forces arise in a lane outside a latch (R125): each is pending until a vote commits it (R219). -/
def Lane.pendAll (l : Lane) (t : Nat) (fs : List Force) : Lane := fs.foldl (fun x f => x.pend t f) l

/-- R125 in lane `i`: the given elements take the given nibbles in its received input; the outputs that they prove and that are no
longer drivable under the committed lock vectors are forced. -/
def State.reevaluate (s : State) (i : LaneId) (new : List (Nat × Nat)) : State :=
  let changed := new.filter (fun x => s.snap.nibble x.1 != x.2)
  if changed.isEmpty ∨ s.hasImage = false then s
  else
    let p : Snapshot := { s.snap with state := changed.foldl (fun v x => setNibble v x.1 x.2) s.snap.state }
    let bad := undrivable (groups s.img) (changed.map (·.1)) (outValue s.snap.safeOut s.snap.payloads) p
    s.modLane i (fun l => l.pendAll s.now (bad.map (·.force)))

/-- Table 3.9: a restrictive command forces the outputs of its elements in every voting lane. -/
def State.commandForce (s : State) (es : List Nat) : State :=
  if s.hasImage then
    let fs := (es.flatMap (groupsFor s.img)).map (·.force)
    s.mapVoting (fun l => l.pendAll s.now fs.eraseDups)
  else s

/-! ## Accepted payloads and levels -/

/-- A lane's own time (R139). -/
def State.laneTime (s : State) (i : LaneId) : Nat := (Int.ofNat s.now + (s.lane i).offset).toNat

/-- The elements of a stream whose nibbles differ between two payloads, with the new nibbles. -/
def streamChanges (m : Mem) (id : Nat) (old new : BitVec 8192) : List (Nat × Nat) :=
  let prof := inProfile m id
  ((elems m).filter (fun e => e.2.source == 1 && e.2.srcId == id && streamNibble prof old e.2 != streamNibble prof new e.2)).map
    (fun e => (e.1, streamNibble prof new e.2))

/-- R431: the safe outputs that a remote central commands through a stream and whose bit a payload clears, or LIVE with it. -/
def remoteDrops (m : Mem) (id : Nat) (old new : BitVec 8192) : List Force :=
  ((iomap m).filter (fun x => x.kind == 0 && x.stream == id && ((getBit old x.bit && !getBit new x.bit) || (getBit old 8 && !getBit new 8)))).map
    (fun x => Force.output x.ioNo)

/-- An accepted payload acts in lane `i` at its decision: the stamps of its elements (R142), the fast path (R125, R431) and, where the
lane counts for the module, the record of LIVE (R439). -/
def State.payloadIn (s : State) (i : LaneId) (id : Nat) (new : BitVec 8192) (stamp : Nat) : State :=
  let m := s.img
  let x := (s.lane i).inputs.streams.find? (fun y => y.id == id)
  let old := match x.bind (·.ready) with
    | some r => r.payload
    | none => ((inStream m id).map (substPayload m)).getD 0
  let ch := streamChanges m id old new
  let s1 := s.modLane i (fun l => ({ l with inputs := { l.inputs with
    elemStamp := ch.foldl (fun (a : List (Nat × Nat)) (e : Nat × Nat) => assocSet a e.1 stamp) l.inputs.elemStamp } }).pendAll s.now (remoteDrops m id old new))
  let s2 := s1.reevaluate i ch
  let mapped := (iomap m).any (fun y => y.stream == id)
  let seen := assocD s.safeIo.liveSeen id false
  if s.lowest = some i ∧ mapped = true ∧ seen ≠ getBit new 8 then
    ({ s2 with safeIo := { s2.safeIo with liveSeen := assocSet s2.safeIo.liveSeen id (getBit new 8) } }).event 0x0704 Origin.internal
      [(24, 2, id), (26, 1, flag (getBit new 8))]
  else s2

/-- The filter class of a safe input (Table 11.2, R417): that of the element that names it, and FILTER 1 where none does (R419). -/
def filterClass (m : Mem) (input : Nat) : Nat :=
  match (elems m).find? (fun e => e.2.readsInput input) with
  | some e => bitsAt e.2.srcBit 10 2
  | none => 1

/-- The consecutive samples that a filter class requires (Table 11.1). -/
def filterSamples (cls : Nat) : Nat :=
  match cls with
  | 0 => 16
  | 1 => 2000
  | 2 => 10000
  | _ => 40000

/-- The filter class of a safe input in the running image; without an image no element names it. -/
def State.inputFilter (s : State) (input : Nat) : Nat := if s.hasImage then filterClass s.img input else 1

/-- The arrival stamp of a filtered change: the multiple of 500 ns in the lane's time at which it took its last sample (R413, R414). -/
def State.sampleStamp (s : State) (i : LaneId) : Nat := s.laneTime i / 500 * 500

/-- R125 on the elements that read a safe input, with its new level and the stamp of the change (R414). -/
def State.inputIn (s : State) (i : LaneId) (input : Nat) (level : Bool) : State :=
  let stamp := s.sampleStamp i
  let s1 := s.modLane i (fun l => { l with inputs := { l.inputs with
    level := setBit l.inputs.level input level
    changes := l.inputs.changes ++ [{ input := input, stamp := stamp, level := level }] } })
  if s.hasImage then
    let es := (elems s.img).filter (fun e => e.2.readsInput input)
    let s2 := s1.modLane i (fun l => { l with inputs := { l.inputs with elemStamp := es.foldl (fun (a : List (Nat × Nat)) (e : Nat × Elem) => assocSet a e.1 stamp) l.inputs.elemStamp } })
    s2.reevaluate i (es.map (fun e => (e.1, inputCode (s2.lane i).inputs.level e.2 (s2.snap.nibble e.1))))
  else s1

end Sys2Proof.Machine
end

