-- ==== Sys2Proof/Machine/Zenith.lean ====
section
/-! DEFINITION. The rows of Zenith (06): planned starts (Table 4.2), votes, verdicts, mini-votes, forces, isolation, watchdogs, supply
elements and the limit of reduced operation. -/

namespace Sys2Proof.Machine

/-! ## PLANNED_START -/

/-- A lane misses the vectors of the lanes `js` at a deadline (R247). -/
def Lane.misses (l : Lane) (js : List LaneId) : Lane :=
  js.foldl (fun l j => { l with
    vote := { l.vote with missed := l.vote.missed.put j true }
    counters := { l.counters with missing := l.counters.missing.put j (inc (l.counters.missing.get j)) } }) l

/-- The lanes whose vectors are missing at a lane's deadline count in MISSING (R247). -/
def State.countMissing (s : State) (i : LaneId) : State :=
  s.modLane i (fun l => l.misses ((s.awaited i).filter (fun j => l.vote.rx.get j == .nothing)))

/-- Has lane `i` something left to decide in the cycle-end vote: it votes, or the others have excluded it before its own decision? -/
def Lane.toDecide (l : Lane) : Bool := !l.vote.decided && (l.mode == .voting || l.vote.owesIsolation)

/-- The lanes that have not decided the vote in progress do so: their deadlines precede the next planned instant (R211). -/
def State.finishVotes (s : State) : State :=
  allLanes.foldl (fun u i =>
    if (u.lane i).toDecide then (u.countMissing i).settleVote i
    else if (u.lane i).vote.owesIsolation then u.ownIsolation i false else u) s

/-- The interval of the planned starts: the T0 period, in IDLE whole milliseconds (R135, R567). -/
def State.period (s : State) : Nat := if s.hasImage then s.t0 else ms

/-- Is `t` a planned start that no lane has begun yet? -/
def State.isPlanned (s : State) (t : Nat) : Bool :=
  s.control.phase == .running && t % s.period == 0 && (s.voting).all (fun i => decide ((s.lane i).vote.instant < t)) && s.voting != []

/-- The test of the safety supply switch ends (R422, R632). -/
def State.supplyTest (s : State) (x : SupplySense) : State :=
  if s.safeIo.supply ≠ .testing ∨ s.control.power ≠ .live then s
  else if x.pass then
    let s1 : State := { s with
      safeIo := { s.safeIo with supply := .isClosed, closedAt := s.now, outputLow := false },
      lanes := s.lanes.mapI (fun _ (l : Lane) => if l.mode = LaneMode.voting ∧ l.holds = true then { l with supplyClosed := true } else l) }
    s1.event 0x0703 Origin.internal [(24, 1, 0), (25, 1, 0xFF)]
  else
    let s1 : State := { s with
      safeIo := { s.safeIo with supply := .failed }, control := { s.control with power := .warm } }
    (s1.event 0x0703 Origin.internal [(24, 1, 1), (25, 1, ((x.lane).map LaneId.index).getD 0xFF)]).powerEvent .warm .live false Origin.internal

/-- Did T1 start at the last planned instant? -/
def State.t1Started (s : State) : Bool :=
  s.control.executing && (s.leadLane.program.phase + 10 * ms - s.t0) % ms == 0

/-- R98: the CRCs of two lanes' route engines agree. -/
def Engine.agrees (a b : Engine) : Bool :=
  a.agreementBytes == b.agreementBytes || crc32c a.agreementBytes == crc32c b.agreementBytes

/-- R98 on the intake at the last planned instant. -/
def State.intakeCrcs (s : State) : State :=
  let e := fun i => (s.lane i).engine
  match s.voting with
  | [i, j, k] =>
    if (e i).agrees (e j) then (if (e i).agrees (e k) then s else s.oddLane k .intake)
    else if (e i).agrees (e k) then s.oddLane j .intake
    else if (e j).agrees (e k) then s.oddLane i .intake
    else { s with control := { s.control with nadirDue := some 2 } }
  | [i, j] =>
    if s.control.degradation = .reduced ∧ (e i).agrees (e j) = false then { s with control := { s.control with nadirDue := some 4 } } else s
  | _ => s

/-- The cause that the link rule gives (R214); a lane whose watchdog expired is excluded for that (Table 6.4). -/
def Lane.linkCause (l : Lane) : Cause := if l.isolatedFor = some .watchdog then .watchdog else .link

/-- R214 on the verdicts of the last cycle-end vote, in full operation and in Nadir; R217 takes its place in reduced operation. -/
def State.applyLinkRule (s : State) : State :=
  if s.control.degradation = .full ∨ s.control.degradation = .nadir then
    (s.linkRule).foldl (fun u i => u.modLane i (fun l => { l with expel := some (l.expel.getD l.linkCause) })) s
  else s

/-- R217 on the verdicts of the last vote in reduced operation: a vector missing at either lane, or a verdict that did not arrive. -/
def State.verdictsLack (s : State) : State :=
  match s.control.degradation, s.unexcluded with
  | .reduced, [i, j] =>
    let lost := fun (x y : LaneId) => match (s.lane x).vote.verdicts.get y with
      | some v => !(v.rx.get x)
      | none => true
    if s.snapshots.any (fun p => p.instant == (s.lane i).vote.instant) && (lost i j || lost j i) then
      (s.modLane j (fun l => { l with expel := some (l.expel.getD l.linkCause) })).isolate j true
    else s
  | _, _ => s

/-- The vector of a lane without an image: no elements, no outputs, and its locks as they stand (IDLE). -/
def Lane.idleVector (l : Lane) (s : State) (i : LaneId) (t : Nat) : Vector :=
  { number := l.lastNumber + 1, laneTime := laneWord (Int.ofNat t + l.offset), lane := i, mini := false, safeOut := 0, state := 0,
    elemLock := s.snap.elemLock, routeLock := l.engine.routeLock, payloads := [], forces := [], forceAll := false, armPass := none,
    abortSeen := false }

/-- The outcome of step 3 of Table 5.7 in a lane, at a Change Point with an armed slot; a profile load has it too (R188). -/
def Lane.armOutcome (l : Lane) (s : State) (t : Nat) : Option Bool :=
  if t % (10 * ms) = 0 then
    ((List.range s.images.staging.length).find? (fun k =>
      (s.stagingAt k).state == .armed && (s.stagingAt k).armedAt.any (fun a => decide (a < t)))).map
      (fun k => s.armHolds l.closeEngine.engine k)
  else none

/-- Step 3 of Table 5.7 at a Change Point: has the lane decided a CHANGE_ABORT of the armed change before it (R390)? -/
def State.abortReport (s : State) (i : LaneId) (t : Nat) : Bool :=
  t % (10 * ms) == 0 &&
  s.images.staging.any (fun g => g.state == .armed && g.abortStamps.any (fun x => decide (x.get i < t)))

/-- The field part that a latch at `t` fills (R138): the commands are those that the lane has accepted since its previous latch. -/
def Lane.fieldPart (l : Lane) (s : State) (i : LaneId) (streams : List RxStream) (t : Nat) : FieldPart :=
  { instant := t,
    streams := streams.map (fun x => (x.id, x.status, x.read)),
    levels := l.inputs.levelAt t,
    commands := (s.host.awaiting.filter (fun c => decide (l.inputs.field.instant ≤ c.stamps.get i) && decide (c.stamps.get i < t))).map (·.key) }

/-- The fault notice that takes the place of a lane's next vector (R206, R229): no vector but its own is in hand yet. -/
def Lane.noticeWord (l : Lane) (i : LaneId) : Option Verdict :=
  l.localFault.map (fun c => { lane := i, rx := rxBits i (Lanes3 .nothing), committed := false, notice := true, cause := some c,
                               snapLow := (l.lastNumber + 1) % 65536 })

/-- The DROPOUT and RETURN events of a latch (R170, R173). -/
def latchEvents (m : Mem) (old new : List RxStream) : List Queued :=
  (new.zip old).filterMap (fun p =>
    let peer := ((inStream m p.1.id).map (·.peer)).getD 0
    if droppedOut p.2 p.1 then
      some (queuedOf 0x0204 0 0 Origin.internal [payloadFields [(24, 2, p.1.id), (26, 2, peer), (28, 2, p.1.dropouts), (30, 1, min 31 p.1.latchAge)]])
    else if p.1.returned then
      some (queuedOf 0x0205 0 0 Origin.internal [payloadFields [(24, 2, p.1.id), (26, 2, peer), (28, 2, p.1.dropouts)]])
    else none)

/-- Do images close at this planned start: in RUN, and in HOLD after an executed cycle (R163, R164)? -/
def State.closes (s : State) : Bool :=
  !s.control.degradation.isNadir && (s.control.mode == .run || (s.control.mode == .hold && s.control.executing))

/-- Steps 1 to 4 of Table 4.2 in lane `i`, which votes or shadows, at `t`. -/
def Lane.plan (l : Lane) (s : State) (i : LaneId) (t : Nat) : Lane :=
  let m := s.img
  let image := s.hasImage
  let late := image && s.control.mode == .run && s.control.executing && l.program.late
  let prog := if s.closes then l.program.close false else { l.program with closed := none }
  let streams := if image then l.inputs.streams.map (fun x => match inStream m x.id with
    | some e => x.latch m e t
    | none => x) else []
  let dropped := (streams.zip l.inputs.streams).filterMap (fun p => if droppedOut p.2 p.1 then some p.1.id else none)
  let bad := if image then badNibbles m l.inputs streams s.snap l.inputs.field.instant t else 0
  let t1Ended := if image && imgRole m == 1 then t % ms == 0 else s.closes && l.program.phase % ms == 0
  let l1 := { l with
    program := prog, localFault := if late then some (l.localFault.getD Cause.deadline) else l.localFault,
    inputs := { l.inputs with streams := streams, latched := l.inputs.levelAt t, changes := l.inputs.changes.filter (fun c => decide (t ≤ c.stamp)), field := l.fieldPart s i streams t },
    counters := { l.counters with badNibble := l.counters.badNibble + BitVec.ofNat 32 bad } }
  let a := if image then l1.assemble s i m streams dropped t else { vector := l1.idleVector s i t, forced := [] }
  let v := { a.vector with armPass := l1.armOutcome s t, abortSeen := s.abortReport i t }
  let sends := l1.localFault.isNone
  { l1 with sentTime := (if sends then v.laneTime else l1.sentTime), vote := { VoteBox.fresh with
      instant := t, own := if sends then some v else none, notice := l1.noticeWord i, decided := false, committed := false,
      forced := a.forced, dropped := dropped, events := latchEvents m l.inputs.streams streams, t1Ended := t1Ended } }

/-- A step of HOLD counts its executed cycle, in the field role its T0 start (R134); a breakpoint ends it (R163, R165). -/
def State.countStep (s : State) : State :=
  let field := s.hasImage && imgRole s.img == 1 && s.control.steps != 0
  if s.control.mode = .hold ∧ (s.control.executing || field) = true then
    { s with control := { s.control with
        steps := if s.control.stepBroken then 0 else s.control.steps - 1, stepBroken := false } }
  else s

/-- A lane in SHADOW goes back to EXCLUDED with a cause (R244). -/
def State.shadowFails (s : State) (i : LaneId) (c : Cause) : State :=
  (s.modLane i (fun x => { x with mode := .excluded, cause := some c, localFault := none, shadowDiffer := true, vote := VoteBox.fresh })).event
    0x0401 Origin.internal [(24, 1, i.index), (25, 1, 2), (26, 1, c.code)]

/-- R244: the voting lanes compare the vector of a lane in SHADOW; a difference, or a local fault of that lane, sends it back to EXCLUDED. -/
def State.compareShadow (s : State) (t : Nat) : State :=
  allLanes.foldl (fun u i =>
    let l := u.lane i
    if l.mode = .shadow then
      match l.localFault, l.vote.own, u.leadLane.vote.own with
      | some c, _, _ => u.shadowFails i c
      | none, some v, some w =>
        if straddleOnly (if u.hasImage then groups u.img else []) (l.stray t ++ u.leadLane.stray t) v w then u
        else u.shadowFails i .vote
      | _, _, _ => u
    else u) s

/-- The median of the offsets of the voting lanes, of two their midpoint: how far the module's time base lies from the instants of the
commands. -/
def State.medianOffset (s : State) : Int :=
  match s.voting.map (fun i => (s.lane i).offset) with
  | [a, b, c] => median3 a b c
  | [a, b] => (a + b) / 2
  | [a] => a
  | _ => 0

/-- The module's time base follows its lanes: their median is taken from the offsets. -/
def State.rebase (s : State) : State :=
  { s with lanes := s.lanes.mapI (fun _ (l : Lane) => { l with offset := l.offset - s.medianOffset }) }

/-- The time bases of the lanes have drifted apart since the last planned start (R18). Instants are given in the module's time base, the
median of those of its voting lanes, so their offsets are taken from it (DESIGN CHOICE, log entry 33). -/
def State.drift (s : State) (d : Lanes Int) : State :=
  ({ s with lanes := s.lanes.mapI (fun i (l : Lane) => { l with offset := l.offset + d.get i }) } : State).rebase

/-- The planned start at `t` (R141, steps 1 to 4) in every lane, each at `t` in its own time. -/
def State.plannedStart (s0 : State) (t : Nat) (supply : SupplySense) (d : Lanes Int) : State :=
  if s0.isPlanned t = false then s0
  else
    let s := s0.finishVotes.expireReplies
    if s.control.phase ≠ .running ∨ s.voting = [] then s
    else
      let s1 := (s.drift d).supplyTest supply
      let s2 := if s1.t1Started then s1.intakeCrcs else s1
      let s3 := (s2.applyLinkRule).verdictsLack
      let s4 := s3.countStep
      let s5 : State := { s4 with lanes := s4.lanes.mapI (fun i (l : Lane) =>
        if l.mode = LaneMode.voting ∨ l.mode = LaneMode.shadow then l.plan s4 i t else l) }
      s5.compareShadow t

/-- PLANNED_START (R141). -/
def execPlannedStart (t : Nat) (sense : StartSense) (s : State) : Host.Outcome State Fault Refusal :=
  run t (fun u => u.plannedStart t sense.supply sense.drift) s

/-! ## Messages on the cross-lane links -/

/-- R207: an invalid word or a gap counts on the link from `src`. -/
def State.linkError (s : State) (dst src : LaneId) : State :=
  s.modLane dst (fun l => { l with counters := { l.counters with linkErr := l.counters.linkErr.put src (inc (l.counters.linkErr.get src)) } })

/-- May lane `dst` still take the vector or notice of `src` in this vote (R210)? -/
def State.takesVote (s : State) (dst src : LaneId) : Bool :=
  let d := s.lane dst
  d.toDecide && dst != src && d.vote.instant == (s.lane src).vote.instant && !s.pastDeadline dst &&
  (s.lane src).mode == .voting

def Lane.receive (l : Lane) (src : LaneId) (r : Received) : Lane := { l with vote := { l.vote with rx := l.vote.rx.put src r } }

/-- A vote vector arrives whole, or not at all (R207); LANE has to name its sender (R209). -/
def State.voteVector (s : State) (dst src : LaneId) (f : LinkFault) : State :=
  match f, (s.lane src).vote.own with
  | .invalid, some _ => s.linkError dst src
  | .none, some v => if s.takesVote dst src && v.lane == src then s.modLane dst (fun l => l.receive src (.vector v)) else s
  | _, _ => s

/-- VOTE_VECTOR (R209). -/
def execVoteVector (t : Nat) (dst src : LaneId) (f : LinkFault) (s : State) : Host.Outcome State Fault Refusal :=
  run t (fun u => u.voteVector dst src f) s

/-- A fault notice takes the place of a vector (R206, R229). -/
def State.faultNotice (s : State) (dst src : LaneId) (f : LinkFault) : State :=
  match f, (s.lane src).vote.notice with
  | .invalid, some _ => s.linkError dst src
  | .none, some n => if s.takesVote dst src then s.modLane dst (fun l => l.receive src (.notice (n.cause.getD .vote))) else s
  | _, _ => s

/-- FAULT_NOTICE (R229). -/
def execFaultNotice (t : Nat) (dst src : LaneId) (f : LinkFault) (s : State) : Host.Outcome State Fault Refusal :=
  run t (fun u => u.faultNotice dst src f) s

/-- The verdict of a mini-vote joins what the lane holds of its sender since the planned instant: a vector that any verdict showed missing
stays missing (R214). -/
def VoteBox.takeMini (b : VoteBox) (src : LaneId) (m : Verdict) : VoteBox :=
  let rx := match b.miniVerdicts.get src with
    | some o => m.rx.mapI (fun j x => x && o.rx.get j)
    | none => m.rx
  { b with miniVerdicts := b.miniVerdicts.put src (some { m with rx := rx }) }

/-- Is a mini-vote's verdict new to lane `dst`? -/
def VoteBox.newMini (b : VoteBox) (src : LaneId) (m : Verdict) : Bool :=
  match b.miniVerdicts.get src with
  | some o => o.snapLow != m.snapLow
  | none => true

/-- A verdict word arrives (R208): that of the cycle-end vote, or one that followed a mini-vote. In reduced operation one of the cycle-end
vote counts up to 1 µs after the deadline (R217). -/
def State.verdictWord (s : State) (dst src : LaneId) (f : LinkFault) : State :=
  let b := (s.lane dst).vote
  let late := s.control.degradation == .reduced && s.pastVerdict dst
  match f, (s.lane src).vote.sent, (s.lane src).vote.miniSent with
  | .invalid, none, none => s
  | .invalid, _, _ => s.linkError dst src
  | .none, some v, m =>
    if dst = src then s
    else if b.verdicts.get src ≠ some v ∧ late = false then
      s.modLane dst (fun l => { l with vote := { l.vote with verdicts := l.vote.verdicts.put src (some v) } })
    else match m with
      | some w => if b.newMini src w then s.modLane dst (fun l => { l with vote := l.vote.takeMini src w }) else s
      | none => s
  | .none, none, some w => if dst ≠ src ∧ b.newMini src w = true then s.modLane dst (fun l => { l with vote := l.vote.takeMini src w }) else s
  | _, _, _ => s

/-- VERDICT_WORD (R208). -/
def execVerdictWord (t : Nat) (dst src : LaneId) (f : LinkFault) (s : State) : Host.Outcome State Fault Refusal :=
  run t (fun u => u.verdictWord dst src f) s

/-! ## Decisions -/

/-- Does lane `i` have a cycle-end vote to decide? A mini-vote under way pre-empts it (R221). -/
def State.deciding (s : State) (i : LaneId) : Bool :=
  s.control.phase == .running && (s.lane i).toDecide && (s.lane i).vote.miniOwn == .nothing

/-- A lane that holds what it needs decides (R211). -/
def State.voteCommit (s : State) (i : LaneId) : State := if s.deciding i && s.holdsAll i then s.settleVote i else s

/-- VOTE_COMMIT (R211). -/
def execVoteCommit (t : Nat) (lane : LaneId) (s : State) : Host.Outcome State Fault Refusal := run t (fun u => u.voteCommit lane) s

/-- The deadline of a lane's vote passes (R210, R211). -/
def State.voteDeadline (s : State) (i : LaneId) : State :=
  if s.deciding i && s.pastDeadline i then (s.countMissing i).settleVote i else s

/-- VOTE_DEADLINE (R210). -/
def execVoteDeadline (t : Nat) (lane : LaneId) (s : State) : Host.Outcome State Fault Refusal := run t (fun u => u.voteDeadline lane) s

/-! ## Mini-votes (R219 to R225) -/

/-- A mini-vote vector of a lane with its pending forces (R61, R219, R220); more than 254 fields are named by COUNT 0xFFFF (R224). -/
def State.miniVector (s : State) (i : LaneId) : Vector :=
  let l := s.lane i
  let gs := groups s.img
  let fs := l.forces.pending.map (·.1)
  let low := gs.filter (fun g => g.kind == 0 && fs.contains g.force)
  let fields := fs.filter (fun f => match f with
    | .field _ => true
    | .output _ => false)
  let all := decide (254 < fields.length)
  { number := l.lastNumber + 1, laneTime := laneWord (Int.ofNat s.now + l.offset), lane := i, mini := true,
    safeOut := (restrictGroups (s.snap.safeOut, []) low).1, state := 0, elemLock := 0, routeLock := s.snap.routeLock, payloads := [],
    forces := if all then [] else fields, forceAll := all, armPass := none, abortSeen := false }

/-- May a lane start or join a mini-vote now: at most two pre-empt one cycle-end vote (R221)? -/
def State.miniFree (s : State) (i : LaneId) : Bool :=
  let l := s.lane i
  s.control.phase == .running && s.hasImage && l.mode == .voting && l.vote.miniOwn == .nothing && (l.vote.decided || decide (l.vote.preempts < 2))

/-- A lane enters a mini-vote with its vector, or with a fault notice in its place (R229). R220 counts the deadline from the first vector
received: until one arrives, a lane that started the mini-vote counts from its own start (DESIGN CHOICE, log entry 117). -/
def State.enterMini (s : State) (i : LaneId) : State :=
  let v := match (s.lane i).localFault with
    | some c => Received.notice c
    | none => .vector (s.miniVector i)
  s.modLane i (fun l => { l with vote := { l.vote with
    miniNotice := l.noticeWord i, miniAwaits := i.others.filter s.unexcluded.contains,
    miniOwn := v, miniRx := Lanes3 .nothing, miniStart := s.now, preempts := if l.vote.decided then l.vote.preempts else l.vote.preempts + 1 } })

/-- MINI_VOTE (R219): a lane with a pending force starts a mini-vote. -/
def execMiniVote (t : Nat) (lane : LaneId) (s : State) : Host.Outcome State Fault Refusal :=
  run t (fun u => if u.miniFree lane && (u.lane lane).forces.pending != [] then u.enterMini lane else u) s

/-- The deadline of a mini-vote after the first vector of it, in tenths of a nanosecond (R220). -/
def miniBound : Nat := 16994

/-- A lane takes a message of a mini-vote; its deadline counts from the first one, and one that comes after it is not received (R220). -/
def Lane.receiveMini (l : Lane) (src : LaneId) (r : Received) (now : Nat) : Lane :=
  if l.vote.miniRx != Lanes3 .nothing && decide (miniBound < 10 * (now - l.vote.miniStart)) then l
  else { l with vote := { l.vote with
      miniRx := l.vote.miniRx.put src r
      miniStart := if allLanes.all (fun j => l.vote.miniRx.get j == .nothing) then now else l.vote.miniStart } }

/-- A lane receives the mini-vote message of `src` and joins a mini-vote for a number that it has not yet proposed (R220). -/
def State.miniJoin (s : State) (i src : LaneId) (f : LinkFault) : State :=
  let r := (s.lane src).vote.miniOwn
  if r = .nothing ∨ i = src then s
  else
    match f with
    | .invalid => s.linkError i src
    | .none =>
      if (s.lane src).mode ≠ .voting then s
      else
        let s1 := if s.miniFree i && decide ((s.lane i).lastNumber ≤ (s.lane src).lastNumber) then s.enterMini i else s
        if (s1.lane i).vote.miniOwn = .nothing then s1 else s1.modLane i (fun l => l.receiveMini src r s.now)
    | _ => s

/-- MINI_VOTE_JOIN (R220). -/
def execMiniVoteJoin (t : Nat) (lane src : LaneId) (f : LinkFault) (s : State) : Host.Outcome State Fault Refusal :=
  run t (fun u => u.miniJoin lane src f) s

/-- What a lane holds in its mini-vote of lane `j`. -/
def State.miniOf (s : State) (i j : LaneId) : Received := if j = i then (s.lane i).vote.miniOwn else (s.lane i).vote.miniRx.get j

/-- The vectors that a lane holds in its mini-vote, with their lanes. -/
def State.miniHeld (s : State) (i : LaneId) : List (LaneId × Vector) :=
  s.unexcluded.filterMap (fun j => match s.miniOf i j with
    | .vector v => some (j, v)
    | _ => none)

/-- The lanes whose fault notice a lane holds in its mini-vote (R229). -/
def State.miniNotices (s : State) (i : LaneId) : List (LaneId × Cause) :=
  s.unexcluded.filterMap (fun j => match s.miniOf i j with
    | .notice c => some (j, c)
    | _ => none)

/-- R222: does a vector disagree with the committed route lock vector, the number, or the two values that an output may take? -/
def State.miniBad (s : State) (gs : List Group) (v : Vector) : Bool :=
  v.number != s.nextNumber || v.routeLock != s.snap.routeLock ||
  (List.range 32).any (fun k =>
    getBit v.safeOut k != getBit s.snap.safeOut k &&
    !gs.any (fun g => g.kind == 0 && g.bit == k && flag (getBit v.safeOut k) == g.restrictive))

/-- The outputs that at least `k` of the vectors propose at their restrictive value and that are not committed so. -/
def State.miniForces (s : State) (gs : List Group) (k : Nat) (vs : List Vector) : List Group :=
  gs.filter (fun g => outValue s.snap.safeOut s.snap.payloads g != g.restrictive &&
    decide (k ≤ (vs.filter (fun v =>
      if g.kind = 0 then flag (getBit v.safeOut g.bit) == g.restrictive else v.forceAll || v.forces.contains g.force)).length))

/-- Has another lane already committed the mini-vote that lane `i` decides? -/
def State.miniJoins (s : State) (i : LaneId) : Bool := s.snap.mini && s.snap.number == (s.lane i).lastNumber + 1

/-- The module as the mini-vote of lane `i` found it: without the snapshot of that mini-vote, where another lane has committed it. -/
def State.miniBase (s : State) (i : LaneId) : State :=
  if s.miniJoins i then { s with snapshots := s.snapshots.drop 1, nextNumber := s.snap.number } else s

/-- The degradation state at the beginning of the mini-vote of lane `i`. -/
def State.miniState (s : State) (i : LaneId) : Degradation :=
  if s.miniJoins i then (s.miniBase i).snap.degradation else s.control.degradation

/-- The row of Table 6.6 by which the exclusions `ex` of a mini-vote of lane `i` enter Nadir (R222), where they do. -/
def State.miniRow (s : State) (i : LaneId) (ex : List (LaneId × Cause)) : Option Nat :=
  if ex.isEmpty then none
  else
    match s.miniState i with
    | .full => if 2 ≤ ex.length ∨ s.control.degradation ≠ .full then some 3 else none
    | .reduced => if 2 ≤ ex.length then some 4 else some 6
    | _ => if (s.unexcluded).length ≤ ex.length + 1 then some 7 else none

/-- The lanes that a mini-vote excludes for the faults `bad`. Both lanes of reduced operation stay, in Nadir (R222); with every lane at fault
none is excluded either, and the module enters Nadir by row 1 (DEDUCED, log entry 26). -/
def State.miniExcluded (s : State) (bad : List (LaneId × Cause)) : List (LaneId × Cause) :=
  if bad.length = (s.unexcluded).length then [] else bad

def State.miniNadir (s : State) (i : LaneId) (bad : List (LaneId × Cause)) : Option Nat :=
  if bad != [] ∧ bad.length = (s.unexcluded).length then some (if s.control.degradation = .reduced then 4 else if s.control.degradation = .full then 1 else 7)
  else s.miniRow i (s.miniExcluded bad)

/-- The first commit of a mini-vote (R223). -/
def State.miniCommit (s : State) (forced : List Group) (ex : List (LaneId × Cause)) (row : Option Nat) : State :=
  let gs := groups s.img
  let s1 := s.applyBallot ex row
  let o0 := restrictGroups (s.snap.safeOut, s.snap.payloads) forced
  let o := if s1.control.degradation.isNadir then restrictGroups o0 gs else o0
  let o1 := if s1.liveFlag then o else (o.1, o.2.map (fun p => if inProfile s.img p.1 then (p.1, setField p.2 8 1 0) else p))
  let p : Snapshot := { s.snap with
    number := s1.nextNumber, instant := s.now, commitAt := s.now, mini := true, safeOut := o1.1, payloads := o1.2, degradation := s1.control.degradation,
    mode := s1.control.mode, wall := s1.wallAt s.now }
  let s2 : State := ({ (s1.shadowsFollow p.number).keepRings with
    snapshots := (p :: s1.snapshots).take 2048, nextNumber := s1.nextNumber + 1,
    safeIo := s1.safeIo.take s.snap.safeOut p.safeOut s.now }).requote s p.number
  ({ s2 with almanac := { s2.almanac with events := s2.almanac.events.map (stampLow p.number) } }).flushEvents p.wall

/-- The pending forces of a lane whose output the committed snapshot of a mini-vote holds at its restrictive value, with further ones, are
committed: their holds and marks begin (R147, R223). So do those of a mini-vote that commits no change: what they ask for stands in the
committed snapshot already (DEDUCED, log entry 25). -/
def Lane.carryPending (l : Lane) (s : State) (more : List Force) : Lane :=
  let carried := ((l.forces.pending.map (·.1)).filter (fun f => s.snap.forceRestrictive (groups s.img) f) ++ more).eraseDups
  (l.holdForces carried [] s.now).markForces carried

/-- The part of lane `i` in the commit of a mini-vote (R147, R206, R223, R226, R227, R237, R238). -/
def Lane.miniDone (l : Lane) (i : LaneId) (s : State) : Lane :=
  let p := s.snap
  let gs := groups s.img
  let before := (s.snapshots.drop 1).headD Snapshot.none
  let changed := (gs.filter (fun g => outValue before.safeOut before.payloads g != outValue p.safeOut p.payloads g)).map (·.force)
  let l1 := l.carryPending s changed
  { l1 with
    lastNumber := p.number, lastCommit := s.now, meridianToggles := true, elements := p.safeOut &&& ~~~s.safeIo.pulse i,
    checkpoint := if p.number % 2 ^ 20 = 0 then p.number else l1.checkpoint,
    vote := { l1.vote with
      miniOwn := .nothing, miniRx := Lanes3 .nothing, miniSent := some (l1.verdict i l.vote.miniRx true p.number) },
    counters := { l1.counters with voteMini := inc l1.counters.voteMini } }

/-- The lanes that a lane's mini-vote has awaited since it began and of which it holds nothing. -/
def State.miniMissing (s : State) (i : LaneId) : List LaneId :=
  (s.lane i).vote.miniAwaits.filter (fun j => (s.lane i).vote.miniRx.get j == .nothing)

/-- Lane `i` decides its mini-vote on the vectors that it holds, missing those of the lanes that have sent none by its deadline (R222, R223).
Each lane judges the vectors on its own, against the snapshot before the mini-vote: the first lane commits the snapshot; a lane whose number
another lane has committed joins that commit, with the exclusions that it finds itself. A lane with a fault isolates, and so does one that the
others have excluded. -/
def State.miniDecide (s0 : State) (i : LaneId) : State :=
  let s := s0.modLane i (fun l => l.misses (s0.miniMissing i))
  let gs := groups s.img
  let b := s.miniBase i
  let held := b.miniHeld i
  let bad := (held.filter (fun x => b.miniBad gs x.2)).map (fun x => (x.1, Cause.vote))
  let good := (held.filter (fun x => !b.miniBad gs x.2)).map (·.2)
  let faults := bad ++ s.miniNotices i
  let k := if s.miniState i = .full then 2 else 1
  let forced := b.miniForces gs k good
  let row := s.miniNadir i faults
  let ex := s.miniExcluded faults
  match (s.lane i).vote.miniOwn with
  | .nothing => s0
  | .notice _ => if (s.lane i).vote.owesIsolation then s.ownIsolation i (s0.miniMissing i != []) else s.isolate i false
  | .vector _ =>
    if (s.lane i).vote.owesIsolation then s.ownIsolation i (s0.miniMissing i != [])
    else if ex.any (fun x => x.1 == i) = true then s.isolate i false
    else if s.miniJoins i then
      let s1 := if ex.isEmpty then s else s.amend s.snap s.snap ex row
      if (s1.lane i).mode = .voting then s1.modLane i (fun l => l.miniDone i s1) else s1
    else if forced.isEmpty ∧ ex.isEmpty ∧ row.isNone then
      s.modLane i (fun l => { l.carryPending s [] with
        vote := { l.vote with miniOwn := .nothing, miniRx := Lanes3 .nothing }
        counters := { (l.carryPending s []).counters with miniEmpty := inc l.counters.miniEmpty } })
    else
      let s1 := s.miniCommit forced ex row
      if (s1.lane i).mode = .voting then s1.modLane i (fun l => l.miniDone i s1) else s1

/-- Does lane `i` hold every vector of its mini-vote, or has its deadline passed (R220: 1,699.4 ns)? -/
def State.miniDue (s : State) (i : LaneId) : Bool :=
  (s.miniMissing i).isEmpty || decide (miniBound ≤ 10 * (s.now - (s.lane i).vote.miniStart))

/-- MINI_VOTE_DEADLINE (R220, R222). -/
def execMiniVoteDeadline (t : Nat) (lane : LaneId) (s : State) : Host.Outcome State Fault Refusal :=
  run t (fun u => if u.control.phase = .running ∧ ((u.lane lane).mode = .voting ∨ (u.lane lane).vote.owesIsolation = true) ∧ u.miniDue lane = true then u.miniDecide lane else u) s

/-- R225: a force that no mini-vote has committed 50 µs after it arose is dropped. -/
def State.forceDrop (s : State) (i : LaneId) (f : Force) : State :=
  match (s.lane i).forces.pending.find? (fun p => p.1 == f) with
  | none => s
  | some p =>
    if s.now < p.2 + 50000 then s
    else
      let recent := (s.lane i).forces.alone.filter (fun a => decide (s.now < a + second)) ++ [s.now]
      s.modLane i (fun x => { x with
        forces := { x.forces with pending := x.forces.pending.filter (fun q => q.1 != f), alone := recent },
        localFault := if 4 ≤ recent.length then some (x.localFault.getD Cause.force) else x.localFault,
        counters := { x.counters with forceAlone := inc x.counters.forceAlone } })

/-- FORCE_PENDING_DROP (R225). -/
def execForcePendingDrop (t : Nat) (lane : LaneId) (force : Force) (s : State) : Host.Outcome State Fault Refusal :=
  run t (fun u => u.forceDrop lane force) s

/-! ## Isolation, watchdogs, supply elements and limits -/

/-- ISOLATION_TIMEOUT: 5 ms after isolation, with no commit excluding it, a lane is EXCLUDED (R230). Where no lane votes that could carry the
record in a snapshot, the lane writes its own (R248). -/
def State.isolationEnd (s : State) (i : LaneId) : State :=
  let l := s.lane i
  if l.mode = .isolated ∧ l.isolatedAt + 5 * ms ≤ s.now ∧ s.control.phase = .running then
    let c := l.isolatedFor.getD .vote
    if s.voting = [] then (s.markExcluded i c).laneEvent i 0x0401 [(24, 1, i.index), (25, 1, 2), (26, 1, c.code), (28, 4, s.snap.number)]
    else
      let row := match s.control.degradation with
        | .reduced => some 6
        | .nadir => if (s.voting).length ≤ 1 then some 7 else none
        | _ => none
      s.applyBallot [(i, c)] row
  else s

def execIsolationTimeout (t : Nat) (lane : LaneId) (s : State) : Host.Outcome State Fault Refusal :=
  run t (fun u => u.isolationEnd lane) s

/-- WATCHDOG_EXPIRY: 4 ms after its last commit a lane isolates (R237). -/
def State.watchdog (s : State) (i : LaneId) : State :=
  if (s.lane i).mode = .voting ∧ s.control.phase = .running ∧ (s.lane i).lastCommit + 4 * ms ≤ s.now then
    (s.modLane i (fun l => { l with localFault := some Cause.watchdog })).isolate i false
  else s

def execWatchdogExpiry (t : Nat) (lane : LaneId) (s : State) : Host.Outcome State Fault Refusal := run t (fun u => u.watchdog lane) s

/-- Has the signal stopped (R238)? Meridian's toggles at each commit; that the supervision core has stopped is what the event itself says
(log entry 42). -/
def Lane.stopped (l : Lane) (now : Nat) : DynSignal → Bool
  | .meridian => !l.meridianToggles || decide (l.lastCommit + 10 * ms ≤ now)
  | .supervision => true

/-- SUPPLY_ELEMENT_DROP: the element of a lane opens when a signal has stopped, and the module may fall to safe-off (R238, R239). -/
def State.elementDrop (s : State) (i : LaneId) (d : DynSignal) : State :=
  if s.control.phase = .running ∧ (s.lane i).stopped s.now d = true then
    (s.modLane i (fun l => { l with
      supplyClosed := false, meridianToggles := l.meridianToggles && !(d == .meridian),
      supervisionToggles := l.supervisionToggles && !(d == .supervision) })).checkSafeOff
  else s

def execSupplyElementDrop (t : Nat) (lane : LaneId) (signal : DynSignal) (s : State) : Host.Outcome State Fault Refusal :=
  run t (fun u => u.elementDrop lane signal) s

/-- REDUCED_LIMIT_EXPIRY: at the next T0 vote the module enters Nadir (R218, R233). -/
def State.reducedExpiry (s : State) : State :=
  if s.control.degradation = .reduced ∧ s.reducedLimit ≤ s.reducedTime then { s with control := { s.control with nadirDue := some 5 } } else s

def execReducedLimitExpiry (t : Nat) (s : State) : Host.Outcome State Fault Refusal := run t State.reducedExpiry s

/-- The whole minutes left of reduced operation (R218). -/
def State.minutesLeft (s : State) : Nat := (s.reducedLimit - s.reducedTime) / (60 * second)

/-- REDUCED_WARN: one record when 1 h is left (R218). -/
def State.reducedWarn (s : State) : State :=
  if s.control.degradation = .reduced ∧ s.control.reducedWarned = false ∧ s.reducedLimit ≤ s.reducedTime + hour then
    ({ s with control := { s.control with reducedWarned := true } }).event 0x0403 Origin.internal [(24, 2, s.minutesLeft)]
  else s

def execReducedWarn (t : Nat) (s : State) : Host.Outcome State Fault Refusal := run t State.reducedWarn s

end Sys2Proof.Machine
end

