-- ==== Sys2Proof/Machine/Checks.lean ====
section
/-! DEFINITION. The decision on a received telegram (Tables 8.4 and 8.6) and what it counts and records (R311, R326, R327). -/

namespace Sys2Proof.Machine

/-- The checks on receipt that lane `i` makes among the given lanes (Table 8.4): CV-P and CV-Q. -/
def rxDuty (lanes : List LaneId) (i : LaneId) : Bool × Bool :=
  if lanes.length = 3 then (i != .B, i != .A) else (true, true)

/-- The result of one engine: not made, pass or fail. -/
def checkResult (makes ok : Bool) : CheckResult := if makes then (if ok then .pass else .fail) else .notMade

/-- What lane `i` finds: `p` and `q` say that the check values of the bytes match, `f` what its engines get wrong. -/
def rxFound (lanes : List LaneId) (p q : Bool) (f : RxFault) (i : LaneId) : CheckResult × CheckResult :=
  (checkResult (rxDuty lanes i).1 (p && !(f.failP.get i)), checkResult (rxDuty lanes i).2 (q && !(f.failQ.get i)))

/-- The outcome of Table 8.6. -/
structure RxOutcome where
  ok : Bool
  pFail : List LaneId
  qFail : List LaneId
  charged : List LaneId
deriving DecidableEq, Repr

/-- The lanes that reported a result. -/
def reported (x : CheckResult) (l : List (LaneId × CheckResult)) : List LaneId := (l.filter (fun r => r.2 == x)).map (·.1)

/-- Table 8.6 on results all in hand. -/
def judgeResults (l : List (LaneId × (CheckResult × CheckResult))) : RxOutcome :=
  let ps := l.map (fun r => (r.1, r.2.1))
  let qs := l.map (fun r => (r.1, r.2.2))
  let pf := reported .fail ps
  let qf := reported .fail qs
  { ok := pf.isEmpty && qf.isEmpty, pFail := pf, qFail := qf,
    charged := ((if (reported .pass ps).isEmpty then [] else pf) ++ (if (reported .pass qs).isEmpty then [] else qf)).eraseDups }

/-- The counters of one lane after a rejection with results in hand: splits, or the failed checks. -/
def LaneCounters.rejected (k : LaneCounters) (o : RxOutcome) (i : LaneId) : LaneCounters :=
  if o.charged.isEmpty then
    { k with
      cvFailP := if o.pFail.contains i then inc k.cvFailP else k.cvFailP
      cvFailQ := if o.qFail.contains i then inc k.cvFailQ else k.cvFailQ }
  else if o.charged.contains i then { k with split := inc k.split } else k

/-- The check unit counts of one result: passes and failures of CV-P and CV-Q (R411). -/
def bumpUnit (l : List Word) (r : CheckResult × CheckResult) : List Word :=
  let x := if l.length = 4 then l else [0, 0, 0, 0]
  let y := match r.1 with
    | .pass => listMod x 0 inc
    | .fail => listMod x 1 inc
    | .notMade => x
  match r.2 with
  | .pass => listMod y 2 inc
  | .fail => listMod y 3 inc
  | .notMade => y

/-- A lane's check unit of a stream (its ID) or session (0x1_0000 and its number) has made a check. -/
def Inputs.bump (x : Inputs) (unit : Nat) (r : CheckResult × CheckResult) : Inputs :=
  { x with checkUnits := assocSet x.checkUnits unit (bumpUnit (assocD x.checkUnits unit [0, 0, 0, 0]) r) }

/-- A CHECK_REJECT event (Table 14.4). -/
def State.checkReject (s : State) (port host stream : Nat) (o : RxOutcome) (missing : Bool) : State :=
  s.event 0x0506 Origin.internal
    [(24, 1, port), (25, 1, host), (26, 2, stream),
     (28, 1, flag (!o.pFail.isEmpty) + 2 * flag (!o.qFail.isEmpty) + 4 * flag (!o.charged.isEmpty) + 8 * flag missing),
     (29, 1, packBits (allLanes.map (fun i => o.charged.contains i)))]

/-- Is a lane held in reset, with no snapshot yet that excludes it? It sends no check words (R645). One that has only isolated itself goes on
checking: its duties pass with the snapshot, and R231 names no others that it gives up (DEDUCED, log entry 137). -/
def State.silentLane (s : State) (j : LaneId) : Bool := s.control.phase == .running && (s.lane j).held

/-- The lanes whose verdict on a telegram of a host or a standby link does not come. -/
def State.absent (s : State) (lanes : List LaneId) (f : RxFault) : List LaneId :=
  if lanes.length < 2 then [] else lanes.filter (fun j => f.missing == some j || s.silentLane j)

/-- The lanes miss the verdict of lane `j` (CW_MISS, R326). -/
def State.countMiss (s : State) (lanes : List LaneId) (j : LaneId) : State :=
  (lanes.filter (· != j)).foldl (fun u i => u.modLane i (fun l =>
    { l with counters := { l.counters with cwMiss := l.counters.cwMiss.put j (inc (l.counters.cwMiss.get j)) } })) s

/-- The check of one telegram of a host (`host` 1) or a standby link (0) among the lanes that check it: counters, check units and the record of
a rejection, and whether it is accepted. Its check words cross as part of it, so that the lanes decide as one (DESIGN CHOICE, log
entry 136). -/
def State.checkTelegram (s : State) (lanes : List LaneId) (host port unit stream : Nat) (p q : Bool) (f : RxFault) : State × Bool :=
  let found := (lanes.filter (fun i => !s.silentLane i)).map (fun i => (i, rxFound lanes p q f i))
  let s1 := found.foldl (fun u r => u.modLane r.1 (fun l => { l with inputs := l.inputs.bump unit r.2 })) s
  let o := judgeResults found
  match s.absent lanes f with
  | [] =>
    if o.ok then (s1, true)
    else ((lanes.foldl (fun u i => u.modLane i (fun l => { l with counters := l.counters.rejected o i })) s1).checkReject port host stream o false, false)
  | js => ((js.foldl (fun u j => u.countMiss lanes j) s1).checkReject port host stream { ok := false, pFail := [], qFail := [], charged := [] } true, false)

end Sys2Proof.Machine
end

