-- ==== Sys2Proof/Machine/HostCore.lean ====
section
/-! DEFINITION. What the host interface (09, 10) needs for every opcode: Table 10.2, reserved fields, the end of a session
(Table 9.8), commands and their acceptance. -/

namespace Sys2Proof.Machine

/-! ## The opcodes (Table 10.2) -/

/-- The network rules of Table 9.5. -/
inductive OpClass where
  | permissive | restrictive | query
deriving DecidableEq, Repr

/-- A row of Table 10.2: its class, whether OPERATOR, ENGINEER and MAINTENANCE may use it whatever its parameters, and whether a
decided command writes a COMMAND record. -/
structure OpRow where
  code : Nat
  cls : OpClass
  operator : Bool
  engineer : Bool
  maintenance : Bool
  recorded : Bool
deriving DecidableEq, Repr

def opRow (code : Nat) (cls : OpClass) (o e m r : Bool) : OpRow :=
  { code := code, cls := cls, operator := o, engineer := e, maintenance := m, recorded := r }

/-- Table 10.2. STAGE_VERIFY and ATTEST_QUOTE write a record in form 0 only (`recordsCommand`). -/
def opTable : List OpRow :=
  [opRow 0x0001 .permissive true true true true, opRow 0x0002 .restrictive true true true true,
   opRow 0x0003 .query true true true false, opRow 0x0004 .permissive true true false true,
   opRow 0x0005 .restrictive true true false true, opRow 0x0006 .permissive true true true true,
   opRow 0x0101 .permissive true true false true, opRow 0x0102 .restrictive true true false true,
   opRow 0x0103 .permissive true true false true, opRow 0x0104 .query true true true false,
   opRow 0x0105 .restrictive true true false true, opRow 0x0106 .restrictive true true false true,
   opRow 0x0201 .permissive true true false true, opRow 0x0202 .restrictive true true false true,
   opRow 0x0203 .permissive true true false true, opRow 0x0204 .permissive true true false true,
   opRow 0x0205 .query true true true false] ++
  [opRow 0x0301 .query true true true false, opRow 0x0302 .query true true true false,
   opRow 0x0303 .query true true true false, opRow 0x0304 .query true true true false,
   opRow 0x0401 .permissive true true false true, opRow 0x0402 .permissive true true false true,
   opRow 0x0403 .permissive false true false true, opRow 0x0404 .permissive false true false false,
   opRow 0x0405 .permissive false true false true, opRow 0x0406 .permissive false true false true,
   opRow 0x0407 .restrictive true true false true, opRow 0x0408 .permissive true true false true,
   opRow 0x0409 .query true true true false, opRow 0x0501 .permissive true true false true,
   opRow 0x0502 .permissive false true false true, opRow 0x0503 .permissive false true false true] ++
  [opRow 0x0601 .query true true true false, opRow 0x0602 .query true true true false,
   opRow 0x0603 .permissive false true false true, opRow 0x0604 .permissive true true false true,
   opRow 0x0701 .query true true true false, opRow 0x0702 .query true true true true,
   opRow 0x0703 .permissive false true false true, opRow 0x0801 .permissive true true false true,
   opRow 0x0802 .query true true true false, opRow 0x0803 .permissive false true false true,
   opRow 0x0901 .query true true true false, opRow 0x0902 .permissive true true false true,
   opRow 0x0903 .permissive true true false true, opRow 0x0A01 .permissive false true false true,
   opRow 0x0A02 .query true true true false, opRow 0x0A03 .query true true true false,
   opRow 0x0A04 .permissive false true true false, opRow 0x0A05 .permissive false true true false,
   opRow 0x0A06 .query true true true false, opRow 0x0A07 .permissive false true false true]

def opOf (op : Nat) : Option OpRow := opTable.find? (fun r => r.code == op)

def OpRow.admits (r : OpRow) : OriginClass → Bool
  | .operator => r.operator
  | .engineer => r.engineer
  | .maintenance => r.maintenance
  | .internal => true

/-- R361: is the length of the parameters one that the map of the opcode allows? A length that the map computes from a parameter is
judged by it. -/
def lengthOk (op : Nat) (p : Bytes) : Bool :=
  let n := p.length
  if [0x0002, 0x0003, 0x0005, 0x0106, 0x0302, 0x0303, 0x0502, 0x0701, 0x0901].contains op then n == 0
  else if [0x0004, 0x0006, 0x0101, 0x0102, 0x0103, 0x0104, 0x0105, 0x0201, 0x0202, 0x0203, 0x0204, 0x0205, 0x0304, 0x0402, 0x0403, 0x0406,
      0x0407, 0x0409, 0x0501, 0x0503, 0x0801, 0x0803, 0x0902, 0x0903, 0x0A01, 0x0A02, 0x0A07].contains op then n == 4
  else if [0x0405, 0x0602, 0x0603, 0x0604, 0x0802, 0x0A03].contains op then n == 8
  else if [0x0301, 0x0A05].contains op then n == 12
  else if [0x0601, 0x0A06].contains op then n == 16
  else if op = 0x0401 then n == 40
  else if op = 0x0702 then n == 36
  else if op = 0x0703 then n == 496
  else if op = 0x0001 then n == 120 + (rd16 p 4 + 3) / 4 * 4
  else if op = 0x0404 then (if rd8 p 1 = 0 then decide (20 ≤ n) && n == 16 + rd32 p 8 else n == 16)
  else if op = 0x0408 then decide (12 ≤ n) && n == 4 + 8 * rd8 p 0
  else if op = 0x0A04 then decide (12 ≤ n) && n == 8 + rd16 p 4
  else false

/-- The reserved bits of the parameter map of an opcode: the first bit of the parameters and the number of bits (R14, R366). -/
def reservedFields (op : Nat) : List (Nat × Nat) :=
  if op = 0x0001 then [(17, 15), (48, 16)]
  else if op = 0x0004 ∨ op = 0x0006 then [(16, 16)]
  else if op = 0x0101 ∨ op = 0x0102 ∨ op = 0x0103 then [(12, 20)]
  else if op = 0x0105 ∨ op = 0x0202 ∨ op = 0x0204 then [(13, 19)]
  else if op = 0x0201 then [(13, 3), (24, 8)]
  else if op = 0x0203 then [(13, 3), (29, 3)]
  else if op = 0x0401 then [(9, 7), (40, 24)]
  else if op = 0x0304 ∨ op = 0x0402 ∨ op = 0x0406 ∨ op = 0x0407 ∨ op = 0x0801 ∨ op = 0x0A02 ∨ op = 0x0A07 ∨ op = 0x0603 ∨ op = 0x0702 ∨ op = 0x0408
    then [(8, 24)]
  else if op = 0x0403 ∨ op = 0x0405 ∨ op = 0x0404 ∨ op = 0x0602 then [(16, 16)]
  else if op = 0x0501 ∨ op = 0x0803 then [(9, 23)]
  else if op = 0x0503 then [(8, 8)]
  else if op = 0x0601 then [(8, 56)]
  else if op = 0x0703 then [(40, 24)]
  else if op = 0x0802 then [(8, 8), (48, 16)]
  else if op = 0x0902 ∨ op = 0x0903 then [(10, 22)]
  else if op = 0x0A01 then [(27, 5)]
  else if op = 0x0A03 ∨ op = 0x0A04 then [(48, 16)]
  else if op = 0x0A05 then [(40, 24)]
  else if op = 0x0A06 then [(16, 16), (112, 16)]
  else []

/-- R15 on the parameters, judged where their length fits the map; PARAM_WRITE has two reserved bytes in each entry. -/
def reservedOk (op : Nat) (p : Bytes) : Bool :=
  !lengthOk op p ||
  ((reservedFields op).all (fun f => bitsAt (leNat p) f.1 f.2 == 0) &&
   (op != 0x0408 || (List.range (rd8 p 0)).all (fun k => rd16 p (6 + 8 * k) == 0)))

/-- R360: does an accepted command write a COMMAND record? -/
def recordsCommand (op : Nat) (p : Bytes) : Bool :=
  ((opOf op).map (·.recorded)).getD false && !((op == 0x0405 && rd8 p 1 != 0) || (op == 0x0702 && rd8 p 0 != 0))

/-! ## Commands and their acceptance -/

/-- A host command that has passed the network rule: what its acceptance checks and its effect need. -/
structure Cmd where
  opcode : Nat
  key : RecKey
  content : Option Word
  cls : OriginClass
  session : Nat
  hostId : Nat
  originId : Nat
  seq : Nat
  net : Net
  params : Bytes
  stamps : Lanes Nat
  paths : List (Net × ReturnPath)
deriving DecidableEq, Repr

/-- The decision on a command: the state after it, its status and its reply data. `snapshot` is the snapshot that the reply
quotes, where it is not the latest committed one (R380). -/
structure Acc where
  st : State
  status : Nat
  data : Bytes
  snapshot : Option Nat
deriving DecidableEq, Repr

def State.acc (s : State) (status : Nat) : Acc := { st := s, status := status, data := [], snapshot := none }

def State.accData (s : State) (status : Nat) (data : Bytes) : Acc := { st := s, status := status, data := data, snapshot := none }

/-- The first refusal whose condition holds, or the decision itself: the order of R364. -/
def firstOf (refusals : List (Bool × Nat)) (s : State) (go : Acc) : Acc :=
  match refusals.find? (fun r => r.1) with
  | some r => s.acc r.2
  | none => go

def Cmd.origin (c : Cmd) : Origin := { cls := c.cls, session := c.session, hostId := c.hostId }

/-- The command awaits intake (R97). -/
def State.await (s : State) (c : Cmd) (e : EngineCmd) : State :=
  { s with host := { s.host with awaiting := s.host.awaiting ++
      [{ key := c.key, content := c.content, cmd := e, cls := c.cls, session := c.session, hostId := c.hostId, originId := c.originId,
         opcode := c.opcode, stamps := c.stamps, due := 0 }] } }

/-- R451: a standby unit refuses the command. -/
def State.standbyUnit (s : State) : Bool := s.pair.role == .standby

def State.inNadir (s : State) : Bool := s.control.degradation.isNadir

/-- Is the power state WARM or LIVE? -/
def State.powered (s : State) : Bool := s.control.power == .warm || s.control.power == .live

/-- R354: another session holds the transaction lock. -/
def State.lockedOut (s : State) (session : Nat) : Bool := s.host.lock.any (fun l => l.session != session)

/-- R42 and R346: which snapshot a reply is built from; in a start or Dusk the last one before it. -/
def State.replySnapshot (s : State) : Nat := if s.control.phase = .dusk then s.startup.offSnapshot else s.snap.number

end Sys2Proof.Machine
end

