-- ==== Sys2Proof/Machine/HostSession.lean ====
section
/-! DEFINITION. The opcodes 0x0001 to 0x0006: sessions, credit and the transaction lock (R348 to R354, R369 to R373), engineer
certificates (Table 15.1) and the rows in which a lease lapses or the OPEN_NONCE changes. -/

namespace Sys2Proof.Machine

/-! ## Leases -/

/-- A session whose lease has run out closes with origin INTERNAL (R349). -/
def State.lapseSession (s : State) (n : Nat) : State :=
  match s.sessionOf n with
  | some x => if x.leaseEnd ≤ s.now ∧ s.control.phase ≠ .dusk then s.endSession n 2 else s
  | none => s

/-- The lock's lease lapses at its end instant (R353); in Dusk the leases stand still (R582). -/
def State.lapseLock (s : State) : State :=
  match s.host.lock with
  | some l => if l.leaseEnd ≤ s.now ∧ s.control.phase ≠ .dusk then s.dropLock Origin.internal 3 else s
  | none => s

/-- Every lease that has run out lapses: a copy finds the sessions and the lock as their half-open leases leave them. -/
def State.lapseDue (s : State) : State := ((s.host.sessions.map (·.number)).foldl State.lapseSession s).lapseLock

/-- SESSION_LEASE_LAPSE. -/
def execSessionLeaseLapse (t : Nat) (session : Nat) (s : State) : Host.Outcome State Fault Refusal :=
  run t (fun u => u.lapseSession session) s

/-- LOCK_LEASE_LAPSE. -/
def execLockLeaseLapse (t : Nat) (s : State) : Host.Outcome State Fault Refusal := run t State.lapseLock s

/-! ## The OPEN_NONCE (R400) -/

/-- The 16 bytes of a nonce: free values from an index. -/
def nonceBytes (k : Nat) : Bytes := (List.range 16).map (fun i => Config.freeByte (k + i))

/-- The OPEN_NONCE changes every 10 s. -/
def State.changeNonce (s : State) : State :=
  if s.host.nonceAt + 10 * second ≤ s.now then
    { s with
      host := { s.host with
                noncePrev := some s.host.nonce, nonce := s.freeCtr, nonceAt := s.now,
                noncesUsed := s.host.noncesUsed.filter (fun k => k == s.host.nonce) },
      freeCtr := s.freeCtr + 16 }
  else s

/-- OPEN_NONCE_CHANGE. -/
def execOpenNonceChange (t : Nat) (s : State) : Host.Outcome State Fault Refusal := run t State.changeNonce s

/-- The nonces that are valid and have not opened a session. -/
def State.freshNonces (s : State) : List Nat :=
  (s.host.nonce :: s.host.noncePrev.toList).filter (fun k => !s.host.noncesUsed.contains k)

/-! ## Engineer certificates (Table 15.1) -/

def openHost (p : Bytes) : Nat := rd16 p 0
def openEngineer (p : Bytes) : Bool := bitAt (rd8 p 2) 0
def openCert (p : Bytes) : Bytes := slice p 120 (rd16 p 4)

/-- The nonce of an engineer SESSION_OPEN, if it is valid. -/
def State.openNonce (s : State) (p : Bytes) : Option Nat := s.freshNonces.find? (fun k => nonceBytes k == slice p 8 16)

/-- The hash that the engineer signs (R369): NONCE, HOST_ID and the module's node ID. -/
def State.openHash (s : State) (p : Bytes) : BitVec 384 := Config.sha384 (slice p 8 16 ++ slice p 0 2 ++ b16 s.node)

/-- The first check of Table 15.1 that fails; 0 when none does. -/
def State.certCheck (s : State) (p : Bytes) : Nat :=
  let c := openCert p
  if !Config.certParses c then 1
  else if !Config.certSubjectOk c then 2
  else if !Config.certUsageOk c then 3
  else if !s.trustedKeys.any (fun k => Config.certSignedBy c k) then 4
  else if !s.almanac.timeSet then 5
  else if s.snap.wall < Config.certFrom c ∨ Config.certTo c ≤ s.snap.wall then 6
  else if (s.openNonce p).isNone then 7
  else if !Config.ecdsaVerify (Config.certSubjectKey c) (s.openHash p) (slice p 24 48) (slice p 72 48) then 8
  else 0

/-! ## SESSION_OPEN (R370) -/

/-- Step 3 of R370: HOST_ID, and the lengths of R369. -/
def openParamsOk (p : Bytes) : Bool :=
  (reservedFields 0x0001).all (fun f => bitsAt (leNat p) f.1 f.2 == 0) && openHost p != 0 && lengthOk 0x0001 p &&
  (if openEngineer p then decide (1 ≤ rd16 p 4) && decide (rd16 p 4 ≤ 1200)
   else rd16 p 4 == 0 && slice p 8 112 == zeros 112)

/-- The numbers of the session slots that are free. -/
def State.freeSessions (s : State) : List Nat := ((List.range 32).map (· + 1)).filter (fun n => (s.sessionOf n).isNone)

/-- Step 5 of R370. -/
def State.sessionsFull (s : State) (service : Bool) : Bool :=
  s.freeSessions.isEmpty || (service && decide (4 ≤ (s.host.sessions.filter (fun x => x.cls == .maintenance)).length))

/-- The number of a new session: one of the free slots, which one the manual leaves open; a free value picks it. -/
def State.newSession (s : State) : Nat :=
  s.freeSessions.getD (s.freeWord.toNat % s.freeSessions.length) 1

/-- The tag of a new session: a free value that is not zero (R304). -/
def State.newTag (s : State) : Word := let w := Config.freeWord (s.freeCtr + 1); if w = 0 then 1 else w

/-- The oldest record held: OLDEST of R510. -/
def Almanac.oldest (a : Almanac) : Nat := max a.first (a.next - 524288)

/-- The cursor of a new session (R396): the oldest record; in stash mode that of the lane's stash. -/
def State.oldestRecord (s : State) : Nat :=
  if s.almanac.stashMode then ((s.leadLane.stash.getLast?).map (fun (r : Record) => r.seq)).getD s.leadLane.stashNext else s.almanac.oldest

/-- A session opens with the reply of Table 10.4; it is open from the next snapshot (R371). -/
def State.openSession (s : State) (c : Cmd) (cls : OriginClass) : Acc :=
  let n := s.newSession
  let tag := s.newTag
  let credit := s.param 8
  let x : Session := {
    number := n, tag := tag, hostId := openHost c.params, cls := cls, openedAt := none, credit := credit, high := 0,
    leaseEnd := c.stamps.get s.lead + 2 * second, pathX := (c.paths.find? (fun q => q.1 != .y)).map (·.2),
    pathY := (c.paths.find? (fun q => q.1 == .y)).map (·.2), cursor := s.oldestRecord, quote := none }
  let used := if cls = .engineer then (s.openNonce c.params).toList else []
  let s1 : State := { s with
    host := { s.host with sessions := s.host.sessions ++ [x], noncesUsed := s.host.noncesUsed ++ used }, freeCtr := s.freeCtr + 2 }
  (s1.event 0x0601 (Origin.ofSession x) [(24, 1, 0)]).accData stAccepted
    (b16 n ++ b8 cls.code ++ b8 0 ++ b32 tag.toNat ++ b16 credit ++ b16 0)

/-- SESSION_OPEN (R370, R550). -/
def State.acceptSessionOpen (s : State) (c : Cmd) : Acc :=
  let p := c.params
  let service := c.net == .service
  let eng := openEngineer p
  if eng && service then s.acc stOrigin
  else if eng && !s.sealClosed 15 then s.acc stSeal
  else if !openParamsOk p then s.acc stBadParam
  else if eng && s.certCheck p != 0 then
    (s.event 0x0601 Origin.internal [(24, 1, 4), (25, 1, s.certCheck p), (26, 2, openHost p), (28, 4, c.originId)]).acc stCert
  else if s.sessionsFull service then s.acc stCapacity
  else s.openSession c (if service then .maintenance else if eng then .engineer else .operator)

/-! ## The rest of group 0x00xx -/

/-- SESSION_CLOSE: its acknowledgement is the last reply of the session, so the session ends after it (`afterReply`). -/
def State.acceptSessionClose (s : State) (c : Cmd) : Acc :=
  firstOf [(!lengthOk c.opcode c.params, stBadParam)] s (s.acc stOk)

/-- Milliseconds from now to an instant. -/
def State.msLeft (s : State) (t : Nat) : Nat := (t - s.now) / ms

/-- SESSION_KEEP (Table 10.5). -/
def State.acceptSessionKeep (s : State) (c : Cmd) : Acc :=
  match s.sessionOf c.session with
  | none => s.acc stState
  | some x =>
    let mine := s.holdsLock c.session
    firstOf [(!lengthOk c.opcode c.params, stBadParam)] s (s.accData stOk
      (b16 x.credit ++ b16 (s.outstanding c.session) ++ b32 x.high ++ b16 (s.msLeft x.leaseEnd) ++
        b8 (flag mine + 2 * flag (s.lockedOut c.session)) ++ b8 x.cls.code ++
        b32 (if mine then (s.host.lock.map (fun l => s.msLeft l.leaseEnd)).getD 0 else 0)))

/-- LOCK_ACQUIRE (R353, R373). -/
def State.acceptLockAcquire (s : State) (c : Cmd) : Acc :=
  let lease := rd16 c.params 0
  let s1 : State := { s with host := { s.host with lock := some { session := c.session, leaseEnd := s.now + lease * second } } }
  firstOf [(!lengthOk c.opcode c.params || lease == 0 || decide (600 < lease), stBadParam), (s.lockedOut c.session, stLocked)] s
    ((s1.event 0x0602 c.origin [(24, 1, flag (s.holdsLock c.session)), (28, 4, 1000 * lease)]).accData stOk (b32 (1000 * lease)))

/-- LOCK_RELEASE (R373, Table 9.8). -/
def State.acceptLockRelease (s : State) (c : Cmd) : Acc :=
  firstOf [(!lengthOk c.opcode c.params, stBadParam), (!s.holdsLock c.session, stState)] s ((s.dropLock c.origin 2).acc stOk)

/-- CREDIT_SET (R351, R358). -/
def State.acceptCreditSet (s : State) (c : Cmd) : Acc :=
  let n := rd16 c.params 0
  let old := ((s.sessionOf c.session).map (·.credit)).getD 0
  firstOf [(!lengthOk c.opcode c.params || n == 0 || decide (256 < n), stBadParam)] s
    (((s.modSession c.session (fun x => { x with credit := n })).event 0x0603 c.origin [(24, 2, n), (26, 2, old)]).acc stOk)

end Sys2Proof.Machine
end

