-- ==== Sys2Proof/Machine/HostRoute.lean ====
section
/-! DEFINITION. The opcodes of groups 0x01xx and 0x02xx: route and element commands and queries (Tables 3.3 and 3.8, R113, R119,
R120, R124, R374 to R379). -/

namespace Sys2Proof.Machine

/-- Checks 2 and 3 of Table 3.3; a standby unit refuses as R451 states. -/
def State.gate (s : State) : List (Bool × Nat) :=
  [(s.inNadir, stNadir), (!s.powered || s.control.mode != .run || s.standbyUnit, stState)]

/-- The commands that await intake (R101, R340). -/
def State.waitingCmds (s : State) : List EngineCmd := (s.host.taken ++ s.waitingIntakes).map (·.cmd)

/-- The block set as the commands decided before leave it (R101, R340): the committed set with the POINT_BLOCKs and POINT_UNBLOCKs
that await intake, in their order. -/
def State.blockAhead (s : State) : BitVec 8192 :=
  s.waitingCmds.foldl (fun b e => match e with
    | .pointBlock p => setBit b p true
    | .pointUnblock f l => b &&& ~~~(bitSet 8192 ((List.range (l + 1 - f)).map (· + f)))
    | _ => b) (s.leadLane.engine.blocked s.img)

/-- Is a signal in the stop set, or will a command that awaits intake put it there (R101, R340)? -/
def State.stopAhead (s : State) (sig : Nat) : Bool :=
  getBit s.leadLane.engine.stop sig || s.waitingCmds.any (fun e => match e with
    | .signalStop x => x == sig
    | .allStop => true
    | _ => false)

/-- The routes and elements of the changed set of an armed change: its image against that of its target slot (R185, R189). -/
def State.changing (s : State) (routes : Bool) (n : Nat) : Bool :=
  (List.range s.images.staging.length).any (fun k =>
    let g := s.stagingAt k
    let old := s.slotMem g.target
    g.state == .armed &&
    (if routes then !routePreserved old (s.images.stagingMem k) n else !elemPreserved old (s.images.stagingMem k) n))

/-- An element of a type that the program commands (R375). -/
def State.programmed (s : State) (e ty : Nat) : Bool := (elemAt s.img e).etype == ty && (elemAt s.img e).cmdProg

def paramRoute (p : Bytes) : Nat := bitsAt (rd16 p 0) 0 12
def paramElem (p : Bytes) : Nat := bitsAt (rd16 p 0) 0 13

/-- The parameters are malformed: their length, or a reserved field. -/
def Cmd.malformed (c : Cmd) : Bool := !lengthOk c.opcode c.params || !reservedOk c.opcode c.params

/-! ## Route commands -/

/-- Is ROUTE_SET for this route a re-clear (R102)? -/
def State.reclear (s : State) (r : Nat) : Bool :=
  match routeDef s.img r with
  | some x => (s.leadLane.engine.entry r).state == .locked && s.stopAhead x.entrySignal
  | none => false

/-- ROUTE_SET (Table 3.3, R189, R204). -/
def State.acceptRouteSet (s : State) (c : Cmd) : Acc :=
  let r := paramRoute c.params
  let e := s.leadLane.engine
  let again := s.reclear r
  firstOf (s.gate ++
    [(c.malformed || (routeDef s.img r).isNone, stBadParam),
     (s.changing true r || s.images.takenProfile.isSome, stChanging),
     (((e.entry r).state.isActive && !again) || s.waitingRoutes.contains r, stState),
     (!again && decide (1024 ≤ s.routeLoad), stCapacity),
     (!again && (s.snap.elemLock &&& reqConflict s.img r) != 0, stConflict)]) s
    ((s.await c (.routeSet r)).acc stAccepted)

/-- The ROUTE_SETs of a route that await intake are removed (R119); they stop being outstanding. -/
def State.removeRouteSet (s : State) (r : Nat) : State :=
  let isSet := fun (i : Intake) => i.cmd == .routeSet r
  let gone := (s.host.awaiting ++ (s.pair.deferred.map (·.2)).flatten).filter isSet
  let s1 := s.settledAll (gone.map (·.key))
  { s1 with
    host := { s1.host with awaiting := s1.host.awaiting.filter (fun i => !isSet i) },
    pair := { s1.pair with deferred := s1.pair.deferred.map (fun x => (x.1, x.2.filter (fun i => !isSet i))) } }

/-- The signal that an accepted ROUTE_CANCEL forces to aspect 0 (Table 3.9, R652). -/
def State.cancelForce (s : State) (r : Nat) : List Nat :=
  match routeDef s.img r with
  | some x =>
    let n := s.leadLane.engine.entry r
    if n.state = .cleared ∨ n.state = .approachLocked ∨ n.cancelled = true then [x.entrySignal].filter (fun e => decide (e < 8192)) else []
  | none => []

/-- ROUTE_CANCEL (Table 3.8, R119). -/
def State.acceptRouteCancel (s : State) (c : Cmd) : Acc :=
  let r := paramRoute c.params
  let n := (s.leadLane.engine.entry r).state
  let waits := s.waitingRoutes.contains r
  let idle := n == .idle && !waits
  firstOf [(c.malformed || (routeDef s.img r).isNone, stBadParam),
     (s.standbyUnit || idle || n == .occupied || n == .emergTiming, stState)] s
    ((((s.removeRouteSet r).await c (.routeCancel r waits)).commandForce (s.cancelForce r)).acc stAccepted)

/-- ROUTE_RELEASE_TIMED (R120, R189, R376). -/
def State.acceptRouteReleaseTimed (s : State) (c : Cmd) : Acc :=
  let r := paramRoute c.params
  let n := (s.leadLane.engine.entry r).state
  let ok := ((routeDef s.img r).map (·.emergRel)).getD false && (n == .locked || n == .cleared || n == .approachLocked || n == .occupied)
  firstOf (s.gate ++ [(c.malformed || (routeDef s.img r).isNone, stBadParam), (s.changing true r, stChanging), (!ok, stState)]) s
    ((s.await c (.routeRelease r)).acc stAccepted)

/-- ROUTE_QUERY (R378). -/
def State.acceptRouteQuery (s : State) (c : Cmd) : Acc :=
  let first := rd16 c.params 0
  let n := rd16 c.params 2
  firstOf [(c.malformed || n == 0 || decide (174 < n) || decide (4096 < first + n), stBadParam), (s.standbyUnit, stState)] s
    (s.accData stOk (b16 first ++ b16 n ++ ((List.range n).map (fun k => (s.leadLane.engine.entry (first + k)).bytes)).flatten))

/-! ## Signals, points and sections -/

/-- SIGNAL_STOP (R375). -/
def State.acceptSignalStop (s : State) (c : Cmd) : Acc :=
  let e := paramElem c.params
  firstOf [(c.malformed || !s.programmed e tySignal, stBadParam), (!s.powered || s.standbyUnit, stState)] s
    (((s.await c (.signalStop e)).commandForce [e]).acc stAccepted)

/-- ALL_STOP (R375): the fast path forces every signal. -/
def State.acceptAllStop (s : State) (c : Cmd) : Acc :=
  firstOf [(c.malformed, stBadParam), (!s.powered || s.standbyUnit, stState)] s
    (((s.await c .allStop).commandForce (bitList (typeMask s.img tySignal))).acc stAccepted)

/-- POINT_MOVE (R113, R189). -/
def State.acceptPointMove (s : State) (c : Cmd) : Acc :=
  let e := paramElem c.params
  let pos := rd8 c.params 2
  firstOf (s.gate ++
    [(c.malformed || !s.programmed e tyPoint || (pos != 1 && pos != 2), stBadParam),
     (s.changing false e, stChanging),
     (s.snap.elemLocked e || getBit s.blockAhead e, stLocked),
     (getBit (s.leadLane.engine.reservation s.img) e, stConflict),
     ((s.movingPoints s.leadLane.engine).contains e, stState)]) s
    ((s.await c (.pointMove e pos)).acc stAccepted)

/-- POINT_BLOCK (R114, R375). -/
def State.acceptPointBlock (s : State) (c : Cmd) : Acc :=
  let e := paramElem c.params
  firstOf [(c.malformed || !s.programmed e tyPoint, stBadParam), (!s.powered || s.standbyUnit, stState)] s
    (((s.await c (.pointBlock e)).commandForce [e]).acc stAccepted)

/-- POINT_UNBLOCK (R377). -/
def State.acceptPointUnblock (s : State) (c : Cmd) : Acc :=
  let first := bitsAt (rd16 c.params 0) 0 13
  let last := bitsAt (rd16 c.params 2) 0 13
  let n := ((List.range (last + 1 - first)).filter (fun k => getBit s.blockAhead (first + k))).length
  firstOf [(s.inNadir, stNadir), (!s.powered || s.standbyUnit, stState), (c.malformed || decide (last < first), stBadParam), (n == 0, stState)] s
    ((s.await c (.pointUnblock first last)).accData stAccepted (b16 n ++ b16 0))

/-- SECTION_RESET (R124, R189, R376). -/
def State.acceptSectionReset (s : State) (c : Cmd) : Acc :=
  let e := paramElem c.params
  let x := elemAt s.img e
  let ok := (s.snap.nibble e == 0 || s.snap.nibble e == 2) && !s.snap.elemLocked e && x.permFirst != 0xFFFF
  firstOf (s.gate ++ [(c.malformed || x.etype != tySection, stBadParam), (s.changing false e, stChanging), (!ok, stState)]) s
    ((s.await c (.sectionReset e)).acc stAccepted)

/-- An entry of ELEMENT_QUERY (Table 10.6). -/
def State.elementEntry (s : State) (block stop : BitVec 8192) (e : Nat) : Bytes :=
  let x := elemAt s.img e
  let cmd := ((groupsFor s.img e).head?.map (outValue s.snap.safeOut s.snap.payloads)).getD 0
  b8 (s.snap.nibble e + 16 * x.etype + 128 * flag (s.snap.elemLocked e)) ++
  b8 (flag (getBit block e) + 2 * flag (getBit stop e) + 16 * cmd)

/-- ELEMENT_QUERY (R379). -/
def State.acceptElementQuery (s : State) (c : Cmd) : Acc :=
  let first := rd16 c.params 0
  let n := rd16 c.params 2
  let block := s.leadLane.engine.blocked s.img
  let stop := s.leadLane.engine.stopped s.img
  firstOf [(c.malformed || n == 0 || decide (698 < n) || decide (8192 < first + n), stBadParam)] s
    (s.accData stOk (b16 first ++ b16 n ++ ((List.range n).map (fun k => s.elementEntry block stop (first + k))).flatten))

end Sys2Proof.Machine
end

