-- ==== Sys2Proof/Machine/HostState.lean ====
section
/-! DEFINITION. The opcodes of group 0x03xx: snapshots, status, pace and counters (R380 to R383, Tables 10.7 and 10.8). -/

namespace Sys2Proof.Machine

/-- The snapshot that SNAPSHOT_READ names: 0 is the latest one. -/
def State.ringSnapshot (s : State) (n : Nat) : Option Snapshot :=
  if n = 0 then s.snapshots.head? else s.snapshots.find? (fun p => p.number == n)

/-- SNAPSHOT_READ (R380). -/
def State.acceptSnapshotRead (s : State) (c : Cmd) : Acc :=
  let off := rd16 c.params 8
  let len := rd16 c.params 10
  match s.ringSnapshot (rd64 c.params 0) with
  | none => s.acc stBadParam
  | some p =>
    firstOf [(c.malformed || off % 4 != 0 || len % 4 != 0 || decide (5644 < off) || decide (len < 4) || decide (1376 < len) ||
        decide (5648 < off + len), stBadParam)] s
      { st := s, status := stOk, data := b16 off ++ b16 len ++ zeros 4 ++ slice p.ringEntry off len, snapshot := some p.number }

/-! ## STATUS_READ (Table 10.7) -/

def SlotStatus.code : SlotStatus → Nat
  | .empty => 0
  | .verifying => 1
  | .valid => 2
  | .invalid => 3

def StageState.code : StageState → Nat
  | .empty => 0
  | .isOpen => 1
  | .writing => 2
  | .verifying => 3
  | .verified => 4
  | .failed => 5
  | .armed => 6

/-- The FLAGS of STATUS_READ. -/
def State.statusFlags (s : State) : Nat :=
  packBits [allLanes.any (fun i => (s.lane i).paceMargin), s.snap.degradation == .oneLane, s.almanac.stashMode,
    s.images.pendingProfile.isSome, s.snap.mode == .hold && s.control.steps == 0, s.ndezo.dawn == .joined, s.pair.pairAlarm,
    s.startup.stuckLogged]

/-- REDUCED_LEFT: whole minutes. -/
def State.reducedLeft (s : State) : Nat := if s.snap.degradation = .full then 0xFFFF else min 0xFFFE s.minutesLeft

/-- The status of the profile slots, two bits each. -/
def State.profileBits (s : State) : Nat :=
  (List.range 4).foldl (fun n k => n + 4 ^ k * ((s.images.profiles[k]?).map (fun p => p.status.code)).getD 0) 0

/-- State and target of a staging slot in one byte. -/
def State.stageByte (s : State) (k : Nat) : Nat := (s.stagingAt k).state.code + 16 * (s.stagingAt k).target

/-- The IMAGE_ID of the running image; no image runs in IDLE (R188). -/
def State.runningImage (s : State) : Nat := if s.hasImage then imgId s.img else 0

/-- The 64 bytes of Table 10.7. -/
def State.statusBytes (s : State) : Bytes :=
  let p := s.snap
  b8 p.power.code ++ b8 p.mode.code ++ b8 p.degradation.code ++ b8 s.sealBank.role ++
  b8 ((s.lane .A).mode.code + 16 * (s.lane .B).mode.code) ++ b8 (s.lane .C).mode.code ++ b16 s.sealWord ++ b8 s.images.runningSlot ++
  b8 (s.sealBank.psel % 4) ++ b16 s.statusFlags ++ b16 s.reducedLeft ++ b16 s.leadLane.engine.actives.length ++ b64 s.runningImage ++
  b8 s.profileBits ++ b8 (s.stageByte 0) ++ b8 (s.stageByte 1) ++ b8 s.images.lastCheck ++
  b16 (if s.hasImage then s.param 1 else 0) ++ b8 s.startup.duskOutcome ++ b8 0 ++ b64 p.wall ++ b64 p.instant ++ b32 s.pair.epoch ++ zeros 12

/-- STATUS_READ (R381). -/
def State.acceptStatusRead (s : State) (c : Cmd) : Acc :=
  firstOf [(c.malformed, stBadParam)] s (s.accData stOk s.statusBytes)

/-! ## PACE_READ and COUNTERS_READ -/

/-- Does the supervision core of a lane answer? Not while the lane runs its self-test (R244, stage 1). -/
def Lane.coreAnswers (l : Lane) : Bool := l.mode != .restarting && !l.held

/-- PACE_READ (R382). -/
def State.acceptPaceRead (s : State) (c : Cmd) : Acc :=
  let one := fun (l : Lane) => if l.coreAnswers then b32 l.pace ++ b32 l.minPace else zeros 8
  firstOf [(c.malformed, stBadParam)] s (s.accData stOk (allLanes.map (fun i => one (s.lane i))).flatten)

/-- The counters of a lane in a group of Table 10.8. -/
def LaneCounters.group (k : LaneCounters) (i : LaneId) (g : Nat) : List Word :=
  if g = 0 then k.routeReject ++ [k.routeDiverse, k.pointTimeout, k.stopHold, k.intakeCarry, k.inputStraddle, k.teRuns, k.teOverflow,
    k.forceHold, k.badNibble]
  else if g = 1 then [k.voteCycle, k.voteMini, k.miniEmpty, k.forceAlone] ++ i.others.map k.linkErr.get ++ i.others.map k.missing.get ++
    k.exclusions
  else [k.cvFailP, k.cvFailQ, k.split] ++ i.others.map k.cwMiss.get ++ [k.txHold, k.badCheckX, k.badCheckY]

def NetCounters.list (k : NetCounters) : List Word :=
  [k.copies, k.ipDrop, k.malformed, k.dupNet, k.repeats, k.single, k.copyDiffer, k.seqReject, k.ahead, k.overrun]

/-- The counters of the module (group 3). REDUCED_USED is in whole minutes (R247): those that are over (DESIGN CHOICE, log entry 126). -/
def State.moduleCounters (s : State) : List Word :=
  let z := s.host.countersS
  [BitVec.ofNat 32 (s.reducedTime / (60 * second)), s.control.nadirEntries] ++ s.host.countersX.list ++ s.host.countersY.list ++
    [z.copies, z.ipDrop, z.malformed, z.overrun]

def wordBytes (l : List Word) : Bytes := (l.map (fun w => b32 w.toNat)).flatten

/-- COUNTERS_READ (R383). -/
def State.acceptCountersRead (s : State) (c : Cmd) : Acc :=
  let g := rd8 c.params 0
  let n := if g = 0 then 15 else if g = 1 then 20 else if g = 2 then 8 else 26
  let one := fun i => if (s.lane i).coreAnswers then (s.lane i).counters.group i g else List.replicate n (0xFFFFFFFF : Word)
  firstOf [(c.malformed || decide (3 < g), stBadParam)] s
    (s.accData stOk (b8 g ++ b8 n ++ b16 0 ++ wordBytes (if g = 3 then s.moduleCounters else allLanes.flatMap one)))

end Sys2Proof.Machine
end

