-- ==== Sys2Proof/Machine/HostProgram.lean ====
section
/-! DEFINITION. The opcodes of group 0x04xx: program mode, profiles, staging, arming and parameters (R178 to R189, R384 to R393,
R655). -/

namespace Sys2Proof.Machine

/-! ## MODE_SET -/

/-- The mode that counts as the current mode (R655): that of a MODE_SET that waits. -/
def State.currentMode (s : State) : Mode :=
  let waiting := s.waitingCmds.filterMap EngineCmd.mode?
  match waiting.getLast?, s.control.pendingMode with
  | some m, _ => m
  | none, some (m, _) => m
  | none, none => s.control.mode

/-- Does an accepted MODE_SET await its commit? -/
def State.modeWaits (s : State) : Bool := s.control.pendingMode.isSome || s.waitingCmds.any EngineCmd.isMode

def modeOf (n : Nat) : Option Mode :=
  match n with
  | 0 => some .stop
  | 1 => some .run
  | 2 => some .hold
  | _ => none

/-- The breakpoints of MODE_SET in use, and the entries beyond them. -/
def bpUsed (p : Bytes) : List Nat := (List.range (min 8 (rd8 p 4))).map (fun k => rd32 p (8 + 4 * k))
def bpRest (p : Bytes) : Bytes := slice p (8 + 4 * min 8 (rd8 p 4)) (4 * (8 - min 8 (rd8 p 4)))

/-- Are the parameters of MODE_SET well formed (R384, R655, the BAD_PARAM rows of Table 10.10)? -/
def State.modeParamsOk (s : State) (p : Bytes) : Bool :=
  let setBp := bitAt (rd8 p 1) 0
  let steps := rd16 p 2
  let nbp := rd8 p 4
  match modeOf (rd8 p 0) with
  | none => false
  | some .hold =>
    decide (steps ≤ 4000) && decide (nbp ≤ 8) && (bpUsed p).all (fun i => (instOf s.img i).isSome) &&
    (if setBp then bpRest p == zeros (bpRest p).length else nbp == 0 && slice p 8 32 == zeros 32) &&
    !(s.currentMode == .hold && s.control.steps == 0 && steps == 0 && !setBp)
  | some _ => steps == 0 && !setBp && nbp == 0 && slice p 8 32 == zeros 32

/-- Is a lane's arbiter frozen (R489)? -/
def State.anyFrozen (s : State) : Bool := allLanes.any (fun i => (s.lane i).store.frozen)

/-- The ST_REJ_STATE rows of Table 10.10, R32, R451 and R489. -/
def State.modeRefused (s : State) (m : Mode) (steps : Nat) : Bool :=
  s.standbyUnit || !s.modeAllowed m ||
  (match m with
   | .hold => (s.currentMode != .hold && steps != 0) || (s.currentMode == .hold && s.control.steps != 0) || (s.anyFrozen && steps != 0)
   | .run => s.currentMode == .run || s.anyFrozen
   | .stop => s.currentMode == .stop)

/-- A MODE_SET that waits is replaced: it stops being outstanding (R655). -/
def State.dropWaitingMode (s : State) : State :=
  let isMode := fun (i : Intake) => i.cmd.isMode
  let s1 := s.settledAll ((s.control.pendingMode.bind (·.2)).toList ++ ((s.waitingIntakes.filter isMode).map (·.key)))
  { s1 with
    control := { s1.control with pendingMode := none, pendingBreaks := none, pendingSteps := 0 },
    host := { s1.host with awaiting := s1.host.awaiting.filter (fun i => !isMode i) },
    pair := s1.pair.dropWaiting isMode }

/-- MODE_SET (Table 10.10). In a pair that runs in step it goes through the intake (R454). One that names the committed mode while another
waits only cancels that one (R655). -/
def State.acceptModeSet (s : State) (c : Cmd) : Acc :=
  let p := c.params
  let m := (modeOf (rd8 p 0)).getD .stop
  let steps := rd16 p 2
  let bps := if bitAt (rd8 p 1) 0 then some (bpUsed p) else none
  let isHold := rd8 p 0 == 2
  let s1 := s.dropWaitingMode
  let cancels := s.modeWaits && m == s.control.mode
  let n := if cancels then 0 else steps
  let b := if cancels then none else bps
  let s2 : State := { s1 with control := { s1.control with pendingMode := some (m, some c.key), pendingSteps := n, pendingBreaks := b } }
  firstOf [(isHold && c.cls == .operator, stOrigin), (isHold && !s.sealClosed 15, stSeal), (s.inNadir, stNadir),
     (c.malformed || !s.modeParamsOk p, stBadParam), (s.modeRefused m steps, stState)] s
    ((if s.pairSteps then s1.await c (.mode m n b) else s2).acc stAccepted)

/-! ## PROFILE_SELECT -/

/-- PROFILE_SELECT (R385). A later one takes the place of one that waits (DESIGN CHOICE, log entry 28). -/
def State.acceptProfileSelect (s : State) (c : Cmd) : Acc :=
  let k := rd8 c.params 0
  let old := match s.images.pendingProfile with
    | some p => p.key.toList
    | none => []
  let s1 := s.settledAll old
  firstOf [(!s.sealClosed 13, stSeal), (s.inNadir, stNadir), (c.malformed || decide (3 < k), stBadParam), (s.snap.routeLock != 0, stLocked),
     (!s.powered || k == s.images.runningSlot || s.images.takenProfile.isSome || s.images.staging.any (fun g => g.state == .armed) ||
      s.constellationOpen || s.standbyUnit, stState)] s
    ({ s1 with images := { s1.images with
        pendingProfile := some { target := k, fromPins := false, key := some c.key } } }.acc stAccepted)

/-! ## Staging -/

/-- The lane that copies for the module releases lock word 0 (R503). -/
def State.releaseGuard (s : State) (g : CopyRun) : State :=
  if g.guarded then
    match s.lowest with
    | some i =>
      let w := s.xram.lockWord 0
      if bitAt w i.index then { s with xram := s.xram.put (lockWordAddr 0) (b32 (w - 2 ^ i.index)) } else s
    | none => s
  else s

/-- The lowest voting lane claims lock word 0, where it is free (R502, R503). -/
def State.claimGuard (s : State) : State × Bool :=
  match s.lowest with
  | some i => if s.xram.lockWord 0 = 0 then ({ s with xram := s.xram.put (lockWordAddr 0) (b32 (2 ^ i.index)) }, true) else (s, false)
  | none => (s, false)

def State.stagingRegion (s : State) (k : Nat) : Nat := s.images.stagingRegions.getD k 6

/-- A copy into a staging slot ends without effect: its slot is opened anew. -/
def State.dropCopy (s : State) (k : Nat) : State :=
  match (s.stagingAt k).copy with
  | some g => (s.settledAll g.key.toList).releaseGuard g
  | none => s

/-- STAGE_OPEN (R178 to R180, R386). -/
def State.acceptStageOpen (s : State) (c : Cmd) : Acc :=
  let k := rd8 c.params 0
  let target := rd8 c.params 1
  let s1 := (s.dropCopy k).setRegion (s.stagingRegion k) [] 0 67108864
  let s2 := s1.modStaging k (fun _ => { Staging.empty with state := .isOpen, target := target })
  firstOf [(!s.sealClosed 14, stSeal), (c.malformed || decide (1 < k) || decide (3 < target), stBadParam), (!s.holdsLock c.session, stLocked),
     ((s.stagingAt k).state == .armed, stState)] s
    ((s2.event 0x0302 c.origin [(24, 1, k), (25, 1, target)]).acc stOk)

/-- The parameters of STAGE_WRITE (Table 10.11). -/
def stageWriteOk (p : Bytes) : Bool :=
  let off := rd32 p 4
  let len := rd32 p 8
  let x := rd32 p 12
  decide (rd8 p 0 ≤ 1) && off % 4 == 0 && decide (off + len ≤ 67108864) &&
  (match rd8 p 1 with
   | 0 => decide (4 ≤ len) && decide (len ≤ 1384) && len % 4 == 0 && x == 0
   | 1 => decide (64 ≤ len) && decide (len ≤ 1048576) && len % 64 == 0 && x % 64 == 0 && decide (x + len ≤ 1048576)
   | _ => false)

/-- STAGE_WRITE (R386, R387, R503). -/
def State.acceptStageWrite (s : State) (c : Cmd) : Acc :=
  let p := c.params
  let k := rd8 p 0
  let g := s.stagingAt k
  let off := rd32 p 4
  let len := rd32 p 8
  let high := max g.high (off + len)
  let direct := ((s.setRegion (s.stagingRegion k) (Mem.store (s.images.stagingMem k) off (slice p 16 len)) off len).modStaging k
    (fun g => { g with high := high })).accData stOk (b32 high)
  let claim := s.claimGuard
  let copied := (claim.1.modStaging k (fun g => { g with
    state := .writing
    copy := some { offset := off, length := len, xram := rd32 p 12, since := s.now, guarded := claim.2, abandoned := false, key := some c.key,
                   touched := [] } })).accData stAccepted (b32 g.high)
  firstOf [(c.malformed || !stageWriteOk p, stBadParam), (!s.holdsLock c.session, stLocked), (g.state != .isOpen, stState)] s
    (if rd8 p 1 = 0 then direct else copied)

/-! ## The change report (Tables 5.3 and 5.4) -/

def ReportEntry.bytes (e : ReportEntry) : Bytes := b8 e.kind ++ b8 0 ++ b16 e.index ++ b32 e.ident ++ b64 e.old ++ b64 e.new

/-- The carry bound of R184 in ns, rounded up. -/
def carryNs (b : Nat) : Nat := (13 * ((b + 63) / 64) + 9) / 10

/-- The report header with a value for REPORT_CRC. -/
def Report.headWith (r : Report) (k target crc : Nat) : Bytes :=
  let count := fun n => (r.entries.filter (fun e => e.kind == n)).length
  b64 r.newImage ++ b64 r.oldImage ++ b8 k ++ b8 target ++ b16 (flag r.running) ++ b32 r.entries.length ++ b32 r.carried ++
  b32 r.carriedBytes ++ b32 (count 1) ++ b32 (count 2) ++ b32 (count 3) ++ b16 (count 6) ++ b16 (count 7) ++ b32 (carryNs r.carriedBytes) ++
  b32 crc ++ zeros 8

/-- The report header (Table 5.3). -/
def Report.header (r : Report) (k target : Nat) : Bytes :=
  r.headWith k target (crc32c (r.headWith k target 0 ++ (r.entries.map (·.bytes)).flatten)).toNat

/-- The reply of STAGE_VERIFY in form 1 (Table 10.12). -/
def State.verifyReply (s : State) (k page : Nat) : Bytes :=
  let g := s.stagingAt k
  let es := (g.report.map (·.entries)).getD []
  let shown := (es.drop (40 * page)).take 40
  let ready := g.state == .verified || g.state == .armed
  b8 g.state.code ++ b8 (if g.state = .failed then g.check else 0) ++ b16 shown.length ++ b32 page ++
  (match g.report with
   | some r => if ready then r.header k g.target else zeros 64
   | none => zeros 64) ++ (shown.map (·.bytes)).flatten

/-- STAGE_VERIFY (R388). -/
def State.acceptStageVerify (s : State) (c : Cmd) : Acc :=
  let p := c.params
  let k := rd8 p 0
  let form := rd8 p 1
  let page := rd32 p 4
  let g := s.stagingAt k
  let n := ((g.report.map (·.entries)).getD []).length
  let readable := g.state == .verifying || g.state == .verified || g.state == .failed || g.state == .armed
  firstOf [(c.malformed || decide (1 < k) || decide (1 < form) || (form == 0 && page != 0) || (form == 1 && page != 0 && decide (n ≤ 40 * page)), stBadParam),
     (!s.holdsLock c.session, stLocked), (if form = 0 then g.state != .isOpen else !readable, stState)] s
    (if form = 0 then (s.modStaging k (fun g => { g with state := .verifying, report := none })).acc stAccepted
     else s.accData stOk (s.verifyReply k page))

/-! ## Arming -/

/-- CHANGE_ARM: the checks of Table 5.6 with R178, R361 and R451. While another CHANGE_ARM is accepted and not yet committed, one for the
same slot is refused as one whose slot is not VERIFIED, and one for the other slot as one beside an ARMED slot (DESIGN CHOICE, log
entry 127). -/
def State.armDecision (s : State) (c : Cmd) : Nat × Nat :=
  let k := rd8 c.params 0
  if !s.holdsLock c.session then (stLocked, 0)
  else if s.inNadir then (stNadir, 0)
  else if !s.sealClosed 14 then (stSeal, 0)
  else if c.malformed ∨ 1 < k then (stBadParam, 0)
  else if s.standbyUnit then (stState, 0)
  else
    match s.images.pendingArm with
    | some (j, _) => (stState, if j = k ∧ s.armState k = true ∧ s.constellationOpen = false then 2 else 1)
    | none => s.armCheck k

/-- A frame of the pair (R454): what a command of the active unit does at the standby. The manual gives FORCE and CHANGE frames no
layout; the payload is the opcode and the parameters (DESIGN CHOICE, log entry 22). -/
def State.tellPeer (s : State) (kind : Nat) (c : Cmd) : State :=
  if s.pair.role = .active then s.sendBoth kind (b16 c.opcode ++ c.params) else s

/-- The first Change Point after the snapshot that commits a change armed now: that of the vote in progress, or of the next one. -/
def State.armPoint (s : State) : Nat :=
  let v := s.leadLane.vote
  let t := if v.decided = false ∧ s.lastCycle.instant < v.instant then v.instant else (s.now / s.t0 + 1) * s.t0
  t / (10 * ms) * (10 * ms) + 10 * ms

/-- The CHANGE frame of an arm (R201): the opcode, the target, NEW_IMAGE_ID and the Change Point (DESIGN CHOICE, log entry 22). -/
def State.tellArm (s : State) (k : Nat) : State :=
  let g := s.stagingAt k
  if s.pair.role = .active then
    s.sendBoth 4 (b16 0x0406 ++ b8 k ++ b8 g.target ++ b32 0 ++ b64 ((g.report.map (·.newImage)).getD 0) ++ b64 s.armPoint)
  else s

/-- CHANGE_ARM (R187, R389). -/
def State.acceptChangeArm (s : State) (c : Cmd) : Acc :=
  let d := s.armDecision c
  let k := rd8 c.params 0
  let s1 : State := { s with images := { s.images with pendingArm := some (k, c.key) } }
  (if d.1 = stAccepted then s1.tellArm k else s).accData d.1 (b32 d.2)

/-- The CHANGE frame of an abort (R201): the opcode, the target and NEW_IMAGE_ID (DESIGN CHOICE, log entry 22). -/
def State.tellAbort (s : State) (k : Nat) : State :=
  let g := s.stagingAt k
  if s.pair.role = .active then
    s.sendBoth 4 (b16 0x0407 ++ b8 k ++ b8 g.target ++ b32 0 ++ b64 ((g.report.map (·.newImage)).getD 0))
  else s

/-- CHANGE_ABORT (R390): each lane reports at the Change Point whether it decided it before. -/
def State.acceptChangeAbort (s : State) (c : Cmd) : Acc :=
  let k := rd8 c.params 0
  firstOf [(c.malformed || decide (1 < k), stBadParam), ((s.stagingAt k).state != .armed, stState)] s
    (((s.modStaging k (fun g => { g with abortStamps := some c.stamps, abortKey := some c.key })).tellAbort k).acc stAccepted)

/-! ## Parameters -/

/-- The entries of PARAM_WRITE. -/
def paramEntries (p : Bytes) : List (Nat × Word) :=
  (List.range (rd8 p 0)).map (fun k => (rd16 p (4 + 8 * k), BitVec.ofNat 32 (rd32 p (8 + 8 * k))))

/-- The first entry that fails a test. -/
def firstBad (l : List (Nat × Word)) (bad : Nat → (Nat × Word) → Bool) : Option Nat :=
  (l.zipIdx.find? (fun x => bad x.2 x.1)).map (·.2)

/-- Does WRITE_CLASSES lack the class of the session (R391, step 1)? -/
def classLacks (m : Mem) (cls : OriginClass) (id : Nat) : Bool :=
  decide (id < 0x100) || ((paramOf m id).any (fun p => match cls with
    | .operator => !bitAt p.classes 0
    | .engineer => !bitAt p.classes 1
    | _ => true))

/-- An unknown or repeated PARAM_ID, or a value out of range (R391, step 3). -/
def paramBad (m : Mem) (l : List (Nat × Word)) (k : Nat) (e : Nat × Word) : Bool :=
  (match paramOf m e.1 with
   | none => true
   | some p => decide (e.2.toNat < p.min) || decide (p.max < e.2.toNat)) || (l.take k).any (fun x => x.1 == e.1)

/-- PARAM_WRITE (R391). -/
def State.acceptParamWrite (s : State) (c : Cmd) : Acc :=
  let l := paramEntries c.params
  let shape := c.malformed || l.isEmpty || decide (64 < l.length)
  match (if shape then none else firstBad l (fun _ e => classLacks s.img c.cls e.1)) with
  | some k => s.accData stOrigin (b32 k)
  | none =>
    if s.inNadir then s.acc stNadir
    else
      match (if shape then some 0 else firstBad l (paramBad s.img l)) with
      | some k => s.accData stBadParam (b32 k)
      | none => firstOf [(s.lockedOut c.session, stLocked), (!s.powered || s.standbyUnit, stState)] s ((s.await c (.params l)).acc stAccepted)

/-- A parameter as PARAM_READ returns it (Table 2.13). -/
structure ParamRow where
  id : Nat
  unit : Nat
  classes : Nat
  value : Nat
  min : Nat
  max : Nat
deriving DecidableEq, Repr

def ParamRow.bytes (r : ParamRow) : Bytes := b16 r.id ++ b8 r.unit ++ b8 r.classes ++ b32 r.value ++ b32 r.min ++ b32 r.max

/-- The system parameters that the image leaves to their defaults. -/
def defaultParams (m : Mem) : List ParamRow :=
  (List.range 12).filterMap (fun id =>
    match systemRange (max 1 (imgConstCount m)) id, paramOf m id with
    | some (u, lo, hi), none => some { id := id, unit := u, classes := 0, value := systemDefault id, min := lo, max := hi }
    | _, _ => none)

/-- Every parameter, in ascending order of PARAM_ID: a system parameter has a lower ID than every application parameter. -/
def State.paramRows (s : State) : List ParamRow :=
  let own := (params s.img).map (fun p =>
    ({ id := p.id, unit := p.unit, classes := p.classes, value := s.paramValue p.id, min := p.min, max := p.max } : ParamRow))
  let all := defaultParams s.img ++ own
  ((List.range 12).filterMap (fun k => all.find? (fun r => r.id == k))) ++ own.filter (fun r => decide (12 ≤ r.id))

/-- PARAM_READ (R393). -/
def State.acceptParamRead (s : State) (c : Cmd) : Acc :=
  let first := rd16 c.params 0
  let n := rd16 c.params 2
  let rows := (s.paramRows.filter (fun r => decide (first ≤ r.id))).take n
  firstOf [(c.malformed || n == 0 || decide (80 < n), stBadParam)] s
    (s.accData stOk (b16 first ++ b16 rows.length ++ (rows.map (·.bytes)).flatten))

end Sys2Proof.Machine
end

