-- ==== Sys2Proof/Machine/HostPower.lean ====
section
/-! DEFINITION. The opcodes of group 0x05xx: power states, Dusk and fuse repair (R31, R394, R395, R443, R454, R557, R563, R586, R592). -/

namespace Sys2Proof.Machine

/-- The power state that a code names (R394). -/
def powerOf (n : Nat) : Option Power :=
  match n with
  | 0 => some .off
  | 1 => some .idle
  | 2 => some .warm
  | 3 => some .live
  | _ => none

/-- Does Table 1.6, R394 or R454 refuse the change with ST_REJ_STATE? -/
def State.powerRefused (s : State) (p : Power) : Bool :=
  !s.powerAllowed p || ((p == .idle || p == .off) && s.pair.role == .active && s.pair.peerStandby == .ready)

/-- A POWER_STATE_SET that waits is replaced by a later one: it stops being outstanding (DESIGN CHOICE, log entry 29). -/
def State.dropWaitingPower (s : State) : State :=
  let isPower := fun (i : Intake) => i.cmd.isPower
  let s1 := s.settledAll ((s.control.pendingPower.bind (·.2)).toList ++ ((s.waitingIntakes.filter isPower).map (·.key)))
  { s1 with
    control := { s1.control with pendingPower := none, pendingTest := false, pendingAgain := false },
    host := { s1.host with awaiting := s1.host.awaiting.filter (fun i => !isPower i) },
    pair := s1.pair.dropWaiting isPower }

/-- POWER_STATE_SET (R394, R567). In a pair that runs in step, WARM and LIVE go through the intake (R454); at a standby it ends COPYING
and READY (Table 12.4). -/
def State.acceptPowerStateSet (s : State) (c : Cmd) : Acc :=
  let n := rd8 c.params 0
  let test := bitAt (rd8 c.params 1) 0
  let p := (powerOf n).getD .off
  let s0 := s.dropWaitingPower
  let s1 := if s0.pairSteps && s0.pair.role == .active && (p == .warm || p == .live) then s0.await c (.power p)
    else { s0 with control := { s0.control with pendingPower := some (p, some c.key), pendingTest := test } }
  firstOf [(s.control.power == .idle && n == 2 && s.sealBank.role == 0xFF, stSeal), (s.inNadir && n == 3, stNadir),
     (c.malformed || (powerOf n).isNone || (test && n != 0), stBadParam), (s.switchLocked p, stLocked), (s.powerRefused p, stState)] s
    ((s1.standbyFalls 6).acc stAccepted)

/-- DUSK_RUN (R395): the module shuts down at the next snapshot, runs Dusk and starts at its end. -/
def State.acceptDuskRun (s : State) (c : Cmd) : Acc :=
  let s1 := s.dropWaitingPower
  let s2 : State := { s1 with control := { s1.control with pendingPower := some (.off, some c.key), pendingTest := true, pendingAgain := true } }
  firstOf [(c.malformed, stBadParam), (s.control.power != .idle || s.control.mode != .stop, stState)] s (s2.acc stAccepted)

/-! ## REPAIR_FUSE -/

/-- The fuse entries of a lane (R586). -/
def fuseEntries : Nat := 48

/-- How many soft repairs of a lane the fuse entries still take. -/
def Lane.fusable (l : Lane) : Nat := min l.softRepairs.length (fuseEntries - l.fusedRepairs.length)

/-- The spares of a lane: 16 blocks with 4 rows and 2 columns each (R584). A repair is kept as its block, row or column and number
(`March.repairs`); bit 31 marks a column. -/
def isColumnRepair (r : Nat) : Bool := bitAt r 31

def Lane.sparesLeft (l : Lane) (columns : Bool) : Nat :=
  (if columns then 32 else 64) - ((l.softRepairs ++ l.fusedRepairs).filter (fun r => isColumnRepair r == columns)).length

/-- REPAIR_FUSE (R395, R586). -/
def State.acceptRepairFuse (s : State) (c : Cmd) : Acc :=
  let n := rd8 c.params 0
  let l := s.lane ((laneOf n).getD .A)
  let s1 := s.modLane ((laneOf n).getD .A) (fun x => { x with fuseRunning := true })
  firstOf [(c.malformed || decide (2 < n) || rd16 c.params 2 != l.softRepairs.length, stBadParam), (s.lockedOut c.session, stLocked),
     (s.control.power != .idle, stState)] s
    (s1.accData stAccepted (b16 l.fusable ++ b16 (l.sparesLeft false) ++ b16 (l.sparesLeft true) ++ b16 0))

end Sys2Proof.Machine
end

