-- ==== Sys2Proof/Machine/HostAlmanac.lean ====
section
/-! DEFINITION. The opcodes of group 0x06xx: Almanac cursor, reading and quotas, and the wall time (R396 to R399, R521 to R533), with
the bytes of a record (Tables 14.1 to 14.3). -/

namespace Sys2Proof.Machine

/-! ## Records -/

/-- The 32 bytes of a record (Tables 14.1 and 14.2). -/
def Record.bytes (r : Record) : Bytes :=
  leBytes 6 r.seq ++ b16 r.count ++ b64 r.wall ++ b8 (r.cls.code + 4 * r.session) ++ b8 r.writer ++ b16 r.hostId ++ b16 r.code ++ b16 r.flags ++
    b64 r.payload.toNat

/-- The records that a read returns from, ascending: those of the ring, in stash mode those of the stash of the lowest voting lane
(R533). -/
def State.readable (s : State) : List Record :=
  (if s.almanac.stashMode then s.leadLane.stash else s.almanac.records.filter (fun r => decide (s.almanac.oldest ≤ r.seq))).reverse

/-- The sequence number after NEWEST (R510). -/
def State.nextSeq (s : State) : Nat := if s.almanac.stashMode then s.leadLane.stashNext else s.almanac.next

/-- NEWEST; 0 before the first record ever. -/
def State.newestRecord (s : State) : Nat := s.nextSeq - 1

/-- The usage of a class (R528). -/
def Almanac.used (a : Almanac) (c : OriginClass) : Nat := (a.records.filter (fun r => decide (a.oldest ≤ r.seq) && r.cls == c)).length

/-- The quota of a class; INTERNAL has none (R527). -/
def Almanac.quota (a : Almanac) (c : OriginClass) : Option Nat := (a.quotas.find? (fun q => q.1 == c)).map (·.2)

def classOf (n : Nat) : Option OriginClass :=
  match n with
  | 0 => some .operator
  | 1 => some .engineer
  | 2 => some .maintenance
  | 3 => some .internal
  | _ => none

/-! ## ALMANAC_CURSOR -/

/-- ALMANAC_CURSOR (R396). -/
def State.acceptAlmanacCursor (s : State) (c : Cmd) : Acc :=
  let whence := rd8 c.params 0
  let seq := rd64 c.params 8
  let old := s.oldestRecord
  let cur := if whence = 0 then min (max seq old) (max old s.nextSeq) else if whence = 1 then old else s.nextSeq
  firstOf [(c.malformed || decide (2 < whence) || decide (2 ^ 48 ≤ seq), stBadParam)] s
    ((s.modSession c.session (fun x => { x with cursor := cur })).accData stOk (b64 cur ++ b64 old ++ b64 s.newestRecord))

/-! ## ALMANAC_READ -/

/-- The first records of a list whose sequence numbers follow one another from `n`. -/
def consecutive : Nat → List Record → List Record
  | _, [] => []
  | n, r :: rest => if r.seq = n then r :: consecutive (n + 1) rest else []

/-- The records of a read of at most `count` from the cursor (R521, R522). -/
def State.readFrom (s : State) (cursor count : Nat) : List Record :=
  let all := s.readable.filter (fun r => decide (cursor ≤ r.seq))
  match all with
  | [] => []
  | r :: _ => (consecutive r.seq all).take count

/-- A lane-side write of the exchange RAM, which a copy under way may meet (R503). -/
def CopyRun.touch (g : CopyRun) (a n : Nat) : CopyRun :=
  { g with touched := g.touched ++ ((List.range n).map (· + a)).filter (fun x => decide (g.xram ≤ x) && decide (x < g.xram + g.length) && !g.touched.contains x) }

/-- Bytes are written to the exchange RAM. -/
def State.xramStore (s : State) (a : Nat) (b : Bytes) : State :=
  { s with
    xram := s.xram.put a b,
    images := { s.images with staging := s.images.staging.map (fun g => { g with copy := g.copy.map (fun c => c.touch a b.length) }) },
    ki40 := { s.ki40 with loadCopy := s.ki40.loadCopy.map (fun c => c.touch a b.length) } }

/-- ALMANAC_READ (R397, R521 to R523, R533). -/
def State.acceptAlmanacRead (s : State) (c : Cmd) : Acc :=
  let count := rd8 c.params 0
  let dest := rd8 c.params 1
  let off := rd32 c.params 4
  let cur := ((s.sessionOf c.session).map (·.cursor)).getD 0
  let rs := s.readFrom cur count
  let first := ((rs.head?).map (fun (r : Record) => r.seq)).getD cur
  let next := first + rs.length
  let body := (rs.map Record.bytes).flatten
  let head := b64 first ++ b64 next ++ b8 rs.length ++ b8 (flag (decide (cur < first)) + 2 * flag s.almanac.stashMode) ++ zeros 6
  let s1 := s.modSession c.session (fun x => { x with cursor := next })
  let bad := c.malformed || count == 0 || decide (64 < count) || decide (1 < dest) || (dest == 0 && (decide (42 < count) || off != 0)) ||
    (dest == 1 && (off % 32 != 0 || decide (1048576 < off + 32 * count)))
  firstOf [(dest == 1 && c.cls == .operator, stOrigin), (bad, stBadParam)] s
    (if dest = 1 then (s1.xramStore off body).accData stOk head else s1.accData stOk (head ++ body))

/-! ## ALMANAC_QUOTA and TIME_SET -/

/-- ALMANAC_QUOTA (R398, R527). -/
def State.acceptAlmanacQuota (s : State) (c : Cmd) : Acc :=
  let q := rd32 c.params 4
  match classOf (rd8 c.params 0) with
  | some k =>
    let a := s.almanac
    let used := a.used k
    let dropped := ((a.dropped.find? (fun d => d.1 == k)).map (·.2)).getD 0
    let s1 : State := { s with almanac := { a with
      quotas := a.quotas.map (fun x => if x.1 = k then (k, q) else x),
      dropping := if used < q then a.dropping.filter (· != k) else a.dropping } }
    firstOf [(c.malformed || k == .internal || decide (524288 < q), stBadParam)] s (s1.accData stAccepted (b32 used ++ b32 dropped))
  | none => s.acc stBadParam

/-- TIME_SET (R399). A later one takes the place of one that waits (DESIGN CHOICE, log entry 29). -/
def State.acceptTimeSet (s : State) (c : Cmd) : Acc :=
  let new := rd64 c.params 0
  let s1 := match s.pendingWall with
    | some (_, k) => s.settled k
    | none => s
  firstOf [(c.malformed || new == 0, stBadParam)] s
    (({ s1 with pendingWall := some (new, c.key) }).accData stAccepted (b64 (s.wallAt s.now)))

end Sys2Proof.Machine
end

