-- ==== Sys2Proof/Machine/Almanac.lean ====
section
/-! DEFINITION. The Almanac writers: appending, repeat counting, quotas, the stash and the closing of open records (R510, R513 to R519,
R527 to R534, Table 14.5). -/

namespace Sys2Proof.Machine

/-! ## Repeat counting (R518, R519) -/

/-- A queued record is the same event as an open record. -/
def Record.same (r : Record) (q : Queued) : Bool :=
  r.isOpen && q.payloads.length == 1 && r.code == q.code && r.cls == q.cls && r.session == q.session && r.hostId == q.hostId &&
  r.writer == q.writer && r.payload == q.payloads.headD 0

/-- One more occurrence: with 65,535 the record closes saturated. -/
def Record.count1 (r : Record) (now : Nat) : Record :=
  let n := incSat r.count
  { r with count := n, last := now, isOpen := decide (n < 65535), saturated := decide (65535 ≤ n) }

/-- The first record, newest first, that is the same counts the event; nothing where none is. -/
def countSame (l : List Record) (q : Queued) (now : Nat) : Option (List Record) :=
  match l with
  | [] => none
  | r :: rest => if r.same q then some (r.count1 now :: rest) else (countSame rest q now).map (fun x => r :: x)

/-- The oldest open record of a writer closes where it has 16 of them and opens another (R519). `l` is newest first. -/
def closeOldest (l : List Record) (writer : Nat) : List Record :=
  let open16 := l.filter (fun r => r.isOpen && r.writer == writer)
  match open16.getLast? with
  | some o => if 16 ≤ open16.length then l.map (fun r => if r.seq = o.seq ∧ r.writer = writer then { r with isOpen := false } else r) else l
  | none => l

/-! ## New records -/

/-- The records of a queue entry with consecutive sequence numbers from `n`, newest first (R513). -/
def Queued.records (q : Queued) (n now : Nat) (timeUnset stashed : Bool) : List Record :=
  (q.payloads.zipIdx.map (fun p =>
    ({ seq := n + p.2, count := 0, wall := q.wall, cls := q.cls, session := q.session, writer := q.writer, hostId := q.hostId, code := q.code,
       isOpen := q.repeats && q.payloads.length == 1, safety := q.safety, local_ := q.writer != 0, cont := p.2 != 0, saturated := false,
       timeUnset := timeUnset, stashed := stashed, payload := p.1, last := now } : Record))).reverse

/-- New records enter the ring (R510). -/
def Almanac.put (a : Almanac) (q : Queued) (now : Nat) : Almanac :=
  let old := if q.repeats then closeOldest a.records q.writer else a.records
  let b := { a with next := a.next + q.payloads.length, records := q.records a.next now (!a.timeSet) false ++ old }
  { b with records := b.records.filter (fun r => decide (b.oldest ≤ r.seq)) }

/-- The module's own ALMANAC record of a kind (R517, R529, R532). -/
def almanacEntry (writer wall kind cls : Nat) : Queued :=
  queuedOf 0x0908 writer wall Origin.internal [payloadFields [(24, 1, kind), (25, 1, cls)]]

/-- Is the class at or above its quota (R528, R529)? -/
def Almanac.isFull (a : Almanac) (c : OriginClass) : Bool := (a.quota c).any (fun n => decide (n ≤ a.used c))

/-- R529: a record or group is dropped, and the ALMANAC record of kind 1 is written at the first drop, or counts while it is open. -/
def Almanac.drop (a : Almanac) (q : Queued) (now : Nat) : Almanac :=
  let had := ((a.dropped.find? (fun (d : OriginClass × Nat) => d.1 == q.cls)).map (·.2)).getD 0
  let b := { a with dropped := (a.dropped.filter (fun (d : OriginClass × Nat) => d.1 != q.cls)) ++ [(q.cls, had + q.payloads.length)] }
  let note := almanacEntry 0 q.wall 1 q.cls.code
  if b.dropping.contains q.cls then
    match countSame b.records note now with
    | some l => { b with records := l }
    | none => b
  else { b with dropping := b.dropping ++ [q.cls] }.put note now

/-- An append to the MRAM (R518, R529). -/
def Almanac.append (a : Almanac) (q : Queued) (now : Nat) : Almanac :=
  match (if q.repeats then countSame a.records q now else none) with
  | some l => { a with records := l }
  | none =>
    if a.isFull q.cls then a.drop q now
    else { a with dropping := a.dropping.filter (fun c => c != q.cls) }.put q now

/-! ## The stash (R531, R532) -/

/-- Is the record the stash's own count of losses? -/
def Record.isLossCount (r : Record) : Bool := r.code == 0x0908 && getField r.payload 0 8 == 3

/-- The stash, newest first, without the oldest record that a test selects; nothing where there is none. -/
def dropOldest (l : List Record) (p : Record → Bool) : Option (List Record) :=
  match (l.filter p).getLast? with
  | some o => some (l.filter (fun r => r.seq != o.seq))
  | none => none

/-- Table 14.5 with a full stash: the stash with room for the new record, or nothing where the new one is dropped. -/
def makeRoom (l : List Record) (safety : Bool) : Option (List Record) :=
  match dropOldest l (fun r => !r.safety) with
  | some rest => some rest
  | none => if safety then dropOldest l (fun r => !r.isLossCount) else none

/-- A loss counts on the open record of kind 3. -/
def countLoss (l : List Record) (now : Nat) : List Record :=
  l.map (fun r => if r.isLossCount then { r with count := incSat r.count, last := now } else r)

/-- One record enters a lane's stash of 128. -/
def Lane.stashPut (l : Lane) (r : Record) : Lane :=
  if l.stash.length < 128 then { l with stash := r :: l.stash }
  else
    let lost := { l with stashLost := l.stashLost + 1 }
    match makeRoom (countLoss l.stash r.last) r.safety with
    | some rest => { lost with stash := r :: rest }
    | none => { lost with stash := countLoss l.stash r.last }

/-- R532: the record of kind 3 stands from the first loss on. Its own place in a full stash is a loss that it counts. -/
def Lane.noteLoss (l : Lane) (writer wall now : Nat) (timeUnset : Bool) : Lane :=
  if l.stashLost ≠ 0 ∧ l.stash.any Record.isLossCount = false then
    let l1 := ((almanacEntry writer wall 3 0).records l.stashNext now timeUnset false).foldl (fun x r => x.stashPut r)
      { l with stashNext := l.stashNext + 1 }
    { l1 with stash := l1.stash.map (fun r => if r.isLossCount then { r with count := min 65535 (l1.stashLost.toNat - 1) } else r) }
  else l

/-- An append to the stash of a lane, with the lane's own sequence numbers. -/
def Lane.stashAppend (l : Lane) (i : LaneId) (q : Queued) (now : Nat) (timeUnset : Bool) : Lane :=
  match (if q.repeats then countSame l.stash q now else none) with
  | some x => { l with stash := x }
  | none =>
    let l1 := { l with stash := if q.repeats then closeOldest l.stash q.writer else l.stash }
    let l2 := (q.records l1.stashNext now timeUnset false).reverse.foldl (fun x r => x.stashPut r)
      { l1 with stashNext := l1.stashNext + q.payloads.length }
    l2.noteLoss (i.index + 1) q.wall now timeUnset

/-! ## ALMANAC_APPEND -/

/-- Does a lane's writer still write? In reset only in the 2 ms after a power-fail (R568, R626). -/
def State.writerRuns (s : State) : Bool :=
  match s.control.phase with
  | .running | .dusk | .off | .safeOff => true
  | .starting => s.startup.restart
  | .reset => s.sealBank.below && decide (s.now ≤ s.sealBank.belowSince + 12000000)
  | _ => false

/-- R517: with room in the queue again, the writer notes what the queue lost. -/
def State.noteQueueLoss (s : State) (i : LaneId) : State :=
  let l := s.lane i
  if l.almLostPending then
    s.setLane i ({ l with almLostPending := false }.enqueue (almanacEntry (i.index + 1) (s.laneWall i) 2 0))
  else s

/-- In the shut-down, the stash goes to flash once it holds what the queue held (R534, R568). -/
def State.resaveStash (s : State) (i : LaneId) : State :=
  if s.control.phase = .off ∨ s.control.phase = .dusk then s.modLane i (fun l => { l with stashFlash := l.stash }) else s

/-- R39: in safe-off the Almanac stays readable over the maintenance bus while a supervision core works. The working core writes the newest
32,640 records, ascending, from offset 0 of the general area (DESIGN CHOICE, log entry 123). -/
def State.readout (s : State) : State :=
  if s.control.phase = .safeOff ∧ s.xram.filled then
    s.xramStore 0 ((s.readable.drop (s.readable.length - 32640)).map Record.bytes).flatten
  else s

/-- The first queued record or group of a lane's writer is appended. -/
def State.almanacAppend (s : State) (i : LaneId) (fault : AppendFault) : State :=
  match (s.lane i).queue with
  | [] => s
  | q :: rest =>
    if !s.writerRuns || (s.lane i).held then s
    else
      let s1 := s.modLane i (fun l => { l with queue := rest })
      if s.almanac.stashMode then
        (((s1.modLane i (fun l => l.stashAppend i q s.now (!s.almanac.timeSet))).resaveStash i).noteQueueLoss i).readout
      else
        match fault with
        | .none => (({ s1 with almanac := s1.almanac.append q s.now }).noteQueueLoss i).readout
        | _ => { s with almanac := { s.almanac with failed := true } }

/-- ALMANAC_APPEND (R514 to R518, R529 to R532). A record whose append fails stays queued. -/
def execAlmanacAppend (t : Nat) (lane : LaneId) (fault : AppendFault) (s : State) : Host.Outcome State Fault Refusal :=
  run t (fun s => s.almanacAppend lane fault) s

/-! ## OPEN_RECORD_CLOSE -/

/-- A record of a sequence number without a same event for 1 s closes; the loss count of a stash stays open (R519, R532). -/
def closeAfter (l : List Record) (seq now : Nat) : List Record :=
  l.map (fun r => if r.seq = seq ∧ r.last + second ≤ now ∧ r.isLossCount = false then { r with isOpen := false } else r)

/-- OPEN_RECORD_CLOSE: in the ring, in stash mode in the stashes. -/
def State.openRecordClose (s : State) (seq : Nat) : State :=
  if s.almanac.stashMode then s.mapLanes (fun l => { l with stash := closeAfter l.stash seq s.now })
  else { s with almanac := { s.almanac with records := closeAfter s.almanac.records seq s.now } }

def execOpenRecordClose (t seq : Nat) (s : State) : Host.Outcome State Fault Refusal :=
  run t (fun s => s.openRecordClose seq) s

end Sys2Proof.Machine
end

