-- ==== Sys2Proof/Machine/HostSecurity.lean ====
section
/-! DEFINITION. The opcodes of group 0x07xx: identity, attestation quotes and the trusted key list (R400 to R402, R540 to R549). -/

namespace Sys2Proof.Machine

def Part.number : Part → Nat
  | .hk7348 => 7348
  | .hk7332 => 7332
  | .hk7316 => 7316

/-- R546: no voting lane can read the identity region. -/
def State.identityLost (s : State) : Bool := s.voting.all (fun i => !s.identity.readable.get i)

/-- The nine ports of Table 10.15 by their numbers of R22, the service port as 62. -/
def hostPorts : List Nat := [48, 49, 50, 51, 52, 53, 54, 55, 62]

/-- Zero bytes up to a multiple of 4. -/
def pad4 (b : Bytes) : Bytes := b ++ zeros ((4 - b.length % 4) % 4)

/-- The reply of Table 10.15. -/
def State.identityBytes (s : State) : Bytes :=
  let cert := if s.identityLost then [] else Config.deviceCert.take 1300
  b16 s.identity.part.number ++ b16 (flag s.identity.extTemp) ++ slice Config.serial 0 8 ++ b32 Config.fwVersion ++ b16 s.node ++ b8 s.sealBank.role ++
    b8 0 ++ nonceBytes s.host.nonce ++ (hostPorts.map (fun p => leBytes 6 (Config.mac p))).flatten ++ b16 cert.length ++ zeros 8 ++ pad4 cert

/-- IDENTITY_READ (R400). -/
def State.acceptIdentityRead (s : State) (c : Cmd) : Acc := firstOf [(c.malformed, stBadParam)] s (s.accData stOk s.identityBytes)

/-! ## Quotes -/

/-- The quote of a session over a nonce, if it holds one. -/
def State.quoteOf (s : State) (session : Nat) (nonce : Bytes) : Option Quote :=
  ((s.sessionOf session).bind (·.quote)).filter (fun q => q.nonce == nonce)

/-- ATTEST_QUOTE (R401, R546). A form 0 with the nonce in hand repeats nothing. -/
def State.acceptAttestQuote (s : State) (c : Cmd) : Acc :=
  let form := rd8 c.params 0
  let nonce := slice c.params 4 32
  let held := s.quoteOf c.session nonce
  let fresh : Quote := { nonce := nonce, captured := none, signature := none, since := s.now }
  let s1 := if held.isSome then s else s.modSession c.session (fun x => { x with quote := some fresh })
  let ready := held.bind (fun q => q.captured.bind (fun b => q.signature.map (fun g => b ++ g)))
  firstOf [(c.malformed || decide (1 < form), stBadParam), (if form = 0 then s.identityLost else ready.isNone, stState)] s
    (if form = 0 then s1.acc stAccepted else s.accData stOk (ready.getD []))

/-- QUOTE_READY: the lowest voting lane has signed a captured quote (R549). -/
def State.quoteReady (s : State) (session : Nat) : State :=
  s.modSession session (fun x =>
    match x.quote with
    | some q =>
      (match q.captured, q.signature with
       | some b, none => { x with quote := some { q with signature := some (beBytes 96 (Config.ecdsaSign (Config.sha384 b)).toNat) } }
       | _, _ => x)
    | none => x)

def execQuoteReady (t : Nat) (session : Nat) (s : State) : Host.Outcome State Fault Refusal := run t (fun u => u.quoteReady session) s

/-! ## KEY_LIST_UPDATE -/

/-- The keys of an update: those in use and the rest. -/
def updateKey (p : Bytes) (k : Nat) : Bytes := slice p (16 + 96 * k) 96
def updateKeys (p : Bytes) : List Bytes := (List.range (min 4 (rd8 p 4))).map (updateKey p)
def updateUnused (p : Bytes) : List Bytes := (List.range (4 - min 4 (rd8 p 4))).map (fun k => updateKey p (min 4 (rd8 p 4) + k))

/-- The parameters of Table 10.17 with R543. -/
def keyListOk (p : Bytes) : Bool :=
  let ks := updateKeys p
  decide (1 ≤ rd8 p 4) && decide (rd8 p 4 ≤ 4) && ks.all Config.curvePoint && ks.eraseDups.length == ks.length &&
  (updateUnused p).all (fun k => k == zeros 96)

/-- R402: a key of the current list with KEY_ID SIGNER verifies the signature, and the version is newer. -/
def State.keySignatureOk (s : State) (p : Bytes) : Bool :=
  decide (s.host.keys.version < rd32 p 0) &&
  s.trustedKeys.any (fun k => keyId k == slice p 8 8 && Config.ecdsaVerify k (Config.sha384 (p.take 400)) (slice p 400 48) (slice p 448 48))

/-- KEY_LIST_UPDATE (R402, R543). The manual gives ST_REJ_SIG no place in the order of R364: it comes last (DESIGN CHOICE, log
entry 30). -/
def State.acceptKeyListUpdate (s : State) (c : Cmd) : Acc :=
  let p := c.params
  let s1 := match s.host.pendingKeys with
    | some (_, k) => s.settled k
    | none => s
  firstOf [(c.malformed || !keyListOk p, stBadParam), (s.lockedOut c.session, stLocked),
     (!(s.control.power == .idle || s.control.power == .warm) || s.images.staging.any (fun g => g.state == .armed), stState),
     (!s.keySignatureOk p, stSig)] s
    (({ s1 with host := { s1.host with pendingKeys := some ({ version := rd32 p 0, keys := updateKeys p }, c.key) } }).acc stAccepted)

end Sys2Proof.Machine
end

