-- ==== Sys2Proof/Machine/NdezoCore.lean ====
section
/-! DEFINITION. Ports, neighbours and Dawn: what the Ndezo rows (07) and the opcodes of group 0x08xx share. -/

namespace Sys2Proof.Machine

/-! ## Ports (R22, R250) -/

/-- A port as never used. -/
def Port.fresh (n : Nat) : Port :=
  { number := n, disabled := false, disablePending := none, pendingCommitted := false, delay := none, lastTx := 0, lastTxPrev := 0,
    lastRx := none, prevRx := none, missed := 0, counters := PortCounters.zero, decided := Lanes3 { rxOk := 0, check := 0, edge := 0, dup := 0 } }

/-- Is the number that of an Ndezo port of the part: a field port it has, or D0 to D3? -/
def isNdezoPort (part : Part) (n : Nat) : Bool := decide (n < part.fieldPorts) || (decide (58 ≤ n) && decide (n ≤ 61))

/-- The Ndezo ports of the part, ascending. -/
def ndezoPorts (part : Part) : List Nat := (List.range 62).filter (isNdezoPort part)

def State.port (s : State) (n : Nat) : Port := (s.ndezo.ports.find? (fun p => p.number == n)).getD (Port.fresh n)

/-- Ports in ascending order of their numbers. -/
def putPort : List Port → Port → List Port
  | [], p => [p]
  | q :: r, p => if p.number < q.number then p :: q :: r else if p.number = q.number then p :: r else q :: putPort r p

def State.modPort (s : State) (n : Nat) (f : Port → Port) : State :=
  { s with ndezo := { s.ndezo with ports := putPort s.ndezo.ports (f (s.port n)) } }

/-- One more on a counter of a port. -/
def State.countPort (s : State) (n : Nat) (f : PortCounters → PortCounters) : State :=
  s.modPort n (fun p => { p with counters := f p.counters })

/-- One more on what the given lanes count of a port at their decisions. -/
def State.countDecided (s : State) (is : List LaneId) (n : Nat) (f : PortDecided → PortDecided) : State :=
  s.modPort n (fun p => { p with decided := p.decided.mapI (fun i c => if is.contains i then f c else c) })

/-- The counters of a port as a lane holds them (R404). -/
def Port.countersOf (p : Port) (i : LaneId) : PortCounters :=
  let d := p.decided.get i
  { p.counters with
    rxOk := p.counters.rxOk + d.rxOk, check := p.counters.check + d.check, edge := p.counters.edge + d.edge, dup := p.counters.dup + d.dup }

/-- The slots of the running Constellation, with their indices. -/
def State.slots (s : State) : List (Nat × Slot) :=
  match s.constel with
  | some c => c.slots.zipIdx.map (fun x => (x.2, x.1))
  | none => []

/-- Is a port named by the running Constellation and not disabled (R250)? -/
def State.portActive (s : State) (n : Nat) : Bool :=
  isNdezoPort s.identity.part n && !(s.port n).disabled &&
  s.slots.any (fun x => bitAt x.2.outPorts n || ((x.2.receives || x.2.forwards) && x.2.inPort == n))

def State.activePorts (s : State) : List Nat := (ndezoPorts s.identity.part).filter s.portActive

/-- Does the module run Ndezo: in WARM or LIVE, Nadir included, and not in KI-40 mode (R251, R592)? -/
def State.ndezoRuns (s : State) : Bool := s.hasImage && !s.sealBank.ki40

/-- Is the node aligned or joined? -/
def Dawn.follows : Dawn → Bool
  | .aligned | .joined => true
  | _ => false

/-- A DOMAIN record. -/
def State.domainEvent (s : State) (kind port node : Nat) : State :=
  s.event 0x0504 Origin.internal [(24, 1, kind), (25, 1, port), (26, 2, node)]

/-- The node enters LISTEN; its listen time starts (R287, R292). -/
def State.toListen (s : State) : State :=
  let s1 := ({ s with ndezo := { s.ndezo with parent := none } } : State).toDawn .listen
  { s1 with ndezo := { s1.ndezo with
      listenSince := s.now, stratum := 31, parent := none, coarse := false, isPolestar := false, claimed := false, syncHeard := false, syncTaken := false,
      validSoFar := false, validCycle := false, alignedCycles := 0, outCycles := 0, mergeCycles := 0, change := none, request := none,
      buffers := [] } }

/-- CONST_IDs, low word, of the Constellations that the image holds, entry k for Constellation k (Table 7.5). -/
def State.ownTags (s : State) : List Nat :=
  (List.range 8).map (fun k => ((constelOf s.img k).map (fun c => c.id % 2 ^ 32)).getD 0)

/-- Does the node hold Constellation k with a tag (R291)? -/
def State.holdsTag (s : State) (k tag : Nat) : Bool := (constelOf s.img k).any (fun c => c.id % 2 ^ 32 == tag)

/-! ## HELD and READY (R296, R297) -/

/-- The latest LINK frames of the neighbours. -/
def State.linkFrames (s : State) : List LinkFrame := s.ndezo.ports.filterMap (fun p => p.lastRx)

/-- The tags of the latest SYNC copy, at the Polestar its own. -/
def State.syncTags (s : State) : List Nat := if s.ndezo.isPolestar then s.ownTags else s.ndezo.tags

/-- The three conditions of R296 for bit k. -/
def State.heldOwn (s : State) (k : Nat) : Bool :=
  s.holdsTag k (s.syncTags.getD k 0) && !s.images.staging.any (fun g => g.state == .armed) && s.images.takenProfile.isNone &&
  s.linkFrames.all (fun f => !f.parent || bitAt f.held k)

/-- HELD bit k; at the Polestar combined with that of every joined neighbour. -/
def State.heldBit (s : State) (k : Nat) : Bool :=
  s.heldOwn k && (!s.ndezo.isPolestar || s.linkFrames.all (fun f => !f.joined || bitAt f.held k))

def State.heldByte (s : State) : Nat := packBits ((List.range 8).map s.heldBit)

/-- READY for Constellation k (R297). -/
def State.readyFor (s : State) (k : Nat) : Bool := s.heldOwn k && s.linkFrames.all (fun f => !f.parent || bitAt f.held k)

end Sys2Proof.Machine
end

