-- ==== Sys2Proof/Machine/HostNdezo.lean ====
section
/-! DEFINITION. The opcodes of group 0x08xx: Constellation requests, Ndezo status and port enables (R295, R403 to R405). -/

namespace Sys2Proof.Machine

/-- CONSTELLATION_REQUEST (R295, R403). -/
def State.acceptConstellationRequest (s : State) (c : Cmd) : Acc :=
  let k := rd8 c.params 0
  firstOf [(s.inNadir, stNadir), (c.malformed || decide (7 < k), stBadParam),
     (!s.ndezoRuns || !s.ndezo.isPolestar || k == s.ndezo.constNo || s.ndezo.change.isSome || !s.heldBit k || s.standbyUnit, stState)] s
    (({ s with ndezo := { s.ndezo with request := some k } }).acc stAccepted)

/-! ## NDEZO_STATUS -/

/-- Table 10.18. -/
def State.ndezoModule (s : State) : Bytes :=
  let n := s.ndezo
  let change := match n.change with
    | none => 0
    | some c => if c.reported then 2 else 1
  b8 n.dawn.code ++ b8 n.stratum ++ b8 (n.parent.getD 0xFF) ++ b8 (n.constNo % 8 + 8 * change) ++ b32 ((n.theta % 2 ^ 32).toNat) ++ b16 n.polestar ++
    b8 n.held ++ zeros 5 ++ b64 n.cycle64 ++
    wordBytes [n.syncMiss, n.outOfSteps, n.dawnRuns, n.coldStarts, n.coldYields, n.claims, n.commits, n.abandons] ++ zeros 8

def PortCounters.list (c : PortCounters) : List Word :=
  [c.rxOk, c.stray, c.windowEarly, c.windowLate, c.trunc, c.fcs, c.header, c.check, c.edge, c.dup, c.fwd, c.fwdDrop, c.fwdStomp, c.linkMiss]

/-- Table 10.19. -/
def State.portEntry (s : State) (n : Nat) : Bytes :=
  if isNdezoPort s.identity.part n then
    let p := s.port n
    b8 n ++ b8 (flag (s.ndezoRuns && s.portActive n) + 2 * flag p.disabled + 4 * flag p.delay.isSome) ++ b16 0 ++ b32 (p.delay.getD 0) ++
      wordBytes (p.countersOf s.lead).list
  else b8 n ++ zeros 63

/-- Table 10.20, from the lowest voting lane. -/
def RxStream.entry (x : RxStream) : Bytes :=
  b16 x.id ++ b8 (min 31 x.age) ++ b8 (min 31 (max x.maxAge x.age)) ++ b32 x.check.toNat ++ b32 x.split.toNat ++ b16 x.dropouts ++ b16 0

/-- The streams of the running image, as the lowest voting lane holds them. -/
def State.streamList (s : State) : List RxStream := if s.hasImage then s.leadLane.inputs.streams else []

/-- NDEZO_STATUS (R404). Ports and indices past the last are ST_BAD_PARAM (DESIGN CHOICE, log entry 31). -/
def State.acceptNdezoStatus (s : State) (c : Cmd) : Acc :=
  let form := rd8 c.params 0
  let first := rd16 c.params 2
  let n := rd16 c.params 4
  let ok :=
    if form = 0 then first == 0 && n == 0
    else if form = 1 then decide (1 ≤ n) && decide (n ≤ 16) && decide (first + n ≤ 62)
    else form == 2 && decide (1 ≤ n) && decide (n ≤ 80) && decide (first + n ≤ s.streamList.length)
  let body :=
    if form = 0 then s.ndezoModule
    else if form = 1 then ((List.range n).map (fun k => s.portEntry (first + k))).flatten
    else (((s.streamList.drop first).take n).map RxStream.entry).flatten
  firstOf [(c.malformed || !ok, stBadParam)] s (s.accData stOk (b8 form ++ b8 0 ++ b16 n ++ body))

/-! ## PORT_ENABLE -/

/-- PORT_ENABLE (R405). A repeat of the setting that has committed already does not take it back. -/
def State.acceptPortEnable (s : State) (c : Cmd) : Acc :=
  let n := rd8 c.params 0
  let enable := bitAt (rd8 c.params 1) 0
  firstOf [(c.malformed || !isNdezoPort s.identity.part n, stBadParam), ((s.port n).disabled != enable, stState)] s
    ((s.modPort n (fun p => { p with
      disablePending := some (!enable), pendingCommitted := p.pendingCommitted && p.disablePending == some (!enable) })).acc stAccepted)

end Sys2Proof.Machine
end

