-- ==== Sys2Proof/Machine/PairFrames.lean ====
section
/-! DEFINITION. The payload of heartbeats and PAIR frames (Table 12.2) and the digest of a snapshot (R448, R455). -/

namespace Sys2Proof.Machine

/-- The digest of a cycle-end snapshot: CRC-32C over words 4 and 1,413 onward of its vote vector (Table 2.5). -/
def Snapshot.digest (p : Snapshot) (m : Mem) : Word :=
  crc32c (b32 p.safeOut.toNat ++ (p.payloads.map (fun x => payloadBytes x.2 (((outStream m x.1).map (·.len)).getD 0))).flatten)

/-- The own digest for a DIGEST_TIME. -/
def State.digestAt (s : State) (t : Nat) : Option Word :=
  (s.snapshots.find? (fun p => !p.mini && p.instant == t)).map (fun p => p.digest s.img)

def State.roleCode (s : State) : Nat :=
  match s.pair.role with
  | .active => 1
  | .standby => 2
  | _ => 0

def StandbyState.code : StandbyState → Nat
  | .notReady => 0
  | .copying => 1
  | .ready => 2

/-- The standby state as this unit reports it; 0xFF from the active unit. -/
def State.stateCode (s : State) : Nat := if s.pair.role = .active then 0xFF else s.pair.standby.code

/-- MODES of Table 12.2. -/
def State.modesByte (s : State) : Nat := s.control.power.code + 4 * s.control.mode.code + 16 * s.images.runningSlot

/-- The 64 bytes of Table 12.2. -/
def State.heartbeatBytes (s : State) : Bytes :=
  let p := s.lastCycle
  let standby := s.pair.role == .standby
  b8 s.roleCode ++ b8 s.stateCode ++ b8 s.control.degradation.code ++ b8 s.modesByte ++ b32 s.pair.epoch ++ b64 s.snap.number ++ b64 p.instant ++
    b32 (p.digest s.img).toNat ++ b32 0 ++ b64 (imgId s.img) ++ b64 (if standby then s.pair.intakeAck else 0) ++
    b64 (if standby then s.pair.switchAck else 0) ++ b64 0

/-- Does this unit send heartbeats and PAIR frames (R448, R449, R459)? -/
def State.sendsBeats (s : State) : Bool :=
  s.hasImage && !s.sealBank.ki40 && s.pair.role != .unpaired && !(s.pair.role == .active && s.control.degradation.isNadir)

/-- A heartbeat payload as it is read. -/
def beatOf (b : Bytes) : Beat :=
  { role := rd8 b 0, state := rd8 b 1, degradation := rd8 b 2, modes := rd8 b 3, epoch := rd32 b 4, snapshot := rd64 b 8,
    digestTime := rd64 b 16, digest := BitVec.ofNat 32 (rd32 b 24), imageId := rd64 b 32, intakeAck := rd64 b 40, switchAck := rd64 b 48 }

end Sys2Proof.Machine
end

