-- ==== Sys2Proof/Machine/Telegrams.lean ====
section
/-! DEFINITION. Check units at work on telegrams that cross the check channel (08): RX_VERDICT, the decision of Table 8.6 on an Ndezo
frame, TX_VALUE and TX_VERIFY. -/

namespace Sys2Proof.Machine

/-! ## Folds of Ndezo frames (Table 8.3) -/

/-- The node that a stream to this module is folded with as DEST (R304, R444): a unit of a pair uses the pair ID. -/
def State.foldDest (s : State) : Nat :=
  match pairPeer s.img with
  | some q => min s.node q
  | none => s.node

/-- The fold of a frame of a stream that this module receives in a slot. -/
def State.rxFold (s : State) (x : Slot) : Fold :=
  { seq := s.ndezo.cycle64 / 2 ^ 32, source := x.sender, dest := if 0xFF00 ≤ x.stream then s.node else s.foldDest, stream := x.stream }

/-- The covered bytes of an Ndezo frame: header bytes 4 to 15, then the payload (R256). -/
def coveredBytes (cycle epoch tag : Nat) (payload : Bytes) : Bytes := b32 cycle ++ b32 epoch ++ b32 tag ++ payload

/-- Do the check values of a received frame match its bytes? -/
def frameMatches (f : NdFrame) (k : Fold) : Bool × Bool :=
  let m := checkMessage k (coveredBytes f.cycle f.epoch f.constTag f.payload)
  (f.cvP == cvP m, f.cvQ == cvQ m)

/-! ## The decision on an Ndezo frame (Table 8.6) -/

/-- The running Constellation's receive entries of a stream. -/
def State.rxSlots (s : State) (stream : Nat) : List Slot := (s.slots.filter (fun x => x.2.receives && x.2.stream == stream)).map (·.2)

/-- A stream with sender copies (R444): its receive entries name different units. -/
def State.senderCopies (s : State) (stream : Nat) : Bool := decide (2 ≤ ((s.rxSlots stream).map (·.sender)).eraseDups.length)

/-- R457: is a frame's EPOCH below E_max of its pair? -/
def State.epochOld (s : State) (stream epoch : Nat) : Bool :=
  s.senderCopies stream && decide (epoch < assocD s.ndezo.emax (((inStream s.img stream).map (·.peer)).getD 0) 0)

/-- E_max takes the EPOCH of a frame. -/
def State.raiseEpoch (s : State) (stream epoch : Nat) : State :=
  if s.senderCopies stream then
    let k := ((inStream s.img stream).map (·.peer)).getD 0
    { s with ndezo := { s.ndezo with emax := assocSet s.ndezo.emax k (max epoch (assocD s.ndezo.emax k 0)) } }
  else s

def Lane.modStream (l : Lane) (id : Nat) (f : RxStream → RxStream) : Lane :=
  { l with inputs := { l.inputs with streams := l.inputs.streams.map (fun x => if x.id = id then f x else x) } }

/-- One more cycle without a frame, up to 31 (R283). -/
def RxStream.older (x : RxStream) : RxStream := { x with age := min 31 (x.age + 1) }

/-- A cycle of the stream in which no frame has been accepted: the age rises once in it, whichever copy is lost (R281, R283). -/
def RxStream.missCycle (x : RxStream) : RxStream := if x.accepted || x.aged then x else { x.older with aged := true }

/-- An accepted frame fills the ready buffer (R282, R283); `stamp` is the instant of the decision (R313). -/
def RxStream.fill (x : RxStream) (p : BitVec 8192) (stamp : Nat) : RxStream :=
  { x with ready := some { payload := p, stamp := stamp }, previous := x.ready, prevAge := x.age, age := 0, accepted := true }

/-- The lanes that follow lane `i` in what they accept: a lane in SHADOW takes what the lowest voting lane takes. -/
def State.followers (s : State) (i : LaneId) : List LaneId :=
  if s.lowest = some i then i :: allLanes.filter (fun j => (s.lane j).mode == .shadow) else [i]

/-- A frame `offsetNs` from START passes its last check (Table 7.7) in the lanes given. R278: an accepted frame 200 ns or more from START counts
EDGE; in ALIGNED none is accepted (R653). -/
def State.frameOk (s : State) (is : List LaneId) (port : Nat) (offsetNs : Int) : State :=
  s.countDecided is port (fun c => { c with
    rxOk := inc c.rxOk, edge := if s.ndezo.dawn = .joined ∧ 200 ≤ offsetNs.natAbs then inc c.edge else c.edge })

/-- A frame passes Table 7.7 in lane `i` (R281 to R283, R457); `first` says that lane `i` writes the record of the module. In ALIGNED it is
counted and fills nothing (R653); one whose EPOCH is too old is rejected. -/
def State.acceptFrame (s : State) (i : LaneId) (r : RxPending) : State :=
  let first := s.lowest == some i
  if s.ndezo.dawn ≠ .joined then s.frameOk (s.followers i) r.port r.offsetNs
  else if s.epochOld r.stream r.frame.epoch then
    let s0 := s.countDecided (s.followers i) r.port (fun c => { c with rxOk := inc c.rxOk })
    let s1 := if first then s0.event 0x0509 Origin.internal
        [(24, 2, ((inStream s.img r.stream).map (·.peer)).getD 0), (28, 4, r.frame.epoch)] else s0
    if r.late then (s1.followers i).foldl (fun u j => u.modLane j (fun l => l.modStream r.stream RxStream.missCycle)) s1 else s1
  else
    let s1 := s.frameOk (s.followers i) r.port r.offsetNs
    let s2 := s1.raiseEpoch r.stream r.frame.epoch
    let dup := (s.lane i).inputs.streams.any (fun x => x.id == r.stream && x.accepted)
    if dup then s2.countDecided (s2.followers i) r.port (fun c => { c with dup := inc c.dup })
    else (s2.followers i).foldl (fun u j =>
      (u.payloadIn j r.stream (payloadOf r.frame.payload) (s.laneTime j)).modLane j (fun l =>
        l.modStream r.stream (fun x => x.fill (payloadOf r.frame.payload) (s.laneTime j)))) s2

/-- The same telegram in another lane has its record (R327). -/
def RxPending.markLogged (x r : RxPending) : RxPending := if x.port = r.port ∧ x.lastBit = r.lastBit ∧ x.slot = r.slot then { x with logged := true } else x

/-- A frame is rejected in lane `i` under Table 8.6; the first lane that rejects it writes the record. -/
def State.rejectFrame (s : State) (i : LaneId) (r : RxPending) (o : RxOutcome) (missing : List LaneId) : State :=
  let s0 := s.countDecided (s.followers i) r.port (fun c => { c with check := inc c.check })
  let s1 := if r.logged then s0 else
    (s0.checkReject r.port 0 r.stream o (!missing.isEmpty)).mapLanes (fun l =>
      { l with inputs := { l.inputs with rxPending := l.inputs.rxPending.map (fun x => x.markLogged r) } })
  let s2 := s1.modLane i (fun l =>
    { l with counters := if missing.isEmpty then l.counters.rejected o i
        else missing.foldl (fun k j => { k with cwMiss := k.cwMiss.put j (inc (k.cwMiss.get j)) }) l.counters })
  (s2.followers i).foldl (fun u j => u.modLane j (fun l => l.modStream r.stream (fun x =>
    let y := { x with check := inc x.check, split := if o.charged.isEmpty then x.split else inc x.split }
    if r.late then y.missCycle else y))) s2

/-- The lanes whose verdicts lane `i` needs: the others that no snapshot has excluded (R308, R311). -/
def State.verdictLanes (s : State) (i : LaneId) : List LaneId := s.unexcluded.filter (· != i)

/-- Lane `i` decides an open telegram on what it holds. -/
def State.decideFrame (s : State) (i : LaneId) (r : RxPending) : State :=
  let s0 := s.modLane i (fun l => { l with inputs := { l.inputs with rxPending := l.inputs.rxPending.filter (· != r) } })
  let missing := (s.verdictLanes i).filter (fun j => (r.others.get j).isNone)
  let held := (i, r.own) :: (s.verdictLanes i).filterMap (fun j => (r.others.get j).map (fun x => (j, x)))
  let o := judgeResults held
  if missing.isEmpty && o.ok then s0.acceptFrame i r
  else s0.rejectFrame i r (if missing.isEmpty then o else { ok := false, pFail := [], qFail := [], charged := [] }) missing

/-- A lane that holds every verdict decides (R311). -/
def State.decideReady (s : State) (i : LaneId) : State :=
  ((s.lane i).inputs.rxPending.filter (fun r => (s.verdictLanes i).all (fun j => (r.others.get j).isSome))).foldl (fun u r => u.decideFrame i r) s

/-- The two bits of a result (Table 8.5); 3 is reserved. -/
def resultCode : CheckResult → Nat
  | .notMade => 0
  | .pass => 1
  | .fail => 2

def checkResultOf (n : Nat) : Option CheckResult :=
  match n with
  | 0 => some .notMade
  | 1 => some .pass
  | 2 => some .fail
  | _ => none

/-- A check word in its 32 bits (Table 8.5). -/
def packCheck (w : CheckWord) : Word :=
  BitVec.ofNat 32 (w.lane.index + 4 * w.msg + 16 * flag w.host + 64 * resultCode w.p + 256 * resultCode w.q + 1024 * w.port + 65536 * w.stream)

/-- The check word that 32 bits spell; none with a reserved value. -/
def readCheck (x : Word) : Option CheckWord :=
  let n := x.toNat
  match laneOf (bitsAt n 0 2), checkResultOf (bitsAt n 6 2), checkResultOf (bitsAt n 8 2) with
  | some i, some p, some q =>
    if bitsAt n 2 2 = 3 ∨ bitAt n 5 = true then none
    else some { lane := i, msg := bitsAt n 2 2, host := bitAt n 4, port := bitsAt n 10 6, stream := bitsAt n 16 16, p := p, q := q }
  | _, _, _ => none

/-- A verdict reaches lane `dst` by 300 ns after the last bit: what lane `src` sends of what its check unit found (R311). Words of a host
telegram cross as part of it (log entry 136). -/
def State.rxVerdict (s : State) (dst src : LaneId) (x : Word) (f : LinkFault) : State :=
  match f, readCheck x with
  | .none, some w =>
    if dst ≠ src ∧ w.lane = src ∧ w.msg = 0 ∧ w.host = false then
      (s.modLane dst (fun l => { l with inputs := { l.inputs with rxPending := l.inputs.rxPending.map (fun r =>
        if r.port = w.port ∧ r.stream = w.stream ∧ (r.others.get src).isNone ∧ r.sent.get src = some (w.p, w.q) ∧ s.now ≤ r.lastBit + 300 then
          { r with others := r.others.put src (some (w.p, w.q)) } else r) } })).decideReady dst
    else s
  | _, _ => s

/-- RX_VERDICT: a check word that arrives on the check channel (R309 to R311). -/
def execRxVerdict (t : Nat) (dst src : LaneId) (w : Word) (f : LinkFault) (s : State) : Host.Outcome State Fault Refusal :=
  run t (fun u => u.rxVerdict dst src w f) s

/-- RX_DECISION_DEADLINE: 300 ns after the last bit the lane decides on what it holds. -/
def State.rxDeadline (s : State) (i : LaneId) (port stream : Nat) : State :=
  ((s.lane i).inputs.rxPending.filter (fun r => r.port == port && r.stream == stream && decide (r.lastBit + 300 ≤ s.now))).foldl
    (fun u r => u.decideFrame i r) s

def execRxDecisionDeadline (t : Nat) (lane : LaneId) (port stream : Nat) (s : State) : Host.Outcome State Fault Refusal :=
  run t (fun u => u.rxDeadline lane port stream) s

/-! ## Sending (Table 8.4, R315 to R317) -/

/-- The lanes that compute CV-P and CV-Q, and the verifiers with the values that each verifies. -/
def txDuty (lanes : List LaneId) : Option (LaneId × LaneId × List (LaneId × Bool × Bool)) :=
  match lanes with
  | [_, _, _] => some (.A, .B, [(.C, true, true)])
  | [.A, .B] => some (.A, .B, [(.A, false, true), (.B, true, false)])
  | [.A, .C] => some (.A, .C, [(.A, false, true), (.C, true, false)])
  | [.B, .C] => some (.C, .B, [(.B, true, false), (.C, false, true)])
  | _ => none

/-- The value that lane `i` holds: its own where it computes it, else the one received. -/
def heldValue (i by_ : LaneId) (own : Word) (received : Option Word) : Option Word := if i = by_ then some own else received

/-- Does lane `i` hold a pass of a verifier: its own comparison, or a TX_VERIFY? -/
def verifierPasses (i : LaneId) (p q : Word) (x : TxPending) (d : LaneId × LaneId) (v : LaneId × Bool × Bool) : Bool :=
  if v.1 = i then
    (!v.2.1 || heldValue i d.1 p x.valueP == some p) && (!v.2.2 || heldValue i d.2 q x.valueQ == some q)
  else
    match x.verified.get v.1 with
    | some r => (!v.2.1 || r.1 == .pass) && (!v.2.2 || r.2 == .pass)
    | none => false

/-- May lane `i` send the telegram whose check values are `p` and `q` (R316)? -/
def txReleased (lanes : List LaneId) (i : LaneId) (p q : Word) (x : TxPending) : Bool :=
  match txDuty lanes with
  | some (a, b, vs) =>
    (heldValue i a p x.valueP).isSome && (heldValue i b q x.valueQ).isSome && vs.all (fun v => verifierPasses i p q x (a, b) v)
  | none => true

/-- Has a verification failed, so that lane `i` will never send it? -/
def txFailed (lanes : List LaneId) (i : LaneId) (p q : Word) (x : TxPending) : Bool :=
  match txDuty lanes with
  | some (a, b, vs) => vs.any (fun v =>
      if v.1 = i then
        (v.2.1 && (heldValue i a p x.valueP).any (fun w => w != p)) || (v.2.2 && (heldValue i b q x.valueQ).any (fun w => w != q))
      else (x.verified.get v.1).any (fun r => (v.2.1 && r.1 != .pass) || (v.2.2 && r.2 != .pass)))
  | none => false

/-- The values that lane `i` would send. -/
def txValues (lanes : List LaneId) (i : LaneId) (p q : Word) (x : TxPending) : Word × Word :=
  match txDuty lanes with
  | some (a, b, _) => ((heldValue i a p x.valueP).getD p, (heldValue i b q x.valueQ).getD q)
  | none => (p, q)

/-- The first entry of a list that passes a test, changed. -/
def modFirst {α : Type} (l : List α) (test : α → Bool) (f : α → α) : List α :=
  match l with
  | [] => []
  | x :: r => if test x then f x :: r else x :: modFirst r test f

/-- The check values in the bytes of a reply: CV_P and CV_Q, or the two CRC-16 values of KI-40. -/
def Reply.checks (r : Reply) : Word × Word :=
  let n := r.bytes.length
  if r.ki40 then (BitVec.ofNat 32 (rd16 r.bytes (n - 4)), BitVec.ofNat 32 (rd16 r.bytes (n - 2)))
  else (BitVec.ofNat 32 (rd32 r.bytes (n - 8)), BitVec.ofNat 32 (rd32 r.bytes (n - 4)))

/-- The first waiting reply of a session leaves when its port owner may send it, and is dropped when it never can (R317). -/
def State.releaseReply (s : State) (session : Nat) : State :=
  match s.host.replies.find? (fun r => r.session == session) with
  | none => s
  | some r =>
    let lanes := s.answering
    match s.sender ((r.path.map (·.port)).getD 0) with
    | none => s
    | some i =>
      match (s.lane i).inputs.txPending.find? (fun x => x.is true session) with
      | none => s
      | some x =>
        let c := r.checks
        let gone : State := { s.dropTx true session with host := { s.host with replies := dropFirst s.host.replies (fun q => q.session == session) } }
        if txReleased lanes i c.1 c.2 x then gone.sendReply r
        else if txFailed lanes i c.1 c.2 x then gone.txHold i 0xFF session
        else s

/-- The lanes that share the sending duties of a telegram (Table 8.4). -/
def State.txLanes (s : State) (host : Bool) : List LaneId := if host then s.answering else s.unexcluded

/-- Does a lane build the telegrams of the module: it votes, or a start or Dusk runs (R315, R583)? -/
def State.buildsTx (s : State) (i : LaneId) : Bool := s.control.phase != .running || (s.lane i).mode == .voting

/-- The check units of an outgoing stream or session (R306), beside those that check on receipt. -/
def txUnit (host : Bool) (stream : Nat) : Nat := 0x20000 + (if host then 0x10000 else 0) + stream

/-- The lane that counts a verification of lane `src`, whose results go to every other lane: the first of them. -/
def State.countsFor (s : State) (host : Bool) (dst src : LaneId) : Bool := ((s.txLanes host).filter (· != src)).head? == some dst

/-- TX_VALUE: lane `dst` receives a value from the lane that computes it; an invalid word is treated as not received (R309). What the unit of
that lane computes stands in the word: a broken unit sends another value (R313; DESIGN CHOICE, log entry 138). -/
def State.txValue (s : State) (dst src : LaneId) (host : Bool) (stream : Nat) (isP : Bool) (value : Option Word) : State :=
  let u := s.expireReplies
  let due := match txDuty (u.txLanes host) with
    | some (a, b, _) => dst != src && src == (if isP then a else b) && u.buildsTx src
    | none => false
  match value with
  | some v =>
    if due then
      let test := fun (x : TxPending) => x.is host stream && (if isP then x.valueP else x.valueQ).isNone && decide (u.now ≤ x.last)
      let put := fun (x : TxPending) => if isP then { x with valueP := some v } else { x with valueQ := some v }
      let w := u.modLane dst (fun l => { l with inputs := { l.inputs with txPending := modFirst l.inputs.txPending test put } })
      if host then w.releaseReply stream else w
    else u
  | none => u

def execTxValue (t : Nat) (dst src : LaneId) (host : Bool) (stream : Nat) (isP : Bool) (value : Option Word) (s : State) :
    Host.Outcome State Fault Refusal :=
  run t (fun u => u.txValue dst src host stream isP value) s

/-- A verifier's results reach lane `dst`. -/
def State.takeVerify (u : State) (dst src : LaneId) (w : CheckWord) : State :=
  let due := match txDuty (u.txLanes w.host) with
    | some (_, _, vs) => dst != src && vs.any (fun v => v.1 == src) && u.buildsTx src
    | none => false
  if due then
    let test := fun (x : TxPending) => x.is w.host w.stream && (x.verified.get src).isNone && decide (u.now ≤ x.last)
    let put := fun (x : TxPending) => { x with verified := x.verified.put src (some (w.p, w.q)) }
    let u1 := if u.countsFor w.host dst src then
        u.modLane src (fun l => { l with inputs := l.inputs.bump (txUnit w.host w.stream) (w.p, w.q) }) else u
    let v := u1.modLane dst (fun l => { l with inputs := { l.inputs with txPending := modFirst l.inputs.txPending test put } })
    if w.host then v.releaseReply w.stream else v
  else u

/-- TX_VERIFY: a check word that arrives on the check channel; PORT is 63 in it (Table 8.5), and an invalid one is not received (R309). -/
def State.txVerify (s : State) (dst src : LaneId) (x : Option Word) : State :=
  let u := s.expireReplies
  match x.bind readCheck with
  | some w => if w.lane = src ∧ w.msg = 2 ∧ w.port = 63 then u.takeVerify dst src w else u
  | none => u

def execTxVerify (t : Nat) (dst src : LaneId) (w : Option Word) (s : State) : Host.Outcome State Fault Refusal :=
  run t (fun u => u.txVerify dst src w) s

end Sys2Proof.Machine
end

