-- ==== Sys2Proof/Machine/TimeBase.lean ====
section
/-! DEFINITION. The time base of the module (R258): its correction by the lanes (R267, R288) and its steps (R288, R293). Commands give their
instants in it. -/

namespace Sys2Proof.Machine

/-- An instant on a time base that has moved by `d`. -/
def after (d : Int) (x : Nat) : Nat := (Int.ofNat x + d).toNat

/-- Instants beside the keys of a list. -/
def afterAll {α : Type} (d : Int) (l : List (α × Nat)) : List (α × Nat) := l.map (fun x => (x.1, after d x.2))

/-- The stamps of the three lanes. -/
def Stamps.after (d : Int) (l : Lanes Nat) : Lanes Nat := l.mapI (fun _ x => Machine.after d x)

def Stamped.after (d : Int) (x : Stamped) : Stamped := { x with stamp := Machine.after d x.stamp }

def RxStream.after (d : Int) (x : RxStream) : RxStream :=
  { x with ready := x.ready.map (Stamped.after d), previous := x.previous.map (Stamped.after d) }

def Differ.after (d : Int) (x : Differ) : Differ := { x with since := Machine.after d x.since, agreed := x.agreed.map (Machine.after d) }

def Inputs.after (d : Int) (x : Inputs) : Inputs :=
  { x with
    changes := x.changes.map (fun c => { c with stamp := Machine.after d c.stamp }), elemStamp := afterAll d x.elemStamp, streams := x.streams.map (RxStream.after d),
    field := { x.field with instant := Machine.after d x.field.instant },
    rxPending := x.rxPending.map (fun r => { r with lastBit := Machine.after d r.lastBit }), differs := x.differs.map (fun y => (y.1, y.2.after d)) }

def Lane.after (d : Int) (l : Lane) : Lane :=
  { l with
    isolatedAt := Machine.after d l.isolatedAt, lastCommit := Machine.after d l.lastCommit, paceGoodSince := Machine.after d l.paceGoodSince,
    shadowSince := Machine.after d l.shadowSince, inputs := l.inputs.after d,
    engine := { l.engine with shorts := afterAll d l.engine.shorts },
    vote := { l.vote with instant := Machine.after d l.vote.instant, miniStart := Machine.after d l.vote.miniStart },
    forces := { l.forces with pending := afterAll d l.forces.pending, alone := l.forces.alone.map (Machine.after d) },
    store := { l.store with frozenSince := Machine.after d l.store.frozenSince } }

def CopyRun.after (d : Int) (c : CopyRun) : CopyRun := { c with since := Machine.after d c.since }

def Images.after (d : Int) (x : Images) : Images :=
  { x with
    takenAt := Machine.after d x.takenAt,
    staging := x.staging.map (fun g => { g with
      copy := g.copy.map (CopyRun.after d), armedAt := g.armedAt.map (Machine.after d), abortStamps := g.abortStamps.map (Stamps.after d) }) }

def Session.after (d : Int) (x : Session) : Session :=
  { x with
    openedAt := x.openedAt.map (fun o => o.mapI (fun _ a => Machine.after d a)), leaseEnd := Machine.after d x.leaseEnd,
    quote := x.quote.map (fun q => { q with since := Machine.after d q.since }) }

def Intake.after (d : Int) (i : Intake) : Intake := { i with stamps := i.stamps.mapI (fun _ a => Machine.after d a) }

def HostSide.after (d : Int) (h : HostSide) : HostSide :=
  { h with
    sessions := h.sessions.map (Session.after d),
    recs := h.recs.map (fun r => { r with opened := Machine.after d r.opened, decidedAt := Machine.after d r.decidedAt }),
    lock := h.lock.map (fun k => { k with leaseEnd := Machine.after d k.leaseEnd }), arrivals := h.arrivals.map (Machine.after d),
    nonceAt := Machine.after d h.nonceAt, awaiting := h.awaiting.map (Intake.after d), taken := h.taken.map (Intake.after d),
    replies := h.replies.map (fun r => { r with decided := Machine.after d r.decided }) }

def Ndezo.after (d : Int) (n : Ndezo) : Ndezo :=
  { n with listenSince := Machine.after d n.listenSince, mismatchAt := n.mismatchAt.map (Machine.after d) }

def SafeIo.after (d : Int) (x : SafeIo) : SafeIo :=
  { x with
    closedAt := Machine.after d x.closedAt, test := x.test.map (fun t => { t with start := Machine.after d t.start }),
    lastPulse := afterAll d x.lastPulse, lastTested := afterAll d x.lastTested, energisedAt := afterAll d x.energisedAt,
    openedAt := afterAll d x.openedAt, zeroSince := afterAll d x.zeroSince }

def Pair.after (d : Int) (p : Pair) : Pair :=
  { p with
    listenSince := Machine.after d p.listenSince, last1 := Machine.after d p.last1, last2 := Machine.after d p.last2,
    quarantineFrom := p.quarantineFrom.map (Machine.after d), differSince := p.differSince.map (Machine.after d),
    matchSince := p.matchSince.map (Machine.after d), lastCompared := Machine.after d p.lastCompared, switchedAt := Machine.after d p.switchedAt,
    lastSwitchAt := Machine.after d p.lastSwitchAt }

/-- The snapshots with the instants of the newest cycle-end snapshot and of the mini-votes since moved: by them the lanes know the vote in
progress. -/
def afterSnaps (d : Int) : List Snapshot → List Snapshot
  | [] => []
  | p :: r =>
    let q := { p with instant := after d p.instant, commitAt := after d p.commitAt }
    if p.mini then q :: afterSnaps d r else q :: r

/-- The time base steps by `d` (R288, R293). The durations that run are not touched: the instants from which they are counted step with the
time base, as the watchdogs, which the TCXOs time, show (R237; DESIGN CHOICE, log entry 33). Wall time keeps its offset. -/
def State.stepBase (s : State) (d : Int) : State :=
  { s with
    now := after d s.now, lanes := s.lanes.mapI (fun _ l => l.after d), snapshots := afterSnaps d s.snapshots, images := s.images.after d,
    host := s.host.after d, ndezo := s.ndezo.after d, safeIo := s.safeIo.after d, pair := s.pair.after d,
    control := { s.control with reducedSince := after d s.control.reducedSince, dawnSince := after d s.control.dawnSince },
    sealBank := { s.sealBank with resetSince := after d s.sealBank.resetSince, unseatedSince := after d s.sealBank.unseatedSince,
                                  belowSince := after d s.sealBank.belowSince } }

/-- Each lane moves its own time base by what its own stamp of a SYNC copy says: `f` of its offset from the module's (R258). -/
def State.moveLanes (s : State) (f : Int → Int) : State :=
  { s with lanes := s.lanes.mapI (fun _ (l : Lane) => { l with offset := l.offset + f l.offset }) }

/-- A copy shows the offset `theta`: each lane corrects its time base towards 0 by at most `bound` ns (R267, R288). -/
def State.slew (s : State) (theta bound : Int) : State :=
  let s1 := s.moveLanes (fun o => max (-bound) (min bound (-(theta + o))))
  { s1.rebase with now := after s1.medianOffset s.now }

/-- Each lane steps its time base by the offset that its own stamp shows (R288). -/
def State.stepTo (s : State) (theta : Int) : State :=
  let s1 := s.moveLanes (fun o => -(theta + o))
  s1.rebase.stepBase s1.medianOffset

/-- A command whose effect may move the time base: the clock stays where the effect leaves it. -/
def runTimed (t : Nat) (f : State → State) (s : State) : Host.Outcome State Fault Refusal :=
  .next ((f (s.tick t)).close (f (s.tick t)).now s.pending)

end Sys2Proof.Machine
end

