-- ==== Sys2Proof/Machine/Ndezo.lean ====
section
/-! DEFINITION. The rows of the Ndezo link (07): domain cycles, SYNC, LINK, COLD and DATA frames, forwarding, slots and Dawn. -/

namespace Sys2Proof.Machine

/-! ## Frames as bytes (Tables 7.2 to 7.5) -/

/-- The addresses and the EtherType, the same in every frame. -/
def ndezoAddress : Bytes := [0x03, 0x4E, 0x44, 0x5A, 0, 0, 0x02, 0x4E, 0x44, 0x5A, 0, 0, 0x88, 0xB5]

/-- An Ndezo frame (Table 7.2): zero bytes up to 60, then the FCS, inverted in a frame that is stomped (R265). -/
def ndezoBytes (type constNo : Nat) (restricted : Bool) (cycle epoch tag : Nat) (payload checks : Bytes) (stomped : Bool) : Bytes :=
  let body := ndezoAddress ++ b8 (1 + 16 * type) ++ b8 (constNo % 8 + 128 * flag restricted) ++ b16 payload.length ++ b32 cycle ++ b32 epoch ++
    b32 tag ++ payload ++ checks
  let padded := body ++ zeros (60 - body.length)
  padded ++ b32 (if stomped then ~~~(fcs padded) else fcs padded).toNat

/-- The bytes of a DATA or PAIR frame. -/
def SentFrame.bytes (f : SentFrame) : Bytes :=
  ndezoBytes f.type f.constNo f.restricted f.cycle f.epoch f.constTag f.payload (b32 f.cvP.toNat ++ b32 f.cvQ.toNat) false

/-- The payload of a LINK frame (Table 7.4). -/
def linkPayload (f : LinkFrame) : Bytes :=
  b16 f.source ++ b8 (f.stratum % 32 + 32 * flag f.parent + 64 * flag f.joined + 128 * flag f.ready) ++ b8 f.held ++ b32 f.linkDelay ++ b64 f.txTime ++
    b64 f.rxTime ++ b32 f.rxCycle ++ b32 0

def linkBytes (f : LinkFrame) : Bytes := ndezoBytes 3 f.constNo false f.head.cycle 0 f.constTag (linkPayload f) [] false

/-- The payload of a SYNC or COLD frame (Table 7.5). -/
def syncPayload (f : SyncFrame) : Bytes :=
  b16 f.polestar ++ b8 f.hops ++ b8 (f.change % 4 + 4 * f.changeNo) ++ b32 0 ++ b64 f.cycle64 ++ b64 f.txTime ++ b64 f.correction ++
    ((List.range 8).map (fun k => b32 (f.tags.getD k 0))).flatten

def syncBytes (f : SyncFrame) (cold : Bool) : Bytes :=
  ndezoBytes (if cold then 4 else 2) f.constNo false f.head.cycle 0 f.constTag (syncPayload f) [] (!f.fcsOk || f.cut)

/-- What this module puts around a payload of `n` bytes that carries no check values (R254, R255). -/
def headOut (n cycle64 : Nat) : FrameHead :=
  { ethLength := n + 34, version := 1, reserved := false, lengthField := n, cycle := cycle64 % 2 ^ 32, epoch := 0 }

/-- The CONST_NO and CONST_TAG of a header (Table 7.3). -/
def State.headerTag (s : State) : Nat × Nat := (s.ndezo.constNo, ((s.constel.map (fun c => c.id % 2 ^ 32)).getD 0))

/-! ## The sync window (R260, R277) -/

/-- The shortest CYCLE_NS of the image's Constellations. -/
def State.shortestCycle (s : State) : Nat :=
  ((List.range 8).filterMap (fun k => (constelOf s.img k).map (·.cycleNs))).foldl min s.domainCycle

/-- SW: Garpo chooses it from 2,500 ns to below 40 % of the shortest CYCLE_NS (R260); the image does not hold it (log entry 109). -/
def State.syncWindow (s : State) : Nat := max 2500 (min ((s.shortestCycle * 2 - 1) / 5) Config.syncWindow)

/-- Does a frame whose first bit lies `d` ns after the cycle start fall within the sync window? -/
def State.inSync (s : State) (d : Int) : Bool := decide (0 ≤ d) && decide (d < Int.ofNat s.syncWindow)

/-- Does the header of a LINK, SYNC or COLD frame pass check 5 of Table 7.7? No entry gives the CONST_NO, CONST_TAG and CYCLE of a frame in
the sync window, and R272, R291 and Table 7.10 judge those of a SYNC copy (DEDUCED, log entry 119). -/
def headPasses (h : FrameHead) (len : Nat) : Bool := h.version == 1 && !h.reserved && h.lengthField == len

/-- Is the frame as long as its kind is, with a right FCS (checks 3 and 4)? -/
def headWhole (h : FrameHead) (len : Nat) (fcsOk cut : Bool) : Bool := fcsOk && !cut && h.ethLength == len + 34

/-- Checks 1 to 5 of Table 7.7: the first that fails, and the entry that a DATA frame in its window meets; `inSync` is a frame of the sync
window that passes. -/
inductive FrameCheck where
  | stray | early | late | trunc | fcs | header | passes (index : Nat) (x : Slot) | inSync
deriving DecidableEq, Repr

/-- The counters of checks 1 to 5, and RX_OK of a frame in the sync window, which has no check 6. -/
def FrameCheck.count (r : FrameCheck) (c : PortCounters) : PortCounters :=
  match r with
  | .stray => { c with stray := inc c.stray }
  | .early => { c with windowEarly := inc c.windowEarly }
  | .late => { c with windowLate := inc c.windowLate }
  | .trunc => { c with trunc := inc c.trunc }
  | .fcs => { c with fcs := inc c.fcs }
  | .header => { c with header := inc c.header }
  | .passes _ _ => c
  | .inSync => { c with rxOk := inc c.rxOk }

/-- Does a failure spoil an observed cycle (R289: checks 1, 2 and 5)? -/
def FrameCheck.spoils : FrameCheck → Bool
  | .stray | .early | .late | .header => true
  | _ => false

/-- Is a frame `d` ns after START in the acceptance window of an entry (R276)? -/
def inWindow (d : Int) : Bool := decide (-250 ≤ d) && decide (d < 250)

/-- Is it within 500 ns of an entry (check 1 of Table 7.7)? -/
def nearWindow (d : Int) : Bool := decide (-500 ≤ d) && decide (d < 500)

/-- The running Constellation's receive and forward entries of a port. -/
def State.portSlots (s : State) (port : Nat) : List (Nat × Slot) :=
  s.slots.filter (fun x => (x.2.receives || x.2.forwards) && x.2.inPort == port)

/-- Checks 1 and 2 on a frame `d` ns after the cycle start that lies in no acceptance window. -/
def missedWindow (xs : List (Nat × Slot)) (d : Int) : FrameCheck :=
  match xs.find? (fun x => nearWindow (d - Int.ofNat x.2.start)) with
  | some x => if d < Int.ofNat x.2.start then .early else .late
  | none => .stray

/-- Checks 3 to 5 of Table 7.7 on a LINK, SYNC or COLD frame with a payload of `len` bytes. -/
def checkWhole (len : Nat) (h : FrameHead) (fcsOk cut : Bool) : FrameCheck :=
  if cut || decide (h.ethLength < len + 34) then .trunc
  else if fcsOk = false ∨ h.ethLength ≠ len + 34 then .fcs
  else if headPasses h len then .inSync else .header

/-- Table 7.7 on a LINK, SYNC or COLD frame with a payload of `len` bytes, by its frame instant: outside the sync window it meets an entry's
zones, and within an acceptance window its TYPE differs from what the entry gives. -/
def State.checkSync (s : State) (port stamp len : Nat) (h : FrameHead) (fcsOk cut : Bool) : FrameCheck :=
  let d := Int.ofNat stamp - Int.ofNat s.ndezo.cycleStart
  if s.inSync d then checkWhole len h fcsOk cut
  else
    match (s.portSlots port).find? (fun x => inWindow (d - Int.ofNat x.2.start)) with
    | some x =>
      if cut || decide (h.ethLength < x.2.frameLen) then .trunc
      else if h.ethLength ≠ x.2.frameLen ∨ fcsOk = false then .fcs
      else .header
    | none => missedWindow (s.portSlots port) d

/-- Table 7.7 in ALIGNED and JOINED: the frame counts, and a failure spoils an observed cycle (R289, R653). -/
def State.judged (s : State) (port : Nat) (r : FrameCheck) : State :=
  let s1 := s.countPort port r.count
  if r.spoils then { s1 with ndezo := { s1.ndezo with validSoFar := false } } else s1

/-- What Table 7.7 decides on a LINK, SYNC or COLD frame. In LISTEN, COLD and ALIGNING, where the node has no cycle of the domain whose windows
checks 1 and 2 could use, checks 3 to 5 decide and count (R653 exempts DATA and PAIR frames only; DEDUCED, log entry 119). -/
def State.takesFrame (s : State) (port stamp len : Nat) (h : FrameHead) (fcsOk cut : Bool) : State × Bool :=
  if s.ndezo.dawn.follows then
    let r := s.checkSync port stamp len h fcsOk cut
    (s.judged port r, r == .inSync)
  else
    let r := checkWhole len h fcsOk cut
    (s.countPort port r.count, r == .inSync)

/-! ## DOMAIN_CYCLE_START -/

/-- May the module send and forward in this cycle: not in the cycle N + 2 whose outcome it lacks (Table 7.10)? -/
def State.outcomeKnown (s : State) : Bool := !s.ndezo.change.any (fun c => decide (c.cycle + 2 ≤ s.ndezo.cycle64))

/-- Does the node send LINK frames (Tables 7.8, 7.9)? -/
def State.sendsLinks (s : State) : Bool :=
  match s.ndezo.dawn with
  | .joined | .aligned => true
  | .aligning => s.ndezo.coarse && (s.control.mode == .stop ||
      (s.ndezo.parent.any (fun n => (s.port n).delay.isSome) && decide (s.ndezo.theta.natAbs < 250)))
  | _ => false

/-- A port at a cycle start: the LINK frame of the cycle before, or one more cycle without (R261 to R263, R300), and a setting that
a snapshot has committed (R405). -/
def Port.turn (p : Port) (active : Bool) : Port :=
  let heard := p.missed == 0 && p.lastRx.isSome
  let q : Port := { p with
    prevRx := if heard then p.lastRx else none, missed := p.missed + 1, lastTxPrev := p.lastTx, lastTx := 0,
    counters := if heard || !active then p.counters else { p.counters with linkMiss := inc p.counters.linkMiss } }
  match q.disablePending with
  | some d => if q.pendingCommitted then { q with disabled := d, disablePending := none, pendingCommitted := false } else q
  | none => q

/-- The full cycles without a LINK frame on a port: the cycle start after the cycle of the last one is not one of them (R263). -/
def Port.silent (p : Port) : Nat := p.missed - 1

/-- The LINK frame of this cycle on a port (Table 7.4). -/
def State.linkOut (s : State) (t n : Nat) : LinkFrame :=
  let p := s.port n
  { stamp := t, fcsOk := true, head := headOut 32 s.ndezo.cycle64, constNo := s.headerTag.1, constTag := s.headerTag.2, source := s.node, stratum := if s.ndezo.dawn.follows then s.ndezo.stratum else 31,
    parent := s.ndezo.parent == some n, joined := s.ndezo.dawn == .joined,
    ready := s.ndezo.change.any (fun c => c.reported && c.ready), held := s.heldByte, linkDelay := p.delay.getD 0xFFFFFFFF, txTime := t,
    rxTime := (p.prevRx.map (fun (f : LinkFrame) => f.stamp)).getD 0, rxCycle := if p.prevRx.isSome then (s.ndezo.cycle64 - 1) % 2 ^ 32 else 0 }

/-- The active ports whose owner transmits (R22, R231). -/
def State.sendingPorts (s : State) : List Nat := s.activePorts.filter (fun n => (s.sender n).isSome)

/-- The LINK frames leave on every active port whose owner transmits. -/
def State.sendLinks (s : State) (t : Nat) : State :=
  if s.sendsLinks then
    s.sendingPorts.foldl (fun u n =>
      (u.modPort n (fun p => { p with lastTx := t })).send (.linkFrame n (s.linkOut t n))) s
  else s

/-- Streams at a cycle start: those without a receive entry age, and all of them while the module is not JOINED (R284, R653). -/
def State.ageStreams (s : State) : State :=
  let joined := s.ndezo.dawn == .joined
  let one := fun (x : RxStream) =>
    let y := if !joined || (s.rxSlots x.id).isEmpty then x.older else x
    { y with accepted := false, isClosed := false, aged := false }
  s.mapLanes (fun l => { l with inputs := { l.inputs with streams := l.inputs.streams.map one } })

/-- What the ended cycle leaves: a SYNC copy missed (R268; the nodes that count are those whose time base follows a Polestar: not the Polestar
itself, and not before the coarse setting; DESIGN CHOICE, log entry 120), the validity of an observed cycle (R289), the cycle number with its mark in
flash (R293), and a change whose outcome was missed (Table 7.10). -/
def State.endCycle (s : State) (t : Nat) : State :=
  let n := s.ndezo
  let missed := (n.dawn.follows || (n.dawn == .aligning && n.coarse)) && !n.isPolestar && !n.syncHeard
  let counts := n.dawn.follows || n.dawn == .cold || (n.dawn == .aligning && n.coarse)
  let next := if counts then n.cycle64 + 1 else n.cycle64
  let valid := n.dawn == .aligned && n.validSoFar && n.syncHeard && n.copyValid
  let lost := n.change.isSome && !n.isPolestar && (n.change.any (fun c => decide (c.cycle + 3 ≤ next)))
  let s1 : State := { s with ndezo := { n with
    cycleStart := t, cycle64 := next, syncMiss := if missed then inc n.syncMiss else n.syncMiss,
    missedSyncs := if missed then n.missedSyncs + 1 else 0, validCycle := valid,
    alignedCycles := if n.dawn == .aligned then n.alignedCycles + 1 else n.alignedCycles, validSoFar := n.dawn == .aligned,
    outCycles := if missed then 0 else n.outCycles, mergeCycles := if n.mergeHeard then n.mergeCycles else 0, mergeHeard := false,
    syncHeard := false, syncTaken := false, corrected := false, syncForwarded := false, lowerSent := false, copyValid := false, change := if lost then none else n.change,
    recordedCycle := if n.dawn == .joined && next % 2 ^ 20 == 0 then max next n.recordedCycle else n.recordedCycle } }
  if lost && n.dawn == .joined then
    let s2 := s1.toDawn .aligned
    { s2 with ndezo := { s2.ndezo with alignedCycles := 0, validSoFar := true } }
  else s1

/-- A node reports its readiness in cycle N + 1 (R297). -/
def State.reportReady (s : State) : State :=
  match s.ndezo.change with
  | some c => if c.cycle + 1 = s.ndezo.cycle64 then
      { s with ndezo := { s.ndezo with change := some { c with reported := true, ready := s.readyFor c.k } } } else s
  | none => s

/-- DOMAIN_CYCLE_START (R257, R260): at every whole multiple of CYCLE_NS. -/
def State.cycleBegin (s : State) (t : Nat) : State :=
  if s.ndezoRuns && t % s.domainCycle == 0 && t != s.ndezo.cycleStart then
    let s1 := s.endCycle t
    let ports := s1.activePorts ++ (s1.ndezo.ports.map (·.number)).filter (fun n => !s1.portActive n)
    let s2 := ports.foldl (fun (u : State) n => u.modPort n (fun p => p.turn (s1.portActive n))) s1
    let s3 := s2.ageStreams.reportReady
    let s4 : State := { s3 with ndezo := { s3.ndezo with held := s3.heldByte } }
    s4.sendLinks t
  else s

def execDomainCycleStart (t : Nat) (s : State) : Host.Outcome State Fault Refusal := run t (fun u => u.cycleBegin t) s

/-! ## Constellation changes (R297 to R299) -/

/-- A CONSTELLATION record. -/
def State.constEvent (s : State) (kind k cycle : Nat) : State :=
  s.event 0x0505 Origin.internal [(24, 1, kind), (25, 1, k), (28, 4, cycle)]

/-- R205 and Table 3.10: a profile request that has been taken in aborts, and work in flight with it. -/
def State.abortSwitch (s : State) : State := if s.images.takenProfile.isSome then s.abortProfile.upsetDiscard else s

/-- The module runs Constellation k, as announced in the given cycle: an armed change and a profile request taken in abort (R299). -/
def State.runConstel (s : State) (k cycle : Nat) : State :=
  let s1 := ((s.abortChange 9).abortSwitch).constEvent 1 k cycle
  { s1 with ndezo := { s1.ndezo with constNo := k, change := none, commits := inc s1.ndezo.commits } }

/-- A change is abandoned. -/
def State.abandonConstel (s : State) (k cycle : Nat) : State :=
  let s1 := s.constEvent 2 k cycle
  { s1 with ndezo := { s1.ndezo with change := none, abandons := inc s1.ndezo.abandons } }

/-- The announcement of a change in cycle N. -/
def State.announceConstel (s : State) (k cycle : Nat) : State :=
  let s1 := s.constEvent 0 k cycle
  { s1 with ndezo := { s1.ndezo with change := some { k := k, cycle := cycle, reported := false, heard := true, ready := false } } }

/-! ## SYNC_SEND -/

/-- Did every joined neighbour's LINK frame of the given cycle, the last one, arrive with READY 1 (R297)? -/
def State.allReady (s : State) (cycle : Nat) : Bool :=
  s.ndezo.ports.all (fun p => !p.lastRx.any (fun f => f.joined) || p.prevRx.any (fun f => f.ready && f.head.cycle == cycle % 2 ^ 32))

/-- The cycle N in which the change under way was announced: by Table 7.10, two before the one that decides it (R301). -/
def State.announcedIn (s : State) (cycle : Nat) : Nat := (s.ndezo.change.map (·.cycle)).getD (cycle - 2)

/-- What the Polestar signals in this cycle: CHANGE and CHANGE_NO (R297). -/
def State.syncSignal (s : State) : Nat × Nat :=
  match s.ndezo.change, s.ndezo.request with
  | some c, _ =>
    if c.cycle + 2 = s.ndezo.cycle64 then
      (if c.ready && s.allReady (c.cycle + 1) then 2 else 3, c.k)
    else (0, 0)
  | none, some k =>
    (match constelOf s.img k with
     | some d => if (s.ndezo.cycleStart + 2 * s.domainCycle) % d.cycleNs = 0 ∧ s.heldBit k = true then (1, k) else (0, 0)
     | none => (0, 0))
  | none, none => (0, 0)

/-- The Polestar's own part in what it signals. -/
def State.applySignal (s : State) (g : Nat × Nat) : State :=
  match g.1 with
  | 1 => let s1 := s.announceConstel g.2 s.ndezo.cycle64
         { s1 with ndezo := { s1.ndezo with request := none } }
  | 2 => s.runConstel g.2 (s.announcedIn s.ndezo.cycle64)
  | 3 => s.abandonConstel g.2 (s.announcedIn s.ndezo.cycle64)
  | _ => s

/-- SYNC_SEND: the Polestar's SYNC frame, 1,250 ns after the cycle start (R260, R264). -/
def State.syncSend (s : State) : State :=
  let n := s.ndezo
  if s.ndezoRuns && n.dawn == .joined && n.isPolestar && !n.syncForwarded && decide (n.cycleStart + 1250 ≤ s.now) then
    let g := s.syncSignal
    let s1 := s.applySignal g
    let f : SyncFrame := {
      stamp := n.cycleStart + 1250, fcsOk := true, cut := false, head := headOut 64 n.cycle64, constNo := s1.headerTag.1, constTag := s1.headerTag.2, polestar := s.node, hops := 0,
      change := g.1, changeNo := g.2, cycle64 := n.cycle64, txTime := n.cycleStart + 1250, correction := 0, latency := 0, tags := s.ownTags }
    let s2 : State := { s1 with ndezo := { s1.ndezo with syncForwarded := true } }
    s2.sendingPorts.foldl (fun u p => u.send (.sync p f)) s2
  else s

def execSyncSend (t : Nat) (s : State) : Host.Outcome State Fault Refusal := run t State.syncSend s

/-! ## What every frame does -/

/-- A cold-starting module yields (R294); `node` is the ID that caused it, or 0. -/
def State.yieldCold (s : State) (node : Nat) : State :=
  let s1 := (s.event 0x0502 Origin.internal [(24, 1, 1), (26, 2, node)]).toListen
  { s1 with ndezo := { s1.ndezo with coldYields := inc s1.ndezo.coldYields } }

/-- Any frame on an active port restarts the listen time; a broken one makes a cold-starting module yield (R292, R294). -/
def State.heardFrame (s : State) (port : Nat) (broken : Bool) : State :=
  if s.ndezoRuns then
    match s.ndezo.dawn with
    | .listen => if s.portActive port then { s with ndezo := { s.ndezo with listenSince := s.now } } else s
    | .cold => if broken then s.yieldCold 0 else s
    | _ => s
  else s

/-- R273: a duplicate ID. The node leaves the domain and does not run Dawn again until the next start from OFF. -/
def State.duplicateId (s : State) (port : Nat) : State :=
  let s1 := (s.domainEvent 1 port s.node).toListen
  { s1 with ndezo := { s1.ndezo with banned := true } }

/-! ## LINK_FRAME -/

/-- The delay of a link (R262), rounded to the nearest ns; half a ns is rounded up (DESIGN CHOICE, log entry 141). -/
def linkDelayOf (a1 a2 b1 b2 : Nat) : Nat :=
  (((Int.ofNat b2 - Int.ofNat a1) + (Int.ofNat a2 - Int.ofNat b1) + 1) / 2).toNat

/-- The delay that a LINK frame of cycle n + 1 completes, with those of cycle n. -/
def Port.measure (p : Port) (f : LinkFrame) (cycle : Nat) : Option Nat :=
  match p.prevRx with
  | some q => if f.rxTime ≠ 0 ∧ f.rxCycle = (cycle - 1) % 2 ^ 32 ∧ p.lastTxPrev ≠ 0 then some (linkDelayOf p.lastTxPrev q.stamp q.txTime f.rxTime) else none
  | none => none

/-- LINK_FRAME (R261 to R263, R273, R296). -/
def State.linkFrame (s : State) (port : Nat) (f : LinkFrame) : State :=
  let s1 := s.heardFrame port (!f.fcsOk || decide (f.head.ethLength < 66))
  if !s1.ndezoRuns || !s1.portActive port || s1.ndezo.banned then s1
  else
    let r := s1.takesFrame port f.stamp 32 f.head f.fcsOk false
    if r.2 = false then r.1
    else if f.source = s.node then r.1.duplicateId port
    else
      r.1.modPort port (fun p => { p with
        lastRx := some f, missed := 0,
        delay := match p.measure f s1.ndezo.cycle64 with
          | some d => some d
          | none => p.delay })

def execLinkFrame (t : Nat) (port : Nat) (f : LinkFrame) (s : State) : Host.Outcome State Fault Refusal :=
  run t (fun u => u.linkFrame port f) s

/-- DELAY_UNKNOWN: 16 cycles without a LINK frame (R263, R301). -/
def State.delayUnknown (s : State) (port : Nat) : State :=
  let p := s.port port
  if s.ndezoRuns && p.delay.isSome && decide (16 ≤ p.silent) then
    (s.modPort port (fun p => { p with delay := none })).domainEvent 6 port 0
  else s

def execDelayUnknown (t : Nat) (port : Nat) (s : State) : Host.Outcome State Fault Refusal := run t (fun u => u.delayUnknown port) s

/-! ## SYNC_FRAME -/

/-- Has the node heard the announcement that a copy of cycle N + 2 decides (Table 7.10)? -/
def State.announced (s : State) (f : SyncFrame) : Bool := s.ndezo.change.any (fun c => c.k == f.changeNo && c.cycle + 2 == f.cycle64)

/-- Does the copy let the node send and forward in this cycle (Table 7.10)? In a cycle N + 2 of an announced change only a usable copy that
decides it does; a COMMIT that was not announced to the node does not. -/
def State.copyOpens (s : State) (port : Nat) (f : SyncFrame) : Bool :=
  if s.outcomeKnown then !(f.change == 2 && !s.announced f) else s.announced f && (s.port port).delay.isSome && (f.change == 2 || f.change == 3)

/-- May the node forward this copy (R265): the first of the cycle? At a Polestar its own frame is the first copy, so that it forwards only one
that names a lower Polestar, which it adopts (R272) or counts against its own domain (DEDUCED, log entry 128). A copy with HOPS 16 ends
here: the next value would leave its range (DESIGN CHOICE, log entry 139). -/
def State.mayForward (s : State) (port : Nat) (f : SyncFrame) : Bool :=
  s.ndezo.dawn.follows && s.copyOpens port f && decide (f.hops < 16) && !s.ndezo.lowerSent &&
  (if s.ndezo.isPolestar then decide (f.polestar < s.node) else !s.ndezo.syncForwarded)

/-- A copy is forwarded as it passes (R265): the first valid one, and a broken one with its FCS inverted. What a node adds for an incoming
link of unknown delay the manual does not say: nothing (DESIGN CHOICE, log entry 121). -/
def State.forwardSync (s : State) (port : Nat) (f : SyncFrame) : State :=
  if s.mayForward port f then
    let out := { f with correction := f.correction + ((s.port port).delay.getD 0) + f.latency, hops := f.hops + 1 }
    let s1 := (s.sendingPorts.filter (· != port)).foldl (fun u p => u.send (.sync p out)) s
    if f.fcsOk && !f.cut then
      (if s.ndezo.isPolestar then { s1 with ndezo := { s1.ndezo with lowerSent := true } }
       else { s1 with ndezo := { s1.ndezo with syncForwarded := true } })
    else s1
  else s

/-- R291: a node that does not hold the running Constellation; a record at the first copy and then at most once a minute. -/
def State.dawnMismatch (s : State) (port : Nat) (f : SyncFrame) : State :=
  if s.ndezo.mismatchAt.all (fun t => decide (t + 60 * second ≤ s.now)) then
    (({ s with ndezo := { s.ndezo with mismatchAt := some s.now } }).domainEvent 3 port f.polestar)
  else s

/-- The offset that a copy shows, with the link delay `d` (R267). -/
def syncOffset (f : SyncFrame) (d : Nat) : Int := Int.ofNat f.stamp - (Int.ofNat f.txTime + Int.ofNat f.correction + Int.ofNat d)

/-- A correction of the rate by at most 0.1 ppm in ±60 ppm (R267): how much of it the manual leaves open (log entry 32). -/
def State.newRate (s : State) : Int := max (-600) (min 600 (s.ndezo.rate + (Int.ofNat (s.freeWord.toNat % 3) - 1)))

/-- The node takes a copy as its SYNC copy of the cycle (R266): its port is the parent port, its HOPS the stratum. Whether it is a valid one
for R289 its use decides. -/
def State.takeCopy (s : State) (port : Nat) (f : SyncFrame) : State :=
  { s with ndezo := { s.ndezo with
      parent := some port, stratum := f.hops, polestar := f.polestar, tags := f.tags, syncTaken := true, copyValid := false, mismatchAt := none } }

/-- A usable copy shows the offset `theta` (R267): once in a cycle, the rate is corrected and a cycle out of step counts. -/
def State.takeSync (s : State) (port : Nat) (f : SyncFrame) (theta : Int) : State :=
  let s1 := s.takeCopy port f
  let n := s1.ndezo
  let first := !n.corrected
  let s2 : State := { s1 with ndezo := { n with
    theta := theta, cycle64 := f.cycle64, syncHeard := true, missedSyncs := 0, corrected := true,
    rate := if n.dawn.follows && first then s.newRate else n.rate,
    outCycles := if theta.natAbs < 250 then 0 else if first then n.outCycles + 1 else n.outCycles } }
  s2.drawn

/-- A copy in LISTEN starts Dawn: ALIGNING (Table 7.8). -/
def State.startAligning (s : State) (port : Nat) (f : SyncFrame) : State :=
  let s1 : State := { s with ndezo := { s.ndezo with parent := some port, constNo := f.constNo } }
  let s2 := s1.toDawn .aligning
  { s2 with ndezo := { s2.ndezo with stratum := 31, coarse := false, alignedCycles := 0, outCycles := 0 } }

/-- The node's cycle starts where the Polestar's did: a step of the time base takes the start of the cycle from the copy. -/
def State.cycleFrom (s : State) (f : SyncFrame) : State := { s with ndezo := { s.ndezo with cycleStart := f.txTime - 1250 } }

/-- Entry to ALIGNED (Table 7.8), back in step after R267. -/
def State.aligned (s : State) : State :=
  let s1 := s.toDawn .aligned
  let s2 : State := { s1 with ndezo := { s1.ndezo with alignedCycles := 0, validSoFar := false, outOfStep := false } }
  if s.ndezo.outOfStep then s2.domainEvent 5 0xFF 0 else s2

/-- The slew of a program that runs: at most 100 ns per 1 ms, so once in a cycle its part of them (Table 7.9). -/
def State.slewBound (s : State) : Int := Int.ofNat (100 * s.domainCycle / ms)

/-- The node leaves its domain for lack of the running Constellation (Table 7.10, R291). -/
def State.leaveDomain (s : State) (port : Nat) (f : SyncFrame) : State :=
  let s1 := s.toListen.dawnMismatch port f
  { s1 with ndezo := { s1.ndezo with dawnRuns := inc s1.ndezo.dawnRuns } }

/-- What a copy announces (Table 7.10): its reception is enough. -/
def State.hearAnnounce (s : State) (f : SyncFrame) : State := if f.change = 1 then s.announceConstel f.changeNo f.cycle64 else s

/-- What a usable copy signals of a Constellation change (Table 7.10). A node that misses the announcement of a COMMIT forwards nothing in that
cycle and observes the new Constellation. -/
def State.hearSignal (s : State) (port : Nat) (f : SyncFrame) : State :=
  match f.change with
  | 2 =>
    if s.holdsTag f.changeNo (f.tags.getD f.changeNo 0) then
      let s1 := s.runConstel f.changeNo (s.announcedIn f.cycle64)
      if s.announced f || s.ndezo.dawn != .joined then s1
      else
        let s2 := s1.toDawn .aligned
        { s2 with ndezo := { s2.ndezo with alignedCycles := 0, validSoFar := false, syncForwarded := true } }
    else s.leaveDomain port f
  | 3 => s.abandonConstel f.changeNo (s.announcedIn f.cycle64)
  | _ => s.hearAnnounce f

/-- R288, Table 7.9: the time base in ALIGNING, and entry to ALIGNED with a known delay and |θ| below 250 ns. After a step θ is 0. A change of the Constellation that the copy signals
counts here too (R299, R301). -/
def State.alignStep (s : State) (port : Nat) (f : SyncFrame) : State :=
  let stopped := s.control.mode == .stop
  match (s.port port).delay with
  | none =>
    if stopped then
      let s1 := ((s.takeSync port f 0).stepTo (syncOffset f 0)).cycleFrom f
      ({ s1 with ndezo := { s1.ndezo with coarse := true, stratum := 31 } } : State).hearAnnounce f
    else (s.takeCopy port f).hearAnnounce f
  | some d =>
    let th := syncOffset f d
    let s1 := if stopped then ((s.takeSync port f 0).stepTo th).cycleFrom f
      else if s.ndezo.corrected then s.takeSync port f th
      else (s.takeSync port f th).slew th s.slewBound
    let s2 : State := { s1 with ndezo := { s1.ndezo with coarse := true, outCycles := 0 } }
    (if stopped ∨ th.natAbs < 250 then s2.aligned else s2).hearSignal port f

/-- A copy that names the Constellation that runs, or the next one where it commits a change. -/
def State.syncFits (s : State) (f : SyncFrame) : Bool :=
  s.holdsTag f.constNo (f.tags.getD f.constNo 0) && s.holdsTag f.constNo f.constTag

/-- A POLESTAR record. -/
def State.polestarEvent (s : State) (kind node : Nat) : State := s.event 0x0503 Origin.internal [(24, 1, kind), (26, 2, node)]

/-- The node follows a copy that names another Polestar than its own (R271, R272). -/
def State.adoptPolestar (s : State) (f : SyncFrame) : State :=
  if f.polestar = s.ndezo.polestar then s
  else
    let s1 := if s.ndezo.isPolestar then s.polestarEvent 1 f.polestar else s
    let s2 : State := { s1 with ndezo := { s1.ndezo with isPolestar := false, claimed := false, request := none } }
    s2.polestarEvent 2 f.polestar

/-- Does a node in ALIGNED or JOINED take a copy as its SYNC copy: the first valid one of the cycle, or the first that names a lower Polestar
(R266); a Polestar takes one of a lower Polestar only (R271, R272)? -/
def State.takesCopy (s : State) (f : SyncFrame) : Bool :=
  decide (f.polestar < s.ndezo.polestar) || (!s.ndezo.syncTaken && !s.ndezo.isPolestar)

/-- A valid copy at a port of unknown delay is not used for alignment (R263), and no θ computed from it lets a joined node adopt a lower
Polestar (R272). It is the first copy of the cycle all the same, a claimant withdraws for it, and it announces a change (R266, R271,
Table 7.10). -/
def State.unusedCopy (s : State) (port : Nat) (f : SyncFrame) : State :=
  let adopts := s.ndezo.claimed || (!s.ndezo.isPolestar && (s.ndezo.dawn != .joined || decide (s.ndezo.polestar ≤ f.polestar)))
  if s.takesCopy f && adopts then
    (((if s.ndezo.dawn == .joined then s.adoptPolestar f else s)).takeCopy port f).hearAnnounce f
  else s

/-- A usable copy in ALIGNED or JOINED (R266, R267, R271, R272, R289). -/
def State.followSync (s : State) (port : Nat) (f : SyncFrame) (d : Nat) : State :=
  let n := s.ndezo
  let th := syncOffset f d
  let lower := decide (f.polestar < n.polestar)
  if s.takesCopy f = false then s
  else if n.dawn == .joined && lower && decide (200 ≤ th.natAbs) && !n.claimed then
    { s with ndezo := { n with mergeCycles := if n.mergeHeard then n.mergeCycles else n.mergeCycles + 1, mergeHeard := true, mergeWith := f.polestar } }
  else
    let s1 := if n.dawn == .joined then s.adoptPolestar f else s
    let s2 := s1.takeSync port f th
    let s3 := if n.corrected then s2 else s2.slew th 40
    let s4 := (if lower then { s3 with ndezo := { s3.ndezo with mergeCycles := 0 } } else s3).hearSignal port f
    if s4.ndezo.dawn = .aligned then
      { s4 with ndezo := { s4.ndezo with
          constNo := if s.syncFits f then f.constNo else s4.ndezo.constNo,
          copyValid := decide (th.natAbs < 250) && s.syncFits f } }
    else s4

/-- A valid copy that does not name this node, by the Dawn state (Tables 7.8 to 7.10). In ALIGNED a copy of a Constellation that the node does
not hold leaves the cycle invalid (R289, R290). -/
def State.validSync (s : State) (port : Nat) (f : SyncFrame) : State :=
  match s.ndezo.dawn with
  | .cold => s
  | .listen => if s.syncFits f then (s.startAligning port f).alignStep port f else s.dawnMismatch port f
  | .aligning => if (s.ndezo.syncHeard || s.ndezo.syncTaken) && s.ndezo.polestar ≤ f.polestar then s else s.alignStep port f
  | _ =>
    match (s.port port).delay with
    | none => s.unusedCopy port f
    | some d => s.followSync port f d

/-- SYNC_FRAME (R265 to R267, R271 to R273, R277, R288 to R291). A copy that fails check 3 or 4 only is forwarded as it passes, and stomped. -/
def State.syncFrame (s : State) (port : Nat) (f : SyncFrame) : State :=
  let s1 := s.heardFrame port (!f.fcsOk || f.cut || decide (f.head.ethLength < 98))
  if !s1.ndezoRuns || !s1.portActive port || s1.ndezo.banned then s1
  else
    let r := s1.takesFrame port f.stamp 64 f.head f.fcsOk f.cut
    let inTime := s1.inSync (Int.ofNat f.stamp - Int.ofNat s1.ndezo.cycleStart)
    let whole := headWhole f.head 64 f.fcsOk f.cut
    let s2 := if r.2 || (inTime && headPasses f.head 64) then r.1.forwardSync port { f with fcsOk := whole } else r.1
    if r.2 = false then s2
    else if f.polestar = s.node then (if s2.ndezo.isPolestar then s2 else s2.duplicateId port)
    else s2.validSync port f

/-- SYNC_FRAME. -/
def execSyncFrame (t : Nat) (port : Nat) (f : SyncFrame) (s : State) : Host.Outcome State Fault Refusal :=
  runTimed t (fun u => u.syncFrame port f) s

/-- COLD_FRAME (R292, R294): a lower ID on any port makes a cold-starting module yield. -/
def State.coldFrame (s : State) (port : Nat) (f : SyncFrame) : State :=
  let s1 := s.heardFrame port (!f.fcsOk || f.cut || decide (f.head.ethLength < 98))
  if !s1.ndezoRuns || !isNdezoPort s1.identity.part port || !(s1.portActive port || s1.ndezo.dawn == .cold) then s1
  else
    let r := s1.takesFrame port f.stamp 64 f.head f.fcsOk f.cut
    if r.1.ndezo.dawn == .cold && r.2 && decide (f.polestar < s.node) then r.1.yieldCold f.polestar else r.1

def execColdFrame (t : Nat) (port : Nat) (f : SyncFrame) (s : State) : Host.Outcome State Fault Refusal :=
  run t (fun u => u.coldFrame port f) s

/-! ## DATA_FRAME -/

/-- The distance of a frame from an entry's START, in ns. -/
def frameFrom (f : NdFrame) (x : Slot) : Int := f.offset - Int.ofNat x.start

/-- The payload length that an entry gives: the stream's, or what its FRAME_LEN leaves (R254). -/
def State.slotPayload (s : State) (x : Slot) : Nat :=
  match (streams s.img).find? (fun y => y.id == x.stream) with
  | some y => y.len
  | none => x.frameLen - 42

/-- Do the header fields of R279 pass check 5 of Table 7.7 (a frame of 64 bytes leaves the length of a stream that this node only forwards open)? -/
def State.headerOk (s : State) (f : NdFrame) (x : Slot) : Bool :=
  let known := (streams s.img).any (fun y => y.id == x.stream)
  f.version == 1 && f.type == (if 0xFF00 ≤ x.stream then 5 else 1) && f.constNo == s.headerTag.1 && f.constTag == s.headerTag.2 &&
  (f.lengthField == s.slotPayload x || (!known && x.frameLen == 64 && decide (4 ≤ f.lengthField) && decide (f.lengthField ≤ 22))) &&
  f.cycle == s.ndezo.cycle64 % 2 ^ 32

/-- Checks 1 to 5 of Table 7.7 on a DATA or PAIR frame. In the sync window it fails check 5: no such frame belongs there (R277; DEDUCED,
log entry 119). -/
def State.checkFrame (s : State) (port : Nat) (f : NdFrame) : FrameCheck :=
  let xs := s.portSlots port
  if s.inSync f.offset then (if f.cut then .trunc else if f.fcsOk then .header else .fcs)
  else
    match xs.find? (fun x => inWindow (frameFrom f x.2)) with
    | some (k, x) =>
      if f.cut || decide (f.length < x.frameLen) then .trunc
      else if f.length ≠ x.frameLen ∨ f.fcsOk = false then .fcs
      else if s.headerOk f x && !f.reserved then .passes k x else .header
    | none => missedWindow xs f.offset

/-- The check unit of a receive entry (R306): the stream's ID, and the entry above it. -/
def rxUnit (k stream : Nat) : Nat := 0x20000 * (k + 2) + stream

/-- A frame that reaches check 6: the check unit of entry `k` of each lane that has the duty finds its result and sends it to the others
(R308, R311), and each voting lane waits for theirs; a lane that needs no other decides. -/
def State.openFrame (s : State) (port k : Nat) (f : NdFrame) (x : Slot) : State :=
  let ok := frameMatches f (s.rxFold x)
  let vs := s.unexcluded
  let found := fun i => rxFound vs ok.1 ok.2 f.rx i
  let sent := s.lanes.mapI (fun i _ => if vs.contains i && !s.silentLane i then some (found i) else none)
  let s1 := vs.foldl (fun u i =>
    let r : RxPending := { host := false, port := port, stream := x.stream, lastBit := s.now, frame := f, own := found i, sent := sent,
                           others := Lanes3 none, offsetNs := frameFrom f x, late := false, slot := k, logged := false }
    u.modLane i (fun l => if s.silentLane i then l else
      { l with inputs := { l.inputs.bump (rxUnit k x.stream) r.own with
                           rxPending := if l.mode = LaneMode.voting then l.inputs.rxPending ++ [r] else l.inputs.rxPending } })) s
  s.voting.foldl State.decideReady s1

/-- DATA_FRAME (R277, R278, R653). A frame that the module only forwards has passed its last check with check 5 and counts RX_OK (R279;
DESIGN CHOICE, log entry 122). -/
def State.dataFrame (s : State) (port : Nat) (f : NdFrame) : State :=
  let s1 := s.heardFrame port (f.cut || !f.fcsOk)
  if !s1.ndezoRuns || !s1.ndezo.dawn.follows || !s1.portActive port then s1
  else
    let r := s1.checkFrame port f
    let s2 := s1.judged port r
    match r with
    | .passes k x => if x.receives then s2.openFrame port k f x else s2.frameOk allLanes port (frameFrom f x)
    | _ => s2

def execDataFrame (t : Nat) (port : Nat) (f : NdFrame) (s : State) : Host.Outcome State Fault Refusal :=
  run t (fun u => u.dataFrame port f) s

/-! ## FORWARD -/

/-- The ports named in OUT_PORTS that are active. -/
def State.outPorts (s : State) (x : Slot) : List Nat := s.activePorts.filter (fun n => bitAt x.outPorts n)

/-- FORWARD (R279, R280, R318): cut-through with its bytes unchanged, dropped, or ended with an inverted FCS. Of the 38 bytes by which R279 decides, 8 are preamble. -/
def State.forwardFrame (s : State) (port : Nat) (f : NdFrame) : State :=
  if !s.ndezoRuns || s.ndezo.dawn != .joined || !s.portActive port then s
  else
    let drop := s.countPort port (fun c => { c with fwdDrop := inc c.fwdDrop })
    match s.slots.find? (fun x => x.2.forwards && x.2.inPort == port && inWindow (frameFrom f x.2)) with
    | none => drop
    | some (k, x) =>
      if !s.outcomeKnown || !s.headerOk f x || (f.cut && decide (f.length < 30)) then drop
      else
        let stomp := f.cut || f.length != x.frameLen || !f.fcsOk
        let s1 := s.countPort port (fun c => if stomp then { c with fwdStomp := inc c.fwdStomp } else { c with fwd := inc c.fwd })
        ((s.outPorts x).filter (fun n => (s.sender n).isSome)).foldl (fun u n => u.send (.forwarded n k f stomp)) s1

def execForward (t : Nat) (port : Nat) (f : NdFrame) (s : State) : Host.Outcome State Fault Refusal :=
  run t (fun u => u.forwardFrame port f) s

/-! ## Sending slots -/

/-- May the module send DATA frames: JOINED, not in one-lane Nadir, and not as a standby, an undecided unit or a new active unit whose
epoch is not in flash (R235, R251, R451, R460)? -/
def State.sendsData (s : State) : Bool :=
  s.ndezoRuns && s.ndezo.dawn == .joined && s.outcomeKnown && s.control.degradation != .oneLane &&
  (s.pair.role == .unpaired || (s.pair.role == .active && !s.pair.epochPending))

/-- May the module send in a slot: DATA, or its PAIR frame? -/
def State.sendsSlot (s : State) (x : Slot) : Bool :=
  x.sends && (if 0xFF00 ≤ x.stream then s.sendsBeats && s.ndezo.dawn == .joined && s.outcomeKnown && s.control.degradation != .oneLane else s.sendsData)

/-- Does a frame built from the snapshot carry the restrictive values (R251)? -/
def Snapshot.restricted (p : Snapshot) : Bool := p.power != .live || p.degradation.isNadir

/-- The payload of an outgoing stream in a snapshot, with the restrictive values outside LIVE. -/
def Snapshot.outPayload (p : Snapshot) (m : Mem) (stream : Nat) : BitVec 8192 :=
  let q := if p.restricted then (restrictGroups (0, p.payloads) ((groups m).filter (fun g => g.kind == 1))).2 else p.payloads
  let v := assocD q stream 0
  if p.restricted && inProfile m stream then setField v 8 1 0 else v

/-- The instant of a slot's START in the cycle that the instant `t` belongs to, or in the next one for a fill before its start. -/
def State.slotStart (s : State) (x : Slot) (t : Nat) : Nat :=
  let a := s.ndezo.cycleStart + x.start
  if a + 20000 < t then a + s.domainCycle else a

/-- The latest snapshot committed at or before START − 20 µs (R275). -/
def State.slotSnapshot (s : State) (x : Slot) : Option Snapshot :=
  s.snapshots.find? (fun p => decide (p.commitAt + 20000 ≤ s.slotStart x s.now))

/-- TRANSMIT_BUFFER_FILL: 20 µs before START the port takes that snapshot's payload, with its RESTRICTED bit (R275, R285); a PAIR frame, whose
payload holds no output values, takes the bit from the snapshot too (R255; DESIGN CHOICE, log entry 143). -/
def State.fillBuffer (s : State) (k : Nat) : State :=
  match (s.slots.find? (fun x => x.1 == k)).map (·.2) with
  | none => s
  | some x =>
    match s.slotSnapshot x with
    | none => s
    | some p =>
      if s.sendsSlot x && decide (s.slotStart x s.now ≤ s.now + 20000) then
        let pair := decide (0xFF00 ≤ x.stream)
        let b : TxBuffer := { slot := k, stream := x.stream, payload := if pair then payloadOf s.heartbeatBytes else p.outPayload s.img x.stream,
                              restricted := p.restricted, snapshot := p.number, instant := p.commitAt }
        let s1 : State := { s with ndezo := { s.ndezo with buffers := s.ndezo.buffers.filter (fun y => y.slot != k) ++ [b] } }
        s1.mapVoting (fun l => { l with inputs := { l.inputs with txPending := l.inputs.txPending.filter (fun y => !y.is false x.stream) ++
            [{ host := false, stream := x.stream, valueP := none, valueQ := none, verified := Lanes3 none, last := s.slotStart x s.now - 2000 }] } })
      else s

def execTransmitBufferFill (t : Nat) (slot : Nat) (s : State) : Host.Outcome State Fault Refusal := run t (fun u => u.fillBuffer slot) s

/-- The length of the payload sent in a slot. -/
def State.sendLength (s : State) (x : Slot) : Nat := if 0xFF00 ≤ x.stream then 64 else s.slotPayload x

/-- The fold of a frame that this module sends (Table 8.3). -/
def State.txFold (s : State) (x : Slot) : Fold :=
  { seq := s.ndezo.cycle64 / 2 ^ 32, source := s.node,
    dest := if 0xFF00 ≤ x.stream then (pairPeer s.img).getD 0 else ((outStream s.img x.stream).map (·.peer)).getD 0, stream := x.stream }

/-- The frame of a slot, with its check values: its first bit leaves at START (R259, R274). -/
def State.slotFrame (s : State) (x : Slot) (b : TxBuffer) (v : Word × Word) : SentFrame :=
  { instant := s.ndezo.cycleStart + x.start, type := if 0xFF00 ≤ x.stream then 5 else 1, constNo := s.headerTag.1, restricted := b.restricted,
    cycle := s.ndezo.cycle64 % 2 ^ 32, epoch := s.pair.epoch, constTag := s.headerTag.2, payload := payloadBytes b.payload (s.sendLength x),
    cvP := v.1, cvQ := v.2 }

/-- A frame leaves on one port, if its owner transmits and holds what R316 asks by START − 2 µs. -/
def State.sendOn (s : State) (k : Nat) (x : Slot) (b : TxBuffer) (n : Nat) : State :=
  match s.sender n with
  | none => s
  | some i =>
    match (s.lane i).inputs.txPending.find? (fun y => y.is false x.stream) with
    | none => s.txHold i n x.stream
    | some y =>
      let m := checkMessage (s.txFold x)
        (coveredBytes (s.ndezo.cycle64 % 2 ^ 32) s.pair.epoch s.headerTag.2 (payloadBytes b.payload (s.sendLength x)))
      if txReleased s.unexcluded i (cvP m) (cvQ m) y then
        s.send (.data n k x.stream (s.slotFrame x b (txValues s.unexcluded i (cvP m) (cvQ m) y)))
      else s.txHold i n x.stream

/-- SLOT_SEND: at START the frame leaves (R275), from a snapshot committed within the last two T0 periods (R228). -/
def State.slotSend (s : State) (k : Nat) : State :=
  match (s.slots.find? (fun x => x.1 == k)).map (·.2), s.ndezo.buffers.find? (fun b => b.slot == k) with
  | some x, some b =>
    if s.now < s.ndezo.cycleStart + x.start then s
    else
      let s1 := if s.sendsSlot x && decide (s.now ≤ b.instant + 2 * s.t0) then (s.outPorts x).foldl (fun u n => u.sendOn k x b n) s else s
      let s2 : State := { s1 with ndezo := { s1.ndezo with buffers := s1.ndezo.buffers.filter (fun y => y.slot != k) } }
      s2.mapLanes (fun l => { l with inputs := { l.inputs with txPending := l.inputs.txPending.filter (fun y => !y.is false x.stream) } })
  | _, _ => s

def execSlotSend (t : Nat) (slot : Nat) (s : State) : Host.Outcome State Fault Refusal := run t (fun u => u.slotSend slot) s

/-! ## SLOT_CLOSE -/

/-- The slot close of a stream from the cycle start: the latest planned end of its receive entries plus 250 ns (R283). -/
def State.slotCloseAt (s : State) (stream : Nat) : Nat :=
  ((s.rxSlots stream).map (fun x => x.start + (x.frameLen + 8) * 8)).foldl max 0 + 250

/-- A stream at its slot close in a lane: it ages without a frame, and an open decision settles it later (R283, R313). -/
def Lane.closeSlot (l : Lane) (stream : Nat) : Lane :=
  let waits := l.inputs.rxPending.any (fun r => r.stream == stream)
  let l1 : Lane := { l with inputs := { l.inputs with rxPending := l.inputs.rxPending.map (fun r => if r.stream = stream then { r with late := true } else r) } }
  l1.modStream stream (fun x =>
    if x.isClosed then x else if waits then { x with isClosed := true } else { x.missCycle with isClosed := true })

def State.slotClose (s : State) (stream : Nat) : State :=
  if s.ndezoRuns && s.ndezo.dawn == .joined && s.rxSlots stream != [] && decide (s.ndezo.cycleStart + s.slotCloseAt stream ≤ s.now) then
    s.mapLanes (fun l => l.closeSlot stream)
  else s

/-- SLOT_CLOSE (R283). -/
def execSlotClose (t : Nat) (stream : Nat) (s : State) : Host.Outcome State Fault Refusal := run t (fun u => u.slotClose stream) s

/-! ## Dawn -/

/-- CYCLE_NS of the Constellation named by parameter 0x0009 (R292). -/
def State.coldCycle (s : State) : Nat := ((constelOf s.img (s.param 9)).map (·.cycleNs)).getD ms

/-- The instant at which a cold start sets the time base: the smallest common multiple of 10 ms and C after it (R293). -/
def State.coldInstant (s : State) : Nat :=
  let l := Nat.lcm (10 * ms) s.coldCycle
  (s.now / l + 1) * l

/-- LISTEN_TIME_EXPIRY: the time base steps, and the COLD frame starts the cold-start cycle (R292, R293). Its TX_TIME is the cycle start, at
which it leaves (DESIGN CHOICE, log entry 140). -/
def State.listenExpiry (s : State) : State :=
  if s.ndezoRuns && s.ndezo.dawn == .listen && s.control.mode == .stop && !s.ndezo.banned &&
      decide (s.ndezo.listenSince + 2 * s.coldCycle + 2000 * s.node ≤ s.now) then
    let start := s.coldInstant
    let s0 : State := { s with ndezo := { s.ndezo with constNo := s.param 9 } }
    let s1 := (s0.toDawn .cold).event 0x0502 Origin.internal [(24, 1, 0)]
    let s2 := s1.stepBase (Int.ofNat (start - s.now))
    let s3 : State := { s2 with
      ndezo := { s2.ndezo with cycleStart := start, cycle64 := s2.ndezo.recordedCycle + 2 ^ 20, coldStarts := inc s2.ndezo.coldStarts } }
    let f : SyncFrame := {
      stamp := start, fcsOk := true, cut := false, head := headOut 64 s3.ndezo.cycle64, constNo := s3.headerTag.1, constTag := s3.headerTag.2,
      polestar := s.node, hops := 0, change := 0, changeNo := 0, cycle64 := s3.ndezo.cycle64, txTime := start, correction := 0, latency := 0,
      tags := s.ownTags }
    s3.sendingPorts.foldl (fun u p => u.send (.cold p f)) s3
  else s

def execListenTimeExpiry (t : Nat) (s : State) : Host.Outcome State Fault Refusal := runTimed t State.listenExpiry s

/-- COLD_START_CYCLE_END: the module is the Polestar and JOINED (R294). -/
def State.coldEnd (s : State) : State :=
  if s.ndezoRuns && s.ndezo.dawn == .cold && decide (s.ndezo.cycleStart + s.coldCycle ≤ s.now) then
    let s1 : State := { s with ndezo := { s.ndezo with isPolestar := true, claimed := false, polestar := s.node, stratum := 0, parent := none, theta := 0 } }
    s1.toDawn .joined
  else s

def execColdStartCycleEnd (t : Nat) (s : State) : Host.Outcome State Fault Refusal := run t State.coldEnd s

/-- POLESTAR_CLAIM: at a cycle start after three cycles without a usable SYNC copy (R271). The successor stays a claimant for as long as it is the
Polestar (DESIGN CHOICE, log entry 142). -/
def State.claimPolestar (s : State) : State :=
  let n := s.ndezo
  if s.ndezoRuns && n.dawn == .joined && !n.isPolestar && decide (3 ≤ n.missedSyncs) && s.now == n.cycleStart then
    ({ s with ndezo := { n with isPolestar := true, claimed := true, polestar := s.node, stratum := 0, parent := none, missedSyncs := 0,
                                syncForwarded := false, claims := inc n.claims } }).polestarEvent 0 s.node
  else s

def execPolestarClaim (t : Nat) (s : State) : Host.Outcome State Fault Refusal := run t State.claimPolestar s

/-- OUT_OF_STEP: |θ| of 250 ns or more in three consecutive cycles (R267, R287). -/
def State.leaveStep (s : State) : State :=
  if s.ndezoRuns && s.ndezo.dawn.follows && decide (3 ≤ s.ndezo.outCycles) then
    let s1 := (s.domainEvent 4 0xFF 0).toDawn .aligning
    { s1 with ndezo := { s1.ndezo with
        outOfStep := true, outCycles := 0, isPolestar := false, claimed := false, outOfSteps := inc s1.ndezo.outOfSteps,
        dawnRuns := inc s1.ndezo.dawnRuns, alignedCycles := 0, validCycle := false, change := none, request := none, buffers := [] } }
  else s

def execOutOfStep (t : Nat) (s : State) : Host.Outcome State Fault Refusal := run t State.leaveStep s

/-- DOMAIN_MERGE: |θ| to a lower Polestar of 200 ns or more in four consecutive cycles (R272). -/
def State.mergeDomain (s : State) : State :=
  if s.ndezoRuns && s.ndezo.dawn == .joined && decide (4 ≤ s.ndezo.mergeCycles) then
    let s1 := (s.domainEvent 0 0xFF s.ndezo.mergeWith).toListen
    { s1 with ndezo := { s1.ndezo with dawnRuns := inc s1.ndezo.dawnRuns } }
  else s

def execDomainMerge (t : Nat) (s : State) : Host.Outcome State Fault Refusal := run t State.mergeDomain s

/-- DAWN_JOIN: at the cycle start after a full valid cycle (R290). -/
def State.dawnJoin (s : State) : State :=
  if s.ndezoRuns && s.ndezo.dawn == .aligned && s.ndezo.validCycle then
    let s1 := s.toDawn .joined
    { s1 with ndezo := { s1.ndezo with validCycle := false, alignedCycles := 0, missedSyncs := 0 } }
  else s

def execDawnJoin (t : Nat) (s : State) : Host.Outcome State Fault Refusal := run t State.dawnJoin s

/-- DAWN_FAIL: 16 cycles in ALIGNED without a full valid one (R290). -/
def State.dawnFail (s : State) : State :=
  if s.ndezoRuns && s.ndezo.dawn == .aligned && !s.ndezo.validCycle && decide (16 ≤ s.ndezo.alignedCycles) then
    (s.domainEvent 2 0xFF 0).toListen
  else s

def execDawnFail (t : Nat) (s : State) : Host.Outcome State Fault Refusal := run t State.dawnFail s

end Sys2Proof.Machine
end

