-- ==== Sys2Proof/Machine/HostPair.lean ====
section
/-! DEFINITION. The opcodes of group 0x09xx: pair status, switchover and standby sync (R406, R407, R462, R466). -/

namespace Sys2Proof.Machine

/-- Whole hours since the last switchover or takeover; 0 where there was none (DESIGN CHOICE, log entry 34). -/
def State.hoursSince (s : State) : Nat := if s.pair.lastSwitch = 0 then 0 else (s.now - s.pair.lastSwitchAt) / hour

/-- PAIR_STATUS (Table 10.21). -/
def State.acceptPairStatus (s : State) (c : Cmd) : Acc :=
  let p := s.pair
  let state := match p.role with
    | .active => p.peerStandby.code
    | .standby => p.standby.code
    | _ => 0xFF
  let pair := s.inPair
  firstOf [(c.malformed, stBadParam)] s (s.accData stOk
    (b8 s.roleCode ++ b8 state ++ b16 (if pair then (pairPeer s.img).getD 0xFFFF else 0xFFFF) ++ b32 p.epoch ++
      b8 (flag (pair && !p.silent1) + 2 * flag (pair && !p.silent2) + 4 * flag (pair && p.path1Alarm)) ++ zeros 3 ++ b32 p.outputDiffs.toNat ++ b64 p.lastSwitch ++
      b32 s.hoursSince ++ b32 (flag p.switchDue)))

/-- Is PEER the other unit? -/
def State.peerOk (s : State) (p : Bytes) : Bool := pairPeer s.img == some (bitsAt (rd16 p 0) 0 10)

/-- The first Change Point at least 2 ms after now. -/
def State.nextPoint (s : State) : Nat := (s.now + 2 * ms + 10 * ms - 1) / (10 * ms) * (10 * ms)

/-- SWITCHOVER (R407, R466): the active unit names its Change Point in a SWITCH frame on both links. -/
def State.acceptSwitchover (s : State) (c : Cmd) : Acc :=
  let at_ := s.nextPoint
  let s1 := s.settledOp 0x0902
  firstOf [(!s.inPair, stState), (c.malformed || !s.peerOk c.params, stBadParam),
     (s.pair.role != .active || s.pair.peerStandby != .ready || s.images.staging.any (fun g => g.state == .armed) || s.images.takenProfile.isSome, stState)] s
    ((({ s1 with pair := { s1.pair with switchAt := some at_, switchAck := 0 } }).sendBoth 7 (b64 at_)).acc stAccepted)

/-- The payload of a COPY_REQ frame: 0 request, 1 grant, 2 refusal; the reason of a refusal; the copy point of a grant (DESIGN CHOICE,
log entry 22). -/
def copyReqPayload (kind reason point : Nat) : Bytes := b8 kind ++ b8 reason ++ zeros 6 ++ b64 point

/-- STANDBY_SYNC (R407, R462). -/
def State.acceptStandbySync (s : State) (c : Cmd) : Acc :=
  firstOf [(!s.inPair, stState), (c.malformed || !s.peerOk c.params, stBadParam), (s.pair.role != .standby || s.pair.standby != .notReady, stState)] s
    ((({ s with pair := { s.pair with copyAsked := true } }).sendBoth 5 (copyReqPayload 0 0 0)).acc stAccepted)

end Sys2Proof.Machine
end

