-- ==== Sys2Proof/Machine/Pair.lean ====
section
/-! DEFINITION. The rows of the standby pair (12): heartbeats, roles, paths, the frames of the standby links, the state copy, switchover and
epochs. -/

namespace Sys2Proof.Machine

/-! ## Accepting a frame (R447) -/

/-- The port and folded stream of a link. -/
def pairPort : PairLink → Nat
  | .sl0 => 56
  | .sl1 => 57
  | .domain => 58

/-- The peer's PAIR stream in the running image (R442). -/
def State.peerStream (s : State) : Nat :=
  (s.slots.findSome? (fun x => if x.2.receives ∧ 0xFF00 ≤ x.2.stream then some x.2.stream else none)).getD 0

/-- Header bytes 16 to 29 and the payload of a standby link frame, or the covered bytes of a PAIR frame, whose SEQ is its CYCLE. -/
def State.pairCovered (s : State) (link : PairLink) (f : PairFrame) : Bytes :=
  match link with
  | .domain => coveredBytes f.seq f.epoch s.headerTag.2 f.payload
  | _ => b16 f.payload.length ++ b16 f.sender ++ b32 f.seq ++ b32 f.epoch ++ b16 0 ++ f.payload

def State.pairFold (s : State) (link : PairLink) (f : PairFrame) : Fold :=
  let peer := (pairPeer s.img).getD 0
  match link with
  | .sl0 => { seq := f.seq, source := peer, dest := s.node, stream := 0xFFF0 }
  | .sl1 => { seq := f.seq, source := peer, dest := s.node, stream := 0xFFF1 }
  | .domain => { seq := s.ndezo.cycle64 / 2 ^ 32, source := peer, dest := s.node, stream := s.peerStream }

/-- Is the SEQ newer than the last one accepted on the link; is a PAIR frame of this cycle in a joined module? -/
def State.pairSeqOk (s : State) (link : PairLink) (f : PairFrame) : Bool :=
  match link with
  | .sl0 => decide (s.pair.rxSeq0 < f.seq)
  | .sl1 => decide (s.pair.rxSeq1 < f.seq)
  | .domain => s.ndezo.dawn == .joined && f.seq == s.ndezo.cycle64 % 2 ^ 32

/-- The path of the link has brought a frame (R459). -/
def Pair.heard (p : Pair) (link : PairLink) (seq now : Nat) : Pair :=
  match link with
  | .sl0 => { p with rxSeq0 := seq, last1 := now, silent1 := false, path1Alarm := false, silenceNoted := false }
  | .sl1 => { p with rxSeq1 := seq, last1 := now, silent1 := false, path1Alarm := false, silenceNoted := false }
  | .domain => { p with last2 := now, silent2 := false, silenceNoted := false }

/-- R447: the frame is decided under Table 8.6; the state after it, and whether it is accepted. -/
def State.acceptPair (s : State) (link : PairLink) (f : PairFrame) : State × Bool :=
  if !s.inPair || s.sealBank.ki40 then (s, false)
  else
    let k := s.pairFold link f
    let m := checkMessage k (s.pairCovered link f)
    let r := s.checkTelegram s.unexcluded 0 (pairPort link) k.stream k.stream (f.cvP == cvP m) (f.cvQ == cvQ m) f.rx
    if r.2 && s.pairSeqOk link f && f.sender == (pairPeer s.img).getD 0xFFFF then
      ({ r.1 with pair := (r.1.pair.heard link f.seq s.now) }, true)
    else (r.1, false)

/-! ## Heartbeats -/

/-- HEARTBEAT_SEND: on SL0 and SL1 every 100 µs (R448). -/
def State.heartbeatSend (s : State) (t : Nat) : State :=
  if s.sendsBeats && t % 100000 == 0 then s.sendBoth 1 s.heartbeatBytes else s

def execHeartbeatSend (t : Nat) (s : State) : Host.Outcome State Fault Refusal := run t (fun u => u.heartbeatSend t) s

/-- The copy of a COPYING standby fails (R465): NOT_READY by row 3 of Table 12.4. -/
def State.copyFails (s : State) (reason : Nat) : State := (s.notReady 3).event 0x0805 Origin.internal [(24, 1, 2), (25, 1, reason)]

/-- R455: the standby compares the digest of a heartbeat or PAIR frame with its own, in every standby state; the difference fails a copy
during its 1 s comparison (R465), and READY in three consecutive compared snapshots (Table 12.4). -/
def State.compareDigest (s : State) (b : Beat) : State :=
  match s.digestAt b.digestTime with
  | none => s
  | some d =>
    let fresh := decide (s.pair.lastCompared < b.digestTime)
    let last := max s.pair.lastCompared b.digestTime
    if d = b.digest then
      { s with pair := { s.pair with differs := if fresh then 0 else s.pair.differs, lastCompared := last,
                                     matchSince := some (s.pair.matchSince.getD s.now) } }
    else
      let s1 := ({ s with pair := { s.pair with
        outputDiffs := inc s.pair.outputDiffs, differs := if fresh then s.pair.differs + 1 else s.pair.differs, lastCompared := last,
        matchSince := none } }).event 0x0804 Origin.internal [(24, 8, b.digestTime)]
      if s1.pair.standby = .copying ∧ s1.pair.caughtUp = true then s1.copyFails 4
      else if s1.pair.standby = .ready ∧ 3 ≤ s1.pair.differs then s1.notReady 4 else s1

/-- The snapshot of the heartbeat and this unit's own are both past the last switch, and the units run different images or slots: a change or
profile switch has committed at one unit only. -/
def State.switchedAlone (s : State) (b : Beat) : Bool :=
  decide (s.pair.switchedAt ≤ b.digestTime) && decide (b.digestTime ≤ s.lastCycle.instant) &&
  (b.imageId != imgId s.img || bitsAt b.modes 4 4 != s.images.runningSlot)

/-- Rows 5 and 6 of Table 12.4 at a READY standby: states that differ for 10 ms; a fault or HOLD at the active unit, or a switch at one unit
only. -/
def State.compareStates (s : State) (old : Option Beat) (b : Beat) : State :=
  if s.pair.standby ≠ .ready then s
  else
    let fell := decide (b.degradation ≠ 0) && old.any (fun o => o.degradation == 0)
    let hold := bitsAt b.modes 2 2 == 2 && old.any (fun o => bitsAt o.modes 2 2 != 2)
    if fell || hold || s.switchedAlone b then s.notReady 6
    else if b.imageId = imgId s.img ∧ b.modes = s.modesByte then { s with pair := { s.pair with differSince := none } }
    else
      match s.pair.differSince with
      | none => { s with pair := { s.pair with differSince := some s.now } }
      | some d => if d + 10 * ms ≤ s.now then s.notReady 5 else s

/-- The standby's state as the active unit takes it: what the heartbeat names. -/
def standbyOf (n : Nat) : StandbyState := if n = 2 then .ready else if n = 1 then .copying else .notReady

/-- HEARTBEAT: what an accepted heartbeat or PAIR frame brings (R448, R449, R453, R455, R458). -/
def State.heartbeat (s : State) (link : PairLink) (f : PairFrame) : State :=
  let r := s.acceptPair link f
  if r.2 = false then r.1
  else
    let b := beatOf f.payload
    let old := r.1.pair.beat
    let p := r.1.pair
    let s1 : State := { r.1 with pair := { p with
      beat := some b, heardRole := some b.role, heardEpoch := max p.heardEpoch b.epoch, pairAlarm := false,
      peerStandby := if b.role = 2 ∧ p.silent1 = false then standbyOf b.state else .notReady,
      intakeAck := if p.role = .active then b.intakeAck else p.intakeAck,
      switchAck := if p.role = .active then b.switchAck else p.switchAck,
      epoch := if p.role = .standby ∧ b.role = 1 then b.epoch else p.epoch } }
    if p.role = .standby ∧ b.role = 1 then (s1.compareDigest b).compareStates old b else s1

def execHeartbeat (t : Nat) (link : PairLink) (f : PairFrame) (s : State) : Host.Outcome State Fault Refusal :=
  run t (fun u => u.heartbeat link f) s

/-! ## Roles and paths -/

/-- PAIR_LISTEN_END: 50 ms after entry to WARM or at the completion of Dawn, whichever is later (R449, Table 12.3). -/
def State.listenEnd (s : State) : State :=
  if s.hasImage && s.pair.role == .undecided && decide (s.pair.listenSince + 50 * ms ≤ s.now) && s.ndezo.dawn == .joined then
    let standby := fun (row : Nat) =>
      ({ s with pair := { s.pair with role := .standby, standby := .notReady, epoch := s.pair.heardEpoch } }).pairEvent row
    let active := fun (row : Nat) (alarm : Bool) =>
      ({ s with pair := { s.pair with role := .active, epoch := s.newEpoch, epochPending := true, pairAlarm := alarm } }).pairEvent row
    (match s.pair.heardRole with
     | some 1 => standby 1
     | some _ => if s.isLower then active 3 false else standby 2
     | none => (active 4 true).pairAlarmEvent 2).tellStaged true
  else s

def execPairListenEnd (t : Nat) (s : State) : Host.Outcome State Fault Refusal := run t State.listenEnd s

/-- PATH_SILENT: 3 ms without an accepted frame (R459). The planned T0 instants decide on it (Table 12.5). -/
def State.pathSilent (s : State) (p : PairPath) : State :=
  if !s.inPair then s
  else
    match p with
    | .path1 => if s.pair.last1 + 3 * ms ≤ s.now then { s with pair := { s.pair with silent1 := true } } else s
    | .path2 =>
      if s.pair.last2 + 3 * ms ≤ s.now ∧ s.pair.silent2 = false then
        let s1 : State := { s with pair := { s.pair with silent2 := true } }
        if s.pair.role = .standby ∧ s.pair.standby = .ready ∧ s.pair.silent1 = false then s1.pairAlarmEvent 1 else s1
      else s

def execPathSilent (t : Nat) (path : PairPath) (s : State) : Host.Outcome State Fault Refusal := run t (fun u => u.pathSilent path) s

/-- QUARANTINE_END (R458). -/
def State.quarantineEnd (s : State) : State :=
  match s.pair.quarantineFrom with
  | some q => if s.quarantineEnds q ≤ s.now then { s with pair := { s.pair with quarantineFrom := none } } else s
  | none => s

def execQuarantineEnd (t : Nat) (s : State) : Host.Outcome State Fault Refusal := run t State.quarantineEnd s

/-! ## INTAKE, FORCE and CHANGE frames -/

/-- A part of the list of the T1 start `t` arrives; with its last part the standby holds the list and acknowledges it (R453). -/
def Pair.takePart (p : Pair) (t off total : Nat) (b : Bytes) : Pair :=
  let parts := p.intakeParts.filter (fun x => !(x.1 == t && x.2.1 == off)) ++ [(t, off, b)]
  match gatherParts parts t total with
  | some l => { p with
      intakeParts := parts.filter (fun x => decide (t < x.1)), intakeHeld := p.intakeHeld ++ [(t, readIntake (rd32 l 0) (l.drop 8))],
      intakeAck := t }
  | none => { p with intakeParts := parts }

/-- INTAKE_FRAME: a standby that copies or is READY holds the list and acknowledges it (R452, R453). -/
def State.intakeFrame (s : State) (link : PairLink) (f : PairFrame) : State :=
  let r := s.acceptPair link f
  let t := rd64 f.payload 0
  let off := rd32 f.payload 8
  let total := rd32 f.payload 12
  if r.2 && s.pair.role == .standby && s.pair.standby != .notReady && decide (s.pair.intakeAck < t) then
    { r.1 with pair := r.1.pair.takePart t off total (slice f.payload 16 (min 1024 (total - off))) }
  else r.1

def execIntakeFrame (t : Nat) (link : PairLink) (f : PairFrame) (s : State) : Host.Outcome State Fault Refusal :=
  run t (fun u => u.intakeFrame link f) s

/-- The elements that a restrictive command forces (Table 3.9). -/
def State.forcedElements (s : State) (op : Nat) (p : Bytes) : List Nat :=
  if op = 0x0102 then s.cancelForce (paramRoute p)
  else if op = 0x0105 ∨ op = 0x0202 then [paramElem p]
  else if op = 0x0106 then bitList (typeMask s.img tySignal)
  else []

/-- FORCE_FRAME: the standby's stop fast path acts as if it had decided the command (R454). -/
def State.forceFrame (s : State) (link : PairLink) (f : PairFrame) : State :=
  let r := s.acceptPair link f
  if r.2 && s.pair.role == .standby then r.1.commandForce (s.forcedElements (rd16 f.payload 0) (f.payload.drop 2)) else r.1

def execForceFrame (t : Nat) (link : PairLink) (f : PairFrame) (s : State) : Host.Outcome State Fault Refusal :=
  run t (fun u => u.forceFrame link f) s

def readStaged (b : Bytes) : List (Nat × Nat) :=
  (List.range (rd8 b 2)).map (fun k => (rd64 b (4 + 9 * k), rd8 b (12 + 9 * k)))

/-- The staging slot that holds an image for a target in one of the given states. -/
def State.slotWith (s : State) (image target : Nat) (st : StageState) : Option Nat :=
  (List.range s.images.staging.length).find? (fun k =>
    let g := s.stagingAt k
    g.state == st && g.target == target && (g.report.map (·.newImage)).getD 0 == image)

/-- The arm of the active unit reaches the standby (R201): it arms the slot with that image and target for its own next snapshot, where no
other slot is ARMED (R181) and that snapshot lies before the Change Point `c`. At `c` it is NOT_READY unless it has committed the change. -/
def State.armWith (s : State) (image target c : Nat) : State :=
  let s1 : State := { s with pair := { s.pair with changeDue := some (c, image, target) } }
  match s.slotWith image target .verified with
  | some k =>
    if s.images.pendingArm = none ∧ s.images.staging.all (fun g => g.state != .armed) = true ∧ s.armPoint = c then
      { s1 with images := { s1.images with pendingArm := some (k, .session 0 0) } }
    else s1
  | none => s1

/-- The CHANGE_ABORT of the active unit reaches the standby (R201, R390), whose lanes decide it with the frame. -/
def State.abortWith (s : State) (image target : Nat) : State :=
  match s.slotWith image target .armed with
  | some k => s.modStaging k (fun g => { g with abortStamps := some (s.lanes.mapI (fun i _ => s.laneTime i)) })
  | none => s

/-- CHANGE_FRAME: an arm or an abort reaches the standby (R201, R454), or the peer's staged images, which a unit that asks for them gets in
turn. -/
def State.changeFrame (s : State) (link : PairLink) (f : PairFrame) : State :=
  let r := s.acceptPair link f
  let op := rd16 f.payload 0
  let target := rd8 f.payload 3
  let image := rd64 f.payload 8
  if r.2 = false then r.1
  else if op = 0x0405 then
    let s1 : State := { r.1 with pair := { r.1.pair with peerStaged := readStaged f.payload } }
    if rd8 f.payload 3 = 1 then s1.tellStaged false else s1
  else if s.pair.role ≠ .standby then r.1
  else if op = 0x0406 ∧ s.pair.changeDue ≠ some (rd64 f.payload 16, image, target) then r.1.armWith image target (rd64 f.payload 16)
  else if op = 0x0407 then r.1.abortWith image target
  else r.1

def execChangeFrame (t : Nat) (link : PairLink) (f : PairFrame) (s : State) : Host.Outcome State Fault Refusal :=
  run t (fun u => u.changeFrame link f) s

/-! ## The state copy (R462 to R465) -/

/-- Why the active unit refuses a copy, in the order of R462; the codes are the model's (DESIGN CHOICE, log entry 22). -/
def State.copyRefusal (s : State) : Option Nat :=
  if s.inNadir then some 1
  else if s.images.staging.any (fun g => g.state == .armed) || s.images.takenProfile.isSome then some 2
  else if s.pair.silent1 then some 3
  else none

/-- COPY_REQ: a request at the active unit, or its answer at the standby (R462). -/
def State.copyReq (s : State) (link : PairLink) (f : PairFrame) : State :=
  let r := s.acceptPair link f
  let kind := rd8 f.payload 0
  if r.2 = false then r.1
  else
    match s.pair.role with
    | .active =>
      if kind ≠ 0 ∨ s.pair.copyPoint ≠ none then r.1
      else
        (match s.copyRefusal with
         | some n => (r.1.sendBoth 5 (copyReqPayload 2 n 0)).event 0x0805 Origin.internal [(24, 1, 1), (25, 1, n)]
         | none =>
           let c := s.nextPoint
           let s1 : State := { r.1 with pair := { r.1.pair with copyPoint := some c, peerStandby := .copying } }
           (s1.sendBoth 5 (copyReqPayload 1 0 c)).event 0x0805 Origin.internal [(24, 1, 0)])
    | .standby =>
      if s.pair.copyAsked = false then r.1
      else if kind = 1 then
        ({ r.1 with pair := { r.1.pair with
            standby := .copying, copyAsked := false, copyPoint := some (rd64 f.payload 8), copyBytes := [], copyNext := 0, copyHash := none,
            copyDone := false, caughtUp := false, differs := 0, matchSince := none } }).pairEvent 1
      else if kind = 2 then { r.1 with pair := { r.1.pair with copyAsked := false } }
      else r.1
    | _ => r.1

def execCopyReq (t : Nat) (link : PairLink) (f : PairFrame) (s : State) : Host.Outcome State Fault Refusal :=
  run t (fun u => u.copyReq link f) s

/-- COPY_FRAME: the two copies of one COPY frame, on SL0 and on SL1 (R463). A part missed, or two copies that differ, fails the copy. -/
def State.copyFrame (s : State) (a b : PairFrame) : State :=
  let r1 := s.acceptPair .sl0 a
  let r2 := r1.1.acceptPair .sl1 b
  let s1 := r2.1
  if s.pair.role ≠ .standby ∨ s.pair.standby ≠ .copying ∨ s.pair.copyDone = true then s1
  else if !(r1.2 && r2.2) || a.payload != b.payload || rd64 a.payload 0 != s.pair.copyNext then s1.copyFails 2
  else if rd64 a.payload 8 = 1 then
    let all := s.pair.copyBytes ++ a.payload.drop 64
    if sha384 all = slice a.payload 16 48 then
      let s2 := s1.loadCopy all (s.pair.copyPoint.getD 0)
      { s2 with pair := { s2.pair with copyDone := true, copyBytes := [], copyHash := some (slice a.payload 16 48) } }
    else s1.copyFails 3
  else
    let d := a.payload.drop 16
    { s1 with pair := { s1.pair with copyBytes := s.pair.copyBytes ++ d, copyNext := s.pair.copyNext + d.length } }

def execCopyFrame (t : Nat) (first second : PairFrame) (s : State) : Host.Outcome State Fault Refusal :=
  run t (fun u => u.copyFrame first second) s

/-- CATCH_UP_COMPLETE: the standby is in step (R464); later than 200 ms after the copy point the copy fails (R465). -/
def State.catchUp (s : State) : State :=
  if s.pair.role = .standby ∧ s.pair.standby = .copying ∧ s.pair.copyDone = true ∧ s.pair.caughtUp = false then
    if (s.pair.copyPoint.getD 0) + 200 * ms < s.now then s.copyFails 5
    else { s with pair := { s.pair with caughtUp := true, matchSince := none } }
  else s

def execCatchUpComplete (t : Nat) (s : State) : Host.Outcome State Fault Refusal := run t State.catchUp s

/-! ## Switchover and epochs -/

/-- SWITCH_FRAME: a READY standby prepares its epoch and then acknowledges the Change Point (R466). -/
def State.switchFrame (s : State) (link : PairLink) (f : PairFrame) : State :=
  let r := s.acceptPair link f
  let c := rd64 f.payload 0
  if r.2 && s.pair.role == .standby && s.pair.standby == .ready && s.pair.switchAt != some c then
    { r.1 with pair := { r.1.pair with switchAt := some c, epochNext := some s.newEpoch, epochPending := true } }
  else r.1

def execSwitchFrame (t : Nat) (link : PairLink) (f : PairFrame) (s : State) : Host.Outcome State Fault Refusal :=
  run t (fun u => u.switchFrame link f) s

/-- EPOCH_FLASH_WRITE: the epoch stands in the flash of every lane (R456); a standby acknowledges its switchover. -/
def State.epochWritten (s : State) : State :=
  if s.pair.epochPending then
    match s.pair.epochNext, s.pair.switchAt with
    | some e, some c => { s with pair := { s.pair with epochFlash := e, epochPending := false, switchAck := c } }
    | _, _ => { s with pair := { s.pair with epochFlash := s.pair.epoch, epochPending := false } }
  else s

def execEpochFlashWrite (t : Nat) (s : State) : Host.Outcome State Fault Refusal := run t State.epochWritten s

/-- SWITCH_ABANDONED: no acknowledgement by c − 1 ms (R466). -/
def State.switchAbandoned (s : State) : State :=
  match s.pair.role, s.pair.switchAt with
  | .active, some c =>
    if s.pair.switchAck ≠ c ∧ c ≤ s.now + ms then
      let s1 := s.settledOp 0x0902
      ({ s1 with pair := { s1.pair with switchAt := none } }).switchEvent 2 s.pair.epoch s.pair.epoch s.snap.number
    else s
  | _, _ => s

def execSwitchAbandoned (t : Nat) (s : State) : Host.Outcome State Fault Refusal := run t State.switchAbandoned s

/-- SWITCH_DUE: HOURS_SINCE reaches parameter 0x000B (R466). -/
def State.switchDueNow (s : State) : State :=
  if s.inPair ∧ s.pair.lastSwitch ≠ 0 ∧ s.pair.switchDue = false ∧ s.param 11 ≤ s.hoursSince then
    ({ s with pair := { s.pair with switchDue := true } }).pairAlarmEvent 5
  else s

def execSwitchDue (t : Nat) (s : State) : Host.Outcome State Fault Refusal := run t State.switchDueNow s

end Sys2Proof.Machine
end

