-- ==== Sys2Proof/Machine/Change.lean ====
section
/-! DEFINITION. The outcomes of verification and admission, the slot map in flash, and the copy of a STAGE_WRITE from the exchange
RAM (R84, R180 to R186, R197, R387, R503). -/

namespace Sys2Proof.Machine

/-! ## The change checks (Table 5.2) -/

/-- The streams that the running Constellation names in an action of this module. -/
def State.namedStreams (s : State) : List Nat :=
  match constelOf s.img s.ndezo.constNo with
  | some c => ((c.slots.filter (fun x => x.sends || x.receives)).map (·.stream)).eraseDups
  | none => []

/-- Check 14. -/
def State.check14 (s : State) (new : Mem) : Bool :=
  match constelOf s.img s.ndezo.constNo, constelOf new s.ndezo.constNo with
  | some o, some n => o.id == n.id
  | _, _ => false

/-- Check 15: a stream of the running image's stream section that the running Constellation names. -/
def State.check15 (s : State) (new : Mem) : Bool :=
  ((streams s.img).filter (fun x => s.namedStreams.contains x.id)).all (fun x =>
    (streams new).any (fun y => y.id == x.id && y.dir == x.dir && y.peer == x.peer && y.len == x.len))

/-- Check 16. -/
def check16 (old new : Mem) : Bool :=
  (insts new).all (fun i => match carried old i with
    | some o => o.size == i.size && o.timers == i.timers && o.edges == i.edges
    | none => true)

/-- Check 17, in tenths of a nanosecond (R184). -/
def check17 (old new : Mem) : Bool :=
  decide (10 * imgT0Wcet new + 13 * ((1413 + imgOutWords new) * 4 + 6) + 13 * ((carriedBytes old new + 63) / 64) ≤ 10000 * systemParam new 1)

/-- The number of the first check that fails in the staging slot, 1 to 17; 0 when every check passes (R183). -/
def State.verifyCheck (s : State) (k : Nat) : Nat :=
  let g := s.stagingAt k
  let new := s.images.stagingMem k
  let adm := admission new g.high s.trustedKeys s.identity.part s.sealBank.ki40 false
  if adm ≠ 0 then adm
  else if imgRole new ≠ s.sealBank.role then 12
  else if !s.slotRuns g.target then 0
  else if imgPredId new ≠ imgId s.img then 13
  else if !s.check14 new then 14
  else if !s.check15 new then 15
  else if !check16 s.img new then 16
  else if !check17 s.img new then 17
  else 0

/-! ## The change report (R186, Table 5.5) -/

def entryOf (kind index ident old new : Nat) : ReportEntry := { kind := kind, index := index, ident := ident, old := old, new := new }

/-- REC_CRC of a route; 0 where it is not defined. -/
def routeCrc (m : Mem) (r : Nat) : Nat := if (routeDef m r).isSome then Mem.le m (routeOff m r + 28) 4 else 0

/-- The entries of the instances: kinds 0x01 to 0x05. -/
def instEntries (old new : Mem) : List ReportEntry :=
  let os := insts old
  let ns := insts new
  let initial := instanceInit old
  let staged := instanceInit new
  let pairs := ns.filterMap (fun n => (instOf old n.id).map (fun o => (o, n)))
  let same := pairs.filter (fun p => p.1.typeId == p.2.typeId)
  (ns.filter (fun n => (instOf old n.id).isNone)).map (fun n => entryOf 1 0 n.id 0 n.typeId) ++
  (os.filter (fun o => (instOf new o.id).isNone)).map (fun o => entryOf 2 0 o.id o.typeId 0) ++
  (pairs.filter (fun p => p.1.typeId != p.2.typeId)).map (fun p => entryOf 3 0 p.2.id p.1.typeId p.2.typeId) ++
  (same.filter (fun p => p.1.task != p.2.task)).map (fun p => entryOf 4 0 p.2.id p.1.task p.2.task) ++
  same.flatMap (fun p => (List.range p.2.timers).filterMap (fun k =>
    let a := Mem.le initial (p.1.off + 16 * k + 8) 8
    let b := Mem.le staged (p.2.off + 16 * k + 8) 8
    if a = b then none else some (entryOf 5 k p.2.id a b)))

/-- The parameters written at run time that the new image does not keep (R196): kind 0x08, with NEW 0 where it lacks the parameter. -/
def paramEntriesOf (old new : Mem) (written : List (Nat × Word)) : List ReportEntry :=
  let kept := (carryParams old new written).map (·.1)
  (written.filter (fun p => !kept.contains p.1)).map (fun p =>
    entryOf 8 0 p.1 (((paramOf old p.1).map (·.value)).getD 0) (((paramOf new p.1).map (·.value)).getD 0))

/-- The order of the report: KIND, then ID, then INDEX. -/
def ReportEntry.before (a b : ReportEntry) : Bool :=
  decide (a.kind < b.kind) || (a.kind == b.kind && (decide (a.ident < b.ident) || (a.ident == b.ident && decide (a.index ≤ b.index))))

/-- The change report of a staging slot against the image in its target. -/
def State.buildReport (s : State) (k : Nat) : Report :=
  let g := s.stagingAt k
  let new := s.images.stagingMem k
  let runs := s.slotRuns g.target
  let old := s.slotMem g.target
  let tables := (changedRoutes old new).map (fun r => entryOf 6 0 r (routeCrc old r) (routeCrc new r)) ++
    (changedElements old new).map (fun e => entryOf 7 0 e (elemAt old e).etype (elemAt new e).etype)
  let es := if runs then instEntries old new ++ tables ++ paramEntriesOf old new s.images.params else tables
  { newImage := imgId new, oldImage := s.slotImage g.target, running := runs,
    carried := if runs then ((insts new).filter (fun i => (carried old i).isSome)).length else 0,
    carriedBytes := if runs then carriedBytes old new else 0, entries := es.mergeSort ReportEntry.before }

/-! ## VERIFY_COMPLETE and ADMISSION_COMPLETE -/

/-- R84: the lane that disagrees with the other two has a lane fault and isolates itself (Table 6.4). Three mutually different outcomes name
no odd lane (DESIGN CHOICE, log entry 129). -/
def State.chargeOdd (s : State) (o : Agreement) : State :=
  match o with
  | .odd i => if s.voting.length = 3 then s.oddLane i .admission else s
  | _ => s

/-- R84, R180, R541: do at least two of the lanes agree? Of two lanes, neither has two others to differ from. -/
def agreementHolds (o : Agreement) (lanes : List LaneId) : Bool :=
  match o with
  | .all => decide (2 ≤ lanes.length)
  | .odd i => decide (2 ≤ (lanes.filter (· != i)).length)
  | .none => false

/-- Do at least two voting lanes agree? -/
def State.twoAgree (s : State) (o : Agreement) : Bool := agreementHolds o s.voting

/-- The check number of a failed admission in which no two lanes agree (R84): the manual names none, so one of 1 to 11 that is free (DESIGN
CHOICE, log entry 129). -/
def State.freeCheck (s : State) : Nat := 1 + s.freeByte.toNat % 11

/-- An admission has failed: its record, and LAST_CHECK of Table 10.7 (R85). -/
def State.admissionEvent (s : State) (slot check image : Nat) : State :=
  ({ s with images := { s.images with lastCheck := check } }).event 0x0301 Origin.internal [(24, 1, slot), (25, 1, check), (28, 4, image)]

/-- R180, R198: the outcome of a verification by the check that failed. Where no two lanes agree the manual names no check: a free
value. At VERIFIED the bytes past the image are zero (R87), and the image goes to the flash of each lane; a change verified for a slot that does
not run is a profile load (R188). A failed admission check (1 to 11) writes the ADMISSION record beside the VERIFY record, a failed change check (12
to 17) the VERIFY record alone (R85, R183; DESIGN CHOICE, log entry 147). -/
def State.settleVerify (s : State) (k : Nat) (agreed : Bool) : State :=
  let m := s.images.stagingMem k
  let found := s.verifyCheck k
  let check := if agreed then found else s.freeCheck
  let s1 := if agreed then s else s.drawn
  let kept := m.cutToImage
  let record := fun (u : State) => u.event 0x0303 Origin.internal [(24, 1, k), (25, 1, flag (check != 0)), (26, 1, check), (28, 4, imgId m)]
  if check = 0 then
    let s2 := ({ s1 with images := { s1.images with flash := listSet s1.images.flash (s.stagingRegion k) kept } }).setRegion (s.stagingRegion k) kept
      (imgLen m) (67108864 - imgLen m)
    (record (s2.modStaging k (fun g => { g with
      state := .verified
      check := 0
      report := some (s.buildReport k)
      load := !s.slotRuns g.target
      hash := imageHash m
      keyId := sigBytes m 8 8 }))).tellStaged false
  else
    let s2 := record (({ s1 with images := { s1.images with lastCheck := check } }).modStaging k (fun g =>
      { g with state := .failed, check := check, report := none }))
    if check ≤ 11 then s2.admissionEvent (4 + k) check (imgId m) else s2

/-- The verification of a staging slot ends. -/
def State.verifyComplete (s : State) (k : Nat) (o : Agreement) : State :=
  if k ≤ 1 ∧ (s.stagingAt k).state = .verifying then (s.settleVerify k (s.twoAgree o)).chargeOdd o else s

/-- VERIFY_COMPLETE (R180, R182 to R186). -/
def execVerifyComplete (t slot : Nat) (outcome : Agreement) (s : State) : Host.Outcome State Fault Refusal :=
  run t (fun s => s.verifyComplete slot outcome) s

/-- The first check that the image of a profile slot fails; 0 where it is admitted. -/
def State.slotCheck (s : State) (k : Nat) : Nat :=
  admission (s.images.profileMem k) 67108864 s.trustedKeys s.identity.part s.sealBank.ki40 (k == 0)

/-- A profile slot that the lanes have loaded from flash is admitted or not (R84, R85, R89, R548). The whole region counts as loaded. -/
def State.settleAdmission (s : State) (k : Nat) (agreed : Bool) : State :=
  let m := s.images.profileMem k
  let found := s.slotCheck k
  let check := if agreed then found else s.freeCheck
  let s1 := if agreed then s else s.drawn
  let status : SlotStatus := if check = 0 then .valid else .invalid
  let s2 : State := { s1 with
    images := { s1.images with profiles := listMod s1.images.profiles k (fun p => { p with status := status, hash := imageHash m }) } }
  if check = 0 then s2 else s2.admissionEvent k check (imgId m)

/-- Is a profile slot VERIFYING? -/
def State.verifying (s : State) (k : Nat) : Bool := (s.images.profiles[k]?).any (fun p => p.status == .verifying)

/-- R89: the lanes take the selected profile first. -/
def State.admissionComplete (s : State) (k : Nat) (o : Agreement) : State :=
  if s.verifying k && (k == s.selectedSlot || !s.verifying s.selectedSlot) then (s.settleAdmission k (s.twoAgree o)).chargeOdd o else s

/-- ADMISSION_COMPLETE (R84, R89). -/
def execAdmissionComplete (t slot : Nat) (outcome : Agreement) (s : State) : Host.Outcome State Fault Refusal :=
  run t (fun s => s.admissionComplete slot outcome) s

/-! ## SLOT_MAP_WRITE -/

/-- A lane has written the new slot map to its flash (R197); with the last of them the old map is gone. -/
def State.slotMapWrite (s : State) (i : LaneId) : State :=
  if s.images.mapPending then
    let s1 := s.modLane i (fun l => { l with mapWritten := true })
    if s1.lanes.a.mapWritten && s1.lanes.b.mapWritten && s1.lanes.c.mapWritten then
      { s1 with images := { s1.images with mapPending := false, oldMap := none } }
    else s1
  else s

/-- SLOT_MAP_WRITE. -/
def execSlotMapWrite (t : Nat) (lane : LaneId) (s : State) : Host.Outcome State Fault Refusal :=
  run t (fun s => s.slotMapWrite lane) s

/-! ## The copy from the exchange RAM -/

/-- The bytes that a copy brings: those that the maintenance bus has written meanwhile are undefined (R387). -/
def State.copiedBytes (s : State) (g : CopyRun) : Bytes :=
  ((Mem.bytes s.xram.mem g.xram g.length).zipIdx).map (fun b =>
    if g.touched.contains (g.xram + b.2) then Config.freeByte (s.freeCtr + b.2) else b.1)

/-- A copy may run: the guard is held, or given up, or can be claimed now; 5 ms after its start it runs without the guard (R503). -/
def State.guardFor (s : State) (g : CopyRun) : Option (State × CopyRun) :=
  if g.guarded ∨ g.abandoned then some (s, g)
  else
    let c := s.claimGuard
    if c.2 then some (c.1, { g with guarded := true }) else none

/-- The record of a guard given up (R508). -/
def State.unguardedEvent (s : State) : State := s.event 0x0909 Origin.internal [(24, 1, 0), (25, 1, s.lead.index), (26, 1, 0)]

/-- A copy without the guard once 5 ms have passed. -/
def State.unguard (s : State) (g : CopyRun) : State × CopyRun :=
  if !g.guarded && !g.abandoned && decide (g.since + 5000000 ≤ s.now) then (s.unguardedEvent, { g with abandoned := true }) else (s, g)

def State.stageCopied (s : State) (k : Nat) (g : CopyRun) : State :=
  let region := Mem.store (s.images.stagingMem k) g.offset (s.copiedBytes g)
  let s1 := ({ s with freeCtr := s.freeCtr + g.length }).setRegion (s.stagingRegion k) region g.offset g.length
  ((s1.modStaging k (fun x => { x with state := .isOpen, copy := none, high := max x.high (g.offset + g.length) })).releaseGuard g).settledAll g.key.toList

/-- The copy of a STAGE_WRITE is complete (R387, R503). -/
def State.stageCopy (s : State) (k : Nat) : State :=
  match (s.stagingAt k).copy with
  | none => s
  | some g =>
    let u := s.unguard g
    match u.1.guardFor u.2 with
    | none => s
    | some r => r.1.stageCopied k r.2

/-- STAGE_WRITE_COPY_COMPLETE. -/
def execStageWriteCopyComplete (t slot : Nat) (s : State) : Host.Outcome State Fault Refusal :=
  run t (fun s => s.stageCopy slot) s

/-- The guard of every copy that has waited 5 ms is given up (R503): those of the staging slots and that of a KI-40 load. -/
def State.giveUpGuards (s : State) : State :=
  let s1 := (List.range 2).foldl (fun (u : State) k =>
    match (u.stagingAt k).copy with
    | some g => (u.unguard g).1.modStaging k (fun x => { x with copy := some (u.unguard g).2 })
    | none => u) s
  match s1.ki40.loadCopy with
  | some g => { (s1.unguard g).1 with ki40 := { s1.ki40 with loadCopy := some (s1.unguard g).2 } }
  | none => s1

/-- XRAM_UNGUARDED. -/
def execXramUnguarded (t : Nat) (s : State) : Host.Outcome State Fault Refusal :=
  run t (fun s => s.giveUpGuards) s

end Sys2Proof.Machine
end

