-- ==== Sys2Proof/Machine/HostDiag.lean ====
section
/-! DEFINITION. The opcodes of group 0x0Axx: the arbiter, the exchange RAM, lane diagnosis and reintegration (R243, R244, R408 to R412, R484 to
R491, R495 to R497, R535, R558). -/

namespace Sys2Proof.Machine

/-! ## The table-store arbiter -/

/-- The lanes that LANE names: 0 to 2, or 3 for all. -/
def lanesNamed (n : Nat) : List LaneId := if n = 3 then allLanes else (laneOf n).toList

/-- R488, R489: the freeze bit of a lane is set. -/
def State.freeze (s : State) (o : Origin) (i : LaneId) : State :=
  ((s.rounds i).modLane i (fun l => { l with store := l.store.stopRounds s.now })).event 0x0407 o [(24, 1, i.index), (25, 1, 1)]

/-- R488: it is cleared, by command (0) or after 10 ms (2). -/
def State.unfreeze (s : State) (o : Origin) (kind : Nat) (i : LaneId) : State :=
  if (s.lane i).store.frozen then
    (s.modLane i (fun l => { l with store := { l.store with frozen := false, ringKept := [] } })).event 0x0407 o [(24, 1, i.index), (25, 1, kind)]
  else s

/-- ARB_CONTROL (R408). -/
def State.acceptArbControl (s : State) (c : Cmd) : Acc :=
  let p := c.params
  let ls := lanesNamed (rd8 p 0)
  let action := rd8 p 1
  let req := rd8 p 2
  let bad := c.malformed || decide (3 < rd8 p 0) || decide (3 < action) || (action == 3 && !s.counts) || decide (s.identity.part.requesters ≤ req)
  let s1 := match action with
    | 0 => ls.foldl (fun (u : State) i => u.freeze c.origin i) s
    | 1 => ls.foldl (fun (u : State) i => u.unfreeze c.origin 0 i) s
    | 2 => ls.foldl (fun (u : State) i => (u.rounds i).modLane i (fun l => { l with store := l.store.setPriority req (bitsAt (rd8 p 3) 0 3) })) s
    | _ => ls.foldl (fun (u : State) i => (u.rounds i).modLane i (fun l => { l with store := l.store.clearCounters })) s
  firstOf [(bad, stBadParam), (s.control.power != .warm || s.control.mode == .run, stState)] s (s1.acc stAccepted)

/-- One entry of an ARB_COUNTERS reply (R409). -/
def Store.counterEntry (x : Store) (j : Nat) : Bytes :=
  b32 (x.grants.getD j 0).toNat ++ b32 (x.waits.getD j 0).toNat ++ b16 (x.longestRounds.getD j 0) ++ b16 0 ++ b32 (x.longestNs.getD j 0)

/-- ARB_COUNTERS (R409). -/
def State.acceptArbCounters (s : State) (c : Cmd) : Acc :=
  let i := (laneOf (rd8 c.params 0)).getD .A
  let s1 := s.rounds i
  let n := s.identity.part.requesters
  firstOf [(c.malformed || decide (2 < rd8 c.params 0), stBadParam), (!s.counts, stState)] s
    (s1.accData stOk (b8 n ++ zeros 3 ++ ((List.range n).map (s1.lane i).store.counterEntry).flatten))

/-! ## The exchange RAM (R410, R497) -/

def xramRangeOk (off len : Nat) : Bool :=
  off % 4 == 0 && decide (off < 1048576) && decide (4 ≤ len) && decide (len ≤ 1376) && len % 4 == 0 && decide (off + len ≤ 1048576)

/-- The conflict of the two sides that an access of the command meets: in the access window of 40 ns in which the command is decided, on a word of
its range (R497, R500, Table 13.6; DESIGN CHOICE, log entry 36). -/
def State.clashes (s : State) (off len : Nat) (isWrite : Bool) : Option Clash :=
  s.xram.clash.filter (fun k => k.instant / 40 == s.now / 40 && k.laneWrite == isWrite && decide (off ≤ 4 * k.word) && decide (4 * k.word < off + len))

/-- XRAM_READ: a word that the maintenance bus writes in the same window reads as undefined, a free value, and COLLIDE tells of it where the
lane side's request was the later. -/
def State.acceptXramRead (s : State) (c : Cmd) : Acc :=
  let off := rd32 c.params 0
  let len := rd16 c.params 4
  let data := Mem.bytes s.xram.mem off len
  firstOf [(c.malformed || !xramRangeOk off len, stBadParam)] s
    (match s.clashes off len false with
     | none => s.accData stOk (b32 off ++ b16 len ++ b16 0 ++ data)
     | some k => s.drawn.accData stOk (b32 off ++ b16 len ++ b16 (flag k.warned) ++ data.take (4 * k.word - off) ++ b32 s.freeWord.toNat ++
         data.drop (4 * k.word - off + 4)))

/-- XRAM_WRITE: of two writes in one window the lane's stands. -/
def State.acceptXramWrite (s : State) (c : Cmd) : Acc :=
  let off := rd32 c.params 0
  let len := rd16 c.params 4
  firstOf [(c.malformed || !xramRangeOk off len, stBadParam), (s.lockedOut c.session, stLocked)] s
    ((s.xramStore off (slice c.params 8 len)).accData stOk (b32 (flag ((s.clashes off len true).any (·.warned)))))

/-- An atomic operation on a word (R500): add or swap; the word before it. -/
def State.xramAtomic (s : State) (a : Nat) (swap : Bool) (operand : Nat) : State × Nat :=
  let old := Mem.le s.xram.mem a 4
  (s.xramStore a (b32 (if swap then operand else old + operand)), old)

/-- XRAM_ATOMIC. -/
def State.acceptXramAtomic (s : State) (c : Cmd) : Acc :=
  let off := rd32 c.params 0
  let op := rd8 c.params 4
  let r := s.xramAtomic off (op == 1) (rd32 c.params 8)
  firstOf [(c.malformed || off % 4 != 0 || decide (1048576 ≤ off) || decide (1 < op), stBadParam), (s.lockedOut c.session, stLocked)] s
    (r.1.accData stOk (b32 r.2 ++ b32 0))

/-! ## LANE_DIAG (R411, R535, R558) -/

def readingCode : Reading → Nat
  | .isOpen => 0
  | .isClosed => 1
  | .discrepant => 2
  | .unfiltered => 3

/-- SEAL_RAW (Table 15.3). -/
def Inputs.sealRaw (x : Inputs) : Nat := (x.seals.zipIdx.map (fun r => readingCode r.1 * 4 ^ r.2)).sum

/-- The lane summary block. The manual gives the result of a failed start-up self-test no value but that it is not 0: a free value (log
entry 37). -/
def State.summaryBlock (s : State) (i : LaneId) : Bytes :=
  let l := s.lane i
  b8 l.mode.code ++ b8 (causeCode l.cause) ++ b16 l.exclusions ++ b32 l.pace ++
    b32 (if l.startPassed then 0 else max 1 (Config.freeWord (s.freeCtr + i.index)).toNat) ++ b32 l.sentTime.toNat ++ b32 l.almLost.toNat ++
    b32 l.stashLost.toNat ++ b32 l.inputs.sealRaw ++ b32 (l.inputs.psel % 8)

/-- The counts of the check units of a stream or session: of its receive entries and of its sending side together (R306, R411). -/
def Inputs.unitCounts (x : Inputs) (id : Nat) : List Word :=
  (x.checkUnits.filter (fun u => u.1 % 0x20000 == id)).foldl (fun acc u => (List.range 4).map (fun k => acc.getD k 0 + u.2.getD k 0)) [0, 0, 0, 0]

/-- The block of a lane. -/
def State.diagBlock (s : State) (item id off len : Nat) (i : LaneId) : Bytes :=
  match item with
  | 0 => s.summaryBlock i
  | 1 => Mem.bytes (s.lane i).program.data (((instOf s.img id).map (·.off)).getD 0 + off) len
  | 2 => ((List.range (len / 8)).map (fun k => ((s.lane i).engine.entry (id + k)).bytes)).flatten
  | _ => wordBytes ((s.lane i).inputs.unitCounts id)

/-- Table 10.23. -/
def State.diagOk (s : State) (p : Bytes) : Bool :=
  let item := rd8 p 1
  let id := rd32 p 4
  let off := rd32 p 8
  let len := rd16 p 12
  decide (rd8 p 0 ≤ 3) && (rd8 p 0 != 3 || decide (len ≤ 448)) && (item == 1 || off == 0) &&
  (match item with
   | 0 => id == 0 && len == 32
   | 1 => off % 4 == 0 && decide (4 ≤ len) && decide (len ≤ 1376) && len % 4 == 0 && s.hasImage &&
          (instOf s.img id).any (fun x => decide (off + len ≤ x.size))
   | 2 => decide (8 ≤ len) && decide (len ≤ 1376) && len % 8 == 0 && decide (id + len / 8 ≤ 4096)
   | 3 => len == 16 && decide (id ≤ 0x10000 + 32) && id != 0x10000
   | _ => false)

/-- LANE_DIAG. -/
def State.acceptLaneDiag (s : State) (c : Cmd) : Acc :=
  let p := c.params
  let ls := (lanesNamed (rd8 p 0)).filter (fun i => (s.lane i).coreAnswers)
  let s1 : State := { s with freeCtr := s.freeCtr + 3 }
  firstOf [(c.malformed || !s.diagOk p, stBadParam)] s (s1.accData stOk
    (b8 (rd8 p 1) ++ b8 (packBits (allLanes.map ls.contains)) ++ b16 (rd16 p 12) ++
      (ls.map (s.diagBlock (rd8 p 1) (rd32 p 4) (rd32 p 8) (rd16 p 12))).flatten))

/-! ## LANE_REINTEGRATE -/

/-- The first condition of R243 that fails; 0 when all hold. -/
def State.reintegrateReason (s : State) (i : LaneId) : Nat :=
  let l := s.lane i
  if s.control.degradation ≠ Degradation.reduced then 1
  else if s.control.power ≠ .warm ∨ s.control.mode ≠ .stop then 2
  else if l.mode ≠ LaneMode.excluded then 3
  else if 3 ≤ l.exclusions then 4
  else if s.images.staging.any (fun g => g.state == .armed) ∨ s.images.takenProfile.isSome then 5
  else 0

/-- A stage of a reintegration, with its record (R244, R248). -/
def State.laneStage (s : State) (o : Origin) (i : LaneId) (m : LaneMode) (cause : Option Cause) : State :=
  (s.modLane i (fun l => { l with mode := m })).event 0x0401 o [(24, 1, i.index), (25, 1, m.code), (26, 1, causeCode cause)]

/-- LANE_REINTEGRATE (R412): the lane restarts through its full self-test. -/
def State.acceptLaneReintegrate (s : State) (c : Cmd) : Acc :=
  let i := (laneOf (rd8 c.params 0)).getD .A
  let why := s.reintegrateReason i
  if c.malformed || decide (2 < rd8 c.params 0) then s.acc stBadParam
  else if why ≠ 0 then s.accData stState (b32 why)
  else ((s.laneStage c.origin i LaneMode.restarting none).modLane i (fun l => { l with startPassed := false, isolatedFor := none, localFault := none, held := false })).acc stAccepted

end Sys2Proof.Machine
end

