-- ==== Sys2Proof/Machine/HostDispatch.lean ====
section
/-! DEFINITION. From a copy on a host port to a decided command: the checks of Table 9.4, the network rules of Tables 9.5 and 9.6, repeats
(R341), sequence numbers (R342) and the queues of R345. -/

namespace Sys2Proof.Machine

/-! ## The acceptance checks and effect of each opcode -/

/-- The opcodes of Table 10.2 with what decides them. -/
def acceptTable : List (Nat × (State → Cmd → Acc)) :=
  [(0x0001, State.acceptSessionOpen), (0x0002, State.acceptSessionClose), (0x0003, State.acceptSessionKeep), (0x0004, State.acceptLockAcquire),
   (0x0005, State.acceptLockRelease), (0x0006, State.acceptCreditSet), (0x0101, State.acceptRouteSet), (0x0102, State.acceptRouteCancel),
   (0x0103, State.acceptRouteReleaseTimed), (0x0104, State.acceptRouteQuery), (0x0105, State.acceptSignalStop), (0x0106, State.acceptAllStop),
   (0x0201, State.acceptPointMove), (0x0202, State.acceptPointBlock), (0x0203, State.acceptPointUnblock), (0x0204, State.acceptSectionReset),
   (0x0205, State.acceptElementQuery), (0x0301, State.acceptSnapshotRead), (0x0302, State.acceptStatusRead), (0x0303, State.acceptPaceRead),
   (0x0304, State.acceptCountersRead)] ++
  [(0x0401, State.acceptModeSet), (0x0402, State.acceptProfileSelect), (0x0403, State.acceptStageOpen), (0x0404, State.acceptStageWrite),
   (0x0405, State.acceptStageVerify), (0x0406, State.acceptChangeArm), (0x0407, State.acceptChangeAbort), (0x0408, State.acceptParamWrite),
   (0x0409, State.acceptParamRead), (0x0501, State.acceptPowerStateSet), (0x0502, State.acceptDuskRun), (0x0503, State.acceptRepairFuse),
   (0x0601, State.acceptAlmanacCursor), (0x0602, State.acceptAlmanacRead), (0x0603, State.acceptAlmanacQuota), (0x0604, State.acceptTimeSet)] ++
  [(0x0701, State.acceptIdentityRead), (0x0702, State.acceptAttestQuote), (0x0703, State.acceptKeyListUpdate),
   (0x0801, State.acceptConstellationRequest), (0x0802, State.acceptNdezoStatus), (0x0803, State.acceptPortEnable), (0x0901, State.acceptPairStatus),
   (0x0902, State.acceptSwitchover), (0x0903, State.acceptStandbySync), (0x0A01, State.acceptArbControl), (0x0A02, State.acceptArbCounters),
   (0x0A03, State.acceptXramRead), (0x0A04, State.acceptXramWrite), (0x0A05, State.acceptXramAtomic), (0x0A06, State.acceptLaneDiag),
   (0x0A07, State.acceptLaneReintegrate)]

/-- The decision of a command that has passed the network rule. -/
def State.accept (s : State) (c : Cmd) : Acc :=
  match acceptTable.find? (fun r => r.1 == c.opcode) with
  | some r => r.2 s c
  | none => s.acc stUnknown

/-! ## The bytes of a copy -/

/-- The bytes of a telegram before CV_P (Table 9.2). -/
def HostCopyHead (op : Nat) (c : HostCopy) : Bytes :=
  b8 c.version ++ b8 c.flags ++ b16 c.session ++ b32 c.seq ++ b16 op ++ b16 c.params.length ++ b32 c.originId ++ b32 c.reqSnap ++ b32 c.hostTime ++
    c.params

/-- The stamp by which the lanes judge a copy: that of the lane whose copy of the state is read (log entry 38). -/
def State.stampOf (s : State) (c : HostCopy) : Nat := c.stamps.get s.lead

/-- R371: each voting lane judges a copy by its own stamp against its own commit of the snapshot that opened the session; the copy finds the
session open where most of them find it so, and of two lanes the lower decides (DESIGN CHOICE, log entry 38). -/
def State.opened (s : State) (x : Session) (c : HostCopy) : Bool :=
  let yes := (s.voting.filter (fun i => x.openedAt.any (fun o => decide (o.get i ≤ c.stamps.get i)))).length
  decide (s.voting.length < 2 * yes) || (2 * yes == s.voting.length && x.openedAt.any (fun o => decide (o.get s.lead ≤ s.stampOf c)))

/-- The session of a copy, where it is open on the port of the copy and at its stamp (R356, R371). -/
def State.openFor (s : State) (c : HostCopy) : Option Session :=
  (s.sessionOf c.session).filter (fun x => ((c.net == .service) == (x.cls == .maintenance)) && s.opened x c)

/-- The fold of a telegram to the module (Table 8.3). -/
def State.hostFold (s : State) (op : Nat) (x : Option Session) : Fold :=
  if op = 0x0001 then { seq := 0, source := 0, dest := s.node, stream := 0 }
  else
    match x with
    | some y => { seq := y.tag.toNat, source := y.hostId, dest := s.node, stream := y.number }
    | none => { seq := 0, source := 0, dest := 0, stream := 0 }

/-! ## Counters -/

def State.countNet (s : State) (n : Net) (f : NetCounters → NetCounters) : State :=
  match n with
  | .x => { s with host := { s.host with countersX := f s.host.countersX } }
  | .y => { s with host := { s.host with countersY := f s.host.countersY } }
  | .service => { s with host := { s.host with countersS := f s.host.countersS } }

/-- R326: BAD_CHECK_X or BAD_CHECK_Y in the voting lanes. -/
def LaneCounters.badCheck (k : LaneCounters) (n : Net) : LaneCounters :=
  match n with
  | .x => { k with badCheckX := inc k.badCheckX }
  | .y => { k with badCheckY := inc k.badCheckY }
  | .service => k

def netCode : Net → Nat
  | .x => 0
  | .y => 1
  | .service => 2

/-- A HOST_COPY event: kind 0 ST_REJ_SINGLE, 1 COPY_DIFFER (Table 14.4). -/
def State.hostCopyEvent (s : State) (kind : Nat) (r : HostRec) : State :=
  let o := match s.sessionOf r.session with
    | some x => Origin.ofSession x
    | none => Origin.internal
  s.event 0x0604 o [(24, 1, kind), (25, 1, netCode r.net % 2), (26, 2, r.opcode), (28, 4, r.key.seq)]

/-! ## Replies to a copy -/

/-- A reply to a copy; `path` where it goes to the copy's own network, without one to the return path of its session. -/
def State.copyReply (s : State) (op : Nat) (c : HostCopy) (net : Net) (path : Option ReturnPath) (repeated : Bool) (status snapshot : Nat)
    (data : Bytes) : Reply :=
  { net := net, ki40 := false, repeated := repeated, late := false, oneLane := false, session := c.session, seq := c.seq, opcode := op,
    originId := c.originId, reqSnap := c.reqSnap, hostTime := c.hostTime, status := status, snapshot := snapshot, data := data, path := path,
    bytes := [], decided := s.now }

/-- The reply data of a refusal: a refused PARAM_WRITE names the entry that failed first (R391), the first where the header alone fails. -/
def refusalData (op status : Nat) (p : Bytes) : Bytes :=
  if op = 0x0408 ∧ (status = stOrigin ∨ status = stBadParam) then
    b32 (((List.range (rd8 p 0)).find? (fun k => status == stBadParam && rd16 p (6 + 8 * k) != 0)).getD 0)
  else bareData op

/-- A copy is refused on its own network (Table 9.4). -/
def State.refuseCopy (s : State) (op : Nat) (c : HostCopy) (status : Nat) : State :=
  s.reply (s.copyReply op c c.net (some c.path) false status s.replySnapshot (refusalData op status c.params))

/-- R319: the reply to a copy that fails its check values has the fold of the session that its header names, if that is open. -/
def State.refuseCheck (s : State) (op : Nat) (c : HostCopy) (x : Option Session) : State :=
  let s1 := s.mapVoting (fun l => { l with counters := l.counters.badCheck c.net })
  let f : Fold := match x with
    | some y => s.replyFold op y.number
    | none => { seq := 0, source := 0, dest := 0, stream := 0 }
  s1.replyWith f (s.copyReply op c c.net (some c.path) false stBadCheck s.replySnapshot (bareData op))

/-! ## Records -/

/-- The identity of a copy's record. A SESSION_OPEN on the service port, which no copy on X or Y joins, has one of its own (R356). -/
def copyKey (op : Nat) (c : HostCopy) : RecKey :=
  if op = 0x0001 then (if c.net = .service then .serviceOpening (rd16 c.params 0) c.seq else .opening (rd16 c.params 0) c.seq)
  else .session c.session c.seq

/-- A record for the first copy of a command (R338). -/
def State.newRec (s : State) (op : Nat) (c : HostCopy) : HostRec :=
  { key := copyKey op c, session := c.session, opcode := op, originId := c.originId, net := c.net, bytes := HostCopyHead op c,
    opened := s.stampOf c, window := 1000 * s.param 5, decisions := [], decidedAt := 0, outstanding := decide (0x0100 ≤ op),
    pathX := if c.net = .y then none else some c.path, pathY := if c.net = .y then some c.path else none }

/-- R342: H rises, and decided records that it exceeds by 128 go, but for those whose command may still be discarded. -/
def State.raiseHigh (s : State) (session seq : Nat) : State :=
  let h := max seq (((s.sessionOf session).map (·.high)).getD 0)
  let s1 := s.modSession session (fun x => { x with high := h })
  { s1 with host := { s1.host with recs := s1.host.recs.filter (fun r =>
      r.key.session? != some session || decide (h < r.key.seq + 128) || r.outstanding || r.isOpen) } }

/-- The record of a command is opened. -/
def State.openRec (s : State) (op : Nat) (c : HostCopy) : State :=
  ({ s with host := { s.host with recs := s.host.recs ++ [s.newRec op c] } }).raiseHigh c.session c.seq

/-- The command of a copy. -/
def State.cmdOf (s : State) (op : Nat) (c : HostCopy) (r : HostRec) (content : Option Word) : Cmd :=
  let x := s.sessionOf c.session
  { opcode := op, key := r.key, content := content, cls := (x.map (·.cls)).getD .internal, session := c.session, hostId := (x.map (·.hostId)).getD 0,
    originId := c.originId, seq := c.seq, net := c.net, params := c.params, stamps := c.stamps,
    paths := (r.pathX.toList.map (fun p => (if r.net = .service then Net.service else Net.x, p))) ++ r.pathY.toList.map (fun p => (Net.y, p)) }

/-- Does a status leave the command outstanding (R351, R352)? -/
def staysOutstanding (op status : Nat) : Bool := status == stAccepted && decide (0x0100 ≤ op)

/-- A copy is decided in its record. -/
def State.putDecision (s : State) (key : RecKey) (op : Nat) (d : Decision) : State :=
  s.modRec key (fun r => { r with
    decisions := r.decisions ++ [d], decidedAt := s.now,
    outstanding := staysOutstanding op d.status })

def isRestrictive (op : Nat) : Bool := (opOf op).any (fun r => r.cls == .restrictive)

/-- The effects of an accepted command after its reply: what the peer is told, the end of a session, and the COMMAND record (R360). -/
def State.afterAccept (s : State) (op : Nat) (c : HostCopy) (cmd : Cmd) (data : Bytes) : State :=
  let o := if op = 0x0001 then ((s.sessionOf (rd16 data 0)).map Origin.ofSession).getD Origin.internal else cmd.origin
  let s1 := if isRestrictive op then s.tellPeer 3 cmd else if op = 0x0403 then s.tellStaged false else s
  let s2 := if op = 0x0002 then s1.endSession c.session 1 else s1
  if recordsCommand op c.params then s2.event 0x0606 o [(24, 2, op), (26, 2, rd16 c.params 0), (28, 4, c.originId)] else s2

/-- A decision leaves on the given networks: on the copy's own path, on the return path of its session, or of the record of a
SESSION_OPEN. -/
def State.sendDecision (s : State) (op : Nat) (c : HostCopy) (r : HostRec) (nets : List Net) (status snapshot : Nat) (data : Bytes) : State :=
  nets.foldl (fun u n =>
    let path := if n = c.net then some c.path else if op = 0x0001 then (if n = .y then r.pathY else r.pathX) else none
    u.reply (u.copyReply op c n path false status snapshot data)) s

/-- The identity under which a copy is decided: with its content, where a restrictive copy is acted on as a new command (R341). -/
def decideKey (k : RecKey) (content : Option Word) : RecKey :=
  match content with
  | some x => k.withContent x
  | none => k

/-- The acceptance checks of the opcode, the decision, its acknowledgement and effects. -/
def State.decideCopy (s : State) (op : Nat) (c : HostCopy) (content : Option Word) (nets : List Net) : State :=
  match s.recOf (decideKey (copyKey op c) content) with
  | none => s
  | some r =>
    let cmd := s.cmdOf op c r content
    let a := s.accept cmd
    let snap := a.snapshot.getD s.replySnapshot
    let s1 := a.st.putDecision r.key op
      { status := a.status, snapshot := snap, data := a.data, bytes := HostCopyHead op c }
    let s2 := s1.sendDecision op c r nets a.status snap a.data
    if a.status = stOk ∨ a.status = stAccepted then s2.afterAccept op c cmd a.data else s2

/-- A copy is decided with a rejection of the network rule. -/
def State.rejectCopy (s : State) (op : Nat) (c : HostCopy) (status : Nat) : State :=
  match s.recOf (copyKey op c) with
  | none => s
  | some r =>
    let s1 := s.putDecision r.key op
      { status := status, snapshot := s.replySnapshot, data := bareData op, bytes := r.bytes }
    s1.sendDecision op c r (replyNets c.net) status s.replySnapshot (bareData op)

/-- The record of a KI-40 command (R598). -/
def HostRec.isKi40 (r : HostRec) : Bool := r.key.isKi40

/-- An open record whose window has closed is decided with ST_REJ_SINGLE (R338). -/
def State.expireRec (s : State) (key : RecKey) : State :=
  match s.recOf key with
  | none => s
  | some r =>
    if r.isOpen = true ∧ r.opened + r.window ≤ s.now then
      let ki := r.isKi40
      let status := if ki then ki40Status stSingle else stSingle
      let snap := if ki then s.ki40Cycle else s.replySnapshot
      let data := if ki then [] else bareData r.opcode
      let s1 := (s.countNet r.net (fun k => { k with single := inc k.single })).hostCopyEvent 0 r
      let s2 := s1.putDecision key r.opcode { status := status, snapshot := snap, data := data, bytes := r.bytes }
      s2.answerAt (r.opened + r.window) r (replyNets r.net) false false status snap data
    else s

/-! ## The network rule (Table 9.6) -/

/-- The repeat of a decision on the network of a copy (R341). -/
def State.repeatCopy (s : State) (op : Nat) (c : HostCopy) (d : Decision) : State :=
  let s1 := s.countNet c.net (fun k => { k with repeats := inc k.repeats })
  s1.reply (s1.copyReply op c c.net (some c.path) true d.status d.snapshot d.data)

/-- R352: does the credit refuse a permissive command? -/
def State.creditSpent (s : State) (op session : Nat) : Bool :=
  decide (0x0100 ≤ op) && (s.sessionOf session).any (fun x => decide (x.credit ≤ s.outstanding session))

/-- A copy that finds no record. -/
def State.firstCopy (s : State) (op : Nat) (cls : OpClass) (c : HostCopy) : State :=
  if cls = .permissive ∧ s.creditSpent op c.session = true then (s.openRec op c).rejectCopy op c stCredit
  else if cls = .restrictive ∨ c.net = .service then (s.openRec op c).decideCopy op c none (replyNets c.net)
  else s.openRec op c

/-- The second path of a SESSION_OPEN, which has no session to hold it. -/
def HostRec.addPath (r : HostRec) (c : HostCopy) : HostRec :=
  if c.net = .y then { r with pathY := some c.path } else { r with pathX := some c.path }

/-- A restrictive copy that agrees with none of its sequence number is obeyed under a record of its own (R341). -/
def State.obeyAnew (s : State) (op : Nat) (c : HostCopy) (r : HostRec) : State :=
  let s1 := (s.countNet c.net (fun k => { k with copyDiffer := inc k.copyDiffer })).hostCopyEvent 1 r
  let x := crc32c (HostCopyHead op c)
  let s2 : State := { s1 with host := { s1.host with recs := s1.host.recs ++ [{ s1.newRec op c with key := (copyKey op c).withContent x }] } }
  s2.decideCopy op c (some x) [c.net]

/-- The decision of a copy of the same sequence number that has these bytes (R341). -/
def State.decisionOf (s : State) (k : RecKey) (bytes : Bytes) : Option Decision :=
  ((s.host.recs.filter (fun r => r.key.first == k)).flatMap (·.decisions)).find? (fun d => d.bytes == bytes)

/-- A copy that finds a record. -/
def State.laterCopy (s : State) (op : Nat) (cls : OpClass) (c : HostCopy) (r : HostRec) : State :=
  let bytes := HostCopyHead op c
  match s.decisionOf r.key bytes with
  | some d => s.repeatCopy op c d
  | none =>
    if cls = .restrictive then s.obeyAnew op c r
    else if r.isOpen = true then
      if c.net = r.net then s.countNet c.net (fun k => { k with dupNet := inc k.dupNet })
      else
        let s1 := s.modRec r.key (fun x => x.addPath c)
        if bytes = r.bytes then s1.decideCopy op c none [.x, .y]
        else
          (((s1.countNet c.net (fun k => { k with copyDiffer := inc k.copyDiffer })).hostCopyEvent 0 r).hostCopyEvent 1 r).rejectCopy op c stSingle
    else
      ((s.countNet c.net (fun k => { k with copyDiffer := inc k.copyDiffer })).hostCopyEvent 1 r).refuseCopy op c stSeq

/-- R372: a SESSION_OPEN record is kept for 10 s, and an accepted one for as long as its session is open. -/
def State.keepsOpening (s : State) (r : HostRec) : Bool :=
  !r.key.isOpening || r.isOpen || (decide (s.now < r.decidedAt + 10 * second) && r.decisions.all (fun d =>
    d.status != stAccepted || (s.sessionOf (rd16 d.data 0)).any (fun x => x.tag.toNat == rd32 d.data 4)))

/-- The network rule on a permissive or restrictive copy that has passed Table 9.4. -/
def State.compareCopy (s : State) (op : Nat) (cls : OpClass) (c : HostCopy) : State :=
  let s1 : State := { s with host := { s.host with recs := s.host.recs.filter s.keepsOpening } }
  let s2 := match s1.recOf (copyKey op c) with
    | some r => if r.opened + r.window ≤ s1.stampOf c then ({ s1 with now := max s1.now (s1.stampOf c) }).expireRec r.key else s1
    | none => s1
  match s2.recOf (copyKey op c) with
  | none => s2.firstCopy op cls c
  | some r => s2.laterCopy op cls c r

/-- A query is answered on its own network (Table 9.5). -/
def State.answerQuery (s : State) (op : Nat) (c : HostCopy) : State :=
  let r := s.newRec op c
  let cmd := s.cmdOf op c r none
  let again := decide (op = 0x0702) && (s.quoteOf c.session (slice c.params 4 32)).isSome
  let a := s.accept cmd
  let s1 := a.st.reply (a.st.copyReply op c c.net (some c.path) false a.status (a.snapshot.getD s.replySnapshot) a.data)
  if (a.status = stOk ∨ a.status = stAccepted) ∧ again = false then s1.afterAccept op c cmd a.data else s1

/-! ## The checks of Table 9.4 -/

/-- R333: is REQ_SNAP ahead of the latest snapshot? -/
def State.isAhead (s : State) (req : Nat) : Bool :=
  req != 0 && (let d := (BitVec.ofNat 32 req - BitVec.ofNat 32 s.snap.number).toNat; decide (1 ≤ d) && decide (d < 2 ^ 31))

/-- R342: does the SEQUENCE of a copy that is not a query pass? -/
def State.seqOk (s : State) (op : Nat) (c : HostCopy) : Bool :=
  c.seq != 0 &&
  (op == 0x0001 || (s.sessionOf c.session).any (fun x => decide (x.high ≤ c.seq + 127) && decide (c.seq ≤ x.high + 128)))

/-- Checks 4 to 8 and the network rule. Nonzero reserved bits of PARAMS are judged here, at check 4 of Table 9.4, for a ROUTE_SET or
ROUTE_CANCEL too, whose own checks (Table 3.3, R119, R370) name them at a later place (DESIGN CHOICE, log entry 125). -/
def State.judgeHeader (s : State) (op : Nat) (c : HostCopy) : State :=
  if 2 ≤ c.flags ∨ (op = 0x0001 ∧ c.session ≠ 0) ∨ reservedOk op c.params = false then s.refuseCopy op c stBadParam
  else
    match opOf op with
    | none => s.refuseCopy op c stUnknown
    | some row =>
      if op ≠ 0x0001 ∧ (s.sessionOf c.session).any (fun x => !row.admits x.cls) = true then s.refuseCopy op c stOrigin
      else if row.cls ≠ .query ∧ s.seqOk op c = false then
        (s.countNet c.net (fun k => { k with seqReject := inc k.seqReject })).refuseCopy op c stSeq
      else if s.isAhead c.reqSnap then (s.countNet c.net (fun k => { k with ahead := inc k.ahead })).refuseCopy op c stAhead
      else
        let s1 := s.countNet c.net (fun k => { k with copies := inc k.copies })
        if row.cls = .query then s1.answerQuery op c else s1.compareCopy op row.cls c

/-- R339, R349: a copy that has passed check 3 sets the return path of its network and renews the lease. In Dusk leases stand still. -/
def State.heardFrom (s : State) (op : Nat) (c : HostCopy) : State :=
  if op = 0x0001 then s
  else s.modSession c.session (fun x => { x with
    leaseEnd := if s.control.phase = .dusk then x.leaseEnd else max x.leaseEnd (s.stampOf c + 2 * second)
    pathX := if c.net = .y then x.pathX else some c.path
    pathY := if c.net = .y then some c.path else x.pathY })

/-- Check 3 and what follows. -/
def State.judge (s : State) (op : Nat) (c : HostCopy) : State :=
  let x := if op = 0x0001 then none else s.openFor c
  let known := op == 0x0001 || x.isSome
  let m := checkMessage (s.hostFold op x) (HostCopyHead op c)
  let r := s.checkTelegram s.answering 1 c.path.port (0x10000 + c.session) c.session (known && c.cvP == cvP m) (known && c.cvQ == cvQ m) c.rx
  if r.2 = false then r.1.refuseCheck op c x
  else
    let s1 := r.1.heardFrom op c
    if s1.control.phase = .running then s1.judgeHeader op c else s1.refuseCopy op c stBusy

/-! ## Arrival (R345) -/


def HostSide.overrun (h : HostSide) : Net → Bool
  | .x => h.overrunX
  | .y => h.overrunY
  | .service => h.overrunS

/-- A copy finds its queue full. -/
def State.overrunCopy (s : State) (n : Net) (restrictive : Bool) : State :=
  let s1 := s.countNet n (fun k => { k with overrun := inc k.overrun })
  let s2 := if s.host.overrun n then s1 else s1.event 0x0605 Origin.internal [(24, 1, netCode n), (25, 1, flag (!restrictive))]
  match n with
  | .x => { s2 with host := { s2.host with overrunX := true } }
  | .y => { s2 with host := { s2.host with overrunY := true } }
  | .service => { s2 with host := { s2.host with overrunS := true } }

/-- A copy above the rate of R344 waits in its queue. -/
def State.queueCopy (s : State) (op : Nat) (c : HostCopy) : State :=
  if isRestrictive op then
    if s.host.restrictiveQueue.length < 64 then
      { s with host := { s.host with restrictiveQueue := s.host.restrictiveQueue ++ [{ opcode := op, copy := c }] } }
    else s.overrunCopy c.net true
  else if s.host.otherQueue.length < 448 then { s with host := { s.host with otherQueue := s.host.otherQueue ++ [{ opcode := op, copy := c }] } }
  else s.overrunCopy c.net false

/-- The arrivals within the last millisecond, with this one. -/
def State.countArrival (s : State) : State :=
  { s with host := { s.host with arrivals := s.host.arrivals.filter (fun a => decide (s.now < a + ms)) ++ [s.now] } }

/-- Is the rate of R344 exceeded, or does a copy wait already? -/
def State.crowded (s : State) : Bool :=
  decide (128 < s.host.arrivals.length) || !s.host.restrictiveQueue.isEmpty || !s.host.otherQueue.isEmpty

/-- Checks 1 and 2: the copy is discarded, queued or judged. In KI-40 mode only the service port serves the native protocol (R593), and
HX0 and HY0 (ports 48 and 52) serve another UDP port. -/
def State.admitCopy (s : State) (op : Nat) (c : HostCopy) : State :=
  if s.sealBank.ki40 = true ∧ c.net ≠ .service then
    if c.path.port = 48 ∨ c.path.port = 52 then s.countNet c.net (fun k => { k with ipDrop := inc k.ipDrop }) else s
  else if c.ownPort = false then s.countNet c.net (fun k => { k with ipDrop := inc k.ipDrop })
  else if c.lenOk = false ∨ c.version ≠ 1 ∨ bitAt c.flags 0 = true ∨ 1400 < c.params.length ∨ c.params.length % 4 ≠ 0 then
    s.countNet c.net (fun k => { k with malformed := inc k.malformed })
  else
    let s1 := s.countArrival
    if s1.crowded then s1.queueCopy op c else s1.judge op c

/-- A frame at a host port: the SVC LED flickers on one at the service port, whatever becomes of it (R654). -/
def State.svcSeen (s : State) (net : Net) : State := if net = .service ∧ s.phyPowered = true then s.svcFrame else s

/-- A copy arrives at a host port. A module that does not answer (R39, R575, R588, R583), and one that does not know its addresses
(R557), takes nothing in on X and Y. -/
def State.hostArrive (s : State) (op : Nat) (c : HostCopy) : State :=
  let u := s.svcSeen c.net
  if s.answers = true ∧ (c.net = .service ∨ s.sealBank.nodeKnown = true) then u.lapseDue.admitCopy op c else u

/-- A copy leaves the queues, restrictive ones first. -/
def State.dequeueCopy (s : State) : State :=
  let s0 : State := { s with host := { s.host with overrunX := false, overrunY := false, overrunS := false } }
  match s.host.restrictiveQueue, s.host.otherQueue with
  | q :: rest, _ => (({ s0 with host := { s0.host with restrictiveQueue := rest } }).lapseDue).judge q.opcode q.copy
  | [], q :: rest => (({ s0 with host := { s0.host with otherQueue := rest } }).lapseDue).judge q.opcode q.copy
  | [], [] => s

/-- What a datagram says, read as Table 9.2. -/
def datagramCopy (d : Datagram) : HostCopy :=
  let p := d.payload
  let n := rd16 p 10
  { net := d.net, path := d.path, stamps := d.stamps, ownPort := d.ownPort, lenOk := decide (32 ≤ p.length) && p.length == 32 + n,
    version := rd8 p 0, flags := rd8 p 1, session := rd16 p 2, seq := rd32 p 4, originId := rd32 p 12, reqSnap := rd32 p 16,
    hostTime := rd32 p 20, params := if 32 ≤ p.length ∧ p.length = 32 + n then slice p 24 n else [],
    cvP := BitVec.ofNat 32 (rd32 p (24 + n)), cvQ := BitVec.ofNat 32 (rd32 p (28 + n)), rx := d.rx }

/-! ## The commands -/

def execSessionOpen (t : Nat) (c : HostCopy) (s : State) : Host.Outcome State Fault Refusal := run t (fun u => u.hostArrive 0x0001 c) s
def execSessionClose (t : Nat) (c : HostCopy) (s : State) : Host.Outcome State Fault Refusal := run t (fun u => u.hostArrive 0x0002 c) s
def execSessionKeep (t : Nat) (c : HostCopy) (s : State) : Host.Outcome State Fault Refusal := run t (fun u => u.hostArrive 0x0003 c) s
def execLockAcquire (t : Nat) (c : HostCopy) (s : State) : Host.Outcome State Fault Refusal := run t (fun u => u.hostArrive 0x0004 c) s
def execLockRelease (t : Nat) (c : HostCopy) (s : State) : Host.Outcome State Fault Refusal := run t (fun u => u.hostArrive 0x0005 c) s
def execCreditSet (t : Nat) (c : HostCopy) (s : State) : Host.Outcome State Fault Refusal := run t (fun u => u.hostArrive 0x0006 c) s
def execRouteSet (t : Nat) (c : HostCopy) (s : State) : Host.Outcome State Fault Refusal := run t (fun u => u.hostArrive 0x0101 c) s
def execRouteCancel (t : Nat) (c : HostCopy) (s : State) : Host.Outcome State Fault Refusal := run t (fun u => u.hostArrive 0x0102 c) s
def execRouteReleaseTimed (t : Nat) (c : HostCopy) (s : State) : Host.Outcome State Fault Refusal := run t (fun u => u.hostArrive 0x0103 c) s
def execRouteQuery (t : Nat) (c : HostCopy) (s : State) : Host.Outcome State Fault Refusal := run t (fun u => u.hostArrive 0x0104 c) s
def execSignalStop (t : Nat) (c : HostCopy) (s : State) : Host.Outcome State Fault Refusal := run t (fun u => u.hostArrive 0x0105 c) s
def execAllStop (t : Nat) (c : HostCopy) (s : State) : Host.Outcome State Fault Refusal := run t (fun u => u.hostArrive 0x0106 c) s
def execPointMove (t : Nat) (c : HostCopy) (s : State) : Host.Outcome State Fault Refusal := run t (fun u => u.hostArrive 0x0201 c) s
def execPointBlock (t : Nat) (c : HostCopy) (s : State) : Host.Outcome State Fault Refusal := run t (fun u => u.hostArrive 0x0202 c) s
def execPointUnblock (t : Nat) (c : HostCopy) (s : State) : Host.Outcome State Fault Refusal := run t (fun u => u.hostArrive 0x0203 c) s
def execSectionReset (t : Nat) (c : HostCopy) (s : State) : Host.Outcome State Fault Refusal := run t (fun u => u.hostArrive 0x0204 c) s
def execElementQuery (t : Nat) (c : HostCopy) (s : State) : Host.Outcome State Fault Refusal := run t (fun u => u.hostArrive 0x0205 c) s
def execSnapshotRead (t : Nat) (c : HostCopy) (s : State) : Host.Outcome State Fault Refusal := run t (fun u => u.hostArrive 0x0301 c) s
def execStatusRead (t : Nat) (c : HostCopy) (s : State) : Host.Outcome State Fault Refusal := run t (fun u => u.hostArrive 0x0302 c) s
def execPaceRead (t : Nat) (c : HostCopy) (s : State) : Host.Outcome State Fault Refusal := run t (fun u => u.hostArrive 0x0303 c) s
def execCountersRead (t : Nat) (c : HostCopy) (s : State) : Host.Outcome State Fault Refusal := run t (fun u => u.hostArrive 0x0304 c) s
def execModeSet (t : Nat) (c : HostCopy) (s : State) : Host.Outcome State Fault Refusal := run t (fun u => u.hostArrive 0x0401 c) s
def execProfileSelect (t : Nat) (c : HostCopy) (s : State) : Host.Outcome State Fault Refusal := run t (fun u => u.hostArrive 0x0402 c) s
def execStageOpen (t : Nat) (c : HostCopy) (s : State) : Host.Outcome State Fault Refusal := run t (fun u => u.hostArrive 0x0403 c) s
def execStageWrite (t : Nat) (c : HostCopy) (s : State) : Host.Outcome State Fault Refusal := run t (fun u => u.hostArrive 0x0404 c) s
def execStageVerify (t : Nat) (c : HostCopy) (s : State) : Host.Outcome State Fault Refusal := run t (fun u => u.hostArrive 0x0405 c) s
def execChangeArm (t : Nat) (c : HostCopy) (s : State) : Host.Outcome State Fault Refusal := run t (fun u => u.hostArrive 0x0406 c) s
def execChangeAbort (t : Nat) (c : HostCopy) (s : State) : Host.Outcome State Fault Refusal := run t (fun u => u.hostArrive 0x0407 c) s
def execParamWrite (t : Nat) (c : HostCopy) (s : State) : Host.Outcome State Fault Refusal := run t (fun u => u.hostArrive 0x0408 c) s
def execParamRead (t : Nat) (c : HostCopy) (s : State) : Host.Outcome State Fault Refusal := run t (fun u => u.hostArrive 0x0409 c) s
def execPowerStateSet (t : Nat) (c : HostCopy) (s : State) : Host.Outcome State Fault Refusal := run t (fun u => u.hostArrive 0x0501 c) s
def execDuskRun (t : Nat) (c : HostCopy) (s : State) : Host.Outcome State Fault Refusal := run t (fun u => u.hostArrive 0x0502 c) s
def execRepairFuse (t : Nat) (c : HostCopy) (s : State) : Host.Outcome State Fault Refusal := run t (fun u => u.hostArrive 0x0503 c) s
def execAlmanacCursor (t : Nat) (c : HostCopy) (s : State) : Host.Outcome State Fault Refusal := run t (fun u => u.hostArrive 0x0601 c) s
def execAlmanacRead (t : Nat) (c : HostCopy) (s : State) : Host.Outcome State Fault Refusal := run t (fun u => u.hostArrive 0x0602 c) s
def execAlmanacQuota (t : Nat) (c : HostCopy) (s : State) : Host.Outcome State Fault Refusal := run t (fun u => u.hostArrive 0x0603 c) s
def execTimeSet (t : Nat) (c : HostCopy) (s : State) : Host.Outcome State Fault Refusal := run t (fun u => u.hostArrive 0x0604 c) s
def execIdentityRead (t : Nat) (c : HostCopy) (s : State) : Host.Outcome State Fault Refusal := run t (fun u => u.hostArrive 0x0701 c) s
def execAttestQuote (t : Nat) (c : HostCopy) (s : State) : Host.Outcome State Fault Refusal := run t (fun u => u.hostArrive 0x0702 c) s
def execKeyListUpdate (t : Nat) (c : HostCopy) (s : State) : Host.Outcome State Fault Refusal := run t (fun u => u.hostArrive 0x0703 c) s
def execConstellationRequest (t : Nat) (c : HostCopy) (s : State) : Host.Outcome State Fault Refusal := run t (fun u => u.hostArrive 0x0801 c) s
def execNdezoStatus (t : Nat) (c : HostCopy) (s : State) : Host.Outcome State Fault Refusal := run t (fun u => u.hostArrive 0x0802 c) s
def execPortEnable (t : Nat) (c : HostCopy) (s : State) : Host.Outcome State Fault Refusal := run t (fun u => u.hostArrive 0x0803 c) s
def execPairStatus (t : Nat) (c : HostCopy) (s : State) : Host.Outcome State Fault Refusal := run t (fun u => u.hostArrive 0x0901 c) s
def execSwitchover (t : Nat) (c : HostCopy) (s : State) : Host.Outcome State Fault Refusal := run t (fun u => u.hostArrive 0x0902 c) s
def execStandbySync (t : Nat) (c : HostCopy) (s : State) : Host.Outcome State Fault Refusal := run t (fun u => u.hostArrive 0x0903 c) s
def execArbControl (t : Nat) (c : HostCopy) (s : State) : Host.Outcome State Fault Refusal := run t (fun u => u.hostArrive 0x0A01 c) s
def execArbCounters (t : Nat) (c : HostCopy) (s : State) : Host.Outcome State Fault Refusal := run t (fun u => u.hostArrive 0x0A02 c) s
def execXramRead (t : Nat) (c : HostCopy) (s : State) : Host.Outcome State Fault Refusal := run t (fun u => u.hostArrive 0x0A03 c) s
def execXramWrite (t : Nat) (c : HostCopy) (s : State) : Host.Outcome State Fault Refusal := run t (fun u => u.hostArrive 0x0A04 c) s
def execXramAtomic (t : Nat) (c : HostCopy) (s : State) : Host.Outcome State Fault Refusal := run t (fun u => u.hostArrive 0x0A05 c) s
def execLaneDiag (t : Nat) (c : HostCopy) (s : State) : Host.Outcome State Fault Refusal := run t (fun u => u.hostArrive 0x0A06 c) s
def execLaneReintegrate (t : Nat) (c : HostCopy) (s : State) : Host.Outcome State Fault Refusal := run t (fun u => u.hostArrive 0x0A07 c) s

/-- HOST_COPY_REJECTED: a raw datagram at a host port. -/
def execHostCopyRejected (t : Nat) (d : Datagram) (s : State) : Host.Outcome State Fault Refusal :=
  run t (fun u => u.hostArrive (rd16 d.payload 8) (datagramCopy d)) s

/-- SKEW_WINDOW_EXPIRY. -/
def execSkewWindowExpiry (t : Nat) (key : RecKey) (s : State) : Host.Outcome State Fault Refusal := run t (fun u => u.lapseDue.expireRec key) s

end Sys2Proof.Machine
end

