-- ==== Sys2Proof/Machine/Ki40.lean ====
section
/-! DEFINITION. The KI-40 host interface (17): telegrams, opcodes and statuses of Tables 17.2 to 17.5, held replies, DATA_LOAD and
EVENT_READ. -/

namespace Sys2Proof.Machine

/-! ## Telegrams (Table 17.2) -/

/-- Bytes 0 to 59 of a command. -/
def ki40Head (op : Nat) (c : Ki40Copy) : Bytes :=
  b8 0xC1 ++ b8 op ++ b16 c.seq ++ b8 c.status ++ b8 c.flags ++ b16 c.station ++ b32 c.cycle ++ slice c.params 0 48

/-- The opcodes of Table 17.4: their class and native equivalent; DATA_LOAD and EVENT_READ have none. -/
def ki40Table : List (Nat × (OpClass × Nat)) :=
  [(0x01, (.query, 0x0302)), (0x02, (.permissive, 0x0101)), (0x03, (.restrictive, 0x0102)), (0x04, (.permissive, 0x0103)),
   (0x05, (.restrictive, 0x0105)), (0x06, (.restrictive, 0x0106)), (0x07, (.permissive, 0x0201)), (0x08, (.restrictive, 0x0202)),
   (0x09, (.permissive, 0x0203)), (0x0A, (.permissive, 0x0204)), (0x0B, (.query, 0x0104)), (0x0C, (.query, 0x0205)),
   (0x0D, (.permissive, 0x0401)), (0x0E, (.permissive, 0x0501)), (0x10, (.query, 0)), (0x11, (.permissive, 0x0604)), (0x20, (.permissive, 0))]

/-- The bits of PARAMS that an opcode uses; the others are zero (Table 17.2), bits 15:9 of an element number among them (R601). -/
def ki40Used (op : Nat) : Nat :=
  if op = 0x02 ∨ op = 0x03 ∨ op = 0x04 ∨ op = 0x0D then 0xFF
  else if op = 0x05 ∨ op = 0x08 ∨ op = 0x0A ∨ op = 0x0E then 0x1FF
  else if op = 0x07 ∨ op = 0x0C then 0xFF01FF
  else if op = 0x09 then 0x1FF01FF
  else if op = 0x0B then 0xFFFF
  else if op = 0x10 then 0xFFFFFFFF
  else if op = 0x11 then 0xFFFFFFFFFFFFFFFF
  else if op = 0x20 then 0xFFFFFFFFFFFFFFFFFFFFFFFF000000FF
  else 0

/-- R14 and R15 on a KI-40 command: STATUS, byte 5 and CYCLE are 0, and so is every unused bit of PARAMS. -/
def ki40FieldsOk (op : Nat) (c : Ki40Copy) : Bool :=
  c.status == 0 && c.flags == 0 && c.cycle == 0 &&
  ((ki40Table.find? (fun r => r.1 == op)).isNone || (leNat (slice c.params 0 48) &&& ki40Used op) == leNat (slice c.params 0 48))

/-- The parameters of the native equivalent. A MODE other than 0 and 1 is a value that MODE_SET does not have. -/
def ki40Native (op : Nat) (p : Bytes) : Bytes :=
  if op = 0x02 ∨ op = 0x03 ∨ op = 0x04 then b16 (rd8 p 0) ++ zeros 2
  else if op = 0x05 ∨ op = 0x08 ∨ op = 0x0A then b16 (rd16 p 0) ++ zeros 2
  else if op = 0x07 then b16 (rd16 p 0) ++ b8 (rd8 p 2) ++ zeros 1
  else if op = 0x09 then b16 (rd16 p 0) ++ b16 (rd16 p 2)
  else if op = 0x0D then b8 (if rd8 p 0 ≤ 1 then rd8 p 0 else 0xFF) ++ zeros 39
  else if op = 0x0E then b8 (rd8 p 0) ++ b8 (rd8 p 1) ++ zeros 2
  else if op = 0x11 then slice p 0 8
  else if op = 0x20 then p
  else []

/-! ## Replies -/

/-- The stamp by which a copy is judged (log entry 38). -/
def State.ki40Stamp (s : State) (c : Ki40Copy) : Nat := c.stamps.get s.lead

/-- A reply to a copy, held from the last byte of that copy (R599). -/
def State.ki40Reply (s : State) (op : Nat) (c : Ki40Copy) (net : Net) (repeated : Bool) (status cycle : Nat) (data : Bytes) : State :=
  s.holdReply
    { net := net, ki40 := true, repeated := repeated, late := false, oneLane := false, session := 0, seq := c.seq, opcode := op, originId := 0,
      reqSnap := cycle, hostTime := 0, status := status, snapshot := cycle, data := data,
      path := if net = c.net then some c.path else if net = .y then s.ki40.pathY else s.ki40.pathX, bytes := [], decided := s.ki40Stamp c }

/-- A copy is refused on its own network. -/
def State.ki40Refuse (s : State) (op : Nat) (c : Ki40Copy) (status : Nat) : State :=
  s.ki40Reply op c c.net false status s.ki40Cycle []

/-- The replies of a decision. -/
def State.ki40Answer (s : State) (op : Nat) (c : Ki40Copy) (nets : List Net) (status cycle : Nat) (data : Bytes) : State :=
  nets.foldl (fun u n => u.ki40Reply op c n false status cycle data) s

/-! ## Queries -/

/-- The view from which replies are built (R602): before the first cycle start that of the present state. -/
def State.ki40View (s : State) : Ki40View := s.ki40.view.getD (s.ki40ViewOf s.ki40Cycle)

/-- STATUS (R603). -/
def Ki40View.statusData (v : Ki40View) : Bytes :=
  b8 v.snapshot.power.code ++ b8 v.snapshot.mode.code ++ b8 v.snapshot.degradation.code ++ b8 v.flags ++
  b16 (v.routes.filter (fun p => p.2.state.isActive)).length ++ b8 v.load ++ b8 v.loadCheck ++ b64 v.snapshot.wall ++ b64 v.image

/-- ROUTE_QUERY: one byte for each route. -/
def Ki40View.routeData (v : Ki40View) (first n : Nat) : Bytes :=
  b8 first ++ b8 n ++ zeros 2 ++ ((List.range n).map (fun k =>
    let x := assocD v.routes (first + k) RouteEntry.idle
    b8 (x.state.code + 16 * x.reason))).flatten

/-- ELEMENT_QUERY: nibbles, the even element in bits 3:0. -/
def Ki40View.elementData (v : Ki40View) (first n : Nat) : Bytes :=
  b16 first ++ b8 n ++ zeros 1 ++ ((List.range ((n + 1) / 2)).map (fun k =>
    b8 (v.snapshot.nibble (first + 2 * k) + (if 2 * k + 1 < n then 16 * v.snapshot.nibble (first + 2 * k + 1) else 0)))).flatten

/-- EVENT_READ (R612): up to three KI-40 events whose SEQ bits 31:0 are FROM or higher; NEXT follows the last of them. GAP says that FROM
lies below OLDEST (R522). -/
def State.eventData (s : State) (start : Nat) : Bytes :=
  let es := (s.readable.filter (fun r => decide (0x0A00 < r.code) && decide (r.code ≤ 0x0A0A) && decide (start ≤ r.seq % 2 ^ 32))).take 3
  let next := (es.getLast?.map (fun (r : Record) => (r.seq + 1) % 2 ^ 32)).getD start
  b32 next ++ b8 es.length ++ b8 (flag (decide (start < s.oldestRecord % 2 ^ 32))) ++ zeros 2 ++
    (es.map (fun r => b32 r.seq ++ b64 r.payload.toNat)).flatten

/-- The status and the data of a query. -/
def State.ki40Query (s : State) (op : Nat) (p : Bytes) : Nat × Bytes :=
  let v := s.ki40View
  if op = 0x01 then (ki40Status stOk, v.statusData)
  else if op = 0x0B then
    let first := rd8 p 0
    let n := rd8 p 1
    if n = 0 ∨ 44 < n ∨ 256 < first + n then (ki40Status stBadParam, []) else (ki40Status stOk, v.routeData first n)
  else if op = 0x0C then
    let first := rd16 p 0
    let n := rd8 p 2
    if n = 0 ∨ 88 < n ∨ 512 < first + n then (ki40Status stBadParam, []) else (ki40Status stOk, v.elementData first n)
  else (ki40Status stOk, s.eventData (rd32 p 0))

/-! ## DATA_LOAD (R605) -/

/-- OFFSET, LENGTH and XRAM_OFFSET as Table 10.11 has them for SOURCE 1. -/
def loadParamsOk (p : Bytes) : Bool := stageWriteOk (b8 0 ++ b8 1 ++ zeros 2 ++ slice p 4 12)

/-- PHASE 0: the load region is zero-filled with OFFSET 0, and the copy starts. -/
def State.beginLoad (s : State) (c : Cmd) : State :=
  let off := rd32 c.params 4
  let s1 := if off = 0 then s.setRegion (s.stagingRegion 0) [] 0 67108864 else s
  let claim := s1.claimGuard
  { claim.1 with ki40 := { claim.1.ki40 with
      load := 1
      loadCheck := 0
      loadHigh := if off = 0 then 0 else s.ki40.loadHigh
      loadCopy := some { offset := off, length := rd32 c.params 8, xram := rd32 c.params 12, since := s.now, guarded := claim.2, abandoned := false,
                         key := some c.key, touched := [] } } }

/-- DATA_LOAD. While a copy or an admission runs it is refused as STAGE_WRITE is (DESIGN CHOICE, log entry 46). -/
def State.acceptDataLoad (s : State) (c : Cmd) : Acc :=
  let phase := rd8 c.params 0
  firstOf [(!s.sealClosed 15, stSeal), (decide (1 < phase) || (phase == 0 && !loadParamsOk c.params), stBadParam),
     (s.control.power != .idle || s.ki40.loadCopy.isSome || s.ki40.load == 2, stState)] s
    ((if phase = 0 then s.beginLoad c else { s with ki40 := { s.ki40 with load := 2 } }).acc stAccepted)

/-- The copy of a DATA_LOAD is complete. -/
def State.loadCopied (s : State) (g : CopyRun) : State :=
  let region := Mem.store (s.images.stagingMem 0) g.offset (s.copiedBytes g)
  let s1 := ({ s with freeCtr := s.freeCtr + g.length }).setRegion (s.stagingRegion 0) region g.offset g.length
  ({ s1 with ki40 := { s1.ki40 with
      loadCopy := none
      loadHigh := max s1.ki40.loadHigh (g.offset + g.length) } }.releaseGuard g).settledAll g.key.toList

def State.loadCopyComplete (s : State) : State :=
  match s.ki40.loadCopy with
  | none => s
  | some g =>
    let u := s.unguard g
    match u.1.guardFor u.2 with
    | none => s
    | some r => r.1.loadCopied r.2

/-- DATA_LOAD_COPY_COMPLETE. -/
def execDataLoadCopyComplete (t : Nat) (s : State) : Host.Outcome State Fault Refusal := run t State.loadCopyComplete s

/-- The load region is admitted and written to profile slot 0, or not. Where no two lanes agree the check number is free. The load region is no
staging slot (R605), and Table 14.4 has no slot number for it: the ADMISSION record of a failed load names slot 4, which numbers staging slot 0
(R85; DESIGN CHOICE, log entry 145). -/
def State.settleLoad (s : State) (agreed : Bool) : State :=
  let m := s.images.stagingMem 0
  let found := admission m s.ki40.loadHigh s.trustedKeys s.identity.part true true
  let check := if agreed then found else s.freeCheck
  let s1 := if agreed then s else s.drawn
  let kept := m.cutToImage
  let region := (s.images.profiles.getD 0 { region := 6, status := .empty, hash := [] }).region
  if check = 0 then
    let s2 := s1.setRegion region kept 0 67108864
    { s2 with
      images := { s2.images with
        flash := listSet s2.images.flash region kept
        profiles := listMod s2.images.profiles 0 (fun p => { p with
          status := .valid
          hash := imageHash m }) }
      ki40 := { s2.ki40 with
        load := 3
        loadCheck := 0 } }
  else
    ({ s1 with ki40 := { s1.ki40 with
        load := 4
        loadCheck := check } }).admissionEvent 4 check (imgId m)

/-- KI40_LOAD_COMPLETE. -/
def execKi40LoadComplete (t : Nat) (outcome : Agreement) (s : State) : Host.Outcome State Fault Refusal :=
  run t (fun s => if s.ki40.load = 2 then (s.settleLoad (s.twoAgree outcome)).chargeOdd outcome else s) s

/-! ## Decisions (R598) -/

/-- A record for the first copy of a command. -/
def State.newKi40Rec (s : State) (op : Nat) (c : Ki40Copy) : HostRec :=
  { key := .ki40 c.seq, session := 0, opcode := op, originId := op * 2 ^ 24 + c.seq, net := c.net, bytes := ki40Head op c,
    opened := s.ki40Stamp c, window := 1000 * s.param 5, decisions := [], decidedAt := 0, outstanding := true, pathX := none, pathY := none }

def State.openKi40 (s : State) (op : Nat) (c : Ki40Copy) : State :=
  { s with host := { s.host with recs := s.host.recs ++ [s.newKi40Rec op c] } }

/-- The last 32 decided records are kept, beside those that are open or whose command may still be discarded. -/
def State.trimKi40 (s : State) : State :=
  let ds := s.host.recs.filter (fun r => r.isKi40 && !r.isOpen)
  { s with host := { s.host with recs := s.host.recs.filter (fun r =>
      !r.isKi40 || r.isOpen || r.outstanding || decide ((ds.filter (fun x => decide (r.decidedAt < x.decidedAt))).length < 32)) } }

/-- The command of a copy (R612: OPERATOR, session 0, host 0). -/
def ki40Cmd (op native : Nat) (c : Ki40Copy) (content : Option Word) : Cmd :=
  { opcode := native, key := decideKey (.ki40 c.seq) content, content := content, cls := .operator, session := 0, hostId := 0, originId := op * 2 ^ 24 + c.seq,
    seq := c.seq, net := c.net, params := ki40Native op (slice c.params 0 48), stamps := c.stamps, paths := [] }

/-- The reply data of an accepted command: POINT_UNBLOCK has COUNT. -/
def ki40Data (op : Nat) (a : Acc) : Bytes := if op = 0x09 then slice a.data 0 2 else []

/-- The acceptance checks of the native equivalent, the decision, its replies and its COMMAND record. -/
def State.ki40Decide (s : State) (op native : Nat) (c : Ki40Copy) (content : Option Word) : State :=
  let cmd := ki40Cmd op native c content
  let a := if op = 0x20 then s.acceptDataLoad cmd else s.accept cmd
  let taken := a.status == stOk || a.status == stAccepted
  let data := if taken then ki40Data op a else []
  let s1 := a.st.putDecision cmd.key (if op = 0x20 ∧ rd8 c.params 0 = 0 then 0x0404 else native)
    { status := ki40Status a.status, snapshot := s.ki40Cycle, data := data, bytes := ki40Head op c }
  let s2 := s1.trimKi40.ki40Answer op c [.x, .y] (ki40Status a.status) s.ki40Cycle data
  if taken && recordsCommand native cmd.params then
    s2.event 0x0606 Origin.ki40 [(24, 2, native), (26, 2, rd16 cmd.params 0), (28, 4, cmd.originId)]
  else s2

/-- A copy is decided with a rejection of the network rule, on both networks. -/
def State.ki40Reject (s : State) (op : Nat) (c : Ki40Copy) (bytes : Bytes) (status : Nat) : State :=
  let s1 := s.putDecision (.ki40 c.seq) 0
    { status := ki40Status status, snapshot := s.ki40Cycle, data := [], bytes := bytes }
  s1.trimKi40.ki40Answer op c [.x, .y] (ki40Status status) s.ki40Cycle []

/-- A copy that differs from what its record holds. -/
def State.ki40Differ (s : State) (c : Ki40Copy) (r : HostRec) : State :=
  (s.countNet c.net (fun k => { k with copyDiffer := inc k.copyDiffer })).hostCopyEvent 1 r

/-- A restrictive copy is acted on as a new command under a record of its own (R341, R598). -/
def State.ki40Anew (s : State) (op native : Nat) (c : Ki40Copy) (x : Word) : State :=
  ({ s with host := { s.host with recs := s.host.recs ++ [{ s.newKi40Rec op c with key := .ki40Anew c.seq x }] } } : State).ki40Decide op native c (some x)

/-- A copy that finds a record (Table 9.6 with R598). -/
def State.ki40Later (s : State) (op native : Nat) (cls : OpClass) (c : Ki40Copy) (r : HostRec) : State :=
  let bytes := ki40Head op c
  match s.decisionOf r.key bytes with
  | some d => (s.countNet c.net (fun k => { k with repeats := inc k.repeats })).ki40Reply op c c.net true d.status d.snapshot d.data
  | none =>
    if cls = .restrictive then (s.ki40Differ c r).ki40Anew op native c (crc32c bytes)
    else if r.isOpen = true then
      if c.net = r.net then s.countNet c.net (fun k => { k with dupNet := inc k.dupNet })
      else if bytes = r.bytes then s.ki40Decide op native c none
      else ((s.hostCopyEvent 0 r).ki40Differ c r).ki40Reject op c r.bytes stSingle
    else (s.ki40Differ c r).ki40Refuse op c (ki40Status stSeq)

/-- The network rule on a permissive or restrictive copy. -/
def State.ki40Compare (s : State) (op native : Nat) (cls : OpClass) (c : Ki40Copy) : State :=
  let s1 := match s.recOf (.ki40 c.seq) with
    | some r => if r.isOpen = true ∧ r.opened + r.window ≤ s.ki40Stamp c then ({ s with now := max s.now (s.ki40Stamp c) }).expireRec r.key else s
    | none => s
  match s1.recOf (.ki40 c.seq) with
  | none => if cls = .restrictive then (s1.openKi40 op c).ki40Decide op native c none else s1.openKi40 op c
  | some r => s1.ki40Later op native cls c r

/-! ## Arrival -/

/-- R339: a copy whose check values pass sets the return path of its network. -/
def State.ki40Heard (s : State) (c : Ki40Copy) : State :=
  if c.net = .y then { s with ki40 := { s.ki40 with pathY := some c.path } } else { s with ki40 := { s.ki40 with pathX := some c.path } }

/-- A copy that has passed R595 is checked (R596, R597) and decided. -/
def State.ki40Judge (s : State) (op : Nat) (c : Ki40Copy) : State :=
  let h := ki40Head op c
  let r := s.checkTelegram s.answering 1 c.path.port 0x10000 0 (c.crcC == crcC h) (c.crcT == crcT h) c.rx
  if r.2 = false then r.1.mapVoting (fun l => { l with counters := l.counters.badCheck c.net })
  else
    let s1 := r.1.ki40Heard c
    if s1.control.phase ≠ .running then s1.ki40Refuse op c (ki40Status stBusy)
    else if ki40FieldsOk op c = false then s1.ki40Refuse op c (ki40Status stBadParam)
    else
      match ki40Table.find? (fun x => x.1 == op) with
      | none => s1.ki40Refuse op c (ki40Status stUnknown)
      | some (_, cls, native) =>
        let s2 := s1.countNet c.net (fun k => { k with copies := inc k.copies })
        if cls = .query then
          let q := s2.ki40Query op (slice c.params 0 48)
          s2.ki40Reply op c c.net false q.1 s2.ki40Cycle q.2
        else s2.ki40Compare op native cls c

def ki40Restrictive (op : Nat) : Bool := (ki40Table.find? (fun x => x.1 == op)).any (fun x => x.2.1 == .restrictive)

/-- R600: at most 64 copies wait. -/
def State.ki40Queue (s : State) (op : Nat) (c : Ki40Copy) : State :=
  if s.ki40.waiting.length < 64 then { s with ki40 := { s.ki40 with waiting := s.ki40.waiting ++ [(op, c)] } }
  else s.overrunCopy c.net (ki40Restrictive op)

/-- A telegram to UDP port 5040 arrives. Only HX0 and HY0 (ports 48 and 52) serve it, in KI-40 mode; in native mode, and on the service
port, the port number is another (check 1 of Table 9.4). A telegram of another length or station is discarded (R595). -/
def State.ki40Arrive (s : State) (op : Nat) (lengthOk : Bool) (c : Ki40Copy) : State :=
  if s.answers = false ∨ (c.net ≠ .service ∧ s.sealBank.nodeKnown = false) then s
  else if s.sealBank.ki40 = false ∨ c.net = .service then s.countNet c.net (fun k => { k with ipDrop := inc k.ipDrop })
  else if c.path.port ≠ 48 ∧ c.path.port ≠ 52 then s
  else if lengthOk = false ∨ c.station ≠ s.node then s.countNet c.net (fun k => { k with malformed := inc k.malformed })
  else
    let s1 := s.lapseDue.countArrival
    if s1.crowded || !s1.ki40.waiting.isEmpty then s1.ki40Queue op c else s1.ki40Judge op c

/-- A command of Table 17.4 arrives. -/
def State.ki40Copy (s : State) (op : Nat) (c : Ki40Copy) : State := s.ki40Arrive op (c.params.length == 48) c

/-- What a datagram says, read as Table 17.2. -/
def ki40OfDatagram (d : Datagram) : Ki40Copy :=
  let p := d.payload
  { net := d.net, path := d.path, stamps := d.stamps, seq := rd16 p 2, status := rd8 p 4, flags := rd8 p 5, station := rd16 p 6, cycle := rd32 p 8,
    params := slice p 12 48, crcC := BitVec.ofNat 16 (rd16 p 60), crcT := BitVec.ofNat 16 (rd16 p 62), rx := d.rx }

/-- A raw datagram to the KI-40 port. -/
def State.ki40Datagram (s : State) (d : Datagram) : State :=
  if d.ownPort = false then
    if s.answers = true ∧ (d.net = .service ∨ (s.sealBank.nodeKnown = true ∧ (s.sealBank.ki40 = false ∨ d.path.port = 48 ∨ d.path.port = 52))) then
      s.countNet d.net (fun k => { k with ipDrop := inc k.ipDrop })
    else s
  else s.ki40Arrive (rd8 d.payload 1) (d.payload.length == 64 && rd8 d.payload 0 == 0xC1) (ki40OfDatagram d)

/-- COPY_DEQUEUED (R345, R600): a KI-40 copy first, else a native one. -/
def State.dequeue (s : State) : State :=
  match s.ki40.waiting with
  | (op, c) :: rest =>
    ({ s with
        ki40 := { s.ki40 with waiting := rest }
        host := { s.host with
          overrunX := false
          overrunY := false } }).lapseDue.ki40Judge op c
  | [] => s.dequeueCopy

def execCopyDequeued (t : Nat) (s : State) : Host.Outcome State Fault Refusal := run t State.dequeue s

/-! ## Held replies and cycles -/

/-- R599: the replies whose window [t + 2 ms, t + 4 ms) is open are sent; those whose window has passed are not. -/
def State.releaseHeld (s : State) : State :=
  let due := s.ki40.held.filter (fun r => decide (r.decided + 2 * ms ≤ s.now) && decide (s.now < r.decided + 4 * ms))
  let s1 : State := { s with ki40 := { s.ki40 with held := s.ki40.held.filter (fun r => decide (s.now < r.decided + 2 * ms)) } }
  due.foldl (fun u r => u.reply { r with decided := s.now }) s1

/-- KI40_REPLY_WINDOW. -/
def execKi40ReplyWindow (t : Nat) (s : State) : Host.Outcome State Fault Refusal := run t State.releaseHeld s

/-- R602: a KI-40 cycle starts at a whole multiple of 50 ms. -/
def State.startCycle (s : State) : State :=
  if s.control.phase = .running ∧ s.sealBank.ki40 = true ∧ s.now % ki40Period = 0 then
    ({ s with ki40 := { s.ki40 with cycle := s.now / ki40Period } }).captureCycle
  else s

/-- KI40_CYCLE_START. -/
def execKi40CycleStart (t : Nat) (s : State) : Host.Outcome State Fault Refusal := run t State.startCycle s

/-! ## The commands -/

def execKi40Status (t : Nat) (c : Ki40Copy) (s : State) : Host.Outcome State Fault Refusal := run t (fun u => u.ki40Copy 0x01 c) s
def execKi40RouteSet (t : Nat) (c : Ki40Copy) (s : State) : Host.Outcome State Fault Refusal := run t (fun u => u.ki40Copy 0x02 c) s
def execKi40RouteCancel (t : Nat) (c : Ki40Copy) (s : State) : Host.Outcome State Fault Refusal := run t (fun u => u.ki40Copy 0x03 c) s
def execKi40RouteReleaseTimed (t : Nat) (c : Ki40Copy) (s : State) : Host.Outcome State Fault Refusal := run t (fun u => u.ki40Copy 0x04 c) s
def execKi40SignalStop (t : Nat) (c : Ki40Copy) (s : State) : Host.Outcome State Fault Refusal := run t (fun u => u.ki40Copy 0x05 c) s
def execKi40AllStop (t : Nat) (c : Ki40Copy) (s : State) : Host.Outcome State Fault Refusal := run t (fun u => u.ki40Copy 0x06 c) s
def execKi40PointMove (t : Nat) (c : Ki40Copy) (s : State) : Host.Outcome State Fault Refusal := run t (fun u => u.ki40Copy 0x07 c) s
def execKi40PointBlock (t : Nat) (c : Ki40Copy) (s : State) : Host.Outcome State Fault Refusal := run t (fun u => u.ki40Copy 0x08 c) s
def execKi40PointUnblock (t : Nat) (c : Ki40Copy) (s : State) : Host.Outcome State Fault Refusal := run t (fun u => u.ki40Copy 0x09 c) s
def execKi40SectionReset (t : Nat) (c : Ki40Copy) (s : State) : Host.Outcome State Fault Refusal := run t (fun u => u.ki40Copy 0x0A c) s
def execKi40RouteQuery (t : Nat) (c : Ki40Copy) (s : State) : Host.Outcome State Fault Refusal := run t (fun u => u.ki40Copy 0x0B c) s
def execKi40ElementQuery (t : Nat) (c : Ki40Copy) (s : State) : Host.Outcome State Fault Refusal := run t (fun u => u.ki40Copy 0x0C c) s
def execKi40Mode (t : Nat) (c : Ki40Copy) (s : State) : Host.Outcome State Fault Refusal := run t (fun u => u.ki40Copy 0x0D c) s
def execKi40Power (t : Nat) (c : Ki40Copy) (s : State) : Host.Outcome State Fault Refusal := run t (fun u => u.ki40Copy 0x0E c) s
def execEventRead (t : Nat) (c : Ki40Copy) (s : State) : Host.Outcome State Fault Refusal := run t (fun u => u.ki40Copy 0x10 c) s
def execKi40TimeSet (t : Nat) (c : Ki40Copy) (s : State) : Host.Outcome State Fault Refusal := run t (fun u => u.ki40Copy 0x11 c) s
def execDataLoadPhase0 (t : Nat) (c : Ki40Copy) (s : State) : Host.Outcome State Fault Refusal := run t (fun u => u.ki40Copy 0x20 c) s
def execDataLoadPhase1 (t : Nat) (c : Ki40Copy) (s : State) : Host.Outcome State Fault Refusal := run t (fun u => u.ki40Copy 0x20 c) s

/-- KI40_DATAGRAM_DISCARDED: a raw datagram. -/
def execKi40DatagramDiscarded (t : Nat) (d : Datagram) (s : State) : Host.Outcome State Fault Refusal := run t (fun u => u.ki40Datagram d) s

end Sys2Proof.Machine
end

