-- ==== Sys2Proof/Machine/Ki40Field.lean ====
section
/-! DEFINITION. KI-40 field polling (R607 to R610) and ARP (R328). -/

namespace Sys2Proof.Machine

/-! ## Poll rounds (R609) -/

/-- The length of a poll round. -/
def pollPeriod : Nat := 20 * ms

/-- Does the module poll: in KI-40 mode, in WARM, LIVE and Nadir (R592)? -/
def State.polls (s : State) : Bool := s.hasImage && s.sealBank.ki40

/-- A poll round starts, and the round before it is complete. -/
def State.startRound (s : State) : State :=
  if s.polls = true ∧ s.now % pollPeriod = 0 then
    { s with ki40 := { s.ki40 with
        round := s.now / pollPeriod
        roundStart := s.now
        pollDone := s.ki40.pollDone || s.ki40.polled
        polled := true } }
  else s

/-- POLL_ROUND_START. -/
def execPollRoundStart (t : Nat) (s : State) : Host.Outcome State Fault Refusal := run t State.startRound s

/-- P of port Fk in the present round. -/
def State.pollInstant (s : State) (port : Nat) : Nat := s.ki40.roundStart + ms * port + 500000

def outId (port : Nat) : Nat := 0x200 + port
def inId (port : Nat) : Nat := 0x100 + port

/-- The latest snapshot committed at or before P − 20 µs. -/
def State.pollSnapshot (s : State) (p : Nat) : Snapshot := (s.snapshots.find? (fun x => decide (x.commitAt + 20000 ≤ p))).getD Snapshot.none

/-- DATA of a POLL: the command fields of the outgoing stream. -/
def State.pollPayload (s : State) (p : Snapshot) (port : Nat) : BitVec 8192 :=
  let q := if p.restricted then (restrictGroups (0, p.payloads) ((groups s.img).filter (fun g => g.kind == 1))).2 else p.payloads
  assocD q (outId port) 0

/-- LIVE of a POLL (R324, R436): that of its snapshot. -/
def State.pollLive (s : State) (p : Snapshot) : Bool :=
  !p.restricted && s.safeIo.supply == .isClosed && decide (s.safeIo.closedAt ≤ p.commitAt)

/-- Bytes 14 to 55 of a POLL or an ANSWER (Table 17.6). -/
def pollHead (type oc pollNo : Nat) (live : Bool) (station : Nat) (data : Bytes) : Bytes :=
  b8 type ++ b8 0 ++ b16 oc ++ b16 pollNo ++ b8 (flag live) ++ b8 0 ++ b16 station ++ slice data 0 32

/-- R228 on a POLL: its snapshot has been committed within the last two T0 periods before P. -/
def State.pollFresh (s : State) (port : Nat) : Bool :=
  s.snapshots != [] && decide (s.pollInstant port ≤ (s.pollSnapshot (s.pollInstant port)).commitAt + 2 * s.t0)

/-- POLL: the frame of a port leaves at P, and its answer is awaited. -/
def State.sendPoll (s : State) (port : Nat) : State :=
  let p := s.pollInstant port
  match outStream s.img (outId port) with
  | none => s
  | some x =>
    if s.polls && decide (port < 16) && s.ki40.polled && s.control.degradation != .oneLane && s.pollFresh port && decide (p ≤ s.now) &&
        decide (s.now < s.ki40.roundStart + pollPeriod) then
      let snap := s.pollSnapshot p
      let data := s.pollPayload snap port
      let no := s.ki40.round % 65536
      let h := pollHead 0x31 x.peer no (s.pollLive snap) s.node (payloadBytes data 32)
      let s1 := s.mapLanes (fun l => l.modStream (inId port) (fun y => { y with
        accepted := false
        isClosed := false
        aged := false }))
      ({ s1 with ki40 := { s1.ki40 with pollAt := assocSet s1.ki40.pollAt port p } }).sendVia port
        (.poll port no (s.pollLive snap) data (crcC h) (crcT h))
    else s

def execPoll (t : Nat) (port : Nat) (s : State) : Host.Outcome State Fault Refusal := run t (fun s => s.sendPoll port) s

/-! ## Answers (R610) -/

/-- What an answer fails before its check values. -/
inductive AnswerCheck where
  | stray | early | late | trunc | fcs | header | passes
deriving DecidableEq, Repr

def State.checkAnswer (s : State) (port : Nat) (f : AnswerFrame) : AnswerCheck :=
  if (assoc s.ki40.pollAt port).isNone then .stray
  else if f.offset < 20000 then .early
  else if 900000 ≤ f.offset then .late
  else if f.lengthOk = false then .trunc
  else if f.fcsOk = false then .fcs
  else if f.type = 0x32 ∧ some f.oc = (inStream s.img (inId port)).map (·.peer) ∧ f.pollNo = s.ki40.round % 65536 ∧ f.station = s.node then .passes
  else .header

/-- The counters of a port. -/
def AnswerCheck.count (r : AnswerCheck) (c : PortCounters) : PortCounters :=
  match r with
  | .stray => { c with stray := inc c.stray }
  | .early => { c with windowEarly := inc c.windowEarly }
  | .late => { c with windowLate := inc c.windowLate }
  | .trunc => { c with trunc := inc c.trunc }
  | .fcs => { c with fcs := inc c.fcs }
  | .header => { c with header := inc c.header }
  | .passes => c

/-- An accepted answer fills the buffers of the stream in the voting lanes and in a lane in SHADOW (R282). -/
def State.fillAnswer (s : State) (port : Nat) (f : AnswerFrame) : State :=
  let data := payloadOf (slice f.data 0 32)
  (s.voting.flatMap s.followers).foldl (fun (u : State) j =>
    (u.payloadIn j (inId port) data (s.laneTime j)).modLane j (fun l => l.modStream (inId port) (fun x => x.fill data (s.laneTime j)))) s

/-- An answer that passes the header is judged by the check units. -/
def State.judgeAnswer (s : State) (port : Nat) (f : AnswerFrame) : State :=
  let h := pollHead f.type f.oc f.pollNo f.live f.station f.data
  let r := s.checkTelegram s.unexcluded 0 port (inId port) (inId port) (f.crcC == crcC h) (f.crcT == crcT h) f.rx
  if r.2 = false then
    let s1 := r.1.countPort port (fun c => { c with check := inc c.check })
    s1.mapVoting (fun l => l.modStream (inId port) (fun x => { x with check := inc x.check }))
  else
    let s1 := r.1.countPort port (fun c => { c with rxOk := inc c.rxOk })
    if s.leadLane.inputs.streams.any (fun x => x.id == inId port && x.accepted) then s1.countPort port (fun c => { c with dup := inc c.dup })
    else s1.fillAnswer port f

/-- ANSWER. -/
def State.takeAnswer (s : State) (port : Nat) (f : AnswerFrame) : State :=
  if s.polls && decide (port < 16) && (inStream s.img (inId port)).isSome then
    let k := s.checkAnswer port f
    let s1 := s.countPort port k.count
    if k = .passes then s1.judgeAnswer port f else s1
  else s

def execAnswer (t : Nat) (port : Nat) (f : AnswerFrame) (s : State) : Host.Outcome State Fault Refusal := run t (fun s => s.takeAnswer port f) s

/-- ANSWER_WINDOW_CLOSE: at P + 900 µs of a round without an accepted answer the age rises by 1. -/
def State.closeAnswer (s : State) (port : Nat) : State :=
  match assoc s.ki40.pollAt port with
  | some p =>
    if s.polls = true ∧ p + 900000 ≤ s.now then
      let s1 := s.mapLanes (fun l => l.closeSlot (inId port))
      { s1 with ki40 := { s1.ki40 with pollAt := assocErase s1.ki40.pollAt port } }
    else s
  | none => s

def execAnswerWindowClose (t : Nat) (port : Nat) (s : State) : Host.Outcome State Fault Refusal := run t (fun s => s.closeAnswer port) s

/-! ## ARP (R328) -/

/-- The IPv4 address of a host port (Table 9.1): ports 48 to 51 are HX0 to HX3, 52 to 55 HY0 to HY3, 62 the service port. -/
def State.hostAddress (s : State) (port : Nat) : Option Nat :=
  let tail := (4 + s.node / 256) * 256 + s.node % 256
  if 48 ≤ port ∧ port ≤ 51 then some (10 * 2 ^ 24 + (40 + (port - 48)) * 2 ^ 16 + tail)
  else if 52 ≤ port ∧ port ≤ 55 then some (10 * 2 ^ 24 + (50 + (port - 52)) * 2 ^ 16 + tail)
  else if port = 62 then some (169 * 2 ^ 24 + 254 * 2 ^ 16 + 73 * 256 + 48)
  else none

/-- Does a host port speak: the service port always, the others with a known node ID (R557), and in KI-40 mode HX0 and HY0 only (R592)? -/
def State.portSpeaks (s : State) (port : Nat) : Bool :=
  port == 62 || (s.sealBank.nodeKnown && (!s.sealBank.ki40 || port == 48 || port == 52))

/-- ARP_REQUEST: the module answers for the address of the port. -/
def State.arpRequest (s : State) (port ip mac : Nat) : State :=
  let u := if port = 62 ∧ s.phyPowered = true then s.svcFrame else s
  if s.answers && s.portSpeaks port && s.hostAddress port == some ip then
    if port = 62 then u.svcFrame.send (.arp port ip mac) else u.sendVia port (.arp port ip mac)
  else u

def execArpRequest (t : Nat) (port ip mac : Nat) (s : State) : Host.Outcome State Fault Refusal := run t (fun s => s.arpRequest port ip mac) s

end Sys2Proof.Machine
end

