-- ==== Sys2Proof/Machine/Maint.lean ====
section
/-! DEFINITION. The cycles of the maintenance bus (R492 to R500, R637 to R640). -/

namespace Sys2Proof.Machine

/-- R640: does the module acknowledge a cycle? Not in reset, in OFF, unseated, in a start that has not reached the fill, nor where R575 holds
it in reset (log entry 41). -/
def State.busAnswers (s : State) : Bool :=
  match s.control.phase with
  | .running | .safeOff | .dusk => true
  | .starting => s.startup.restart || s.startup.bistTurn.isNone
  | _ => false

/-- A cycle ends: MACK_N, XBUSY_N and the data of a read cycle. -/
def State.busAck (s : State) (busy : Bool) (data : Option Half) : State := s.send (.bus true busy data)

/-- Every cycle but an atomic load parts a load from its execute (R499). -/
def State.unload (s : State) : State := { s with xram := { s.xram with loaded := false } }

/-- The halfword of a halfword address. -/
def State.busHalf (s : State) (addr : Nat) : Half := BitVec.ofNat 16 (Mem.le s.xram.mem (2 * addr) 2)

def State.putHalf (s : State) (addr : Nat) (data : Half) : State := s.xramStore (2 * addr) (b16 data.toNat)

/-- The lane side's access of the window, where it is a write of the word. -/
def State.laneAccess (s : State) (addr : Nat) (a : LaneAccess) : State :=
  match a with
  | .write v => s.xramStore (4 * (addr / 2)) (b32 v.toNat)
  | _ => s

/-- R500: the lane access of the window was warned; the lane that accesses for the module counts it. -/
def State.collided (s : State) : State :=
  s.modLane s.lead (fun l => { l with store := { l.store with collides := inc l.store.collides } })

/-- Do the two accesses of the window conflict, with a maintenance write or read (Table 13.6)? -/
def windowConflicts (w : Window) (isWrite : Bool) : Bool :=
  match w.lane with
  | .none => false
  | .read => isWrite
  | .write _ => true

/-- A window in which the two sides conflict: the bank keeps whether the lane side's access was warned (R500, R501). -/
def State.warn (s : State) (addr : Nat) (w : Window) (conflict : Bool) : State :=
  if conflict then
    let k : Clash := { instant := s.now, word := addr / 2, laneWrite := w.lane != .read, warned := w.laneLater }
    let s1 : State := { s with xram := { s.xram with clash := some k } }
    if w.laneLater then s1.collided else s1
  else s

/-- A read cycle. -/
def State.busRead (s : State) (addr : Nat) (w : Window) : State :=
  let undefinedData := (s.unload.drawn).busAck true (some s.freeHalf)
  let conflict := windowConflicts w false
  let s1 := (s.unload.warn addr w conflict).laneAccess addr w.lane
  if !s.busAnswers then s
  else if !s.xram.filled then undefinedData
  else if conflict then (s1.drawn).busAck (!w.laneLater) (some s.freeHalf)
  else s1.busAck false (some (s.busHalf addr))

/-- A write cycle. -/
def State.busWrite (s : State) (addr : Nat) (data : Half) (w : Window) : State :=
  let conflict := windowConflicts w true
  let s1 := ((s.unload.warn addr w conflict).putHalf addr data).laneAccess addr w.lane
  if !s.busAnswers then s
  else if !s.xram.filled then s.unload.busAck true none
  else s1.busAck (conflict && !w.laneLater) none

/-- The holding register takes the low half of an operand. -/
def State.holdOperand (s : State) (addr : Nat) (data : Half) : State :=
  { s with xram := { s.xram with
      holding := setField s.xram.holding 0 16 data.toNat
      holdingAddr := addr / 2
      loaded := true
      hasOld := false } }

/-- An atomic load; the fill of R493 concerns the bank, and the cycle completes with XBUSY_N. -/
def State.busLoad (s : State) (addr : Nat) (data : Half) : State :=
  if !s.busAnswers then s
  else if !s.xram.filled then s.unload.busAck true none
  else (s.holdOperand addr data).busAck false none

/-- The operation of an atomic execute: add or swap on the word (R500); OLD enters the holding register. -/
def State.busOperate (s : State) (addr : Nat) (data : Half) (swap : Bool) : State :=
  let operand := getField s.xram.holding 0 16 + 65536 * data.toNat
  let r := s.unload.xramAtomic (4 * (addr / 2)) swap operand
  { r.1 with xram := { r.1.xram with
      holding := BitVec.ofNat 32 r.2
      hasOld := true } }

/-- Does the execute follow a load of the same word with no other cycle in between (R499)? -/
def State.mayExecute (s : State) (addr : Nat) : Bool := s.xram.filled && s.xram.loaded && s.xram.holdingAddr == addr / 2

/-- An atomic execute. -/
def State.busExecute (s : State) (addr : Nat) (data : Half) (swap : Bool) : State :=
  if !s.busAnswers then s
  else if s.mayExecute addr then (s.busOperate addr data swap).busAck false none
  else s.unload.busAck true none

/-- An atomic result. The manual gives no data where the register holds no OLD of the word: a free value. -/
def State.busResult (s : State) (addr : Nat) (high : Bool) : State :=
  let held := s.xram.filled && s.xram.hasOld && s.xram.holdingAddr == addr / 2
  let data := BitVec.ofNat 16 (getField s.xram.holding (if high then 16 else 0) 16)
  if !s.busAnswers then s
  else if held then s.unload.busAck false (some data)
  else (s.unload.drawn).busAck (!s.xram.filled) (some s.freeHalf)

/-- The lines MA19:1 name the halfwords below 2^19 (Table 13.5). -/
def busRange (addr : Nat) : Bool := decide (addr < 524288)

/-- MB_READ. -/
def execMbRead (t addr : Nat) (w : Window) (s : State) : Host.Outcome State Fault Refusal :=
  if busRange addr then run t (fun s => s.busRead addr w) s else .fault .noSuchAddress

/-- MB_WRITE. -/
def execMbWrite (t addr : Nat) (data : Half) (w : Window) (s : State) : Host.Outcome State Fault Refusal :=
  if busRange addr then run t (fun s => s.busWrite addr data w) s else .fault .noSuchAddress

/-- ATOMIC_LOAD. -/
def execAtomicLoad (t addr : Nat) (data : Half) (s : State) : Host.Outcome State Fault Refusal :=
  if busRange addr then run t (fun s => s.busLoad addr data) s else .fault .noSuchAddress

/-- ATOMIC_EXECUTE. -/
def execAtomicExecute (t addr : Nat) (data : Half) (swap : Bool) (s : State) : Host.Outcome State Fault Refusal :=
  if busRange addr then run t (fun s => s.busExecute addr data swap) s else .fault .noSuchAddress

/-- ATOMIC_RESULT. -/
def execAtomicResult (t addr : Nat) (high : Bool) (s : State) : Host.Outcome State Fault Refusal :=
  if busRange addr then run t (fun s => s.busResult addr high) s else .fault .noSuchAddress

/-! ## Cycles cut short (R639) -/

def cycleAddr : BusCycle → Nat
  | .read a => a
  | .write a _ => a
  | .atomicLoad a _ => a
  | .atomicExecute a _ _ => a
  | .atomicResult a _ => a

/-- An outcome that Table 18.10 leaves open: a free choice. -/
def State.perhaps (s : State) (f : State → State) : State :=
  let s1 := s.drawn
  if Config.freeBool s.freeCtr then f s1 else s1

/-- Table 18.10: nothing is acknowledged. -/
def State.cutShort (s : State) (c : BusCycle) : State :=
  if s.busAnswers && s.xram.filled then
    match c with
    | .read _ => s.unload
    | .write a d => s.unload.perhaps (fun u => u.putHalf a d)
    | .atomicLoad a d => s.unload.perhaps (fun u => u.holdOperand a d)
    | .atomicExecute a d w =>
      if s.mayExecute a then
        let s1 := s.perhaps (fun u => u.busOperate a d w)
        { s1.drawn with xram := { s1.xram with
            holding := s1.freeWord
            loaded := false
            hasOld := true } }
      else s.unload
    | .atomicResult _ _ => s.unload
  else s.unload

/-- CYCLE_CUT_SHORT. -/
def execCycleCutShort (t : Nat) (cycle : BusCycle) (s : State) : Host.Outcome State Fault Refusal :=
  if busRange (cycleAddr cycle) then run t (fun s => s.cutShort cycle) s else .fault .noSuchAddress

end Sys2Proof.Machine
end

