-- ==== Sys2Proof/Machine/Timers.lean ====
section
/-! DEFINITION. The rows in which a timer of the route engine runs out within a T1 body (R112, R119, R120, R122, R124), a safe input changes
(R413, R414) and a lane measures its pace (R43 to R47). -/

namespace Sys2Proof.Machine

/-! ## Timers of the route engine -/

/-- A change of the route engine that the T1 body in progress makes before it completes: it stands in the body's own copy, so that it
commits with the T1 image and no vote before that sees it. Lanes without such a body are left alone. -/
def Lane.inBody (l : Lane) (f : Work → Work) : Lane :=
  if l.program.bodies.any (fun b => b.1 == Task.t1) then
    let e := l.program.working.getD (l.engine, [])
    let w := f (Work.start e.1)
    { l with program := { l.program with working := some (w.eng, e.2 ++ w.events) }, counters := l.counters.ofWork w }
  else l

/-- The engine as a lane's body in progress has it. -/
def Lane.bodyEngine (l : Lane) : Engine := (l.program.working.map (·.1)).getD l.engine

/-- Does the T1 body in progress first cancel the route (R99, step 1)? -/
def Lane.cancels (l : Lane) (r : Nat) : Bool :=
  l.program.intake.any (fun i => match i.cmd with
    | .routeCancel q _ => q == r
    | _ => false)

/-- Is the timer of a route in its last T1 cycle, in a state in which it counts? -/
def Lane.timerDue (l : Lane) (r : Nat) (k : TimerKind) (st : RouteState) : Bool :=
  let n := l.bodyEngine.entry r
  n.state == st && n.timerKind == k && decide (n.timer ≤ 1) && !l.cancels r

/-- The voting lanes' bodies change their engines where the lane's own timer is due. -/
def State.bodies (s : State) (due : Lane → Bool) (f : Work → Work) : State := s.mapVoting (fun l => if due l then l.inBody f else l)

/-- DETECT_TIMEOUT: the detection timer of a route or of a POINT_MOVE (R112). -/
def State.detectTimeout (s : State) (o : CallOwner) : State :=
  match o with
  | .route r => s.bodies (fun l => l.timerDue r .detection .pointsCalled) (fun w => w.detectExpiry s.img r)
  | .point p =>
    let due := fun (c : PointCall) => c.point == p && c.route == 0xFFFF && decide (c.timer ≤ 1) && s.snap.nibble p != c.position
    s.bodies (fun l => l.bodyEngine.calls.any due) (fun w => (w.eng.calls.filter due).foldl (fun u c => u.endCall c 2) w)

def execDetectTimeout (t : Nat) (owner : CallOwner) (s : State) : Host.Outcome State Fault Refusal := run t (fun u => u.detectTimeout owner) s

/-- Does the section of release step 0 of a route read OCCUPIED in the snapshot of a lane's T1 body? The body then moves the route to OCCUPIED,
and its approach timer stops (Table 3.8, R652). -/
def State.entered (s : State) (l : Lane) (r : Nat) : Bool :=
  match (routeAt s.img r).bind (fun x => stepSection x 0) with
  | some sec => (s.snapNo (s.bodySnapshot l .t1)).nibble sec == 0
  | none => false

/-- APPROACH_TIMER_EXPIRY: a cancelled route in APPROACH_LOCKED releases, unless the train has entered it (R119, R652). -/
def State.approachTimeout (s : State) (r : Nat) : State :=
  s.bodies (fun l => l.timerDue r .approach .approachLocked && !s.entered l r) (fun w => w.approachExpiry s.img r)

def execApproachTimerExpiry (t : Nat) (route : Nat) (s : State) : Host.Outcome State Fault Refusal := run t (fun u => u.approachTimeout route) s

/-- EMERG_TIMER_EXPIRY: every lock of a route in EMERG_TIMING is released (R120). -/
def State.emergTimeout (s : State) (r : Nat) : State :=
  s.bodies (fun l => l.timerDue r .emergency .emergTiming) (fun w => w.emergExpiry s.img r)

def execEmergTimerExpiry (t : Nat) (route : Nat) (s : State) : Host.Outcome State Fault Refusal := run t (fun u => u.emergTimeout route) s

/-- OVERLAP_TIMER_EXPIRY: the elements of the overlap release together (R122). -/
def State.overlapTimeout (s : State) (r : Nat) : State :=
  s.bodies (fun l => l.timerDue r .overlap .occupied) (fun w => w.overlapExpiry r)

def execOverlapTimerExpiry (t : Nat) (route : Nat) (s : State) : Host.Outcome State Fault Refusal := run t (fun u => u.overlapTimeout route) s

/-- SECTION_RESET_END: the RESET request of a section returns to 0 (R124). -/
def State.resetEnd (s : State) (e : Nat) : State :=
  let due := fun (q : ResetRun) => q.element == e && decide (q.left ≤ 1)
  s.bodies (fun l => l.bodyEngine.resets.any due) (fun w => { w with eng := { w.eng with resets := w.eng.resets.filter (fun q => !due q) } })

def execSectionResetEnd (t : Nat) (element : Nat) (s : State) : Host.Outcome State Fault Refusal := run t (fun u => u.resetEnd element) s

/-! ## Safe inputs -/

/-- SAFE_INPUT_CHANGE: a lane takes a new filtered level after as many consecutive samples at it as the input's filter class requires (R413,
R414); every part has SI00 to SI63 (R2). -/
def State.safeInputChange (s : State) (i : LaneId) (input : Nat) (x : InputSense) : State :=
  if input < 64 ∧ filterSamples (s.inputFilter input) ≤ x.samples ∧ getBit (s.lane i).inputs.level input ≠ x.level then s.inputIn i input x.level else s

def execSafeInputChange (t : Nat) (lane : LaneId) (input : Nat) (sense : InputSense) (s : State) : Host.Outcome State Fault Refusal :=
  run t (fun u => u.safeInputChange lane input sense) s

/-! ## Pace -/

/-- A lane below 1,000 steps/µs in two consecutive measurements declares a lane fault (R47), one in reintegration too: with its first vector in
SHADOW it goes back to EXCLUDED (R244). -/
def Lane.paceFault (l : Lane) : Lane :=
  if 2 ≤ l.lowPaces ∧ l.mode ≠ LaneMode.isolated ∧ l.mode ≠ LaneMode.excluded then { l with localFault := some (l.localFault.getD Cause.pace) } else l

/-- PACE_MEASUREMENT (R43, R46, R47). -/
def State.paceMeasured (s : State) (i : LaneId) (pace : Nat) : State :=
  if s.control.phase ≠ .running then s
  else
    let l := s.lane i
    let low := decide (pace < 1050)
    let s1 := s.modLane i (fun x => ({ x with
      pace := pace
      minPace := if x.minPace = 0 then pace else min x.minPace pace
      lowPaces := if pace < 1000 then x.lowPaces + 1 else 0
      paceMargin := x.paceMargin || low
      paceGoodSince := if low = false ∧ x.pace < 1050 then s.now else x.paceGoodSince }).paceFault)
    if low && !l.paceMargin then s1.laneEvent i 0x0207 [(24, 1, i.index), (28, 4, pace)] else s1

def execPaceMeasurement (t : Nat) (lane : LaneId) (pace : Nat) (s : State) : Host.Outcome State Fault Refusal :=
  run t (fun u => u.paceMeasured lane pace) s

/-- PACE_MARGIN_CLEAR: the pace has been at 1,050 steps/µs or more for 1 s (R46). -/
def State.paceClear (s : State) (i : LaneId) : State :=
  s.modLane i (fun l => if 1050 ≤ l.pace ∧ l.paceGoodSince + second ≤ s.now then { l with paceMargin := false } else l)

def execPaceMarginClear (t : Nat) (lane : LaneId) (s : State) : Host.Outcome State Fault Refusal := run t (fun u => u.paceClear lane) s

end Sys2Proof.Machine
end

