-- ==== Sys2Proof/Machine/SafeIo.lean ====
section
/-! DEFINITION. The rows of the safe output stage (11): test slots and what their senses show (R422 to R428). -/

namespace Sys2Proof.Machine

/-- 1 µs. -/
def us : Nat := 1000

/-! ## Faults and marks -/

/-- A lane that finds a fault of an output forces it to 0 and records a mark for the next intake (R219, R427). -/
def State.markOutput (s : State) (i : LaneId) (o : Nat) (k : Mark) : State :=
  let s1 := s.modLane i (fun l =>
    let l1 := l.pend s.now (.output o)
    if l1.forces.marks.contains k then l1 else { l1 with forces := { l1.forces with marks := l1.forces.marks ++ [k] } })
  if (assoc s.safeIo.marker (markKey k)).isSome then s1
  else { s1 with safeIo := { s1.safeIo with marker := assocSet s1.safeIo.marker (markKey k) i } }

/-- Every lane reads every sense, so that the voting lanes find a fault together (R420). -/
def State.markAll (s : State) (o : Nat) (k : Mark) : State := s.voting.foldl (fun u i => u.markOutput i o k) s

/-- Are the outputs in use: LIVE, with the safety supply switch closed? -/
def State.driving (s : State) : Bool :=
  s.control.phase == .running && s.control.power == .live && s.safeIo.supply == .isClosed

/-- An output has passed a test; an off-pulse or a dark test counts for SO_TESTED (Table 11.9). -/
def State.testPassed (s : State) (o : Nat) (pulse shown : Bool) : State :=
  { s with safeIo := { s.safeIo with
      passed := inc s.safeIo.passed
      lastPulse := if pulse then assocSet s.safeIo.lastPulse o s.now else s.safeIo.lastPulse
      lastTested := if shown then assocSet s.safeIo.lastTested o s.now else s.safeIo.lastTested
      untested := if pulse then s.safeIo.untested.filter (· != o) else s.safeIo.untested } }

/-! ## Test slots (Table 11.4) -/

/-- Is `t` the beginning of the test slot of output `o` (R423)? -/
def slotOf (o t : Nat) : Bool := decide (o < 32) && t % (100 * ms) == 3 * ms * o + 10 * us

/-- Lane `i` closes or opens both its elements of an output; only a voting lane closes them (Table 11.5). -/
def State.driveLane (s : State) (i : LaneId) (o : Nat) (on : Bool) : State :=
  s.modLane i (fun l => { l with elements := setBit l.elements o (on && l.mode == .voting) })

/-- Every lane closes or opens its elements of an output. -/
def State.driveOutput (s : State) (o : Nat) (on : Bool) : State := allLanes.foldl (fun u i => u.driveLane i o on) s

/-- TEST_SLOT_START: an off-pulse of an energised output or a dark test of another; abandoned without the output supply (R631). -/
def State.testSlot (s : State) (t o : Nat) : State :=
  if s.driving && slotOf o t && s.safeIo.test.isNone then
    if s.safeIo.outputLow then { s with safeIo := { s.safeIo with abandoned := inc s.safeIo.abandoned } }
    else if getBit s.snap.safeOut o then
      ({ s with safeIo := { s.safeIo with test := some { output := o, start := t, kind := .offPulse false } } }).driveOutput o false
    else { s with safeIo := { s.safeIo with test := some { output := o, start := t, kind := .dark 0 } } }
  else s

def execTestSlotStart (t : Nat) (output : Nat) (s : State) : Host.Outcome State Fault Refusal := run t (fun u => u.testSlot t output) s

/-- The lane of the element test: L = n mod 3. -/
def testLane (start : Nat) : LaneId := (laneOf (start / (100 * ms) % 3)).getD .A

/-- OFF_PULSE_END: the off-pulse is judged at p + 250 µs, and the elements of an output still committed at 1 close (R424, R425). A terminal
that reads energised is STUCK_ON (Table 11.6), but where a commit has ended the pulse and a later one has closed the elements again. -/
def State.offPulseEnd (s : State) (o : Nat) (x : PulseSense) : State :=
  match s.safeIo.test with
  | some r =>
    (match r.kind with
     | .offPulse cut =>
       if r.output = o ∧ r.start + 250 * us ≤ s.now then
         let on := getBit s.snap.safeOut o
         let again := cut && on
         let s1 : State := { s with safeIo := { s.safeIo with
           test := if on then some { r with kind := .element (testLane r.start) .before } else none } }
         let s2 := s1.driveOutput o on
         let s3 := if x.energised && !again then s2.markAll o (.fault .stuckOn o) else s2
         if x.offFor20us && (!x.energised || again) then s3.testPassed o true true else s3
       else s
     | _ => s)
  | none => s

def execOffPulseEnd (t : Nat) (output : Nat) (sense : PulseSense) (s : State) : Host.Outcome State Fault Refusal :=
  run t (fun u => u.offPulseEnd output sense) s

def pairBits (x : Lanes Bool) : List Bool := [x.a, x.b, x.c]

/-- The currents of the pairs of voting lanes: those with lane `i` and the sense of each. An excluded lane's elements stay open, and its
pairs are not judged (DESIGN CHOICE, log entry 39). -/
def State.pairSense (s : State) (x : Lanes Bool) (i : Option LaneId) : List Bool :=
  (((pairLanes.zip (pairBits x)).filter (fun p => (s.lane p.1.1).mode == .voting && (s.lane p.1.2).mode == .voting)).filter (fun p =>
    match i with
    | some j => p.1.1 == j || p.1.2 == j
    | none => true)).map (·.2)

/-- The currents of the element test of lane `i` are judged (Table 11.4). -/
def State.judgeElements (s : State) (i : LaneId) (o : Nat) (x : ElementSense) : State :=
  let stuck := (s.pairSense x.openCurrent (some i)).any (fun b => b)
  let dead := (s.pairSense x.closedCurrent none).any (fun b => !b)
  let s2 := if stuck then s.markAll o (.fault .elementClosed o) else s
  let s3 := if dead then s2.markAll o (.fault .elementOpen o) else s2
  if stuck || dead then s3 else s3.testPassed o false false

/-- The element test goes on to a stage, in which lane L's elements are open or closed. -/
def State.elementStage (s : State) (r : TestRun) (i : LaneId) (g : ElementStage) : State :=
  ({ s with safeIo := { s.safeIo with test := some { r with kind := .element i g } } }).driveLane i r.output (g != ElementStage.opened)

/-- ELEMENT_TEST: lane L opens its two elements at p + 1,000 µs and closes them at p + 1,100 µs; the currents are judged at p + 1,200 µs
(Table 11.4). A lane that has isolated is not tested (log entry 39). -/
def State.elementTest (s : State) (o : Nat) (x : ElementSense) : State :=
  match s.safeIo.test with
  | some r =>
    (match r.kind with
     | .element i _ =>
       if r.output = o ∧ r.start + ms ≤ s.now then
         if (s.lane i).mode ≠ .voting then { s with safeIo := { s.safeIo with test := none } }
         else if s.now < r.start + 1100 * us then s.elementStage r i .opened
         else if s.now < r.start + 1200 * us then s.elementStage r i .closedAgain
         else
           let s1 := s.elementStage r i .closedAgain
           ({ s1 with safeIo := { s1.safeIo with test := none } } : State).judgeElements i o x
       else s
     | _ => s)
  | none => s

def execElementTest (t : Nat) (output : Nat) (sense : ElementSense) (s : State) : Host.Outcome State Fault Refusal :=
  run t (fun u => u.elementTest output sense) s

/-- The lane whose element closes in step `k` of a dark test: A, A, B, B, C, C. -/
def darkLane (k : Nat) : LaneId := (laneOf (k / 2)).getD .C

/-- DARK_TEST_STEP: one element of a de-energised output has closed alone for 20 µs and is judged (Table 11.4). A mid-point that does not leave the bias
level shows an element that does not close; one that does not return, or a terminal that is energised, one that does not open. -/
def State.darkStep (s : State) (o k : Nat) (x : DarkSense) : State :=
  match s.safeIo.test with
  | some r =>
    (match r.kind with
     | .dark j =>
       if r.output = o ∧ j = k ∧ k < 6 ∧ r.start + 25 * us * k + 20 * us ≤ s.now then
         let ok := (s.lane (darkLane k)).mode != .voting || (x.left && x.returned && x.terminalOff)
         let s1 : State := { s with safeIo := { s.safeIo with
           test := if ok && decide (k < 5) then some { r with kind := .dark (k + 1) } else none } }
         if ok then (if k < 5 then s1 else s1.testPassed o false true)
         else if x.returned && x.terminalOff then s1.markAll o (.fault .elementOpen o)
         else s1.markAll o (.fault .elementClosed o)
       else s
     | _ => s)
  | none => s

def execDarkTestStep (t : Nat) (output step : Nat) (sense : DarkSense) (s : State) : Host.Outcome State Fault Refusal :=
  run t (fun u => u.darkStep output step sense) s

/-! ## Conditions outside the test slots -/

/-- Since when an output has been energised: committed at 1 with the supply closed. -/
def State.energisedSince (s : State) (o : Nat) : Nat := max (assocD s.safeIo.energisedAt o 0) s.safeIo.closedAt

/-- UNTESTED: an energised output that has not passed an off-pulse for 1 s gets a record (R426). -/
def State.untested (s : State) (o : Nat) : State :=
  if s.driving && getBit s.snap.safeOut o && decide (s.energisedSince o + second ≤ s.now) &&
      decide (assocD s.safeIo.lastPulse o 0 + second ≤ s.now) && !s.safeIo.untested.contains o then
    ({ s with safeIo := { s.safeIo with untested := insertSorted s.safeIo.untested o } }).event 0x0702 Origin.internal [(24, 1, o), (25, 1, 1)]
  else s

def execUntested (t : Nat) (output : Nat) (s : State) : Host.Outcome State Fault Refusal := run t (fun u => u.untested output) s

/-- Is every element of an output open? -/
def State.allOpen (s : State) (o : Nat) : Bool := allLanes.all (fun i => !s.sideClosed i true o && !s.sideClosed i false o)

/-- Since when every element of an output is open: since its running off-pulse began, or since the commit that opened it. -/
def State.openSince (s : State) (o : Nat) : Nat :=
  match s.safeIo.test with
  | some r => (match r.kind with
    | .offPulse _ => if r.output = o then r.start else assocD s.safeIo.openedAt o 0
    | _ => assocD s.safeIo.openedAt o 0)
  | none => assocD s.safeIo.openedAt o 0

/-- Could a lane's senses show the fault (Table 11.6)? STUCK_ON only 250 µs after every element has opened; the others only in the element
test or the dark test of that output, with the output supply (R631): ELEMENT_CLOSED while an element is held open, ELEMENT_OPEN
where one should have closed. -/
def State.faultPossible (s : State) (o : Nat) (k : OutFault) : Bool :=
  let inTest := fun (g : ElementStage) => s.safeIo.test.any (fun r => r.output == o && (match r.kind with
    | .element _ st => st == g
    | .dark _ => true
    | .offPulse _ => false))
  match k with
  | .stuckOn => s.allOpen o && decide (s.openSince o + 250 * us ≤ s.now)
  | .elementClosed => !s.safeIo.outputLow && inTest .opened
  | .elementOpen => !s.safeIo.outputLow && inTest .closedAgain

/-- OUTPUT_FAULT: a voting lane finds a fault from its senses (R427). -/
def State.outputFault (s : State) (i : LaneId) (o : Nat) (k : OutFault) : State :=
  if s.driving && (s.lane i).mode == .voting && decide (o < 32) && s.faultPossible o k then s.markOutput i o (.fault k o) else s

def execOutputFault (t : Nat) (lane : LaneId) (output : Nat) (kind : OutFault) (s : State) : Host.Outcome State Fault Refusal :=
  run t (fun u => u.outputFault lane output kind) s

/-- SHORT: the terminal of an output committed at 1 reads off for 2 ms outside its test slot (Table 11.6). -/
def State.shortFound (s : State) (i : LaneId) (o : Nat) : State :=
  if s.driving && !s.safeIo.outputLow && (s.lane i).mode == .voting && getBit s.snap.safeOut o && decide (s.energisedSince o + 2 * ms ≤ s.now) &&
      !s.safeIo.test.any (fun r => r.output == o) then
    let s1 := if (assoc s.safeIo.marker (markKey (.short o))).isSome then s else { s with safeIo := { s.safeIo with shorts := inc s.safeIo.shorts } }
    s1.markOutput i o (.short o)
  else s

def execShort (t : Nat) (lane : LaneId) (output : Nat) (s : State) : Host.Outcome State Fault Refusal := run t (fun u => u.shortFound lane output) s

/-- A change of the route engine's sets wherever a lane holds them: its engine, the body in progress and the images that wait. -/
def Lane.mapEngines (l : Lane) (f : Engine → Engine) : Lane :=
  let g := fun (d : TaskOut) => { d with engine := d.engine.map f }
  { l with
    engine := f l.engine
    program := { l.program with
      working := l.program.working.map (fun e => (f e.1, e.2)), done := l.program.done.map g, closed := l.program.closed.map g } }

/-- SHORT_SET_EXIT: the writer of an output in the short set has proposed 0 for 100 ms (R428). -/
def State.shortExit (s : State) (o : Nat) : State :=
  if getBit s.leadLane.engine.shortSet o && (assoc s.safeIo.zeroSince o).any (fun z => decide (z + 100 * ms ≤ s.now)) then
    (s.mapLanes (fun l => l.mapEngines (fun e => { e with shortSet := setBit e.shortSet o false }))).event 0x0702 Origin.internal
      [(24, 1, o), (25, 1, 0)]
  else s

def execShortSetExit (t : Nat) (output : Nat) (s : State) : Host.Outcome State Fault Refusal := run t (fun u => u.shortExit output) s

end Sys2Proof.Machine
end

