-- ==== Sys2Proof/Machine/Seals.lean ====
section
/-! DEFINITION. The rows of the seal switches and the profile pins (R552 to R564). -/

namespace Sys2Proof.Machine

/-! ## Voting (R553, R562) -/

/-- The voted reading of a switch: what two lanes in the vote send, in one-lane Nadir the last lane's, else discrepant. -/
def State.voteReading (s : State) (x : Lanes Reading) : Reading :=
  match s.voting.map x.get with
  | [a] => a
  | [a, b] => if a = b then a else .discrepant
  | [a, b, c] => if a = b ∨ a = c then a else if b = c then b else .discrepant
  | _ => .discrepant

/-- The voted value of a pin; a pin on which the lanes disagree keeps `old`. -/
def votePin (l : List Bool) (old : Bool) : Bool :=
  match l with
  | [a] => a
  | [a, b] => if a = b then a else old
  | [a, b, c] => (a && b) || (b && c) || (a && c)
  | _ => old

/-- The voted readings that the lanes exchange now: those that the next vote commits. -/
def Seal.current (x : Seal) : List Reading := x.next.getD x.voted

/-! ## SEAL_CHANGE -/

/-- A lane's reading of a switch against the voted one: since when it differs, and since when it agrees again (R559). -/
def Inputs.compareSeal (x : Inputs) (k : Nat) (voted : Reading) (now : Nat) : Inputs :=
  let own := x.seals.getD k .unfiltered
  let d := match assoc x.differs k, decide (own = voted) with
    | none, false => some { since := now, recorded := false, agreed := none }
    | none, true => none
    | some e, true => some { e with agreed := some (e.agreed.getD now) }
    | some e, false =>
      (match e.agreed with
       | none => some e
       | some a => some { since := now, recorded := e.recorded && decide (now < a + second), agreed := none })
  { x with differs := match d with
      | some e => assocSet x.differs k e
      | none => x.differs }

/-- SEAL_CHANGE: the filtered readings of a switch in the three lanes. A change of the voted reading commits in the next vote. -/
def State.sealChange (s : State) (k : Nat) (x : Lanes Reading) : State :=
  if k < 16 ∧ s.control.phase = .running then
    let s1 : State := { s with lanes := s.lanes.mapI (fun i (l : Lane) =>
      { l with inputs := { l.inputs with seals := listSet l.inputs.seals k (x.get i) } }) }
    let v := s.voteReading x
    let cur := s.sealBank.current
    let s2 : State := if cur.getD k .isOpen = v then s1
      else { s1 with sealBank := { s1.sealBank with next := some (listSet cur k v) } }
    { s2 with lanes := s2.lanes.mapI (fun _ (l : Lane) => { l with inputs := l.inputs.compareSeal k v s.now }) }
  else s

def execSealChange (t : Nat) (switch : Nat) (readings : Lanes Reading) (s : State) : Host.Outcome State Fault Refusal :=
  run t (fun u => u.sealChange switch readings) s

/-- SEAL_DISAGREEMENT: a lane whose reading has differed for 1 s writes a local record (R559). -/
def State.sealDisagrees (s : State) (i : LaneId) (k : Nat) : State :=
  match assoc (s.lane i).inputs.differs k with
  | some e =>
    if e.agreed = none ∧ e.recorded = false ∧ e.since + second ≤ s.now then
      (s.laneEvent i 0x0902 [(24, 2, readingWord s.sealBank.current), (26, 2, readingWord (s.lane i).inputs.seals)]).modLane i (fun l =>
        { l with inputs := { l.inputs with differs := assocSet l.inputs.differs k { e with recorded := true } } })
    else s
  | none => s

def execSealDisagreement (t : Nat) (lane : LaneId) (switch : Nat) (s : State) : Host.Outcome State Fault Refusal :=
  run t (fun u => u.sealDisagrees lane switch) s

/-! ## PSEL_CHANGE -/

/-- The voted value of PSEL1:PSEL0. -/
def State.votePins (s : State) (x : Lanes Nat) : Nat :=
  let old := s.sealBank.pselNext.getD s.sealBank.psel
  packBits ((List.range 2).map (fun b => votePin (s.voting.map (fun i => bitAt (x.get i) b)) (bitAt old b)))

/-- PSEL_CHANGE: the filtered pin values of the lanes; bit 2 of a value is PSEL_NEW (Table 15.3). -/
def State.pselChange (s : State) (x : Lanes Nat) : State :=
  if s.control.phase = .running then
    let v := s.votePins x
    { s with
      lanes := s.lanes.mapI (fun i (l : Lane) => { l with inputs := { l.inputs with psel := x.get i % 8 } })
      sealBank := { s.sealBank with pselNext := if s.sealBank.pselNext.getD s.sealBank.psel = v then s.sealBank.pselNext else some v } }
  else s

def execPselChange (t : Nat) (values : Lanes Nat) (s : State) : Host.Outcome State Fault Refusal := run t (fun u => u.pselChange values) s

end Sys2Proof.Machine
end

