-- ==== Sys2Proof/Machine/Supply.lean ====
section
/-! DEFINITION. Supplies, the reset pin, seating and the core supply monitors (R569, R588 to R590, R620, R626, R627, R631, R645). -/

namespace Sys2Proof.Machine

/-! ## Falling into reset -/

/-- Every lane holds itself in reset: its elements open, it sends nothing, and every body, vote and latched safe-off ends (R588). What
a start clears stands until then. -/
def State.holdReset (s : State) : State :=
  let s1 := s.keepCount.openSupply
  { s1 with
    control := { s1.control with
      phase := .reset
      power := .off }
    ndezo := { s1.ndezo with quiet := true }
    lanes := s1.lanes.mapI (fun _ (l : Lane) => { l with
      elements := 0
      meridianToggles := false
      supervisionToggles := false
      program := l.program.abandon
      vote := { l.vote with decided := true } }) }

/-- The 100 ms of release before s0 begin, where nothing holds the lanes in reset (R589, R620, R627). -/
def State.beginRelease (s : State) : State :=
  if s.control.phase = .reset ∧ s.sealBank.resetAsserted = false ∧ s.sealBank.unseated = false ∧ s.sealBank.below = false then
    { s with
      control := { s.control with phase := .release }
      sealBank := { s.sealBank with releaseSince := s.now } }
  else s

/-! ## The supply inputs -/

/-- SUPPLY_BELOW: both inputs are below (R626). -/
def execSupplyBelow (t : Nat) (s : State) : Host.Outcome State Fault Refusal :=
  run t (fun (s : State) =>
    if s.sealBank.below then s
    else { s with sealBank := { s.sealBank with
        below := true
        belowSince := s.now } }) s

/-- How long the inputs have been below. -/
def State.belowFor (s : State) : Nat := s.now - s.sealBank.belowSince

/-- An input has left below. Within the 10 ms nothing changes. In OFF, and where R575 holds the module in reset, an absence of 100 ms makes
it start (R569); the reset-stuck latch is lost with the supply (R590). In the release the 100 ms begin again (R627). -/
def State.supplyReturn (s : State) : State :=
  let long := decide (10000000 ≤ s.belowFor)
  let s1 : State := { s with
    sealBank := { s.sealBank with below := false }
    startup := { s.startup with resetStuck := if long then none else s.startup.resetStuck } }
  match s.control.phase with
  | .release => { s1 with sealBank := { s1.sealBank with releaseSince := s.now } }
  | .off | .dead => if 100000000 ≤ s.belowFor then (s1.holdReset).beginRelease else s1
  | _ => s1.beginRelease

/-- SUPPLY_RETURN (R626). -/
def execSupplyReturn (t : Nat) (s : State) : Host.Outcome State Fault Refusal :=
  run t (fun s => if s.sealBank.below then s.supplyReturn else s) s

/-- The hold-up timer expires (R626): in IDLE, WARM, LIVE and Nadir each lane isolates and writes SAFE_OFF with cause 3; then every lane
holds itself in reset. -/
def State.powerFail (s : State) : State :=
  match s.control.phase with
  | .running => (s.safeOffFor (fun _ => 3)).holdReset
  | .starting | .retryWait | .dusk | .safeOff => s.holdReset
  | _ => s

/-- POWER_FAIL, 10 ms after both inputs fell below. -/
def execPowerFail (t : Nat) (s : State) : Host.Outcome State Fault Refusal :=
  run t (fun s => if s.sealBank.below && decide (10000000 ≤ s.belowFor) then s.powerFail else s) s

/-! ## MRST_N and MSEAT_N -/

/-- MRST_N_ASSERT (R588, R589): it ends a commanded OFF, a Dusk and a safe-off. -/
def State.assertReset (s : State) : State :=
  let s1 := s.holdReset
  { s1 with sealBank := { s1.sealBank with
      resetAsserted := true
      resetSince := if s.sealBank.resetAsserted then s.sealBank.resetSince else s.now } }

def execMrstAssert (t : Nat) (s : State) : Host.Outcome State Fault Refusal := run t State.assertReset s

/-- The time since an instant of the assertion up to which MSEAT_N read low: the time that it reads high does not count (R620). -/
def State.seatedUntil (s : State) : Nat :=
  if s.sealBank.unseated then min s.now (max s.sealBank.resetSince s.sealBank.unseatedSince) else s.now

/-- The length of the assertion in ms (R590). -/
def State.resetLength (s : State) : Nat := min 0xFFFFFFFF ((s.seatedUntil - s.sealBank.resetSince) / 1000000)

/-- An assertion of more than 5 s (R590). -/
def State.resetSinceLong (s : State) : Bool := s.sealBank.resetAsserted && decide (s.sealBank.resetSince + 5000000000 < s.seatedUntil)

/-- MRST_N_RELEASE: the lanes have measured the assertion, and the release begins. -/
def State.releaseReset (s : State) : State :=
  if s.sealBank.resetAsserted then
    ({ s with
      sealBank := { s.sealBank with resetAsserted := false }
      startup := { s.startup with resetStuck := if s.resetSinceLong then some s.resetLength else s.startup.resetStuck } }).beginRelease
  else s

def execMrstRelease (t : Nat) (s : State) : Host.Outcome State Fault Refusal := run t State.releaseReset s

/-- RESET_STUCK: an assertion of more than 5 s latches (R590). -/
def execResetStuck (t : Nat) (s : State) : Host.Outcome State Fault Refusal :=
  run t (fun (s : State) =>
    if s.resetSinceLong then
      { s with startup := { s.startup with resetStuck := some s.resetLength } }
    else s) s

/-- MSEAT_N reads high: as if MRST_N were asserted, without its length (R620). -/
def execMseatHigh (t : Nat) (s : State) : Host.Outcome State Fault Refusal :=
  run t (fun (s : State) =>
    let s1 := s.holdReset
    { s1 with sealBank := { s1.sealBank with
        unseated := true
        unseatedSince := if s.sealBank.unseated then s.sealBank.unseatedSince else s.now } }) s

/-- MODULE_SEATED: MSEAT_N falls low, and the release begins unless something else holds the module (R620). A length of MRST_N that is
still being measured leaves out the time unseated. -/
def execModuleSeated (t : Nat) (s : State) : Host.Outcome State Fault Refusal :=
  run t (fun (s : State) =>
    if s.sealBank.unseated then ({ s with sealBank := { s.sealBank with
        unseated := false
        resetSince := if s.sealBank.resetAsserted then s.sealBank.resetSince + (s.now - s.seatedUntil) else s.sealBank.resetSince } }).beginRelease
    else s) s

/-! ## Core supplies and the output supply -/

/-- The supply monitor of a lane holds it in reset (R645): its elements open and it sends nothing. The others find its vectors missing. The
reintegration of a lane fails with it, with its record (R244, R248). -/
def State.coreUndervoltage (s : State) (i : LaneId) : State :=
  let l := s.lane i
  let fails := s.control.phase == .running && (l.mode == .restarting || l.mode == .copying || l.mode == .shadow)
  let s1 := if fails then s.event 0x0401 Origin.internal [(24, 1, i.index), (25, 1, LaneMode.excluded.code), (26, 1, causeCode l.cause)] else s
  s1.modLane i (fun (l : Lane) => { l with
    held := true
    mode := if l.mode = LaneMode.voting then LaneMode.isolated else if l.mode = LaneMode.isolated then l.mode else LaneMode.excluded
    isolatedAt := if l.mode = LaneMode.voting then s.now else l.isolatedAt
    isolatedFor := if l.mode = LaneMode.voting then some Cause.link else l.isolatedFor
    elements := 0
    supplyClosed := false
    meridianToggles := false
    supervisionToggles := false
    program := l.program.abandon
    vote := { l.vote with
      decided := true
      committed := false
      sent := none } })

/-- CORE_UNDERVOLTAGE. -/
def execCoreUndervoltage (t : Nat) (lane : LaneId) (s : State) : Host.Outcome State Fault Refusal :=
  run t (fun s => (s.coreUndervoltage lane).checkSafeOff) s

/-- OUTPUT_SUPPLY_LOW (R631): the running test slot is abandoned, and the elements of its output stand again as committed. -/
def State.outputSupplyLow (s : State) : State :=
  { s with
    safeIo := { s.safeIo with
      outputLow := true
      test := none
      abandoned := if s.safeIo.test.isSome then inc s.safeIo.abandoned else s.safeIo.abandoned }
    lanes := s.lanes.mapI (fun _ (l : Lane) => if l.mode = LaneMode.voting then { l with elements := s.snap.safeOut } else l) }

def execOutputSupplyLow (t : Nat) (s : State) : Host.Outcome State Fault Refusal := run t State.outputSupplyLow s

/-! ## The front LEDs (Table 18.15) -/

inductive Led where
  | off | green | flashing | amber | red
deriving DecidableEq, Repr

/-- LED A, B or C: off while the lanes start, and red at a lane that failed its start (DEDUCED, log entry 104). -/
def State.laneLed (s : State) (i : LaneId) : Led :=
  let l := s.lane i
  if s.control.phase = .reset ∨ s.control.phase = .release ∨ s.control.phase = .off ∨ s.control.phase = .starting ∨ l.held = true then .off
  else if s.control.phase = .dead ∨ s.control.phase = .retryWait then (if l.startPassed then .off else .red)
  else if l.mode ≠ LaneMode.voting ∧ l.cause = some .selfTest then .red
  else if l.mode = LaneMode.voting then .green
  else .amber

/-- LED SVC (R654): green with a link, while the PHY is powered; it flickers whenever `svcFrames` counts. -/
def State.svcLed (s : State) (link : Bool) : Led := if link && s.phyPowered then .green else .off

/-- LED STATE. -/
def State.stateLed (s : State) : Led :=
  if s.control.phase = .safeOff ∨ (s.control.phase = .running ∧ s.control.degradation.isNadir = true) then .red
  else if s.control.phase = .starting then (if s.startup.restart then .amber else .off)
  else
    match s.control.power with
    | .off => .off
    | .idle => .flashing
    | .warm => .amber
    | .live => .green

end Sys2Proof.Machine
end

