-- ==== Sys2Proof/Machine/Startup.lean ====
section
/-! DEFINITION. Starts, the power-up self-test, Dusk, reintegration and fuse repair (R89, R115, R227, R244, R470, R493, R524, R534, R557,
R571 to R587). -/

namespace Sys2Proof.Machine

/-! ## What a start leaves (R90, R115, R227, R383, R519, R524) -/

/-- The majority of the lanes' checkpoints; where no two agree the manual gives none: a free value (R227). -/
def State.checkpointMajority (s : State) : Nat :=
  let a := s.lanes.a.checkpoint
  let b := s.lanes.b.checkpoint
  let c := s.lanes.c.checkpoint
  if a = b ∨ a = c then a else if b = c then b else (Config.freeLong s.freeCtr).toNat

/-- What a lane finds in its flash at a start; the rest of it is cleared. -/
def Lane.cold (l : Lane) : Lane :=
  { Lane.atReset with
    checkpoint := l.checkpoint
    dusk := l.dusk
    duskRuns := l.duskRuns
    softRepairs := l.softRepairs
    fusedRepairs := l.fusedRepairs
    stashFlash := l.stashFlash }

/-- R197: a start before every lane has written the new slot map runs on the old one. -/
def Images.cold (g : Images) : Images :=
  let map := (if g.mapPending then g.oldMap else none).getD (g.profiles.map (·.region), g.stagingRegions)
  { Images.atReset with
    flash := g.flash
    profiles := map.1.map (fun r => ({ region := r, status := .empty, hash := [] } : Profile))
    stagingRegions := map.2
    recordedSlot := g.recordedSlot }

/-- The Almanac at a start: every open record closes, and the counts start again (R519, R524, R529). -/
def Almanac.cold (a : Almanac) : Almanac :=
  { a with
    events := []
    records := a.records.map (fun r => { r with isOpen := false })
    dropped := []
    dropping := []
    stashMode := false
    failed := false
    timeSet := false }

/-- The offset by which the wall time is that of the record at NEWEST (R524; DEDUCED, log entry 108). -/
def State.newestOffset (s : State) : Int :=
  match s.almanac.records.head? with
  | some r => Int.ofNat r.wall - Int.ofNat s.now
  | none => s.wallOffset

/-- The state in which a start from OFF or from safe-off begins: only the flash, the Almanac and what the reset supervisors hold are kept.
Until the seal reading of step 6 the mode and the node ID of the last start hold (R4, Table 16.3; DESIGN CHOICE, log entry 135). -/
def State.cold (s : State) : State :=
  { State.reset with
    now := s.now
    lanes := s.lanes.mapI (fun _ l => l.cold)
    nextNumber := s.checkpointMajority + 2 ^ 20
    wallOffset := s.newestOffset
    images := s.images.cold
    host := { HostSide.atReset with
      keys := s.host.keys
      keysOther := s.host.keysOther
      nonce := s.freeCtr + 1
      nonceAt := s.now }
    ndezo := { Ndezo.atReset with recordedCycle := s.ndezo.recordedCycle }
    pair := { Pair.atReset with
      epoch := s.pair.epochFlash
      epochFlash := s.pair.epochFlash }
    xram := { s.xram with
      filled := false
      loaded := false
      hasOld := false
      clash := none }
    almanac := s.almanac.cold
    sealBank := { s.sealBank with
      voted := List.replicate 16 Reading.isOpen
      next := none
      pselNext := none
      psel := 0 }
    startup := { Startup.atReset with
      resetStuck := s.startup.resetStuck }
    control := { Control.atReset with
      phase := .starting
      reducedUsed := s.control.reducedUsed
      reducedWarned := s.control.reducedWarned }
    identity := s.identity
    freeCtr := s.freeCtr + 17
    sent := s.sent
    pending := s.pending }

/-- R197: the record of a change that the slot map lost. -/
def State.lostEvent (s : State) (g : Images) : State :=
  if g.mapPending then s.event 0x0307 Origin.internal [(24, 8, g.lostImage)] else s

/-! ## Steps 1 and 2 (R571, R580, R581) -/

def DuskRecord.hasMagic (r : DuskRecord) (i : LaneId) : Bool := r.magic == 0x4B535544 && r.format == 1 && r.lane == i

/-- R580. -/
def DuskRecord.accepted (r : DuskRecord) (i : LaneId) : Bool :=
  r.hasMagic i && r.marker == 0x454E4F44 && r.crcOk && r.fwVersion == Config.fwVersion && r.verdict == 0 && r.patterns == 1048576 &&
  r.markerPatterns == 1048576 && r.signature == Config.goldenSignature Config.fwVersion

/-- The next lane that needs the power-up BIST (R572). -/
def State.nextBist (s : State) : Option LaneId := allLanes.find? (fun i => (s.lane i).bistNeeded)

/-- Step 2: each lane judges its record, and the records are erased. -/
def State.judgeDusk (s : State) : State :=
  let ok := s.lanes.mapI (fun i l => l.dusk.any (fun r => r.accepted i))
  let s1 : State := { s with
    lanes := s.lanes.mapI (fun i (l : Lane) => { l with
      dusk := none
      bistNeeded := !ok.get i
      startPassed := ok.get i })
    startup := { s.startup with
      accepted := ok
      hadRecord := allLanes.any (fun i => (s.lane i).dusk.any (fun r => r.magic == 0x4B535544))
      anyFail := allLanes.any (fun i => (s.lane i).dusk.any (fun r => r.marker == 0x454E4F44 && r.crcOk && r.verdict == 1)) } }
  { s1 with startup := { s1.startup with
      bistTurn := s1.nextBist
      bistRan := s1.nextBist.isSome } }

/-- A start from OFF or from safe-off at s0. -/
def State.beginStart (s : State) : State :=
  let s1 := s.cold
  ({ s1 with startup := { s1.startup with begun := s.now } }.judgeDusk).lostEvent s.images

/-- START: s0, 100 ms after the release with a supply in range (16, Start-up). -/
def execStart (t : Nat) (s : State) : Host.Outcome State Fault Refusal :=
  run t (fun s =>
    if s.control.phase == .release && !s.sealBank.below && decide (s.sealBank.releaseSince + 100 * ms ≤ s.now) then s.beginStart else s) s

/-! ## Step 3 (R572, R584, R585) -/

/-- The repairs of a march enter the lane's repair map, with their record in a start. -/
def State.softRepair (s : State) (i : LaneId) (m : March) (record : Bool) : State :=
  let s1 := s.modLane i (fun l => { l with softRepairs := l.softRepairs ++ m.repairs })
  if record && !m.repairs.isEmpty then s1.event 0x0907 Origin.internal [(24, 1, i.index), (25, 1, 0), (26, 2, m.repairs.length)] else s1

/-- LANE_BIST_COMPLETE: the lane passes with the golden signature and a march that found a spare for every fault; the next lane's turn
begins. -/
def State.bistComplete (s : State) (i : LaneId) (r : BistResult) : State :=
  if s.control.phase = .starting ∧ s.startup.bistTurn = some i then
    let s1 := (s.softRepair i r.march true).modLane i (fun l => { l with
      bistNeeded := false
      startPassed := r.signatureOk && r.march.spareLeft })
    { s1 with startup := { s1.startup with bistTurn := s1.nextBist } }
  else s

def execLaneBistComplete (t : Nat) (lane : LaneId) (r : BistResult) (s : State) : Host.Outcome State Fault Refusal :=
  run t (fun s => s.bistComplete lane r) s

/-! ## Steps 4 to 7 -/

/-- The lanes that have come as far as the comparison of the key lists. -/
def State.comparing (s : State) : List LaneId := allLanes.filter (fun i => (s.lane i).startPassed && !(s.lane i).held)

/-- R541: does a lane's list differ from those of two others? -/
def State.keyOdd (s : State) (r : StartResult) (i : LaneId) : Bool := r.keyLists == .odd i && agreementHolds r.keyLists s.comparing

/-- The lanes that pass their start (R574, R541). -/
def State.startPasses (s : State) (r : StartResult) : Lanes Bool :=
  s.lanes.mapI (fun i l => l.startPassed && r.readBackOk.get i && (r.katFail.get i).isNone && !l.held && !s.keyOdd r i)

/-- The record of a check unit that fails its known-answer test: the unit's index and the engine (R327). -/
def State.katRecord (s : State) (i : LaneId) (fail : Option Nat) : State :=
  match fail with
  | some n => s.laneEvent i 0x0508 [(24, 1, i.index), (25, 1, n % 2), (26, 2, n / 2)]
  | none => s

/-- Every failed known-answer test has its record, whether or not the start succeeds (R325, R327, R520). -/
def State.katRecords (s : State) (r : StartResult) : State :=
  allLanes.foldl (fun (u : State) i => u.katRecord i (r.katFail.get i)) s

/-- The lanes join the vote or fail. The number that a lane last committed is the one before the next snapshot's (R209, R227). -/
def State.joinLanes (s : State) (r : StartResult) : State :=
  let pass := s.startPasses r
  let s1 : State := { s with lanes := s.lanes.mapI (fun i (l : Lane) => { l with
      lastNumber := s.nextNumber - 1
      mode := if pass.get i then LaneMode.voting else LaneMode.excluded
      startPassed := pass.get i
      katFail := r.katFail.get i
      localFault := none
      isolatedFor := none
      meridianToggles := pass.get i
      supervisionToggles := pass.get i
      lastCommit := s.now
      vote := VoteBox.fresh }) }
  s1.katRecords r

/-- R574: a lane that does not pass is EXCLUDED with cause SELF_TEST, and the degradation state follows (R575). -/
def State.excludeFailed (s : State) : State :=
  let s0 : State := { s with control := { s.control with reducedSince := s.now } }
  let s1 := (allLanes.filter (fun i => !(s.lane i).startPassed)).foldl (fun u i => u.excludeLane i .selfTest) s0
  let d : Degradation := if s1.voting.length = 3 then .full else .reduced
  let s2 := if s1.control.degradation = d then s1 else s1.degrade d 0
  if d = .full then { s2 with control := { s2.control with
      reducedUsed := 0
      reducedWarned := false } }
  else s2

/-- The role code of SEAL10 and SEAL11 (Table 15.2); 0xFF where a switch of SEAL0 to SEAL12 is discrepant or the code is 11 (R557). -/
def seatRole (v : List Reading) : Nat :=
  let odd := (v.take 13).any (fun x => x == .discrepant || x == .unfiltered)
  match odd, v.getD 10 .isOpen == .isClosed, v.getD 11 .isOpen == .isClosed with
  | false, false, false => 0
  | false, true, false => 1
  | false, false, true => 2
  | _, _, _ => 0xFF

/-- Step 6: the seal reading of a start, and the pins (R557, R562). -/
def State.readSeals (s : State) (r : StartResult) : State :=
  let v := (List.range 16).map (fun k => s.voteReading (r.seals.mapI (fun _ (l : List Reading) => l.getD k .unfiltered)))
  let pin := fun k => votePin (s.voting.map (fun i => bitAt (r.psel.get i) k)) false
  { s with
    sealBank := { s.sealBank with
      voted := v
      nodeId := packBits ((v.take 10).map (fun x => x == .isClosed))
      nodeKnown := (v.take 10).all (fun x => x == .isOpen || x == .isClosed)
      role := seatRole v
      ki40 := v.getD 12 .isOpen == .isClosed
      psel := packBits [pin 0, pin 1] }
    lanes := s.lanes.mapI (fun i (l : Lane) => { l with inputs := { l.inputs with
      seals := r.seals.get i
      psel := r.psel.get i % 4 } }) }

/-- R534: the stash of the lowest lane that passed enters the Almanac with its own sequence numbers; the others are discarded. -/
def State.restoreStash (s : State) (mramOk : Bool) : State :=
  let stash := if mramOk then s.leadLane.stashFlash.reverse else []
  let a := stash.foldl (fun (a : Almanac) r =>
    { a with
      records := { r with
        stashed := true
        isOpen := false } :: a.records
      next := r.seq + 1 }) s.almanac
  { s with
    almanac := { a with
      records := a.records.filter (fun r => decide (a.oldest ≤ r.seq))
      failed := !mramOk }
    lanes := s.lanes.mapI (fun _ (l : Lane) => { l with stashFlash := [] }) }

/-- R89: the profile slots load from flash; those that hold an image are VERIFYING. -/
def State.loadProfiles (s : State) : State :=
  let regions := s.images.profiles.foldl (fun (rs : List Mem) p => listSet rs p.region (s.images.flash.getD p.region []).cutToImage)
    (List.replicate 6 [])
  { s with images := { s.images with
      regions := regions
      profiles := s.images.profiles.map (fun p =>
        { p with status := if s.images.flash.getD p.region [] = [] then SlotStatus.empty else SlotStatus.verifying }) } }

/-- The outcome of R581 in byte 24 of the DUSK record. -/
def State.duskResult (s : State) : Nat :=
  let ok := s.startup.accepted
  if ok.a && ok.b && ok.c then 0 else if s.startup.anyFail then 1 else 2

/-- The records of the first snapshot (R577). The point ends are those of the image in the selected slot, where its checks pass
(DEDUCED, log entry 103). -/
def State.startRecords (s : State) (pass : Lanes Bool) : State :=
  let bits := fun (x : Lanes Bool) => packBits [x.a, x.b, x.c]
  let no := s.startup.accepted.mapI (fun _ b => !b)
  let points := if s.slotCheck s.selectedSlot = 0 then
    ((elems (s.images.profileMem s.selectedSlot)).filter (fun e => e.2.etype == tyPoint)).map (·.1) else []
  let s1 := s.event 0x0905 Origin.internal [(24, 1, flag s.startup.bistRan), (25, 1, bits pass), (28, 4, (s.now - s.startup.begun) / 1000000)]
  let s2 := if s.startup.hadRecord then s1.event 0x0906 Origin.internal [(24, 1, s.duskResult), (25, 1, bits no)] else s1
  let s3 := s2.event 0x0404 Origin.internal [(24, 8, s.nextNumber)]
  let s4 := match s.startup.resetStuck with
    | some n => s3.event 0x0904 Origin.internal [(24, 4, n)]
    | none => s3
  let s5 := match points with
    | p :: _ => s4.event 0x0103 Origin.internal [(24, 2, p), (26, 1, 1), (27, 1, 1), (28, 2, points.length)]
    | [] => s4
  let s6 := s5.event 0x0102 Origin.internal [(24, 2, 0xFFFF), (26, 1, 1), (27, 1, 3)]
  { s6 with startup := { s6.startup with
      duskOutcome := if s.startup.hadRecord then s.duskResult + 1 else 0
      stuckLogged := s.startup.resetStuck.isSome
      resetStuck := none } }

/-- Entry to IDLE (R575, R577): the exchange RAM is filled (R493), and wall time goes on from the record at NEWEST (R524). -/
def State.enterIdle (s : State) (r : StartResult) : State :=
  let pass := s.startPasses r
  let s0 := { s with wallOffset := ((s.joinLanes r).restoreStash r.mramOk).newestOffset }
  let s1 := (((s0.joinLanes r).readSeals r).restoreStash r.mramOk).loadProfiles
  let s2 : State := { s1 with
    control := { s1.control with
      phase := .running
      power := .idle
      mode := .stop }
    xram := { s1.xram with
      mem := []
      filled := true } }
  (s2.startRecords pass).excludeFailed

/-- The restart from Nadir ends in WARM and STOP with the routes that it had (R36, R115, R162). -/
def State.enterRestarted (s : State) (r : StartResult) : State :=
  let k := if s.control.power = .idle then s.selectedSlot else s.images.runningSlot
  let m := s.images.profileMem k
  let lead := s.leadLane
  let s0 := s.joinLanes r
  let s1 := if s0.control.mode = .stop then s0 else s0.putMode .stop 3 Origin.internal
  let s2 : State := { s1 with
    lanes := s1.lanes.mapI (fun _ (l : Lane) => { l with
      engine := lead.engine.restart m
      offset := lead.offset })
    control := { s1.control with
      phase := .running
      power := .warm
      nadirDue := none }
    startup := { s1.startup with restart := false } }
  s2.excludeFailed.enterWarmAt k

/-- START_COMPLETE (R575): IDLE with two or three passing lanes; else a retry 1 s later, and then reset. -/
def State.startComplete (s : State) (r : StartResult) : State :=
  let pass := s.startPasses r
  let n := (allLanes.filter (fun i => pass.get i)).length
  if s.control.phase = .starting ∧ s.startup.bistTurn = none then
    let s : State := { s with startup := { s.startup with noKeys := !agreementHolds r.keyLists s.comparing } }
    let failed := ({ s with lanes := s.lanes.mapI (fun i (l : Lane) => { l with startPassed := pass.get i }) } : State).katRecords r
    if 2 ≤ n then (if s.startup.restart then s.enterRestarted r else s.enterIdle r)
    else if s.startup.retried then { failed with control := { s.control with phase := .dead } }
    else
      { failed with
        control := { s.control with phase := .retryWait }
        startup := { s.startup with retryAt := s.now + second } }
  else s

def execStartComplete (t : Nat) (r : StartResult) (s : State) : Host.Outcome State Fault Refusal := run t (fun s => s.startComplete r) s

/-- START_RETRY (R575): the start is repeated from step 1; the Dusk records are erased, so every lane runs its BIST. -/
def State.startRetry (s : State) : State :=
  if s.control.phase = .retryWait ∧ s.startup.retryAt ≤ s.now then
    { s with
      control := { s.control with phase := .starting }
      startup := { s.startup with
        retried := true
        retryAt := s.now
        bistTurn := some .A
        bistRan := true }
      lanes := s.lanes.mapI (fun _ (l : Lane) => { l with
        bistNeeded := true
        startPassed := false
        held := false }) }
  else s

def execStartRetry (t : Nat) (s : State) : Host.Outcome State Fault Refusal := run t State.startRetry s

/-! ## Dusk (R578 to R582) -/

/-- MARCH of a Dusk record. -/
def marchCode (m : March) : Nat := if !m.spareLeft then 2 else if m.repairs.isEmpty then 0 else 1

/-- The record of a lane, sealed with its completion marker (Table 16.5). -/
def DuskRecord.sealed (d : DuskRecord) (r : DuskResult) (stopped : Bool) : DuskRecord :=
  let n := if stopped then d.patterns else 1048576
  let pass := r.signature == Config.goldenSignature Config.fwVersion && r.march.spareLeft
  { d with
    patterns := n
    clockKhz := if stopped then min d.clockKhz r.clockKhz else r.clockKhz
    signature := r.signature
    verdict := if stopped then 2 else if pass then 0 else 1
    march := marchCode r.march
    newRepairs := r.march.repairs.length
    vmin := if stopped then min d.vmin r.vminMv else r.vminMv
    vmax := if stopped then max d.vmax r.vmaxMv else r.vmaxMv
    marker := 0x454E4F44
    markerPatterns := n
    crcOk := true }

/-- Dusk ends with lane C: the module is OFF and its sessions end, or after DUSK_RUN starts at this instant (R569, R578, R582). -/
def State.endDusk (s : State) : State :=
  if s.startup.duskOff then
    let s1 := s.endAllSessions
    { s1 with
      control := { s1.control with phase := .off }
      startup := { s1.startup with duskTurn := none } }
  else s.beginStart

/-- DUSK_LANE_COMPLETE: the lane seals its record, and the next lane begins. -/
def State.duskLaneComplete (s : State) (i : LaneId) (r : DuskResult) : State :=
  if s.control.phase = .dusk ∧ s.startup.duskTurn = some i then
    let s1 := (s.softRepair i r.march false).modLane i (fun l => { l with dusk := l.dusk.map (fun d => d.sealed r s.startup.duskStop) })
    match laneOf (i.index + 1) with
    | some j => s1.beginDusk j
    | none => s1.endDusk
  else s

def execDuskLaneComplete (t : Nat) (lane : LaneId) (r : DuskResult) (s : State) : Host.Outcome State Fault Refusal :=
  run t (fun s => s.duskLaneComplete lane r) s

/-- DUSK_CONDITIONS (R579): a clock outside 49.5 to 50.5 MHz or a core supply outside 873 to 927 mV stops the lane's test; its record is
sealed with VERDICT 2 and the patterns reached. -/
def State.duskConditions (s : State) (i : LaneId) (patterns clockKhz supplyMv : Nat) : State :=
  let bad := decide (clockKhz < 49500) || decide (50500 < clockKhz) || decide (supplyMv < 873) || decide (927 < supplyMv)
  if s.control.phase = .dusk ∧ s.startup.duskTurn = some i ∧ s.startup.duskStop = false ∧ bad = true then
    let s1 := s.modLane i (fun l => { l with dusk := l.dusk.map (fun d => { d with
      patterns := min patterns 1048576
      clockKhz := clockKhz
      vmin := supplyMv
      vmax := supplyMv }) })
    { s1 with startup := { s1.startup with duskStop := true } }
  else s

def execDuskConditions (t : Nat) (lane : LaneId) (patterns clockKhz supplyMv : Nat) (s : State) : Host.Outcome State Fault Refusal :=
  run t (fun s => s.duskConditions lane patterns clockKhz supplyMv) s

/-! ## Reintegration (R244) and fuse repair (R586) -/

/-- REINTEGRATION_SELF_TEST_DONE: the lane, cleared by its self-test, enters COPYING, or is EXCLUDED with cause SELF_TEST. A check unit that
fails its known-answer test fails it (R325). -/
def State.selfTestDone (s : State) (i : LaneId) (r : SelfTestResult) : State :=
  if (s.lane i).mode = .restarting ∧ s.control.phase = .running then
    if r.pass && r.katFail.isNone then (s.laneStage Origin.internal i LaneMode.copying none).modLane i (fun l => { l with
      startPassed := true
      localFault := none
      queue := []
      almLost := 0
      almLostPending := false })
    else ((s.laneStage Origin.internal i LaneMode.excluded (some .selfTest)).modLane i (fun l => { l with
      cause := some .selfTest
      katFail := r.katFail })).katRecord i r.katFail
  else s

def execReintegrationSelfTestDone (t : Nat) (lane : LaneId) (r : SelfTestResult) (s : State) : Host.Outcome State Fault Refusal :=
  run t (fun s => s.selfTestDone lane r) s

/-- COPYING_COMPLETE: with two equal copies the lane holds the state of the voting lanes and enters SHADOW; on a mismatch it is EXCLUDED
with the cause that it carried. -/
def State.copyingComplete (s : State) (i : LaneId) (equal : Bool) : State :=
  if (s.lane i).mode = .copying ∧ s.control.phase = .running then
    if equal then
      let lead := s.leadLane
      (s.laneStage Origin.internal i LaneMode.shadow none).modLane i (fun (l : Lane) => { l with
        shadowSince := s.now
        shadowDiffer := false
        engine := lead.engine
        program := lead.program.abandon
        inputs := { l.inputs with streams := lead.inputs.streams }
        mapWritten := lead.mapWritten
        offset := lead.offset
        lastNumber := lead.lastNumber })
    else s.laneStage Origin.internal i LaneMode.excluded (s.lane i).cause
  else s

def execCopyingComplete (t : Nat) (lane : LaneId) (copiesEqual : Bool) (s : State) : Host.Outcome State Fault Refusal :=
  run t (fun s => s.copyingComplete lane copiesEqual) s

/-- FUSE_REPAIR_COMPLETE: the soft repairs of the lowest addresses become permanent, as many as the fuse entries take. -/
def State.fuseRepair (s : State) (i : LaneId) : State :=
  let l := s.lane i
  if l.fuseRunning then
    let soft := l.softRepairs.mergeSort (fun a b => decide (a ≤ b))
    let n := l.fusable
    (s.modLane i (fun x => { x with
      softRepairs := soft.drop n
      fusedRepairs := x.fusedRepairs ++ soft.take n
      fuseRunning := false })).event 0x0907 Origin.internal [(24, 1, i.index), (25, 1, 1), (26, 2, n)]
  else s

def execFuseRepairComplete (t : Nat) (lane : LaneId) (s : State) : Host.Outcome State Fault Refusal :=
  run t (fun s => s.fuseRepair lane) s

end Sys2Proof.Machine
end

