-- ==== Sys2Proof/Machine/Store.lean ====
section
/-! DEFINITION. The scrubbers with their replays, and the end of a freeze (R468 to R479, R488). -/

namespace Sys2Proof.Machine

/-! ## The table store as memory (R86, R87, R91) -/

/-- The areas of the working area (Table 2.19). -/
inductive WorkArea where
  | ring | telegrams | change | firmware
deriving DecidableEq, Repr

def WorkArea.base : WorkArea → Nat
  | .ring => 0x18000000
  | .telegrams => 0x19000000
  | .change => 0x1A000000
  | .firmware => 0x1C000000

def WorkArea.size : WorkArea → Nat
  | .ring | .telegrams => 0x1000000
  | .change => 0x2000000
  | .firmware => 0x4000000

/-- The area of an address. -/
def workArea (a : Nat) : Option WorkArea :=
  [WorkArea.ring, .telegrams, .change, .firmware].find? (fun w => decide (w.base ≤ a) && decide (a < w.base + w.size))

/-- The snapshot in entry `k` of a lane's ring: snapshot `n` has entry `n mod 2048` (DESIGN CHOICE, log entry 110). An entry of a snapshot
committed while the lane is frozen is written when the freeze ends (R489). -/
def State.ringAt (s : State) (i : LaneId) (k : Nat) : Option Snapshot :=
  let x := (s.lane i).store
  (s.snapshots ++ x.ringKept).find? (fun p => p.number % 2048 == k && (!x.frozen || decide (p.commitAt < x.frozenSince)))

/-- A byte of the snapshot ring: 0 where no snapshot has been written since the zero-fill of the start (R470), which a module that has not
come out of its start may not have reached: a free value there, as in the reserved rest of an entry (log entry 110). -/
def State.ringByte (s : State) (i : LaneId) (a : Nat) : Byte :=
  let n := (a - 0x18000000) % 8192
  match s.ringAt i ((a - 0x18000000) / 8192) with
  | some p => if n < 5648 then p.ringEntry.getD n 0 else Config.workByte s.freeCtr a
  | none => if s.control.phase = .running then 0 else Config.workByte s.freeCtr a

/-- A byte of the online change work area: the change report of each staging slot that has one (R186), at an address that the manual leaves
open, and free values (log entry 110). -/
def State.changeByte (s : State) (a : Nat) : Byte :=
  let found := (List.range 2).findSome? (fun k => (s.stagingAt k).report.bind (fun r =>
    (r.header k (s.stagingAt k).target ++ (r.entries.map (·.bytes)).flatten)[a - (0x1A000000 + Config.reportAt k)]?.filter
      (fun _ => decide (0x1A000000 + Config.reportAt k ≤ a))))
  found.getD (Config.workByte s.freeCtr a)

/-- A byte of a lane's table store (Tables 2.18 and 2.19): six image regions and the working area. The manual gives the telegram buffers and
the firmware's area no layout: free values (log entry 110). -/
def State.tableStoreByte (s : State) (i : LaneId) (a : Nat) : Byte :=
  if a < 0x18000000 then (s.images.regions.getD (a / 0x04000000) []).read (a % 0x04000000)
  else
    match workArea a with
    | some .ring => s.ringByte i a
    | some .change => s.changeByte a
    | _ => Config.workByte s.freeCtr a

/-- How a read ends (Table 13.1): at once, cleared by a replay, or with a memory fault. -/
inductive ReadEnd where
  | clean | replayed | fault
deriving DecidableEq, Repr

def readEnd (e : ReadErrors) : ReadEnd :=
  if !e.first then .clean else if !e.second || !e.third then .replayed else .fault

/-- Bursts of the memory (R475, R477). -/
def Memory.bursts : Memory → Nat
  | .tableStore => 8388608
  | .sram => 65536

/-- The next burst of a scrubber. -/
def Store.pos (x : Store) : Memory → Nat
  | .tableStore => x.tsPos
  | .sram => x.sramPos

/-- LAST_ERR_ADDR of a burst (Table 13.8). -/
def Memory.address (m : Memory) (burst : Nat) : Nat :=
  match m with
  | .tableStore => 64 * burst
  | .sram => 0x80000000 + 64 * burst

/-- The scrubber moves on; with the last burst a pass ends and a new one starts (R475, R477). -/
def Store.advance (x : Store) (m : Memory) : Store :=
  let wraps := m.bursts ≤ x.pos m + 1
  let next := if wraps then 0 else x.pos m + 1
  match m with
  | .tableStore => { x with tsPos := next, tsPasses := if wraps then inc x.tsPasses else x.tsPasses }
  | .sram => { x with sramPos := next, sramPasses := if wraps then inc x.sramPasses else x.sramPasses }

/-- R471: a replay has cleared an error at an address, at a domain time. -/
def Store.replay (x : Store) (m : Memory) (addr time : Nat) : Store :=
  let y := { x with lastErrAddr := addr, lastErrTime := time }
  match m with
  | .tableStore => { y with tsReplayed := inc y.tsReplayed }
  | .sram => { y with sramReplayed := inc y.sramReplayed }

/-- Does the lane's scrubber run (R478)? A lane in its self-test does not scrub. -/
def State.scrubs (s : State) (i : LaneId) : Bool :=
  s.control.phase == .running && (s.lane i).mode != .restarting && !(s.lane i).held && !(s.lane i).store.frozen

/-- One read of a scrubber, judged by Table 13.1. Three failing reads leave a word of the burst wrong in its cell; which one, the manual does
not say: a free word of the 16 (DESIGN CHOICE, log entry 124). The reader is then stalled: it reads no further while that word is wrong. Requester 0xFE of the
MEMORY record is the scrubber. -/
def State.scrub (s : State) (i : LaneId) (m : Memory) (e : ReadErrors) : State :=
  let x := (s.lane i).store
  let addr := m.address (x.pos m)
  let after := fun (u : State) (y : Store) => u.modLane i (fun l => { l with store := y })
  if s.scrubs i && x.burstGood m (x.pos m) then
    match readEnd e with
    | .clean => after s (x.advance m)
    | .replayed => (after s ((x.replay m addr s.now).advance m)).memoryEvent i m 0xFE true addr
    | .fault => ((after s.drawn (x.spoil m (x.pos m) s.freeByte.toNat)).faultLane i .memory).memoryEvent i m 0xFE false addr
  else s

/-- SCRUB_BURST (R475). -/
def execScrubBurst (t : Nat) (lane : LaneId) (errors : ReadErrors) (s : State) : Host.Outcome State Fault Refusal :=
  run t (fun s => s.scrub lane .tableStore errors) s

/-- SRAM_SCRUB (R477). -/
def execSramScrub (t : Nat) (lane : LaneId) (errors : ReadErrors) (s : State) : Host.Outcome State Fault Refusal :=
  run t (fun s => s.scrub lane .sram errors) s

/-- FREEZE_TIMEOUT (R488): 10 ms after it was set, the freeze bit clears. -/
def execFreezeTimeout (t : Nat) (lane : LaneId) (s : State) : Host.Outcome State Fault Refusal :=
  run t (fun s => if (s.lane lane).store.frozenSince + 10000000 ≤ s.now then s.unfreeze Origin.internal 2 lane else s) s

end Sys2Proof.Machine
end

