-- ==== Sys2Proof/Machine/Dispatch.lean ====
section
/-! DEFINITION. One arm for each command: a call of its meaning. -/

namespace Sys2Proof.Machine

/-- The effect of a command on everything but the queue. -/
def exec (i : Instr) (s : State) : Host.Outcome State Fault Refusal :=
  match i with
  | .sessionOpen t c => Sys2Proof.Machine.execSessionOpen t c s
  | .sessionClose t c => Sys2Proof.Machine.execSessionClose t c s
  | .sessionKeep t c => Sys2Proof.Machine.execSessionKeep t c s
  | .lockAcquire t c => Sys2Proof.Machine.execLockAcquire t c s
  | .lockRelease t c => Sys2Proof.Machine.execLockRelease t c s
  | .creditSet t c => Sys2Proof.Machine.execCreditSet t c s
  | .routeSet t c => Sys2Proof.Machine.execRouteSet t c s
  | .routeCancel t c => Sys2Proof.Machine.execRouteCancel t c s
  | .routeReleaseTimed t c => Sys2Proof.Machine.execRouteReleaseTimed t c s
  | .routeQuery t c => Sys2Proof.Machine.execRouteQuery t c s
  | .signalStop t c => Sys2Proof.Machine.execSignalStop t c s
  | .allStop t c => Sys2Proof.Machine.execAllStop t c s
  | .pointMove t c => Sys2Proof.Machine.execPointMove t c s
  | .pointBlock t c => Sys2Proof.Machine.execPointBlock t c s
  | .pointUnblock t c => Sys2Proof.Machine.execPointUnblock t c s
  | .sectionReset t c => Sys2Proof.Machine.execSectionReset t c s
  | .elementQuery t c => Sys2Proof.Machine.execElementQuery t c s
  | .snapshotRead t c => Sys2Proof.Machine.execSnapshotRead t c s
  | .statusRead t c => Sys2Proof.Machine.execStatusRead t c s
  | .paceRead t c => Sys2Proof.Machine.execPaceRead t c s
  | .countersRead t c => Sys2Proof.Machine.execCountersRead t c s
  | .modeSet t c => Sys2Proof.Machine.execModeSet t c s
  | .profileSelect t c => Sys2Proof.Machine.execProfileSelect t c s
  | .stageOpen t c => Sys2Proof.Machine.execStageOpen t c s
  | .stageWrite t c => Sys2Proof.Machine.execStageWrite t c s
  | .stageVerify t c => Sys2Proof.Machine.execStageVerify t c s
  | .changeArm t c => Sys2Proof.Machine.execChangeArm t c s
  | .changeAbort t c => Sys2Proof.Machine.execChangeAbort t c s
  | .paramWrite t c => Sys2Proof.Machine.execParamWrite t c s
  | .paramRead t c => Sys2Proof.Machine.execParamRead t c s
  | .powerStateSet t c => Sys2Proof.Machine.execPowerStateSet t c s
  | .duskRun t c => Sys2Proof.Machine.execDuskRun t c s
  | .repairFuse t c => Sys2Proof.Machine.execRepairFuse t c s
  | .almanacCursor t c => Sys2Proof.Machine.execAlmanacCursor t c s
  | .almanacRead t c => Sys2Proof.Machine.execAlmanacRead t c s
  | .almanacQuota t c => Sys2Proof.Machine.execAlmanacQuota t c s
  | .timeSet t c => Sys2Proof.Machine.execTimeSet t c s
  | .identityRead t c => Sys2Proof.Machine.execIdentityRead t c s
  | .attestQuote t c => Sys2Proof.Machine.execAttestQuote t c s
  | .keyListUpdate t c => Sys2Proof.Machine.execKeyListUpdate t c s
  | .constellationRequest t c => Sys2Proof.Machine.execConstellationRequest t c s
  | .ndezoStatus t c => Sys2Proof.Machine.execNdezoStatus t c s
  | .portEnable t c => Sys2Proof.Machine.execPortEnable t c s
  | .pairStatus t c => Sys2Proof.Machine.execPairStatus t c s
  | .switchover t c => Sys2Proof.Machine.execSwitchover t c s
  | .standbySync t c => Sys2Proof.Machine.execStandbySync t c s
  | .arbControl t c => Sys2Proof.Machine.execArbControl t c s
  | .arbCounters t c => Sys2Proof.Machine.execArbCounters t c s
  | .xramRead t c => Sys2Proof.Machine.execXramRead t c s
  | .xramWrite t c => Sys2Proof.Machine.execXramWrite t c s
  | .xramAtomic t c => Sys2Proof.Machine.execXramAtomic t c s
  | .laneDiag t c => Sys2Proof.Machine.execLaneDiag t c s
  | .laneReintegrate t c => Sys2Proof.Machine.execLaneReintegrate t c s
  | .hostCopyRejected t d => Sys2Proof.Machine.execHostCopyRejected t d s
  | .skewWindowExpiry t key => Sys2Proof.Machine.execSkewWindowExpiry t key s
  | .copyDequeued t => Sys2Proof.Machine.execCopyDequeued t s
  | .sessionLeaseLapse t session => Sys2Proof.Machine.execSessionLeaseLapse t session s
  | .lockLeaseLapse t => Sys2Proof.Machine.execLockLeaseLapse t s
  | .openNonceChange t => Sys2Proof.Machine.execOpenNonceChange t s
  | .plannedStart t sense => Sys2Proof.Machine.execPlannedStart t sense s
  | .voteVector t dst src f => Sys2Proof.Machine.execVoteVector t dst src f s
  | .voteCommit t lane => Sys2Proof.Machine.execVoteCommit t lane s
  | .voteDeadline t lane => Sys2Proof.Machine.execVoteDeadline t lane s
  | .verdictWord t dst src f => Sys2Proof.Machine.execVerdictWord t dst src f s
  | .faultNotice t dst src f => Sys2Proof.Machine.execFaultNotice t dst src f s
  | .miniVote t lane => Sys2Proof.Machine.execMiniVote t lane s
  | .miniVoteJoin t lane src f => Sys2Proof.Machine.execMiniVoteJoin t lane src f s
  | .miniVoteDeadline t lane => Sys2Proof.Machine.execMiniVoteDeadline t lane s
  | .forcePendingDrop t lane force => Sys2Proof.Machine.execForcePendingDrop t lane force s
  | .isolationTimeout t lane => Sys2Proof.Machine.execIsolationTimeout t lane s
  | .watchdogExpiry t lane => Sys2Proof.Machine.execWatchdogExpiry t lane s
  | .supplyElementDrop t lane signal => Sys2Proof.Machine.execSupplyElementDrop t lane signal s
  | .reducedLimitExpiry t => Sys2Proof.Machine.execReducedLimitExpiry t s
  | .reducedWarn t => Sys2Proof.Machine.execReducedWarn t s
  | .taskBodyComplete t lane task run => Sys2Proof.Machine.execTaskBodyComplete t lane task run s
  | .detectTimeout t owner => Sys2Proof.Machine.execDetectTimeout t owner s
  | .approachTimerExpiry t route => Sys2Proof.Machine.execApproachTimerExpiry t route s
  | .emergTimerExpiry t route => Sys2Proof.Machine.execEmergTimerExpiry t route s
  | .overlapTimerExpiry t route => Sys2Proof.Machine.execOverlapTimerExpiry t route s
  | .sectionResetEnd t element => Sys2Proof.Machine.execSectionResetEnd t element s
  | .safeInputChange t lane input level => Sys2Proof.Machine.execSafeInputChange t lane input level s
  | .paceMeasurement t lane pace => Sys2Proof.Machine.execPaceMeasurement t lane pace s
  | .paceMarginClear t lane => Sys2Proof.Machine.execPaceMarginClear t lane s
  | .rxVerdict t dst src w f => Sys2Proof.Machine.execRxVerdict t dst src w f s
  | .rxDecisionDeadline t lane port stream => Sys2Proof.Machine.execRxDecisionDeadline t lane port stream s
  | .txValue t dst src host stream isP value => Sys2Proof.Machine.execTxValue t dst src host stream isP value s
  | .txVerify t dst src w => Sys2Proof.Machine.execTxVerify t dst src w s
  | .domainCycleStart t => Sys2Proof.Machine.execDomainCycleStart t s
  | .syncSend t => Sys2Proof.Machine.execSyncSend t s
  | .linkFrame t port f => Sys2Proof.Machine.execLinkFrame t port f s
  | .syncFrame t port f => Sys2Proof.Machine.execSyncFrame t port f s
  | .coldFrame t port f => Sys2Proof.Machine.execColdFrame t port f s
  | .dataFrame t port f => Sys2Proof.Machine.execDataFrame t port f s
  | .forward t port f => Sys2Proof.Machine.execForward t port f s
  | .transmitBufferFill t slot => Sys2Proof.Machine.execTransmitBufferFill t slot s
  | .slotSend t slot => Sys2Proof.Machine.execSlotSend t slot s
  | .slotClose t stream => Sys2Proof.Machine.execSlotClose t stream s
  | .delayUnknown t port => Sys2Proof.Machine.execDelayUnknown t port s
  | .listenTimeExpiry t => Sys2Proof.Machine.execListenTimeExpiry t s
  | .coldStartCycleEnd t => Sys2Proof.Machine.execColdStartCycleEnd t s
  | .polestarClaim t => Sys2Proof.Machine.execPolestarClaim t s
  | .outOfStep t => Sys2Proof.Machine.execOutOfStep t s
  | .domainMerge t => Sys2Proof.Machine.execDomainMerge t s
  | .dawnJoin t => Sys2Proof.Machine.execDawnJoin t s
  | .dawnFail t => Sys2Proof.Machine.execDawnFail t s
  | .testSlotStart t output => Sys2Proof.Machine.execTestSlotStart t output s
  | .offPulseEnd t output sense => Sys2Proof.Machine.execOffPulseEnd t output sense s
  | .elementTest t output sense => Sys2Proof.Machine.execElementTest t output sense s
  | .darkTestStep t output step sense => Sys2Proof.Machine.execDarkTestStep t output step sense s
  | .untested t output => Sys2Proof.Machine.execUntested t output s
  | .outputFault t lane output kind => Sys2Proof.Machine.execOutputFault t lane output kind s
  | .short t lane output => Sys2Proof.Machine.execShort t lane output s
  | .shortSetExit t output => Sys2Proof.Machine.execShortSetExit t output s
  | .sealChange t switch readings => Sys2Proof.Machine.execSealChange t switch readings s
  | .sealDisagreement t lane switch => Sys2Proof.Machine.execSealDisagreement t lane switch s
  | .pselChange t values => Sys2Proof.Machine.execPselChange t values s
  | .verifyComplete t slot outcome => Sys2Proof.Machine.execVerifyComplete t slot outcome s
  | .admissionComplete t slot outcome => Sys2Proof.Machine.execAdmissionComplete t slot outcome s
  | .slotMapWrite t lane => Sys2Proof.Machine.execSlotMapWrite t lane s
  | .stageWriteCopyComplete t slot => Sys2Proof.Machine.execStageWriteCopyComplete t slot s
  | .xramUnguarded t => Sys2Proof.Machine.execXramUnguarded t s
  | .heartbeatSend t => Sys2Proof.Machine.execHeartbeatSend t s
  | .heartbeat t link f => Sys2Proof.Machine.execHeartbeat t link f s
  | .pairListenEnd t => Sys2Proof.Machine.execPairListenEnd t s
  | .pathSilent t path => Sys2Proof.Machine.execPathSilent t path s
  | .intakeFrame t link f => Sys2Proof.Machine.execIntakeFrame t link f s
  | .forceFrame t link f => Sys2Proof.Machine.execForceFrame t link f s
  | .changeFrame t link f => Sys2Proof.Machine.execChangeFrame t link f s
  | .copyReq t link f => Sys2Proof.Machine.execCopyReq t link f s
  | .copyFrame t first second => Sys2Proof.Machine.execCopyFrame t first second s
  | .catchUpComplete t => Sys2Proof.Machine.execCatchUpComplete t s
  | .switchFrame t link f => Sys2Proof.Machine.execSwitchFrame t link f s
  | .switchAbandoned t => Sys2Proof.Machine.execSwitchAbandoned t s
  | .quarantineEnd t => Sys2Proof.Machine.execQuarantineEnd t s
  | .epochFlashWrite t => Sys2Proof.Machine.execEpochFlashWrite t s
  | .switchDue t => Sys2Proof.Machine.execSwitchDue t s
  | .scrubBurst t lane errors => Sys2Proof.Machine.execScrubBurst t lane errors s
  | .sramScrub t lane errors => Sys2Proof.Machine.execSramScrub t lane errors s
  | .freezeTimeout t lane => Sys2Proof.Machine.execFreezeTimeout t lane s
  | .mbRead t addr w => Sys2Proof.Machine.execMbRead t addr w s
  | .mbWrite t addr data w => Sys2Proof.Machine.execMbWrite t addr data w s
  | .atomicLoad t addr data => Sys2Proof.Machine.execAtomicLoad t addr data s
  | .atomicExecute t addr data swap => Sys2Proof.Machine.execAtomicExecute t addr data swap s
  | .atomicResult t addr high => Sys2Proof.Machine.execAtomicResult t addr high s
  | .cycleCutShort t cycle => Sys2Proof.Machine.execCycleCutShort t cycle s
  | .almanacAppend t lane fault => Sys2Proof.Machine.execAlmanacAppend t lane fault s
  | .openRecordClose t seq => Sys2Proof.Machine.execOpenRecordClose t seq s
  | .supplyBelow t => Sys2Proof.Machine.execSupplyBelow t s
  | .supplyReturn t => Sys2Proof.Machine.execSupplyReturn t s
  | .powerFail t => Sys2Proof.Machine.execPowerFail t s
  | .mrstAssert t => Sys2Proof.Machine.execMrstAssert t s
  | .mrstRelease t => Sys2Proof.Machine.execMrstRelease t s
  | .mseatHigh t => Sys2Proof.Machine.execMseatHigh t s
  | .resetStuck t => Sys2Proof.Machine.execResetStuck t s
  | .coreUndervoltage t lane => Sys2Proof.Machine.execCoreUndervoltage t lane s
  | .start t => Sys2Proof.Machine.execStart t s
  | .laneBistComplete t lane r => Sys2Proof.Machine.execLaneBistComplete t lane r s
  | .startComplete t r => Sys2Proof.Machine.execStartComplete t r s
  | .startRetry t => Sys2Proof.Machine.execStartRetry t s
  | .duskLaneComplete t lane r => Sys2Proof.Machine.execDuskLaneComplete t lane r s
  | .duskConditions t lane patterns clockKhz supplyMv => Sys2Proof.Machine.execDuskConditions t lane patterns clockKhz supplyMv s
  | .reintegrationSelfTestDone t lane r => Sys2Proof.Machine.execReintegrationSelfTestDone t lane r s
  | .copyingComplete t lane copiesEqual => Sys2Proof.Machine.execCopyingComplete t lane copiesEqual s
  | .ki40Status t c => Sys2Proof.Machine.execKi40Status t c s
  | .ki40RouteSet t c => Sys2Proof.Machine.execKi40RouteSet t c s
  | .ki40RouteCancel t c => Sys2Proof.Machine.execKi40RouteCancel t c s
  | .ki40RouteReleaseTimed t c => Sys2Proof.Machine.execKi40RouteReleaseTimed t c s
  | .ki40SignalStop t c => Sys2Proof.Machine.execKi40SignalStop t c s
  | .ki40AllStop t c => Sys2Proof.Machine.execKi40AllStop t c s
  | .ki40PointMove t c => Sys2Proof.Machine.execKi40PointMove t c s
  | .ki40PointBlock t c => Sys2Proof.Machine.execKi40PointBlock t c s
  | .ki40PointUnblock t c => Sys2Proof.Machine.execKi40PointUnblock t c s
  | .ki40SectionReset t c => Sys2Proof.Machine.execKi40SectionReset t c s
  | .ki40RouteQuery t c => Sys2Proof.Machine.execKi40RouteQuery t c s
  | .ki40ElementQuery t c => Sys2Proof.Machine.execKi40ElementQuery t c s
  | .ki40Mode t c => Sys2Proof.Machine.execKi40Mode t c s
  | .ki40Power t c => Sys2Proof.Machine.execKi40Power t c s
  | .eventRead t c => Sys2Proof.Machine.execEventRead t c s
  | .ki40TimeSet t c => Sys2Proof.Machine.execKi40TimeSet t c s
  | .dataLoadPhase0 t c => Sys2Proof.Machine.execDataLoadPhase0 t c s
  | .dataLoadPhase1 t c => Sys2Proof.Machine.execDataLoadPhase1 t c s
  | .ki40LoadComplete t outcome => Sys2Proof.Machine.execKi40LoadComplete t outcome s
  | .ki40DatagramDiscarded t d => Sys2Proof.Machine.execKi40DatagramDiscarded t d s
  | .ki40ReplyWindow t => Sys2Proof.Machine.execKi40ReplyWindow t s
  | .ki40CycleStart t => Sys2Proof.Machine.execKi40CycleStart t s
  | .pollRoundStart t => Sys2Proof.Machine.execPollRoundStart t s
  | .poll t port => Sys2Proof.Machine.execPoll t port s
  | .answer t port f => Sys2Proof.Machine.execAnswer t port f s
  | .answerWindowClose t port => Sys2Proof.Machine.execAnswerWindowClose t port s
  | .arpRequest t port ip mac => Sys2Proof.Machine.execArpRequest t port ip mac s
  | .quoteReady t session => Sys2Proof.Machine.execQuoteReady t session s
  | .fuseRepairComplete t lane => Sys2Proof.Machine.execFuseRepairComplete t lane s
  | .dataLoadCopyComplete t => Sys2Proof.Machine.execDataLoadCopyComplete t s
  | .moduleSeated t => Sys2Proof.Machine.execModuleSeated t s
  | .outputSupplyLow t => Sys2Proof.Machine.execOutputSupplyLow t s

end Sys2Proof.Machine
end

