-- ==== Sys2Proof/WellFormed.lean ====
section
/-! DEFINITION. The operands that the manual's events can have: field widths of Tables 7.2 to 7.5, 8.5, 9.2, 12.1, 13.5, 17.2
and 17.6, the port numbers of R22 and R328, the numbers of routes, elements, inputs, outputs, slots and switches, and the two
different lanes of a cross-lane link (R206). `exec` is total: it gives an ill-formed command a meaning too. -/

namespace Sys2Proof

/-- A number fits a field of `w` bits. -/
def fits (w n : Nat) : Bool := decide (n < 2 ^ w)

/-- The ports of each host network (R22): HX0 to HX3, HY0 to HY3, and the service port, which R22 does not number (62 here). -/
def hostPort : Net → Nat → Bool
  | .x, p => decide (48 ≤ p ∧ p ≤ 51)
  | .y, p => decide (52 ≤ p ∧ p ≤ 55)
  | .service, p => p == 62

/-- The Ndezo ports F0 to F47 (R22). -/
def fieldPort (p : Nat) : Bool := decide (p < 48)

/-- The ports that may carry Ndezo frames: F0 to F47 and D0 to D3 (R22). -/
def domainPort (p : Nat) : Bool := decide (p < 48 ∨ 58 ≤ p ∧ p < 62)

def ReturnPath.wf (p : ReturnPath) (n : Net) : Bool := hostPort n p.port && fits 48 p.mac && fits 32 p.ip && fits 16 p.udp

def HostCopy.wf (c : HostCopy) : Bool :=
  c.path.wf c.net && fits 8 c.version && fits 8 c.flags && fits 16 c.session && fits 32 c.seq && fits 32 c.originId && fits 32 c.reqSnap &&
  fits 32 c.hostTime && fits 16 c.params.length

def Datagram.wf (d : Datagram) : Bool := d.path.wf d.net && decide (d.payload.length ≤ 1472)

def Ki40Copy.wf (c : Ki40Copy) : Bool :=
  c.net != .service && c.path.wf c.net && fits 16 c.seq && fits 8 c.status && fits 8 c.flags && fits 16 c.station && fits 32 c.cycle &&
  c.params.length == 48

def RecKey.wf : RecKey → Bool
  | .session n q => fits 16 n && fits 32 q
  | .opening h q => fits 16 h && fits 32 q
  | .serviceOpening h q => fits 16 h && fits 32 q
  | .ki40 q => fits 16 q
  | .anew n q _ => fits 16 n && fits 32 q
  | .ki40Anew q _ => fits 16 q

def CallOwner.wf : CallOwner → Bool
  | .route r => fits 12 r
  | .point p => fits 13 p

def Force.wf : Force → Bool
  | .output k => fits 5 k
  | .field p => fits 16 p

def BodyRun.wf (b : BodyRun) : Bool :=
  b.fields.all (fun f => fits 16 f.1) && b.safeOut.all (fun f => fits 5 f.1) && b.aspects.all (fun f => fits 13 f.1 && fits 4 f.2) &&
  b.release.all (fits 13) && b.meridianFails.all (fits 12) && (b.blocks.map (·.inst)).eraseDups.length == b.blocks.length

def NdFrame.wf (f : NdFrame) : Bool :=
  fits 4 f.version && fits 4 f.type && fits 8 f.constNo && fits 16 f.lengthField && fits 32 f.cycle && fits 32 f.epoch && fits 32 f.constTag &&
  decide (f.payload.length ≤ 1024)

def FrameHead.wf (h : FrameHead) : Bool := fits 4 h.version && fits 16 h.lengthField && fits 32 h.cycle && fits 32 h.epoch

def LinkFrame.wf (f : LinkFrame) : Bool :=
  f.head.wf && fits 8 f.constNo && fits 32 f.constTag && fits 10 f.source && fits 5 f.stratum && fits 8 f.held && fits 32 f.linkDelay && fits 64 f.txTime && fits 64 f.rxTime && fits 32 f.rxCycle

def SyncFrame.wf (f : SyncFrame) : Bool :=
  f.head.wf && fits 8 f.constNo && fits 32 f.constTag && fits 10 f.polestar && fits 8 f.hops && fits 2 f.change && fits 3 f.changeNo && fits 64 f.cycle64 &&
  fits 64 f.txTime && fits 64 f.correction && f.tags.length == 8 && f.tags.all (fits 32)

def PairFrame.wf (f : PairFrame) : Bool := fits 32 f.seq && fits 32 f.epoch && decide (f.payload.length ≤ 1440)

def AnswerFrame.wf (f : AnswerFrame) : Bool := fits 8 f.type && fits 8 f.oc && fits 16 f.pollNo && fits 16 f.station

def BusCycle.wf : BusCycle → Bool
  | .read a => fits 19 a
  | .write a _ => fits 19 a
  | .atomicLoad a _ => fits 19 a
  | .atomicExecute a _ _ => fits 19 a
  | .atomicResult a _ => fits 19 a

/-- The command is one that the manual's events can have. -/
def Instr.wf : Instr → Bool
  | .sessionOpen _ c | .sessionClose _ c | .sessionKeep _ c | .lockAcquire _ c | .lockRelease _ c | .creditSet _ c | .routeSet _ c
  | .routeCancel _ c | .routeReleaseTimed _ c | .routeQuery _ c | .signalStop _ c | .allStop _ c | .pointMove _ c | .pointBlock _ c
  | .pointUnblock _ c | .sectionReset _ c | .elementQuery _ c | .snapshotRead _ c | .statusRead _ c | .paceRead _ c | .countersRead _ c
  | .modeSet _ c | .profileSelect _ c | .stageOpen _ c | .stageWrite _ c | .stageVerify _ c | .changeArm _ c | .changeAbort _ c
  | .paramWrite _ c | .paramRead _ c | .powerStateSet _ c | .duskRun _ c | .repairFuse _ c | .almanacCursor _ c | .almanacRead _ c
  | .almanacQuota _ c | .timeSet _ c | .identityRead _ c | .attestQuote _ c | .keyListUpdate _ c | .constellationRequest _ c
  | .ndezoStatus _ c | .portEnable _ c | .pairStatus _ c | .switchover _ c | .standbySync _ c | .arbControl _ c | .arbCounters _ c
  | .xramRead _ c | .xramWrite _ c | .xramAtomic _ c | .laneDiag _ c | .laneReintegrate _ c => c.wf
  | .hostCopyRejected _ d | .ki40DatagramDiscarded _ d => d.wf
  | .ki40Status _ c | .ki40RouteSet _ c | .ki40RouteCancel _ c | .ki40RouteReleaseTimed _ c | .ki40SignalStop _ c | .ki40AllStop _ c
  | .ki40PointMove _ c | .ki40PointBlock _ c | .ki40PointUnblock _ c | .ki40SectionReset _ c | .ki40RouteQuery _ c | .ki40ElementQuery _ c
  | .ki40Mode _ c | .ki40Power _ c | .eventRead _ c | .ki40TimeSet _ c | .dataLoadPhase0 _ c | .dataLoadPhase1 _ c => c.wf
  | .skewWindowExpiry _ k => k.wf
  | .sessionLeaseLapse _ n | .quoteReady _ n => fits 16 n
  | .voteVector _ d s _ | .verdictWord _ d s _ | .faultNotice _ d s _ | .miniVoteJoin _ d s _ => d != s
  | .rxVerdict _ d s _ _ | .txVerify _ d s _ => d != s
  | .txValue _ d s _ n _ _ => d != s && fits 16 n
  | .forcePendingDrop _ _ f => f.wf
  | .taskBodyComplete _ _ _ b => b.wf
  | .detectTimeout _ o => o.wf
  | .approachTimerExpiry _ r | .emergTimerExpiry _ r | .overlapTimerExpiry _ r => fits 12 r
  | .sectionResetEnd _ e => fits 13 e
  | .safeInputChange _ _ k _ => fits 6 k
  | .paceMeasurement _ _ p => fits 32 p
  | .rxDecisionDeadline _ _ p n => fits 6 p && fits 16 n
  | .linkFrame _ p f => domainPort p && f.wf
  | .syncFrame _ p f | .coldFrame _ p f => domainPort p && f.wf
  | .dataFrame _ p f | .forward _ p f => domainPort p && f.wf
  | .transmitBufferFill _ k | .slotSend _ k => fits 10 k
  | .slotClose _ n => fits 16 n
  | .delayUnknown _ p => domainPort p
  | .testSlotStart _ k | .offPulseEnd _ k _ | .elementTest _ k _ | .untested _ k | .outputFault _ _ k _ | .short _ _ k | .shortSetExit _ k => fits 5 k
  | .darkTestStep _ k n _ => fits 5 k && decide (n < 6)
  | .sealChange _ k _ | .sealDisagreement _ _ k => fits 4 k
  | .pselChange _ v => fits 2 v.a && fits 2 v.b && fits 2 v.c
  | .verifyComplete _ k _ | .stageWriteCopyComplete _ k => fits 1 k
  | .admissionComplete _ k _ => fits 2 k
  | .heartbeat _ _ f | .intakeFrame _ _ f | .forceFrame _ _ f | .changeFrame _ _ f | .copyReq _ _ f | .switchFrame _ _ f => f.wf
  | .copyFrame _ f g => f.wf && g.wf
  | .mbRead _ a _ | .mbWrite _ a _ _ | .atomicLoad _ a _ | .atomicExecute _ a _ _ | .atomicResult _ a _ => fits 19 a
  | .cycleCutShort _ c => c.wf
  | .openRecordClose _ q => fits 48 q
  | .duskConditions _ _ _ _ v => fits 16 v
  | .poll _ p | .answerWindowClose _ p => fieldPort p
  | .answer _ p f => fieldPort p && f.wf
  | .arpRequest _ p ip mac => decide (48 ≤ p ∧ p < 56 ∨ p = 62) && fits 32 ip && fits 48 mac
  | .copyDequeued _ | .lockLeaseLapse _ | .openNonceChange _ | .plannedStart _ _ | .voteCommit _ _ | .voteDeadline _ _ | .miniVote _ _
  | .miniVoteDeadline _ _ | .isolationTimeout _ _ | .watchdogExpiry _ _ | .supplyElementDrop _ _ _ | .reducedLimitExpiry _ | .reducedWarn _
  | .paceMarginClear _ _ | .domainCycleStart _ | .syncSend _ | .listenTimeExpiry _ | .coldStartCycleEnd _ | .polestarClaim _ | .outOfStep _
  | .domainMerge _ | .dawnJoin _ | .dawnFail _ | .slotMapWrite _ _ | .xramUnguarded _ | .heartbeatSend _ | .pairListenEnd _ | .pathSilent _ _
  | .catchUpComplete _ | .switchAbandoned _ | .quarantineEnd _ | .epochFlashWrite _ | .switchDue _ | .scrubBurst _ _ _ | .sramScrub _ _ _
  | .freezeTimeout _ _ | .almanacAppend _ _ _ | .supplyBelow _ | .supplyReturn _ | .powerFail _ | .mrstAssert _ | .mrstRelease _ | .mseatHigh _
  | .resetStuck _ | .coreUndervoltage _ _ | .start _ | .laneBistComplete _ _ _ | .startComplete _ _ | .startRetry _ | .duskLaneComplete _ _ _
  | .reintegrationSelfTestDone _ _ _ | .copyingComplete _ _ _ | .ki40LoadComplete _ _ | .ki40ReplyWindow _ | .ki40CycleStart _
  | .pollRoundStart _ | .fuseRepairComplete _ _ | .dataLoadCopyComplete _ | .moduleSeated _ | .outputSupplyLow _ => true

end Sys2Proof
end

