-- ==== Sys2Proof/Safety.lean ====
section
/-! DEFINITION. The terms in which claims speak of a run of the module: the canonical form of its memories, what leaves a
state as it was, and the restrictive state. -/

namespace Sys2Proof.Machine

/-- The byte of the exchange RAM at an address (R494). -/
def State.xramByte (s : State) (a : Nat) : Byte := Mem.read s.xram.mem a

/-- Every memory of the module is in canonical form: the exchange RAM, the table store regions and flash areas, and the instance
data of each lane. -/
def State.memWf (s : State) : Prop :=
  Mem.wf s.xram.mem = true ∧ (∀ m ∈ s.images.regions, Mem.wf m = true) ∧ (∀ m ∈ s.images.flash, Mem.wf m = true) ∧
  ∀ i, Mem.wf (s.lane i).program.data = true

/-- A lane has marked an output: the mark waits for an intake and the force of the output is pending (R219, R427). -/
def Lane.marked (l : Lane) (k : Mark) (o : Nat) : Prop := k ∈ l.forces.marks ∧ ∃ t, (Force.output o, t) ∈ l.forces.pending

/-! ## The host interface (09) -/

/-- The check units of every lane work on a telegram (R311). -/
def RxFault.healthy : RxFault := { failP := Lanes3 false, failQ := Lanes3 false, missing := none }

/-- A module of two or three voting lanes that judges a copy as it arrives: it is not in KI-40 mode and knows its addresses, no copy waits and the
rate of R344 leaves room, no lease has run out (R349, R353), and no lane that checks it is held in reset. -/
def State.hostReady (s : State) (t : Nat) : Prop :=
  s.control.phase = .running ∧ 2 ≤ s.voting.length ∧ s.sealBank.ki40 = false ∧ s.sealBank.nodeKnown = true ∧
  s.host.restrictiveQueue = [] ∧ s.host.otherQueue = [] ∧ s.host.arrivals.length < 128 ∧
  (∀ x ∈ s.host.sessions, max s.now t < x.leaseEnd) ∧ (∀ l, s.host.lock = some l → max s.now t < l.leaseEnd) ∧
  ∀ i ∈ s.unexcluded, (s.lane i).held = false

/-- A copy of opcode `op` that passes every check of Table 9.4 in the open session `x`. -/
def State.goodCopy (s : State) (op : Nat) (x : Session) (c : HostCopy) : Prop :=
  s.sessionOf c.session = some x ∧ (c.net = .service ↔ x.cls = .maintenance) ∧ s.opened x c = true ∧
  c.ownPort = true ∧ c.lenOk = true ∧ c.version = 1 ∧ c.flags = 0 ∧ c.params.length ≤ 1400 ∧ c.params.length % 4 = 0 ∧
  c.rx = RxFault.healthy ∧ c.cvP = cvP (checkMessage (s.hostFold op (some x)) (HostCopyHead op c)) ∧
  c.cvQ = cvQ (checkMessage (s.hostFold op (some x)) (HostCopyHead op c)) ∧ reservedOk op c.params = true ∧
  (∃ r, opOf op = some r ∧ r.admits x.cls = true ∧ (r.cls ≠ .query → s.seqOk op c = true)) ∧ s.isAhead c.reqSnap = false

/-- A session after a copy in it: its lease and the return path of the copy's network (R339, R349). -/
def Session.heard (x : Session) (c : HostCopy) (stamp : Nat) : Session :=
  { x with leaseEnd := max x.leaseEnd (stamp + 2 * second)
           pathX := if c.net = .y then x.pathX else some c.path
           pathY := if c.net = .y then some c.path else x.pathY }

/-- The host interface after a good copy has been counted and heard, before anything is decided (R344, R349, R359, R654). -/
def State.heardHost (s : State) (t : Nat) (c : HostCopy) : HostSide :=
  { (s.countNet c.net (fun k => { k with copies := inc k.copies })).host with
    arrivals := s.host.arrivals.filter (fun a => decide (max s.now t < a + ms)) ++ [max s.now t]
    svcFrames := if c.net = .service then s.host.svcFrames + 1 else s.host.svcFrames
    sessions := s.host.sessions.map (fun x => if x.number = c.session then x.heard c (s.stampOf c) else x) }

/-- The lanes differ in no more than the counts of their check units and the telegrams that wait for check values. -/
def State.sameLanes (s u : State) : Prop :=
  ∀ i, u.lane i = { s.lane i with inputs := { (s.lane i).inputs with
    checkUnits := (u.lane i).inputs.checkUnits
    txPending := (u.lane i).inputs.txPending } }

/-- The reply to a copy on its own network (Tables 9.3, 9.5). -/
def Reply.answers (r : Reply) (op : Nat) (c : HostCopy) (status : Nat) (data : Bytes) : Prop :=
  r.ki40 = false ∧ r.repeated = false ∧ r.late = false ∧ r.net = c.net ∧ r.path = some c.path ∧ r.session = c.session ∧ r.seq = c.seq ∧
  r.opcode = op ∧ r.originId = c.originId ∧ r.reqSnap = c.reqSnap ∧ r.hostTime = c.hostTime ∧ r.status = status ∧ r.data = data

/-- A query has been answered from the snapshot `snap`, on its own network and at once: one reply more, and nothing else has changed but that
the copy is heard. -/
def State.queryAnswered (s u : State) (t op : Nat) (c : HostCopy) (snap : Nat) (data : Bytes) : Prop :=
  ∃ r : Reply, r.answers op c stOk data ∧ r.snapshot = snap ∧
    u = { s with
      now := max s.now t
      host := { s.heardHost t c with replies := s.host.replies ++ [r] }
      lanes := u.lanes } ∧ s.sameLanes u

/-- A good copy has been heard: nothing else has changed. -/
def State.heardCopy (s p : State) (t : Nat) (c : HostCopy) : Prop :=
  p = { s with now := max s.now t, host := s.heardHost t c, lanes := p.lanes } ∧ s.sameLanes p

/-- The second copy of a permissive command, in the open session `x`: it arrives on the other network within the window of the first, and says
the same (Table 9.6). -/
def State.secondCopy (s : State) (op : Nat) (x : Session) (c : HostCopy) : Prop :=
  s.goodCopy op x c ∧ c.net ≠ .service ∧ (if c.net = .x then x.pathY else x.pathX).isSome = true ∧
  s.decisionOf (.session c.session c.seq) (HostCopyHead op c) = none ∧
  ∃ r, s.recOf (.session c.session c.seq) = some r ∧ r.decisions = [] ∧ r.net ≠ c.net ∧ r.bytes = HostCopyHead op c ∧
    s.stampOf c < r.opened + r.window

/-- The first copy of a restrictive command in the open session `x`: it decides the command (Table 9.5). -/
def State.firstRestrictive (s : State) (op : Nat) (x : Session) (c : HostCopy) : Prop :=
  s.goodCopy op x c ∧ c.net ≠ .service ∧ (if c.net = .x then x.pathY else x.pathX).isSome = true ∧ s.recOf (.session c.session c.seq) = none

/-- A command has been decided, and both networks are told (R339, R346). -/
def State.bothTold (s u : State) (op : Nat) (c : HostCopy) (status : Nat) (data : Bytes) : Prop :=
  ∃ r1 r2 : Reply, u.host.replies = s.host.replies ++ [r1, r2] ∧ r1.net = .x ∧ r2.net = .y ∧
    ∀ r : Reply, r = r1 ∨ r = r2 → r.ki40 = false ∧ r.repeated = false ∧ r.late = false ∧ r.session = c.session ∧ r.seq = c.seq ∧ r.opcode = op ∧
      r.originId = c.originId ∧ r.status = status ∧ r.data = data ∧ r.path.isSome = true

/-- The COMMAND record of a decided command (R360). -/
def State.commandNoted (s u : State) (op : Nat) (x : Session) (c : HostCopy) : Prop :=
  u.almanac = { s.almanac with events := s.almanac.events ++
    [queuedOf 0x0606 0 0 (Origin.ofSession x) [payloadFields [(24, 2, op), (26, 2, rd16 c.params 0), (28, 4, c.originId)]]] }

/-- What of the host interface a decided command of a session leaves as it was, once its copy is heard: all but the records of commands, the
replies, and the fields that `f` names. -/
def State.hostAfter (s u : State) (t : Nat) (c : HostCopy) (f : HostSide → HostSide) : Prop :=
  u.host = f { s.heardHost t c with recs := u.host.recs, replies := u.host.replies }

/-- The command as it awaits intake (R97). -/
def Session.intake (x : Session) (op : Nat) (c : HostCopy) (e : EngineCmd) : Intake :=
  { key := .session c.session c.seq, content := none, cmd := e, cls := x.cls, session := c.session, hostId := x.hostId, originId := c.originId,
    opcode := op, stamps := c.stamps, due := 0 }

/-- A command of the session `x` has been accepted and awaits intake. -/
def State.takenUp (s u : State) (t op : Nat) (x : Session) (c : HostCopy) (e : EngineCmd) (data : Bytes) : Prop :=
  s.bothTold u op c stAccepted data ∧ s.hostAfter u t c (fun h => { h with awaiting := s.host.awaiting ++ [x.intake op c e] }) ∧
  s.commandNoted u op x c ∧ s.sameLanes u ∧ u = { s with now := max s.now t, host := u.host, lanes := u.lanes, almanac := u.almanac }

/-- The COMMAND record of a decided command (R360). -/
def Session.commandRecord (x : Session) (op : Nat) (c : HostCopy) : Queued :=
  queuedOf 0x0606 0 0 (Origin.ofSession x) [payloadFields [(24, 2, op), (26, 2, rd16 c.params 0), (28, 4, c.originId)]]

/-- A record with the origin of the session. -/
def Session.record (x : Session) (code : Nat) (l : List (Nat × Nat × Nat)) : Queued := queuedOf code 0 0 (Origin.ofSession x) [payloadFields l]

/-- The lanes after a decided command: as `g` leaves them, but for the counts of their check units and the telegrams that wait for check
values. -/
def State.lanesAfter (s u : State) (g : LaneId → Lane → Lane) : Prop :=
  ∀ i, u.lane i = { g i (s.lane i) with inputs := { (s.lane i).inputs with
    checkUnits := (u.lane i).inputs.checkUnits
    txPending := (u.lane i).inputs.txPending } }

/-- A command of a session has been decided: both networks are told; `f` and `g` say what it does to the host interface and to each
lane, `evs` which records it makes. -/
def State.decided (s u : State) (t op : Nat) (c : HostCopy) (status : Nat) (data : Bytes) (f : HostSide → HostSide) (g : LaneId → Lane → Lane)
    (evs : List Queued) : Prop :=
  s.bothTold u op c status data ∧ s.hostAfter u t c f ∧ s.lanesAfter u g ∧ u.now = max s.now t ∧
  u.almanac = { s.almanac with events := s.almanac.events ++ evs }

/-- The host interface once the first copy of a command has raised H of the session `x` (R342). -/
def HostSide.raised (h : HostSide) (x : Session) (c : HostCopy) : HostSide :=
  { h with sessions := h.sessions.map (fun y => if y.number = c.session then { y with high := max c.seq x.high } else y) }

/-- The host interface with one more command that awaits intake (R97). -/
def HostSide.awaits (h : HostSide) (i : Intake) : HostSide := { h with awaiting := h.awaiting ++ [i] }

/-- The forces that a restrictive command brings in a voting lane: pending (R125, R219, Table 3.9). -/
def State.forcedBy (s : State) (t : Nat) (es : List Nat) (_ : LaneId) (l : Lane) : Lane :=
  if s.hasImage = true ∧ l.mode = .voting then
    l.pendAll (max s.now t) ((es.flatMap (groupsFor s.img)).map (·.force)).eraseDups else l

/-- A lane as it was. -/
def laneKept (_ : LaneId) (l : Lane) : Lane := l

/-- A lane whose image loader has written `len` bytes, of whole words, at an offset of region `r` of its table store: those words have their right
parity again (R469). -/
def loaderWrote (r off len : Nat) (_ : LaneId) (l : Lane) : Lane :=
  { l with store := l.store.writeWords .tableStore ((regionBase r + off) / 4) (len / 4) }

/-- A lane `i` that has found itself odd in an admission (R84, Table 6.4): its fault, its own record and its isolation at `now`, and the cause for
which the others exclude it. -/
def Lane.oddOut (s : State) (now : Nat) (i : LaneId) (l v : Lane) : Prop :=
  let note := queuedOf 0x0401 (i.index + 1) (({ s with now := now } : State).laneWall i) Origin.internal
    [payloadFields [(24, 1, i.index), (25, 1, 1), (26, 1, 0x07), (28, 4, s.snap.number)]]
  let x := ({ l with
    localFault := some .admission
    expel := some .admission } : Lane).enqueue note
  v.vote.decided = true ∧ v.vote.committed = false ∧ v = { x with
    mode := .isolated
    isolatedAt := now
    isolatedFor := some .admission
    elements := 0
    supplyClosed := false
    meridianToggles := false
    vote := v.vote
    program := x.program.abandon }

/-- What a comparison of outcomes at `now` leaves of the lanes of `s`, each of which has done what `wrote` says: the one that is odd among three
has isolated itself (R84). -/
def State.charged (s : State) (now : Nat) (o : Agreement) (wrote : LaneId → Lane → Lane) (u : State) : Prop :=
  ∀ i, (o = .odd i ∧ s.voting.length = 3 → Lane.oddOut s now i (wrote i (s.lane i)) (u.lane i)) ∧
    (¬(o = .odd i ∧ s.voting.length = 3) → u.lane i = wrote i (s.lane i))

/-- A SESSION_OPEN that passes every check of Table 9.4. -/
def State.goodOpening (s : State) (c : HostCopy) : Prop :=
  c.session = 0 ∧ c.net ≠ .service ∧ c.ownPort = true ∧ c.lenOk = true ∧ c.version = 1 ∧ c.flags = 0 ∧ c.params.length ≤ 1400 ∧
  c.params.length % 4 = 0 ∧ c.rx = RxFault.healthy ∧ c.cvP = cvP (checkMessage (s.hostFold 0x0001 none) (HostCopyHead 0x0001 c)) ∧
  c.cvQ = cvQ (checkMessage (s.hostFold 0x0001 none) (HostCopyHead 0x0001 c)) ∧ reservedOk 0x0001 c.params = true ∧ c.seq ≠ 0 ∧
  s.isAhead c.reqSnap = false

/-- The second copy of a SESSION_OPEN (R338, R372). -/
def State.secondOpening (s : State) (c : HostCopy) : Prop :=
  s.goodOpening c ∧ s.decisionOf (.opening (openHost c.params) c.seq) (HostCopyHead 0x0001 c) = none ∧
    ∃ r, s.recOf (.opening (openHost c.params) c.seq) = some r ∧ r.decisions = [] ∧ r.net ≠ c.net ∧
    r.bytes = HostCopyHead 0x0001 c ∧ s.stampOf c < r.opened + r.window ∧ (if c.net = .y then r.pathX else r.pathY).isSome = true

/-- The host interface after a good copy on network `n` has been counted. -/
def State.countedHost (s : State) (t : Nat) (n : Net) : HostSide :=
  { (s.countNet n (fun k => { k with copies := inc k.copies })).host with
    arrivals := s.host.arrivals.filter (fun a => decide (max s.now t < a + ms)) ++ [max s.now t] }

/-! ## The standby pair (12) -/

/-- A frame of the other unit that passes R447 in a module of two or three voting lanes. -/
def State.goodPairFrame (s : State) (link : PairLink) (f : PairFrame) : Prop :=
  s.inPair = true ∧ s.sealBank.ki40 = false ∧ 2 ≤ s.voting.length ∧ f.rx = RxFault.healthy ∧
  f.cvP = cvP (checkMessage (s.pairFold link f) (s.pairCovered link f)) ∧ f.cvQ = cvQ (checkMessage (s.pairFold link f) (s.pairCovered link f)) ∧
  s.pairSeqOk link f = true ∧ f.sender = (pairPeer s.img).getD 0xFFFF ∧ ∀ i ∈ s.unexcluded, (s.lane i).held = false

/-- The pair controller after an accepted frame: its path has been heard (R459). -/
def State.heardPair (s : State) (t : Nat) (link : PairLink) (f : PairFrame) : Pair := s.pair.heard link f.seq (max s.now t)

/-- What leaves on a standby link with the next SEQ of its direction: a frame, if the owner of its port transmits (R22, R231, R446). -/
def State.pairSent (s : State) (link : PairLink) (kind : Nat) (payload : Bytes) : List Tx :=
  if (s.sender (pairPort link)).isSome then [s.pairOut link kind ((if link = .sl1 then s.pair.txSeq1 else s.pair.txSeq0) + 1) payload] else []

/-- The SEQ of a standby link after that. -/
def State.pairSeq (s : State) (link : PairLink) : Nat :=
  (if link = .sl1 then s.pair.txSeq1 else s.pair.txSeq0) + (if (s.sender (pairPort link)).isSome then 1 else 0)

/-- The pair controller after a frame has left on both standby links. -/
def State.pairToldBoth (s : State) : Pair := { s.pair with txSeq0 := s.pairSeq .sl0, txSeq1 := s.pairSeq .sl1 }

/-- A record of the pair (0x0801): role, standby state and the row of Table 12.3 or 12.4. -/
def pairRecord (role state row : Nat) : Queued := queuedOf 0x0801 0 0 Origin.internal [payloadFields [(24, 1, role), (25, 1, state), (26, 1, row)]]

/-! ## KI-40 mode (17) -/

/-- A module of two or three voting lanes in KI-40 mode that judges a copy as it arrives (R600). -/
def State.ki40Ready (s : State) (t : Nat) : Prop :=
  s.control.phase = .running ∧ 2 ≤ s.voting.length ∧ s.sealBank.ki40 = true ∧ s.sealBank.nodeKnown = true ∧ s.host.restrictiveQueue = [] ∧
  s.host.otherQueue = [] ∧ s.ki40.waiting = [] ∧ s.host.arrivals.length < 128 ∧ (∀ x ∈ s.host.sessions, max s.now t < x.leaseEnd) ∧
  (∀ l, s.host.lock = some l → max s.now t < l.leaseEnd) ∧ ∀ i ∈ s.unexcluded, (s.lane i).held = false

/-- A KI-40 copy of opcode `op` that passes R595 to R597 and the rules for reserved fields. -/
def State.goodKi40 (s : State) (op : Nat) (c : Ki40Copy) : Prop :=
  c.net ≠ .service ∧ (c.path.port = 48 ∨ c.path.port = 52) ∧ c.params.length = 48 ∧ c.station = s.node ∧ c.rx = RxFault.healthy ∧
  c.crcC = crcC (ki40Head op c) ∧ c.crcT = crcT (ki40Head op c) ∧ ki40FieldsOk op c = true

/-- The second copy of a permissive KI-40 command (R598). -/
def State.secondKi40 (s : State) (op : Nat) (c : Ki40Copy) : Prop :=
  s.goodKi40 op c ∧ s.decisionOf (.ki40 c.seq) (ki40Head op c) = none ∧ ∃ r, s.recOf (.ki40 c.seq) = some r ∧ r.decisions = [] ∧ r.net ≠ c.net ∧ r.bytes = ki40Head op c ∧
    s.ki40Stamp c < r.opened + r.window

/-- The first copy of a restrictive KI-40 command. -/
def State.firstKi40 (s : State) (op : Nat) (c : Ki40Copy) : Prop := s.goodKi40 op c ∧ s.recOf (.ki40 c.seq) = none

/-- The held reply to a KI-40 copy on a network (R599, R602). -/
def State.ki40ReplyTo (s : State) (t op : Nat) (c : Ki40Copy) (net : Net) (status : Nat) (data : Bytes) : Reply :=
  { net := net, ki40 := true, repeated := false, late := false, oneLane := false, session := 0, seq := c.seq, opcode := op, originId := 0,
    reqSnap := State.ki40Cycle (State.tick t s), hostTime := 0, status := status, snapshot := State.ki40Cycle (State.tick t s), data := data,
    path := if net = c.net then some c.path else if net = .y then s.ki40.pathY else s.ki40.pathX, bytes := [], decided := s.ki40Stamp c }

/-- The KI-40 emulation after a good copy that puts the replies `l` on hold. -/
def State.heldKi40 (s : State) (c : Ki40Copy) (l : List Reply) : Ki40 :=
  { s.ki40 with
    held := s.ki40.held ++ l
    pathX := if c.net = .y then s.ki40.pathX else some c.path
    pathY := if c.net = .y then some c.path else s.ki40.pathY }

/-- The COMMAND record of a KI-40 command (R612). -/
def ki40Record (op native : Nat) (c : Ki40Copy) : Queued :=
  queuedOf 0x0606 0 0 Origin.ki40
    [payloadFields [(24, 2, native), (26, 2, rd16 (ki40Native op (slice c.params 0 48)) 0), (28, 4, op * 2 ^ 24 + c.seq)]]

/-- A KI-40 command as it awaits intake. -/
def ki40Intake (op native : Nat) (c : Ki40Copy) (e : EngineCmd) : Intake :=
  { key := .ki40 c.seq, content := none, cmd := e, cls := .operator, session := 0, hostId := 0, originId := op * 2 ^ 24 + c.seq, opcode := native,
    stamps := c.stamps, due := 0 }

/-- A KI-40 command has been decided: both networks are told in their window, and its COMMAND record is queued. -/
def State.ki40Decided (s u : State) (t op native : Nat) (c : Ki40Copy) (status : Nat) (data : Bytes) (f : HostSide → HostSide) (g : LaneId → Lane → Lane) : Prop :=
  u.ki40 = s.heldKi40 c [s.ki40ReplyTo t op c .x status data, s.ki40ReplyTo t op c .y status data] ∧
  u.host = f { s.countedHost t c.net with recs := u.host.recs } ∧
  u.almanac = { s.almanac with events := s.almanac.events ++ [ki40Record op native c] } ∧ s.lanesAfter u g ∧ u.now = max s.now t

end Sys2Proof.Machine
end

