-- ==== Sys2Proof/Certificates/Slice0/Obligations.lean ====
section
/-! DEFINITION. The statements about the module for the provers; each docstring names the rules of spec/ that it formalises. -/

open Sys2Proof Sys2Proof.Machine

/-! ## The maintenance bus (13) -/

/-- R498, R500, Table 13.6: a maintenance write whose window the lane side does not use for a write of the word. Its halfword is
written, every other byte of the exchange RAM stays, XBUSY_N answers where the lane side reads the word and came first, and nothing else changes but the record of touched addresses and
the count of collisions. Table 13.6, last row: where the lane side writes the word in the same window, the lane's word stands. Table 13.5, Table 13.6: a maintenance read that shares its window with no write of the word returns the halfword and changes no byte. -/
def Obligations.MaintenanceCyclesWriteAndRead : Prop :=
  (∀ (t a : Nat) (d : Half) (w : Window) (s : State), a < 524288 → s.busAnswers = true → s.xram.filled = true → Mem.wf s.xram.mem = true →
      (w.lane = .none ∨ w.lane = .read) →
      ∃ u, exec (.mbWrite t a d w) s = .next u ∧
        s.sent ++ [Tx.bus true (decide (w.lane = .read) && !w.laneLater) none] = u.sent ∧
        (∀ b, u.xramByte b = if b = 2 * a then BitVec.ofNat 8 d.toNat else if b = 2 * a + 1 then BitVec.ofNat 8 (d.toNat / 256) else s.xramByte b) ∧
        u.xram.loaded = false ∧ u.xram.holding = s.xram.holding ∧ u.xram.hasOld = s.xram.hasOld ∧
        (∀ i, u.lane i = { s.lane i with store := (u.lane i).store }) ∧
        (∀ i, (u.lane i).store = { (s.lane i).store with
          collides := if i = s.lead ∧ w.lane = .read ∧ w.laneLater = true then (s.lane i).store.collides + 1 else (s.lane i).store.collides }) ∧
        u = { s with now := u.now, lanes := u.lanes, xram := u.xram, images := u.images, ki40 := u.ki40, sent := u.sent }) ∧
  (∀ (t a : Nat) (d : Half) (v : Word) (later : Bool) (s : State), a < 524288 → s.busAnswers = true → s.xram.filled = true →
      Mem.wf s.xram.mem = true → ∃ u, exec (.mbWrite t a d { lane := .write v, laneLater := later }) s = .next u ∧
        u.sent = s.sent ++ [Tx.bus true (!later) none] ∧
        (∀ k < 4, u.xramByte (4 * (a / 2) + k) = BitVec.ofNat 8 (v.toNat / 256 ^ k)) ∧
        (∀ b, b < 4 * (a / 2) ∨ 4 * (a / 2) + 4 ≤ b → u.xramByte b = s.xramByte b)) ∧
  (∀ (t a : Nat) (w : Window) (s : State), a < 524288 → s.busAnswers = true → s.xram.filled = true → (w.lane = .none ∨ w.lane = .read) →
      ∃ u, exec (.mbRead t a w) s = .next u ∧
        u.sent = s.sent ++ [Tx.bus true false (some (BitVec.ofNat 16 ((s.xramByte (2 * a)).toNat + 256 * (s.xramByte (2 * a + 1)).toNat)))] ∧
        u = { s with now := u.now, xram := { s.xram with loaded := false }, sent := u.sent })

/-- R499, R500: an atomic load and the execute of the same word that follows it: the word becomes the sum modulo 2^32, or the operand in a
swap, OLD enters the holding register, and the results return it. An execute that does not follow a load of its word performs nothing. A read, a write and a result part a load from its execute and leave OLD in the
holding register. -/
def Obligations.AtomicOperationOnAWord : Prop :=
  ∀ (t a : Nat) (lo hi : Half) (swap high : Bool) (s : State), a < 524288 → s.busAnswers = true → s.xram.filled = true →
    Mem.wf s.xram.mem = true → (∃ u, exec (.atomicLoad t a lo) s = .next u ∧ u.sent = s.sent ++ [Tx.bus true false none] ∧
      u.xram = { s.xram with holding := u.xram.holding, holdingAddr := a / 2, loaded := true, hasOld := false } ∧
      u.xram.holding.setWidth 16 = lo ∧
      u = { s with now := u.now, xram := u.xram, sent := u.sent }) ∧
    (s.xram.loaded = true → s.xram.holdingAddr = a / 2 →
      let old := Mem.le s.xram.mem (4 * (a / 2)) 4
      let operand := (s.xram.holding.setWidth 16).toNat + 65536 * hi.toNat
      ∃ u, exec (.atomicExecute t a hi swap) s = .next u ∧ u.sent = s.sent ++ [Tx.bus true false none] ∧
        (∀ k < 4, u.xramByte (4 * (a / 2) + k) = BitVec.ofNat 8 ((if swap then operand else old + operand) / 256 ^ k)) ∧
        (∀ b, b < 4 * (a / 2) ∨ 4 * (a / 2) + 4 ≤ b → u.xramByte b = s.xramByte b) ∧
        u.xram.holding = BitVec.ofNat 32 old ∧ u.xram.hasOld = true ∧ u.xram.loaded = false) ∧
    ((s.xram.loaded = false ∨ s.xram.holdingAddr ≠ a / 2) →
      ∃ u, exec (.atomicExecute t a hi swap) s = .next u ∧ u.sent = s.sent ++ [Tx.bus true true none] ∧ u.xram = { s.xram with loaded := false }) ∧
    (s.xram.hasOld = true → s.xram.holdingAddr = a / 2 →
      ∃ u, exec (.atomicResult t a high) s = .next u ∧
        u.sent = s.sent ++ [Tx.bus true false (some (BitVec.ofNat 16 (s.xram.holding.toNat / if high then 65536 else 1)))] ∧
        u.xram = { s.xram with loaded := false }) ∧
    (∀ w : Window, (∃ u, exec (.mbRead t a w) s = .next u ∧ u.xram = { s.xram with mem := u.xram.mem, loaded := false, clash := u.xram.clash }) ∧
      ∃ u, exec (.mbWrite t a lo w) s = .next u ∧ u.xram = { s.xram with mem := u.xram.mem, loaded := false, clash := u.xram.clash })

/-- R493, R640: before the fill is complete a write has no effect on the bank and completes with XBUSY_N; a module that does not answer
acknowledges nothing. Table 13.5: an address above MA19:1 names no cycle, and exec stops on it by name (the model's own fault). -/
def Obligations.MaintenanceBusWhereThereIsNoBank : Prop :=
  (∀ (t a : Nat) (d : Half) (w : Window) (s : State), a < 524288 →
    (s.busAnswers = true → s.xram.filled = false →
      (∃ u, exec (.mbWrite t a d w) s = .next u ∧ u.sent = s.sent ++ [Tx.bus true true none] ∧ u.xram.mem = s.xram.mem) ∧
      ∃ u x, exec (.mbRead t a w) s = .next u ∧ u.sent = s.sent ++ [Tx.bus true true (some x)] ∧ u.xram.mem = s.xram.mem) ∧
    (s.busAnswers = false →
      (∃ u, exec (.mbWrite t a d w) s = .next u ∧ u.sent = s.sent ∧ u.xram = s.xram) ∧
      ∃ u, exec (.mbRead t a w) s = .next u ∧ u.sent = s.sent ∧ u.xram = s.xram)) ∧
  (∀ (t a : Nat) (d : Half) (w : Window) (swap high : Bool) (s : State), 524288 ≤ a →
    exec (.mbRead t a w) s = .fault .noSuchAddress ∧ exec (.mbWrite t a d w) s = .fault .noSuchAddress ∧
    exec (.atomicLoad t a d) s = .fault .noSuchAddress ∧ exec (.atomicExecute t a d swap) s = .fault .noSuchAddress ∧
    exec (.atomicResult t a high) s = .fault .noSuchAddress ∧ exec (.cycleCutShort t (.read a)) s = .fault .noSuchAddress)

/-- R639, Table 18.10: a cycle cut short is not acknowledged. A read or a result changes no byte; the halfword of a write is written or
unchanged; the holding register is loaded or unchanged; the operation of an execute is performed or not, and changes no byte outside its word. -/
def Obligations.CutShortCycleIsDoneOrNot : Prop :=
  ∀ (t a : Nat) (d : Half) (swap high : Bool) (s : State), a < 524288 → Mem.wf s.xram.mem = true →
    (∃ u, exec (.cycleCutShort t (.read a)) s = .next u ∧ u.sent = s.sent ∧ u.xram.mem = s.xram.mem) ∧
    (∃ u, exec (.cycleCutShort t (.atomicResult a high)) s = .next u ∧ u.sent = s.sent ∧ u.xram.mem = s.xram.mem) ∧
    (∃ u, exec (.cycleCutShort t (.write a d)) s = .next u ∧ u.sent = s.sent ∧
      ((∀ b, u.xramByte b = s.xramByte b) ∨
       ∀ b, u.xramByte b = if b = 2 * a then BitVec.ofNat 8 d.toNat else if b = 2 * a + 1 then BitVec.ofNat 8 (d.toNat / 256) else s.xramByte b)) ∧
    (∃ u, exec (.cycleCutShort t (.atomicLoad a d)) s = .next u ∧ u.sent = s.sent ∧ u.xram.mem = s.xram.mem ∧
      (u.xram.holding = s.xram.holding ∨ u.xram.holding.setWidth 16 = d)) ∧
    (let old := Mem.le s.xram.mem (4 * (a / 2)) 4
     let operand := (s.xram.holding.setWidth 16).toNat + 65536 * d.toNat
     ∃ u, exec (.cycleCutShort t (.atomicExecute a d swap)) s = .next u ∧ u.sent = s.sent ∧
      (∀ b, b < 4 * (a / 2) ∨ 4 * (a / 2) + 4 ≤ b → u.xramByte b = s.xramByte b) ∧
      ((∀ b, u.xramByte b = s.xramByte b) ∨
        ∀ k < 4, u.xramByte (4 * (a / 2) + k) = BitVec.ofNat 8 ((if swap then operand else old + operand) / 256 ^ k)))

/-! ## The scrubbers and the freeze bit (13) -/

/-- R471, R475, R477, R478: the scrubber of a lane in a running module that is neither held nor in its self-test. While the arbiter is frozen nothing moves, nor while a word of the burst is known to be wrong in its cell (the reader is stalled). Otherwise each
read is done: a clean burst moves the scrubber to the next one, with a new pass after the last; a burst that a replay clears moves it too, and is counted with its address and time; a burst that no replay clears is a
lane fault with cause MEMORY, with one word of it wrong (which one is free: log entry 124). R488, R489: 10 ms after it was set, the freeze bit of a lane clears, with a record; before that, it stands. -/
def Obligations.ScrubbersAndTheFreezeBit : Prop :=
  (∀ (t : Nat) (i : LaneId) (e : ReadErrors) (s : State), s.control.phase = .running → (s.lane i).mode ≠ .restarting → (s.lane i).held = false →
      let x := (s.lane i).store
      let replayed := e.first = true ∧ (e.second = false ∨ e.third = false)
      let failed := e.first = true ∧ e.second = true ∧ e.third = true
      ((x.frozen = true ∨ ∃ w ∈ x.badTable, w / 16 = x.tsPos) → exec (.scrubBurst t i e) s = .next (State.tick t s)) ∧
      ((x.frozen = true ∨ ∃ w ∈ x.badSram, w / 16 = x.sramPos) → exec (.sramScrub t i e) s = .next (State.tick t s)) ∧
      (x.frozen = false → (∀ w ∈ x.badTable, w / 16 ≠ x.tsPos) →
        let wraps := 8388608 ≤ x.tsPos + 1
        let moved := { x with tsPos := if wraps then 0 else x.tsPos + 1, tsPasses := if wraps then x.tsPasses + 1 else x.tsPasses }
        ∃ u, exec (.scrubBurst t i e) s = .next u ∧ (∀ j, j ≠ i → u.lane j = s.lane j) ∧
          u = { s with now := max s.now t, lanes := u.lanes, freeCtr := u.freeCtr } ∧
          (e.first = false → u.lane i = { s.lane i with store := moved } ∧ u.freeCtr = s.freeCtr) ∧
          (replayed → (u.lane i).store = { moved with
              tsReplayed := x.tsReplayed + 1, lastErrAddr := 64 * x.tsPos, lastErrTime := max s.now t } ∧
            (u.lane i).localFault = (s.lane i).localFault ∧ u.freeCtr = s.freeCtr) ∧
          (failed → (u.lane i).localFault = some ((s.lane i).localFault.getD .memory) ∧
            ∃ w, w / 16 = x.tsPos ∧ (u.lane i).store = { x with badTable := x.badTable ++ [w] })) ∧
      (x.frozen = false → (∀ w ∈ x.badSram, w / 16 ≠ x.sramPos) →
        let wraps := 65536 ≤ x.sramPos + 1
        let moved := { x with sramPos := if wraps then 0 else x.sramPos + 1, sramPasses := if wraps then x.sramPasses + 1 else x.sramPasses }
        ∃ u, exec (.sramScrub t i e) s = .next u ∧ (∀ j, j ≠ i → u.lane j = s.lane j) ∧
          u = { s with now := max s.now t, lanes := u.lanes, freeCtr := u.freeCtr } ∧
          (e.first = false → u.lane i = { s.lane i with store := moved } ∧ u.freeCtr = s.freeCtr) ∧
          (replayed → (u.lane i).store = { moved with
              sramReplayed := x.sramReplayed + 1, lastErrAddr := 0x80000000 + 64 * x.sramPos, lastErrTime := max s.now t } ∧
            (u.lane i).localFault = (s.lane i).localFault ∧ u.freeCtr = s.freeCtr) ∧
          (failed → (u.lane i).localFault = some ((s.lane i).localFault.getD .memory) ∧
            ∃ w, w / 16 = x.sramPos ∧ (u.lane i).store = { x with badSram := x.badSram ++ [w] }))) ∧
  (∀ (t : Nat) (i : LaneId) (s : State),
      ((s.lane i).store.frozen = true → (s.lane i).store.frozenSince + 10000000 ≤ max s.now t →
        ∃ u, exec (.freezeTimeout t i) s = .next u ∧ u.lane i = { s.lane i with store := { (s.lane i).store with frozen := false, ringKept := [] } } ∧
          (∀ j, j ≠ i → u.lane j = s.lane j) ∧
          (∃ q, q.code = 0x0407 ∧ u.almanac = { s.almanac with events := s.almanac.events ++ [q] }) ∧
          u = { s with now := u.now, lanes := u.lanes, almanac := u.almanac }) ∧
      (max s.now t < (s.lane i).store.frozenSince + 10000000 → exec (.freezeTimeout t i) s = .next (State.tick t s)))

/-! ## Supplies, the reset pin and seating (16, 18) -/

/-- R626: both supply inputs fall below; where one leaves below within 10 ms in a module that runs, nothing else has changed; after 10 ms every lane
writes SAFE_OFF with cause 3 and the module holds itself in reset, in OFF, with every safe output off and the safety supply switch open. R645, R631: a core undervoltage holds one lane in reset with its elements open, and the lane leaves the vote; low output supply takes the
terminals off and abandons a running test. -/
def Obligations.SuppliesThatFall : Prop :=
  (∀ (t : Nat) (s : State),
      (s.sealBank.below = false →
        exec (.supplyBelow t) s = .next { s with now := max s.now t, sealBank := { s.sealBank with below := true, belowSince := max s.now t } }) ∧
      (s.sealBank.below = true → s.control.phase = .running → max s.now t < s.sealBank.belowSince + 10000000 →
        exec (.supplyReturn t) s = .next { s with now := max s.now t, sealBank := { s.sealBank with below := false } } ∧
        exec (.powerFail t) s = .next (State.tick t s)) ∧
      (s.sealBank.below = true → s.control.phase = .running → s.sealBank.belowSince + 10000000 ≤ max s.now t →
        ∃ u, exec (.powerFail t) s = .next u ∧ u.control.phase = .reset ∧ u.control.power = .off ∧ u.safeIo.supply = .isOpen ∧
          u.terminals = 0 ∧ u.snapshots = s.snapshots ∧ u.xram = s.xram ∧ u.sealBank = s.sealBank ∧
          ∀ i, (u.lane i).elements = 0 ∧ (u.lane i).supplyClosed = false ∧ (u.lane i).engine.routes = (s.lane i).engine.routes ∧
            ((s.lane i).queue = [] → ∃ q, (u.lane i).queue = [q] ∧ q.code = 0x0405 ∧ q.writer = i.index + 1 ∧
              q.payloads = [payloadFields [(24, 1, i.index), (25, 1, 3)]]))) ∧
  (∀ (t : Nat) (i : LaneId) (s : State),
      (s.control.phase = .running → (∀ j, j ≠ i → (s.lane j).meridianToggles = true ∧ (s.lane j).supervisionToggles = true) → (s.lane i).mode = .voting →
        ∃ u, exec (.coreUndervoltage t i) s = .next u ∧ (u.lane i).mode = .isolated ∧ (u.lane i).held = true ∧ (u.lane i).elements = 0 ∧
          (u.lane i).supplyClosed = false ∧ (u.lane i).vote.sent = none ∧ (∀ j, j ≠ i → u.lane j = s.lane j) ∧
          u = { s with now := u.now, lanes := u.lanes }) ∧
      (∃ u, exec (.outputSupplyLow t) s = .next u ∧ u.safeIo.outputLow = true ∧ u.terminals = 0 ∧ u.safeIo.test = none ∧
        u.safeIo.abandoned = (if s.safeIo.test.isSome then s.safeIo.abandoned + 1 else s.safeIo.abandoned) ∧ u.safeIo.supply = s.safeIo.supply ∧
        u = { s with now := u.now, safeIo := u.safeIo, lanes := u.lanes } ∧
        ∀ j, u.lane j = if (s.lane j).mode = .voting then { s.lane j with elements := s.snap.safeOut } else s.lane j))

/-- R588, R589, R620: MRST_N low or MSEAT_N high holds the module in reset with every output off, whatever it did; when nothing holds
it any more, the 100 ms of release begin. R590: an assertion of MRST_N of more than 5 s latches with its length in whole ms; a shorter one does not. R620: the time that MSEAT_N
reads high meanwhile is left out of the length. -/
def Obligations.ResetPinAndSeatHoldTheModule : Prop :=
  (∀ (t : Nat) (s : State),
    (∃ u, exec (.mrstAssert t) s = .next u ∧ u.control.phase = .reset ∧ u.control.power = .off ∧ u.sealBank.resetAsserted = true ∧
      u.sealBank.resetSince = (if s.sealBank.resetAsserted then s.sealBank.resetSince else max s.now t) ∧
      u.safeIo.supply = .isOpen ∧ u.terminals = 0 ∧ u.ndezo.quiet = true ∧
      (∀ i, (u.lane i).elements = 0 ∧ (u.lane i).supplyClosed = false ∧ (u.lane i).mode = (s.lane i).mode) ∧
      u.sent = s.sent ∧ u.images = s.images ∧ u.almanac = s.almanac ∧ u.host = s.host) ∧
    (∃ u, exec (.mseatHigh t) s = .next u ∧ u.control.phase = .reset ∧ u.control.power = .off ∧ u.sealBank = { s.sealBank with
        unseated := true
        unseatedSince := if s.sealBank.unseated then s.sealBank.unseatedSince else max s.now t } ∧
      u.safeIo.supply = .isOpen ∧ u.terminals = 0 ∧ (∀ i, (u.lane i).elements = 0) ∧ u.sent = s.sent ∧ u.almanac = s.almanac) ∧
    (s.control.phase = .reset → s.sealBank.resetAsserted = true → s.sealBank.unseated = false → s.sealBank.below = false →
      ∃ u, exec (.mrstRelease t) s = .next u ∧ u.control = { s.control with phase := .release } ∧
        u.sealBank = { s.sealBank with resetAsserted := false, releaseSince := max s.now t } ∧ u.lanes = s.lanes ∧
        u = { s with now := u.now, control := u.control, sealBank := u.sealBank, startup := u.startup }) ∧
    (s.control.phase = .reset → s.sealBank.unseated = true → s.sealBank.resetAsserted = false → s.sealBank.below = false →
      exec (.moduleSeated t) s = .next { s with
        now := max s.now t
        control := { s.control with phase := .release }
        sealBank := { s.sealBank with unseated := false, releaseSince := max s.now t } }) ∧
    (s.control.phase = .reset → s.sealBank.below = true → s.sealBank.resetAsserted = false → s.sealBank.unseated = false →
      ∃ u, exec (.supplyReturn t) s = .next u ∧ u.control = { s.control with phase := .release } ∧
        u.sealBank = { s.sealBank with below := false, releaseSince := max s.now t })) ∧
  (∀ (t : Nat) (s : State), s.sealBank.resetAsserted = true → s.sealBank.unseated = true → s.sealBank.resetSince ≤ s.sealBank.unseatedSince →
    s.sealBank.unseatedSince ≤ s.now →
      ∃ u, exec (.moduleSeated t) s = .next u ∧ u.sealBank = { s.sealBank with
        unseated := false
        resetSince := s.sealBank.resetSince + (max s.now t - s.sealBank.unseatedSince) } ∧
        u = { s with now := u.now, sealBank := u.sealBank }) ∧
  (∀ (t : Nat) (s : State), s.sealBank.resetAsserted = true → s.sealBank.unseated = false →
    (s.sealBank.resetSince + 5000000000 < max s.now t →
      exec (.resetStuck t) s = .next { s with
        now := max s.now t
        startup := { s.startup with resetStuck := some (min 0xFFFFFFFF ((max s.now t - s.sealBank.resetSince) / 1000000)) } }) ∧
    (max s.now t ≤ s.sealBank.resetSince + 5000000000 → exec (.resetStuck t) s = .next (State.tick t s)))

/-! ## Start, Dusk and repair (16) -/

/-- R115, R227, R571: 100 ms after the release, with a supply in range, a start begins: every route is IDLE, every point end blocked and every signal held,
snapshot numbers resume 2^20 above the checkpoint, the Dusk records are erased and the exchange RAM is not filled. Before that
instant nothing happens. -/
def Obligations.StartBeginsFromTheRelease : Prop :=
  ∀ (t : Nat) (s : State), s.control.phase = .release → s.sealBank.below = false →
    (s.sealBank.releaseSince + 100000000 ≤ max s.now t → (s.lane .A).checkpoint = (s.lane .B).checkpoint →
      ∃ u, exec (.start t) s = .next u ∧ u.control.phase = .starting ∧ u.startup.begun = max s.now t ∧
        u.nextNumber = (s.lane .A).checkpoint + 2 ^ 20 ∧ u.xram.filled = false ∧ u.safeIo = SafeIo.atReset ∧ u.host.sessions = [] ∧
        u.snapshots = [] ∧ u.images.flash = s.images.flash ∧ u.identity = s.identity ∧ u.pair.epoch = s.pair.epochFlash ∧
        ∀ i, (u.lane i).engine = Engine.afterStart ∧ (u.lane i).dusk = none ∧ (u.lane i).elements = 0 ∧ (u.lane i).counters = LaneCounters.zero ∧
          (u.lane i).softRepairs = (s.lane i).softRepairs ∧ (u.lane i).stashFlash = (s.lane i).stashFlash) ∧
    (max s.now t < s.sealBank.releaseSince + 100000000 → exec (.start t) s = .next (State.tick t s))

/-- R572, R574, R584: the power-up BIST of the lane whose turn it is: it passes with the golden signature and a spare for each fault, its repairs enter its
repair map, and the turn goes to the next lane that needs it. -/
def Obligations.PowerUpBistLaneByLane : Prop :=
  ∀ (t : Nat) (i : LaneId) (r : BistResult) (s : State), s.control.phase = .starting → s.startup.bistTurn = some i →
    ∃ u, exec (.laneBistComplete t i r) s = .next u ∧
      u.lane i = { s.lane i with
        bistNeeded := false
        startPassed := r.signatureOk && r.march.spareLeft
        softRepairs := (s.lane i).softRepairs ++ r.march.repairs } ∧
      (∀ j, j ≠ i → u.lane j = s.lane j) ∧ u.control = s.control ∧
      (u.startup.bistTurn = some .A ↔ (u.lane .A).bistNeeded = true) ∧
      (u.startup.bistTurn = none ↔ ∀ j, (u.lane j).bistNeeded = false) ∧
      u = { s with now := u.now, lanes := u.lanes, almanac := u.almanac, startup := u.startup }

/-- R574, R575, R493, R541: with every BIST done, two or three passing lanes bring the module to IDLE with program mode STOP, each passing lane VOTING and each other lane EXCLUDED with cause
SELF_TEST, and with the exchange RAM zero; with fewer, the start is tried once more 1 s later from step 1, and then the module stays in reset; which lanes passed stays known. A lane whose
list of operator keys differs from the equal ones of two others does not pass; whether any two lanes hold one list stays known for the admission of images. A lane with a check unit that fails its known-answer test writes its
record, whether or not the start succeeds (R327). The retry runs the BIST of every lane. -/
def Obligations.StartEndsInIdleOrIsRetriedOnce : Prop :=
  (∀ (t : Nat) (r : StartResult) (s : State), s.control.phase = .starting → s.startup.bistTurn = none →
    let n := (allLanes.filter (fun i => (s.startPasses r).get i)).length
    let noted := fun (u : State) => ∀ i, (u.lane i).startPassed = (s.startPasses r).get i ∧
      (r.katFail.get i = none → u.lane i = { s.lane i with startPassed := (s.startPasses r).get i }) ∧
      (∀ k, r.katFail.get i = some k → (s.lane i).queue = [] → ∃ q, (u.lane i).queue = [q] ∧ q.code = 0x0508 ∧ q.writer = i.index + 1 ∧
        u.lane i = { s.lane i with startPassed := (s.startPasses r).get i, queue := [q] })
    (2 ≤ n → s.startup.restart = false →
      ∃ u, exec (.startComplete t r) s = .next u ∧ u.control.phase = .running ∧ u.control.power = .idle ∧ u.control.mode = .stop ∧
        u.xram.filled = true ∧ (∀ a, u.xramByte a = 0) ∧ u.startup.noKeys = !agreementHolds r.keyLists s.comparing ∧
        (∀ i, if (s.startPasses r).get i then (u.lane i).mode = .voting else (u.lane i).mode = .excluded ∧ (u.lane i).cause = some .selfTest) ∧
        (n = 3 → s.control.degradation = .full → u.control.degradation = .full) ∧ (n = 2 → u.control.degradation = .reduced)) ∧
    (n < 2 → s.startup.retried = false →
      ∃ u, exec (.startComplete t r) s = .next u ∧ noted u ∧ u = { s with
        now := max s.now t
        control := { s.control with phase := .retryWait }
        startup := { s.startup with
          retryAt := max s.now t + 1000000000
          noKeys := !agreementHolds r.keyLists s.comparing }
        lanes := u.lanes }) ∧
    (n < 2 → s.startup.retried = true →
      ∃ u, exec (.startComplete t r) s = .next u ∧ noted u ∧ u = { s with
        now := max s.now t
        control := { s.control with phase := .dead }
        startup := { s.startup with noKeys := !agreementHolds r.keyLists s.comparing }
        lanes := u.lanes })) ∧
  (∀ (t : Nat) (s : State), s.control.phase = .retryWait →
    (s.startup.retryAt ≤ max s.now t →
      ∃ u, exec (.startRetry t) s = .next u ∧ u.control = { s.control with phase := .starting } ∧
        u.startup = { s.startup with retried := true, retryAt := max s.now t, bistTurn := some .A, bistRan := true } ∧
        (∀ i, u.lane i = { s.lane i with bistNeeded := true, startPassed := false, held := false }) ∧
        u = { s with now := u.now, control := u.control, startup := u.startup, lanes := u.lanes }) ∧
    (max s.now t < s.startup.retryAt → exec (.startRetry t) s = .next (State.tick t s)))

/-- R578 to R580, Table 16.5: the Dusk test of lane A or B seals its record with the completion marker and hands on to the next lane; a test
whose clock or core supply leaves its range stops, and its record is sealed with VERDICT 2 and the patterns reached. -/
def Obligations.DuskTestSealsEachLane : Prop :=
  ∀ (t : Nat) (i j : LaneId) (r : DuskResult) (d : DuskRecord) (s : State), s.control.phase = .dusk → s.startup.duskTurn = some i →
    (s.lane i).dusk = some d →
    (laneOf (i.index + 1) = some j →
      ∃ u e, exec (.duskLaneComplete t i r) s = .next u ∧ (u.lane i).dusk = some e ∧ e.marker = 0x454E4F44 ∧ e.signature = r.signature ∧
        e.crcOk = true ∧
        e.verdict = (if s.startup.duskStop then 2
          else if r.signature == Config.goldenSignature Config.fwVersion && r.march.spareLeft then 0 else 1) ∧
        e.patterns = (if s.startup.duskStop then d.patterns else 1048576) ∧
        (u.lane i).softRepairs = (s.lane i).softRepairs ++ r.march.repairs ∧
        u.startup = { s.startup with duskTurn := some j, duskStop := false } ∧ (u.lane j).duskRuns = (s.lane j).duskRuns + 1 ∧
        u = { s with now := u.now, lanes := u.lanes, startup := u.startup }) ∧
    (∀ patterns clock supply, (clock < 49500 ∨ 50500 < clock ∨ supply < 873 ∨ 927 < supply) → s.startup.duskStop = false →
      ∃ u, exec (.duskConditions t i patterns clock supply) s = .next u ∧ u.startup = { s.startup with duskStop := true } ∧
        (u.lane i).dusk = some { d with patterns := min patterns 1048576, clockKhz := clock, vmin := supply, vmax := supply } ∧
        u = { s with now := u.now, lanes := u.lanes, startup := u.startup }) ∧
    (∀ patterns clock supply, 49500 ≤ clock → clock ≤ 50500 → 873 ≤ supply → supply ≤ 927 →
      exec (.duskConditions t i patterns clock supply) s = .next (State.tick t s))

/-- R244, R325: the stages of a reintegration in a running module: a passed self-test, its known-answer tests among it, leads to COPYING, equal copies to SHADOW with the route engine of the
voting lanes, and a failure of either back to EXCLUDED. R586: a fuse repair that runs makes soft repairs permanent, as many as the fuse entries take; none is lost. -/
def Obligations.ReintegrationAndFuseRepair : Prop :=
  (∀ (t : Nat) (i : LaneId) (r : SelfTestResult) (s : State), s.control.phase = .running →
      ((s.lane i).mode = .restarting →
        (r.pass = true → r.katFail = none → ∃ u, exec (.reintegrationSelfTestDone t i r) s = .next u ∧ (u.lane i).mode = .copying ∧ (u.lane i).localFault = none ∧
          (∀ j, j ≠ i → u.lane j = s.lane j) ∧ u = { s with now := u.now, lanes := u.lanes, almanac := u.almanac }) ∧
        (r.pass = false ∨ r.katFail ≠ none → ∃ u, exec (.reintegrationSelfTestDone t i r) s = .next u ∧ (u.lane i).mode = .excluded ∧ (u.lane i).cause = some .selfTest ∧
          (∀ j, j ≠ i → u.lane j = s.lane j) ∧ u = { s with now := u.now, lanes := u.lanes, almanac := u.almanac })) ∧
      ((s.lane i).mode = .copying →
        (∃ u, exec (.copyingComplete t i true) s = .next u ∧ (u.lane i).mode = .shadow ∧ (u.lane i).engine = s.leadLane.engine ∧
          (u.lane i).inputs.streams = s.leadLane.inputs.streams ∧ (u.lane i).shadowSince = max s.now t ∧
          (∀ j, j ≠ i → u.lane j = s.lane j) ∧ u = { s with now := u.now, lanes := u.lanes, almanac := u.almanac }) ∧
        ∃ u, exec (.copyingComplete t i false) s = .next u ∧ (u.lane i).mode = .excluded ∧ (u.lane i).cause = (s.lane i).cause ∧
          (∀ j, j ≠ i → u.lane j = s.lane j) ∧ u = { s with now := u.now, lanes := u.lanes, almanac := u.almanac })) ∧
  (∀ (t : Nat) (i : LaneId) (s : State), (s.lane i).fuseRunning = true →
      ∃ u, exec (.fuseRepairComplete t i) s = .next u ∧ (u.lane i).fuseRunning = false ∧
        (u.lane i).fusedRepairs.length = (s.lane i).fusedRepairs.length + (s.lane i).fusable ∧
        ((u.lane i).softRepairs ++ (u.lane i).fusedRepairs).Perm ((s.lane i).softRepairs ++ (s.lane i).fusedRepairs) ∧
        (∀ j, j ≠ i → u.lane j = s.lane j) ∧ u = { s with now := u.now, lanes := u.lanes, almanac := u.almanac })

/-! ## Seal switches and pins (15) -/

/-- R553, R557, R562: the lanes' filtered readings of a switch in a running module: each lane keeps its own, and a voted reading that differs from the one in force
commits at the next vote; the pins likewise. R559: a lane whose reading of a switch has differed from the voted one for 1 s writes one local record, and no second one for the same
difference. -/
def Obligations.SealAndPinReadingsAreVoted : Prop :=
  (∀ (t k : Nat) (x : Lanes Reading) (p : Lanes Nat) (s : State), s.control.phase = .running →
    (k < 16 → (s.lane .A).mode = .voting → (s.lane .B).mode = .voting → (s.lane .C).mode = .voting →
      ∃ u, exec (.sealChange t k x) s = .next u ∧
        (∀ i, (u.lane i).inputs.seals = (s.lane i).inputs.seals.set k (x.get i)) ∧
        (∀ v, (x.a = v ∧ x.b = v ∨ x.a = v ∧ x.c = v ∨ x.b = v ∧ x.c = v) →
          u.sealBank.current = if s.sealBank.current.getD k .isOpen = v then s.sealBank.current else s.sealBank.current.set k v) ∧
        (x.a ≠ x.b → x.a ≠ x.c → x.b ≠ x.c →
          u.sealBank.current = if s.sealBank.current.getD k .isOpen = .discrepant then s.sealBank.current else s.sealBank.current.set k .discrepant) ∧
        u.sealBank.voted = s.sealBank.voted ∧ u = { s with now := u.now, lanes := u.lanes, sealBank := u.sealBank }) ∧
    (p.a = p.b → p.b = p.c → (s.lane .A).mode = .voting → (s.lane .B).mode = .voting → (s.lane .C).mode = .voting → p.a < 4 →
      ∃ u, exec (.pselChange t p) s = .next u ∧ u.sealBank.pselNext.getD u.sealBank.psel = p.a ∧ u.sealBank.psel = s.sealBank.psel ∧
        (∀ i, (u.lane i).inputs.psel = p.get i % 8) ∧ u = { s with now := u.now, lanes := u.lanes, sealBank := u.sealBank })) ∧
  (∀ (t k : Nat) (i : LaneId) (e : Differ) (s : State), assoc (s.lane i).inputs.differs k = some e → e.agreed = none →
    (e.recorded = false → e.since + 1000000000 ≤ max s.now t → (s.lane i).queue = [] →
      ∃ u q, exec (.sealDisagreement t i k) s = .next u ∧ (u.lane i).queue = [q] ∧ q.code = 0x0902 ∧ q.writer = i.index + 1 ∧
        assoc (u.lane i).inputs.differs k = some { e with recorded := true } ∧ (∀ j, j ≠ i → u.lane j = s.lane j) ∧
        u = { s with now := u.now, lanes := u.lanes }) ∧
    ((e.recorded = true ∨ max s.now t < e.since + 1000000000) → exec (.sealDisagreement t i k) s = .next (State.tick t s)))

/-! ## Safe outputs (11) -/

/-- R422, R423, Table 11.4: the test slot of an output in LIVE with the supply closed: an output committed at 1 goes off for its off-pulse, another starts its dark test, and
without the output supply the slot is abandoned (R631). -/
def Obligations.TestSlotBeginsTheTestOfItsOutput : Prop :=
  ∀ (t o : Nat) (s : State), s.now ≤ t → s.control.phase = .running → s.control.power = .live → s.safeIo.supply = .isClosed → s.safeIo.test = none →
    o < 32 → t % 100000000 = 3000000 * o + 10000 →
    (s.safeIo.outputLow = false → s.snap.safeOut.getLsbD o = true →
      ∃ u, exec (.testSlotStart t o) s = .next u ∧ u.safeIo.test = some { output := o, start := t, kind := .offPulse false } ∧
        u.terminals.getLsbD o = false ∧ (∀ i, (u.lane i).elements.getLsbD o = false) ∧
        (∀ i k, k ≠ o → (u.lane i).elements.getLsbD k = (s.lane i).elements.getLsbD k) ∧ u.safeIo.passed = s.safeIo.passed ∧
        u = { s with now := u.now, safeIo := u.safeIo, lanes := u.lanes }) ∧
    (s.safeIo.outputLow = false → s.snap.safeOut.getLsbD o = false →
      exec (.testSlotStart t o) s = .next { s with
        now := t, safeIo := { s.safeIo with test := some { output := o, start := t, kind := .dark 0 } } }) ∧
    (s.safeIo.outputLow = true →
      exec (.testSlotStart t o) s = .next { s with now := t, safeIo := { s.safeIo with abandoned := s.safeIo.abandoned + 1 } })

/-- R424, R425, Table 11.6: the off-pulse is judged 250 µs after it began, whatever the senses show, and the output takes its committed value again, at its terminal too where the supply conducts: a terminal that went off for 20 µs passes, one that
reads energised is STUCK_ON, which every voting lane marks, and any other has not passed. A pulse that a commit to 0 has cut and a later one closed again shows no STUCK_ON. Before that instant, with no off-pulse or with another output under test, nothing happens. -/
def Obligations.OffPulseIsJudged : Prop :=
  ∀ (t o : Nat) (x : PulseSense) (s : State),
    (∀ (start : Nat) (cut on : Bool), s.safeIo.test = some { output := o, start := start, kind := .offPulse cut } → o < 32 →
      start + 250000 ≤ max s.now t → s.snap.safeOut.getLsbD o = on →
      let again := cut = true ∧ on = true
      ∃ u, exec (.offPulseEnd t o x) s = .next u ∧ (on = false → u.terminals.getLsbD o = false) ∧
        (on = true → s.supplyOn = true → 2 ≤ s.voting.length → u.terminals.getLsbD o = true) ∧
        (∀ i, (s.lane i).mode = .voting → (u.lane i).elements.getLsbD o = on) ∧ (u.safeIo.test.isSome ↔ on = true) ∧
        (x.offFor20us = true → (x.energised = false ∨ again) →
          u.safeIo.passed = s.safeIo.passed + 1 ∧ assoc u.safeIo.lastPulse o = some (max s.now t) ∧ o ∉ u.safeIo.untested) ∧
        ((x.offFor20us = false ∨ x.energised = true ∧ ¬again) →
          u.safeIo.passed = s.safeIo.passed ∧ u.safeIo.lastPulse = s.safeIo.lastPulse ∧ u.safeIo.untested = s.safeIo.untested) ∧
        ((x.energised = false ∨ again) → ∀ i, (u.lane i).forces = (s.lane i).forces) ∧
        (x.energised = true → ¬again → ∀ i, (s.lane i).mode = .voting → (u.lane i).marked (.fault .stuckOn o) o) ∧
        u = { s with now := u.now, safeIo := u.safeIo, lanes := u.lanes }) ∧
    ((∀ r, s.safeIo.test = some r → (∀ c, r.kind ≠ .offPulse c) ∨ r.output ≠ o ∨ max s.now t < r.start + 250000) →
      exec (.offPulseEnd t o x) s = .next (State.tick t s))

/-- R423, Table 11.4, Table 11.6: the element test of a lane in a module of three voting lanes, whatever the lanes sense: the lane's elements are open from 1,000 µs of the slot and closed again from 1,100 µs, and at 1,200 µs the slot ends. A current in one of the two pairs of that lane
while its elements are open is ELEMENT_CLOSED, a pair without current afterwards ELEMENT_OPEN, each marked by every lane; with neither, the output has passed. Before 1 ms of the slot, with no test or with another output under test, nothing happens. -/
def Obligations.ElementTestFindsTheFault : Prop :=
  ∀ (t o : Nat) (x : ElementSense) (s : State), o < 32 →
    (∀ (i : LaneId) (start : Nat) (g : ElementStage), s.safeIo.test = some { output := o, start := start, kind := .element i g } →
      start + 1000000 ≤ max s.now t → (∀ j, (s.lane j).mode = .voting) →
      let stuck := match i with
        | .A => x.openCurrent.a || x.openCurrent.c
        | .B => x.openCurrent.a || x.openCurrent.b
        | .C => x.openCurrent.b || x.openCurrent.c
      let dead := !(x.closedCurrent.a && x.closedCurrent.b && x.closedCurrent.c)
      let closed := decide (start + 1100000 ≤ max s.now t)
      ∃ u, exec (.elementTest t o x) s = .next u ∧ u = { s with now := u.now, safeIo := u.safeIo, lanes := u.lanes } ∧
        (∀ j k, (j ≠ i ∨ k ≠ o) → (u.lane j).elements.getLsbD k = (s.lane j).elements.getLsbD k) ∧
        (u.lane i).elements.getLsbD o = closed ∧
        (max s.now t < start + 1200000 → (∀ j, (u.lane j).forces = (s.lane j).forces) ∧ u.safeIo = { s.safeIo with
          test := some { output := o, start := start, kind := .element i (if closed then .closedAgain else .opened) } }) ∧
        (start + 1200000 ≤ max s.now t → u.safeIo.test = none ∧
          (stuck = true → ∀ j, (u.lane j).marked (.fault .elementClosed o) o) ∧ (dead = true → ∀ j, (u.lane j).marked (.fault .elementOpen o) o) ∧
          (stuck = false → dead = false → u.safeIo.passed = s.safeIo.passed + 1 ∧ ∀ j, (u.lane j).forces = (s.lane j).forces) ∧
          ((stuck = true ∨ dead = true) → u.safeIo.passed = s.safeIo.passed))) ∧
    ((∀ r, s.safeIo.test = some r → (∀ i g, r.kind ≠ .element i g) ∨ r.output ≠ o ∨ max s.now t < r.start + 1000000) →
      exec (.elementTest t o x) s = .next (State.tick t s))

/-- R423, Table 11.4: the six steps of a dark test in a module of three voting lanes, whatever the senses show, each once its element has closed alone for 20 µs: each good step leads to the next, the sixth passes the test; a mid-point that does not leave
the bias level is ELEMENT_OPEN, and one that does not return, or a terminal that is energised, ELEMENT_CLOSED. A step of another output or number, or before its time, does nothing. -/
def Obligations.DarkTestStepByStep : Prop :=
  ∀ (t o k : Nat) (x : DarkSense) (s : State),
    (∀ (start : Nat), s.safeIo.test = some { output := o, start := start, kind := .dark k } → k < 6 →
      start + 25000 * k + 20000 ≤ max s.now t → (∀ j, (s.lane j).mode = .voting) →
      let good := x.left = true ∧ x.returned = true ∧ x.terminalOff = true
      ∃ u, exec (.darkTestStep t o k x) s = .next u ∧ u = { s with now := u.now, safeIo := u.safeIo, lanes := u.lanes } ∧
        (good → u.lanes = s.lanes ∧
          u.safeIo.test = (if k < 5 then some { output := o, start := start, kind := .dark (k + 1) } else none) ∧
          u.safeIo.passed = (if k < 5 then s.safeIo.passed else s.safeIo.passed + 1)) ∧
        (¬good → u.safeIo.test = none ∧ u.safeIo.passed = s.safeIo.passed) ∧
        (x.left = false → x.returned = true → x.terminalOff = true → ∀ j, (u.lane j).marked (.fault .elementOpen o) o) ∧
        ((x.returned = false ∨ x.terminalOff = false) → ∀ j, (u.lane j).marked (.fault .elementClosed o) o)) ∧
    ((∀ r, s.safeIo.test = some r → r.kind ≠ .dark k ∨ r.output ≠ o ∨ max s.now t < r.start + 25000 * k + 20000) →
      exec (.darkTestStep t o k x) s = .next (State.tick t s))

/-- R426, R427, R428, Table 11.6: what a voting lane finds in LIVE with the supply closed and the output supply present: an energised output untested for 1 s gets its record
once; a voting lane marks the fault that a test of that output shows, STUCK_ON where every element has been open for 250 µs outside a test, and a short outside the output's test slot; and an output leaves the short set 100 ms after its
writer proposed 0. -/
def Obligations.OutputConditionsOutsideTheSlots : Prop :=
  ∀ (t o : Nat) (i : LaneId) (s : State), s.control.phase = .running → s.control.power = .live → s.safeIo.supply = .isClosed →
    s.safeIo.outputLow = false → o < 32 →
    (s.snap.safeOut.getLsbD o = true → s.energisedSince o + 1000000000 ≤ max s.now t → assocD s.safeIo.lastPulse o 0 + 1000000000 ≤ max s.now t →
      o ∉ s.safeIo.untested →
      ∃ u, exec (.untested t o) s = .next u ∧ o ∈ u.safeIo.untested ∧
        (∃ q, q.code = 0x0702 ∧ u.almanac.events = s.almanac.events ++ [q] ∧ q.payloads = [payloadFields [(24, 1, o), (25, 1, 1)]]) ∧
        u = { s with now := u.now, safeIo := u.safeIo, almanac := u.almanac }) ∧
    ((s.lane i).mode = .voting → ∀ k start j,
      (k = OutFault.elementClosed ∧ s.safeIo.test = some { output := o, start := start, kind := .element j .opened } ∨
       k = OutFault.elementOpen ∧ s.safeIo.test = some { output := o, start := start, kind := .element j .closedAgain } ∨
       k = OutFault.stuckOn ∧ s.safeIo.test = none ∧ (∀ l, (s.lane l).elements.getLsbD o = false) ∧
         assocD s.safeIo.openedAt o 0 + 250000 ≤ max s.now t) →
      ∃ u, exec (.outputFault t i o k) s = .next u ∧ (u.lane i).marked (.fault k o) o ∧ (∀ j, j ≠ i → u.lane j = s.lane j) ∧
        u = { s with now := u.now, safeIo := u.safeIo, lanes := u.lanes }) ∧
    ((s.lane i).mode = .voting → s.snap.safeOut.getLsbD o = true → s.energisedSince o + 2000000 ≤ max s.now t →
      (∀ r, s.safeIo.test = some r → r.output ≠ o) →
      ∃ u, exec (.short t i o) s = .next u ∧ (u.lane i).marked (.short o) o ∧ (∀ j, j ≠ i → u.lane j = s.lane j) ∧
        u = { s with now := u.now, safeIo := u.safeIo, lanes := u.lanes }) ∧
    (s.leadLane.engine.shortSet.getLsbD o = true → ∀ z, assoc s.safeIo.zeroSince o = some z → z + 100000000 ≤ max s.now t →
      ∃ u, exec (.shortSetExit t o) s = .next u ∧ (∀ j, (u.lane j).engine.shortSet.getLsbD o = false) ∧
        (∀ j k, k ≠ o → (u.lane j).engine.shortSet.getLsbD k = (s.lane j).engine.shortSet.getLsbD k) ∧
        u = { s with now := u.now, lanes := u.lanes, almanac := u.almanac })

/-! ## Route timers, safe inputs and pace (01, 03, 11) -/

/-- R99, R112, R119, R120: a timer in its last T1 cycle runs out in the T1 body in progress of a voting lane: the detection, approach or emergency
timer returns the route to IDLE with reason 6, 1 or 11, and ends its point calls, but the approach timer where the train has entered the route (R652). The body's own copy of the route engine changes and
no committed one. R122, R124: the overlap timer of an OCCUPIED route releases the overlap and nothing else of the route; the reset of a section ends. Both in
the T1 body in progress. -/
def Obligations.RouteTimersAndSectionResetsRunOut : Prop :=
  (∀ (t r n : Nat) (i : LaneId) (s : State), (s.lane i).mode = .voting → (Task.t1, n) ∈ (s.lane i).program.bodies →
    (s.lane i).program.working = none → (s.lane i).program.intake = [] →
    let x := (s.lane i).engine.entry r
    let idleWith := fun (reason : Nat) (u : State) => ∃ e evs, (u.lane i).program.working = some (e, evs) ∧ (u.lane i).engine = (s.lane i).engine ∧
      e.entry r = { RouteEntry.idle with reason := reason } ∧ (∀ q, q ≠ r → e.entry q = (s.lane i).engine.entry q) ∧
      (∀ c ∈ e.calls, c.route ≠ r) ∧ u = { s with now := u.now, lanes := u.lanes }
    x.timer ≤ 1 →
    (x.state = .pointsCalled → x.timerKind = .detection → ∃ u, exec (.detectTimeout t (.route r)) s = .next u ∧ idleWith 6 u) ∧
    (x.state = .approachLocked → x.timerKind = .approach → (State.tick t s).entered (s.lane i) r = false →
      ∃ u, exec (.approachTimerExpiry t r) s = .next u ∧ idleWith 1 u) ∧
    (x.state = .emergTiming → x.timerKind = .emergency → ∃ u, exec (.emergTimerExpiry t r) s = .next u ∧ idleWith 11 u)) ∧
  (∀ (t r : Nat) (s : State), (∀ i, (State.tick t s).entered (s.lane i) r = true) → exec (.approachTimerExpiry t r) s = .next (State.tick t s)) ∧
  (∀ (t n : Nat) (i : LaneId) (s : State), (s.lane i).mode = .voting → (Task.t1, n) ∈ (s.lane i).program.bodies →
    (s.lane i).program.working = none → (s.lane i).program.intake = [] →
    (∀ r, let x := (s.lane i).engine.entry r
      x.state = .occupied → x.timerKind = .overlap → x.timer ≤ 1 →
      ∃ u e evs, exec (.overlapTimerExpiry t r) s = .next u ∧ (u.lane i).program.working = some (e, evs) ∧
        e.entry r = { x with timerKind := .none, timer := 0, overlapDone := true } ∧ (∀ q, q ≠ r → e.entry q = (s.lane i).engine.entry q) ∧
        (u.lane i).engine = (s.lane i).engine ∧ u = { s with now := u.now, lanes := u.lanes }) ∧
    (∀ el left, ({ element := el, left := left } : ResetRun) ∈ (s.lane i).engine.resets → left ≤ 1 →
      ∃ u e evs, exec (.sectionResetEnd t el) s = .next u ∧ (u.lane i).program.working = some (e, evs) ∧
        (∀ q ∈ e.resets, q.element = el → 1 < q.left) ∧ (∀ q ∈ (s.lane i).engine.resets, q.element ≠ el → q ∈ e.resets) ∧
        e.routes = (s.lane i).engine.routes ∧ (u.lane i).engine = (s.lane i).engine ∧ u = { s with now := u.now, lanes := u.lanes }))

/-- R413, R414, R43, R46, R47: a level that a lane has sampled as often in a row as the input's filter class requires stands in that lane and moves no other input; fewer samples change nothing; a pace below 1,000 steps/µs in a second consecutive measurement is a lane
fault with cause PACE; a lane whose pace has been 1,050 or more for 1 s leaves its margin state. -/
def Obligations.InputLevelsAndPace : Prop :=
  ∀ (t : Nat) (i : LaneId) (s : State),
    (∀ k x, k < 64 → x.samples < filterSamples (s.inputFilter k) → exec (.safeInputChange t i k x) s = .next (State.tick t s)) ∧
    (∀ k x, k < 64 → filterSamples (s.inputFilter k) ≤ x.samples →
      ∃ u, exec (.safeInputChange t i k x) s = .next u ∧ (u.lane i).inputs.level.getLsbD k = x.level ∧
        (∀ j, j ≠ k → (u.lane i).inputs.level.getLsbD j = (s.lane i).inputs.level.getLsbD j) ∧
        (u.lane i).inputs.latched = (s.lane i).inputs.latched ∧ (u.lane i).engine = (s.lane i).engine ∧ (∀ j, j ≠ i → u.lane j = s.lane j) ∧
        u = { s with now := u.now, lanes := u.lanes }) ∧
    (∀ p, s.control.phase = .running →
      ∃ u, exec (.paceMeasurement t i p) s = .next u ∧ (u.lane i).pace = p ∧
        (u.lane i).minPace = (if (s.lane i).minPace = 0 then p else min (s.lane i).minPace p) ∧
        (p < 1000 → (s.lane i).lowPaces = 1 → (s.lane i).mode = .voting → (s.lane i).localFault = none → (u.lane i).localFault = some .pace) ∧
        (1000 ≤ p → (u.lane i).lowPaces = 0 ∧ (u.lane i).localFault = (s.lane i).localFault) ∧
        (p < 1000 → (u.lane i).lowPaces = (s.lane i).lowPaces + 1) ∧
        (p < 1050 → (u.lane i).paceMargin = true ∧ u.statusFlags % 2 = 1) ∧ (1050 ≤ p → (u.lane i).paceMargin = (s.lane i).paceMargin) ∧
        (p < 1050 → (s.lane i).paceMargin = false → (s.lane i).queue = [] →
          ∃ q, (u.lane i).queue = [q] ∧ q.code = 0x0207 ∧ q.payloads = [payloadFields [(24, 1, i.index), (28, 4, p)]]) ∧
        ((1050 ≤ p ∨ (s.lane i).paceMargin = true) → (u.lane i).queue = (s.lane i).queue) ∧
        (∀ j, j ≠ i → u.lane j = s.lane j) ∧ u = { s with now := u.now, lanes := u.lanes }) ∧
    (1050 ≤ (s.lane i).pace → (s.lane i).paceGoodSince + 1000000000 ≤ max s.now t →
      ∃ u, exec (.paceMarginClear t i) s = .next u ∧ u.lane i = { s.lane i with paceMargin := false } ∧ (∀ j, j ≠ i → u.lane j = s.lane j) ∧
        u = { s with now := u.now, lanes := u.lanes })

/-! ## Zenith: planned starts and votes (04, 06) -/

/-- R18, R141, R209, R229: a planned start at which every voting lane has decided its last vote: each lane that still votes begins the vote of that instant
with a vector of the next number with its own name and its own time in units of 40 ns, or with a fault notice where it has a lane fault; no snapshot commits. Each lane's time base has drifted by its own amount, and the instants of the module stand at the median of the voting
lanes (the model's choice, log entry 33). -/
def Obligations.PlannedStartBeginsAVoteInEveryLane : Prop :=
  ∀ (t : Nat) (x : StartSense) (s : State), s.now ≤ t → s.control.phase = .running → s.voting ≠ [] → t % s.period = 0 →
    (∀ i, (s.lane i).mode = .voting → (s.lane i).vote.instant < t ∧ (s.lane i).vote.decided = true) →
    ∃ u, exec (.plannedStart t x) s = .next u ∧ u.now = t ∧ u.snapshots = s.snapshots ∧ u.nextNumber = s.nextNumber ∧ u.xram = s.xram ∧
      (∃ m : Int, (∀ i, (u.lane i).offset = (s.lane i).offset + x.drift.get i - m) ∧ ∀ i, s.voting = [i] → (u.lane i).offset = 0) ∧
      ∀ i, (u.lane i).mode = .voting →
        (s.lane i).mode = .voting ∧ (u.lane i).vote.instant = t ∧ (u.lane i).vote.decided = false ∧
        ((u.lane i).vote.own = none ↔ (u.lane i).localFault ≠ none) ∧ (u.lane i).vote.notice.map (fun n => n.cause) = (u.lane i).localFault.map some ∧
        ∀ v, (u.lane i).vote.own = some v →
          v.number = (s.lane i).lastNumber + 1 ∧ v.laneTime = laneWord (Int.ofNat t + (u.lane i).offset) ∧ v.lane = i ∧ v.mini = false

/-- R206 to R210, R214, R217, R229: a vote vector, a fault notice or a verdict word on a cross-lane link is always taken as its rules say. One that arrives whole is held by the receiving lane, a vector or notice up to the deadline, a verdict of a cycle-end vote of reduced operation up to 1 µs after it; one with
an invalid word counts as a link error; one that names another lane is ignored; and nothing but the receiving lane changes. -/
def Obligations.LinkMessagesReachTheirLane : Prop :=
  ∀ (t : Nat) (dst src : LaneId) (f : LinkFault) (s : State),
    let now : State := { s with now := max s.now t }
    let l := s.lane dst
    let b := (s.lane src).vote
    let held := fun (r : Received) => { l with vote := { l.vote with rx := l.vote.rx.put src r } }
    let onlyIt := fun (u : State) => (∀ j, j ≠ dst → u.lane j = s.lane j) ∧ u = { s with now := max s.now t, lanes := u.lanes }
    let counted := fun (u : State) => u.lane dst = { l with counters := { l.counters with linkErr := l.counters.linkErr.put src (l.counters.linkErr.get src + 1) } }
    (∃ u, exec (.voteVector t dst src f) s = .next u ∧ onlyIt u ∧
      (∀ v, f = .none → b.own = some v → v.lane = src → now.takesVote dst src = true → u.lane dst = held (.vector v)) ∧
      (∀ v, f = .none → b.own = some v → (v.lane ≠ src ∨ now.takesVote dst src = false) → u.lane dst = l) ∧
      (f = .invalid → b.own ≠ none → counted u) ∧ ((f = .wrongLane ∨ b.own = none) → u.lane dst = l)) ∧
    (∃ u, exec (.faultNotice t dst src f) s = .next u ∧ onlyIt u ∧
      (∀ n c, f = .none → b.notice = some n → n.cause = some c → now.takesVote dst src = true → u.lane dst = held (.notice c)) ∧
      (f = .none → now.takesVote dst src = false → u.lane dst = l) ∧
      (f = .invalid → b.notice ≠ none → counted u) ∧ ((f = .wrongLane ∨ b.notice = none) → u.lane dst = l)) ∧
    (∃ u, exec (.verdictWord t dst src f) s = .next u ∧ onlyIt u ∧
      (∀ v, f = .none → dst ≠ src → b.sent = some v → (s.control.degradation ≠ .reduced ∨ now.pastVerdict dst = false) → l.vote.verdicts.get src ≠ some v →
        u.lane dst = { l with vote := { l.vote with verdicts := l.vote.verdicts.put src (some v) } }) ∧
      (∀ w, f = .none → dst ≠ src → (b.sent = none ∨ l.vote.verdicts.get src = b.sent) → b.miniSent = some w → l.vote.miniVerdicts.get src = none →
        u.lane dst = { l with vote := { l.vote with miniVerdicts := l.vote.miniVerdicts.put src (some w) } }) ∧
      (f = .invalid → (b.sent ≠ none ∨ b.miniSent ≠ none) → counted u) ∧
      ((f = .wrongLane ∨ dst = src ∧ f = .none ∨ b.sent = none ∧ b.miniSent = none) → u.lane dst = l))

/-- Table 6.2, first row, R212, R213: in full operation with three vectors whose voted words agree and whose lane times agree within 1 µs (25 units of 40 ns) of each other, lane i commits those words and excludes no
lane, whatever the images, the previous snapshot and the straddles are. Table 6.2: a lane that is odd in a lock vector, while the two others agree, is excluded by both of them with cause VOTE, and isolates itself; one whose lane time is more than 1 µs from that of the two others is excluded with cause TIME. -/
def Obligations.VectorsAreDecidedByTableSixTwo : Prop :=
  (∀ (gs : List Group) (prev : Snapshot) (strays : LaneId → List Nat) (i j k : LaneId) (a : Vector) (y z : Word),
    (timeDiff y a.laneTime).natAbs ≤ 25 → (timeDiff z a.laneTime).natAbs ≤ 25 → (timeDiff z y).natAbs ≤ 25 →
    decideFull gs prev strays i j k (some a) (.vector { a with lane := j, laneTime := y }) (.vector { a with lane := k, laneTime := z }) = .commit a [] false) ∧
  (∀ (gs : List Group) (prev : Snapshot) (strays : LaneId → List Nat) (i j k : LaneId) (a : Vector) (locks : BitVec 8192), a.elemLock ≠ locks →
    decideFull gs prev strays i j k (some a) (.vector a) (.vector { a with elemLock := locks }) = .commit a [(k, .vote)] false ∧
    decideFull gs prev strays j i k (some a) (.vector a) (.vector { a with elemLock := locks }) = .commit a [(k, .vote)] false ∧
    decideFull gs prev strays k i j (some { a with elemLock := locks }) (.vector a) (.vector a) = .isolate false) ∧
  (∀ (gs : List Group) (prev : Snapshot) (strays : LaneId → List Nat) (i j k : LaneId) (a : Vector) (z : Word), 25 < (timeDiff z a.laneTime).natAbs →
    decideFull gs prev strays i j k (some a) (.vector a) (.vector { a with laneTime := z }) = .commit a [(k, .time)] false ∧
    decideFull gs prev strays k i j (some { a with laneTime := z }) (.vector a) (.vector a) = .isolate false)

/-- R42, R211, R226: a lane whose three vectors agree commits the vote. The first lane adds one snapshot, with the next number, the instant of the vote and the voted words; a later lane of the
same vote commits the same snapshot: its verdict says COMMITTED, its elements follow the committed outputs, and no snapshot is added. For a module
that runs no image and has no announced switchover, and, at the later lane, that was in full operation before the vote. -/
def Obligations.AgreedVoteCommitsOneSnapshot : Prop :=
  ∀ (t : Nat) (i j k : LaneId) (a : Vector) (s : State), i.others = [j, k] → s.control.phase = .running → s.control.degradation = .full →
    s.control.nadirDue = none → s.hasImage = false → s.pair.switchAt = none → (∀ l, (s.lane l).mode = .voting ∧ (s.lane l).expel = none) →
    (s.lane i).vote.owesIsolation = false → (s.lane i).vote.decided = false → (s.lane i).vote.miniOwn = .nothing → (s.lane i).vote.own = some a →
    (s.lane i).vote.rx.get j = .vector { a with lane := j } → (s.lane i).vote.rx.get k = .vector { a with lane := k } →
    ((s.lastCycle.instant ≠ (s.lane i).vote.instant ∨ s.snapshots = []) → (s.lane i).vote.instant % 10000000 ≠ 0 → s.control.pendingPower = none →
      s.control.pendingMode = none →
      ∃ u p, exec (.voteCommit t i) s = .next u ∧ u.snapshots = (p :: s.snapshots).take 2048 ∧ u.nextNumber = s.nextNumber + 1 ∧
        p.number = s.nextNumber ∧ p.instant = (s.lane i).vote.instant ∧ p.mini = false ∧ p.state = a.state ∧ p.elemLock = a.elemLock ∧
        p.routeLock = a.routeLock ∧ p.safeOut = 0) ∧
    (s.lastCycle.instant = (s.lane i).vote.instant → s.snapshots ≠ [] → s.control.executing = false → s.control.voted = .full →
      s.control.votedDue = none →
      ∃ u, exec (.voteCommit t i) s = .next u ∧ u.snapshots = s.snapshots ∧ u.nextNumber = s.nextNumber ∧ (u.lane i).vote.decided = true ∧
        (u.lane i).vote.committed = true ∧ (u.lane i).lastNumber = s.lastCycle.number ∧ (u.lane i).lastCommit = max s.now t ∧
        (∃ w, (u.lane i).vote.sent = some w ∧ w.committed = true ∧ w.snapLow = s.lastCycle.number % 65536) ∧
        (u.lane i).elements = s.lastCycle.safeOut &&& ~~~s.safeIo.pulse i ∧ (∀ l, l ≠ i → u.lane l = s.lane l) ∧
        u = { s with now := u.now, lanes := u.lanes, host := u.host })

/-- R211, R213, R230, R247: at its deadline a lane of full operation that holds no vector of either other lane isolates with COMMITTED 0, its
elements open, and counts both as missing; a deadline not yet reached changes nothing. R230, R232: a lane that has been isolated for 5 ms in a running module is EXCLUDED with the cause of its isolation, its elements open; before that nothing changes. R237: 4 ms after its last commit the watchdog of a voting lane isolates it; before that nothing changes. -/
def Obligations.LanesThatIsolateAndAreExcluded : Prop :=
  (∀ (t : Nat) (i : LaneId) (a : Vector) (s : State), s.control.phase = .running → s.control.degradation = .full → s.control.nadirDue = none →
      (∀ l, (s.lane l).mode = .voting ∧ (s.lane l).expel = none) → (s.lane i).vote.owesIsolation = false → (s.lane i).vote.decided = false →
      (s.lane i).vote.miniOwn = .nothing → (s.lane i).vote.own = some a → (∀ l, l ≠ i → (s.lane i).vote.rx.get l = .nothing ∧ (s.lane l).vote.instant = (s.lane i).vote.instant) →
      (s.lastCycle.instant ≠ (s.lane i).vote.instant ∨ s.snapshots = [] ∨ s.control.voted = .full ∧ s.control.votedDue = none) →
      (({ s with now := max s.now t } : State).pastDeadline i = true →
        ∃ u w, exec (.voteDeadline t i) s = .next u ∧ (u.lane i).mode = .isolated ∧ (u.lane i).elements = 0 ∧ (u.lane i).supplyClosed = false ∧
          (u.lane i).vote.sent = some w ∧ w.committed = false ∧ (u.lane i).isolatedAt = max s.now t ∧
          (∀ l, l ≠ i → u.lane l = s.lane l ∧ (u.lane i).counters.missing.get l = (s.lane i).counters.missing.get l + 1) ∧
          u = { s with now := u.now, lanes := u.lanes }) ∧
      (({ s with now := max s.now t } : State).pastDeadline i = false → exec (.voteDeadline t i) s = .next (State.tick t s))) ∧
  ((∀ (t : Nat) (i : LaneId) (s : State), (s.lane i).mode = .isolated → s.control.phase = .running →
      ((s.lane i).isolatedAt + 5000000 ≤ max s.now t →
        ∃ u, exec (.isolationTimeout t i) s = .next u ∧ (u.lane i).mode = .excluded ∧ (u.lane i).cause = some ((s.lane i).isolatedFor.getD .vote) ∧
          (u.lane i).elements = 0 ∧ (u.lane i).exclusions = (s.lane i).exclusions + 1 ∧ u.snapshots = s.snapshots ∧
          (s.voting ≠ [] → s.control.degradation = .full → u.control.degradation ≠ .full)) ∧
      (max s.now t < (s.lane i).isolatedAt + 5000000 → exec (.isolationTimeout t i) s = .next (State.tick t s))) ∧
    (∀ (t : Nat) (i : LaneId) (s : State), (s.lane i).mode = .voting → s.control.phase = .running →
      ((s.lane i).lastCommit + 4000000 ≤ max s.now t →
        ∃ u, exec (.watchdogExpiry t i) s = .next u ∧ (u.lane i).mode = .isolated ∧ (u.lane i).isolatedFor = some .watchdog ∧ (u.lane i).elements = 0 ∧
          (u.lane i).supplyClosed = false ∧ (∀ j, j ≠ i → u.lane j = s.lane j) ∧ u = { s with now := u.now, lanes := u.lanes }) ∧
      (max s.now t < (s.lane i).lastCommit + 4000000 → exec (.watchdogExpiry t i) s = .next (State.tick t s))))

/-! ## Mini-votes and forces (06) -/

/-- R219, R220, R221, R229: a voting lane with a pending force starts a mini-vote with a vector of the next number, or with a fault notice where it has a lane fault; another lane that receives its message, of a number that it has not yet proposed, holds it, joining with a message of its own
where it is free to. -/
def Obligations.MiniVoteStartsAndIsJoined : Prop :=
  ∀ (t : Nat) (i src : LaneId) (s : State), s.control.phase = .running → s.hasImage = true → (s.lane i).mode = .voting →
    (s.lane i).vote.miniOwn = .nothing → ((s.lane i).vote.decided = true ∨ (s.lane i).vote.preempts < 2) →
    let entered := fun (u : State) =>
      ((s.lane i).localFault = none → ∃ v, (u.lane i).vote.miniOwn = .vector v ∧ v.mini = true ∧ v.lane = i ∧ v.number = (s.lane i).lastNumber + 1 ∧
        v.routeLock = s.snap.routeLock) ∧
      (∀ c, (s.lane i).localFault = some c → (u.lane i).vote.miniOwn = .notice c) ∧ (u.lane i).vote.miniStart = max s.now t ∧
      (u.lane i).vote.preempts = (if (s.lane i).vote.decided then (s.lane i).vote.preempts else (s.lane i).vote.preempts + 1) ∧
      (∀ l, l ≠ i → u.lane l = s.lane l) ∧ u = { s with now := u.now, lanes := u.lanes }
    ((s.lane i).forces.pending ≠ [] → ∃ u, exec (.miniVote t i) s = .next u ∧ entered u ∧ (u.lane i).vote.miniRx = Lanes3 .nothing) ∧
    (∀ r, i ≠ src → (s.lane src).mode = .voting → (s.lane src).vote.miniOwn = r → r ≠ .nothing → (s.lane i).lastNumber ≤ (s.lane src).lastNumber →
      ∃ u, exec (.miniVoteJoin t i src .none) s = .next u ∧ entered u ∧ (u.lane i).vote.miniRx = (Lanes3 .nothing).put src r)

/-- R222, R223: a mini-vote of full operation whose vectors all hold, and in which two of them force outputs that are not committed so: the first lane to decide commits a snapshot of the next number that leaves the state, the locks and the power state of the
last one and only takes outputs away. One in which nothing is forced commits nothing and counts in MINI_EMPTY. R225: a force that no mini-vote has committed 50 µs after it arose is dropped and counted in FORCE_ALONE; a fourth within 1 s is a lane
fault with cause FORCE. An earlier event changes nothing. -/
def Obligations.MiniVotesAndForcesTheyDoNotCommit : Prop :=
  (∀ (t : Nat) (i : LaneId) (own : Vector) (s : State), s.control.phase = .running → s.control.degradation = .full → (∀ l, (s.lane l).mode = .voting) →
      (s.lane i).vote.miniOwn = .vector own → (s.lane i).vote.owesIsolation = false → (s.snap.mini = false ∨ s.snap.number ≠ (s.lane i).lastNumber + 1) → s.miniNotices i = [] → ({ s with now := max s.now t } : State).miniDue i = true →
      (∀ x ∈ s.miniHeld i, s.miniBad (groups s.img) x.2 = false) →
      (s.miniForces (groups s.img) 2 ((s.miniHeld i).map (·.2)) ≠ [] →
        (∀ g ∈ groups s.img, g.kind = 0 → g.restrictive = 0) →
        ∃ u p, exec (.miniVoteDeadline t i) s = .next u ∧ u.snapshots = (p :: s.snapshots).take 2048 ∧ u.nextNumber = s.nextNumber + 1 ∧ p.mini = true ∧
          p.number = s.nextNumber ∧ p.instant = max s.now t ∧ p.state = s.snap.state ∧ p.elemLock = s.snap.elemLock ∧ p.routeLock = s.snap.routeLock ∧
          p.power = s.snap.power ∧ (∀ b, p.safeOut.getLsbD b = true → s.snap.safeOut.getLsbD b = true)) ∧
      (s.miniForces (groups s.img) 2 ((s.miniHeld i).map (·.2)) = [] →
        ∃ u, exec (.miniVoteDeadline t i) s = .next u ∧ u.snapshots = s.snapshots ∧ (u.lane i).vote.miniOwn = .nothing ∧
          (u.lane i).counters.miniEmpty = (s.lane i).counters.miniEmpty + 1 ∧
          (∀ l, l ≠ i → u.lane l = s.lane l) ∧
          u = { s with now := u.now, lanes := u.lanes })) ∧
  (∀ (t t0 : Nat) (i : LaneId) (f : Force) (s : State), (s.lane i).forces.pending.find? (fun p => p.1 == f) = some (f, t0) →
      (t0 + 50000 ≤ max s.now t →
        ∃ u, exec (.forcePendingDrop t i f) s = .next u ∧ (∀ p ∈ (u.lane i).forces.pending, p.1 ≠ f) ∧
          (u.lane i).counters.forceAlone = (s.lane i).counters.forceAlone + 1 ∧ (u.lane i).forces.holds = (s.lane i).forces.holds ∧
          (3 ≤ ((s.lane i).forces.alone.filter (fun a => decide (max s.now t < a + 1000000000))).length → (s.lane i).localFault = none →
            (u.lane i).localFault = some .force) ∧
          (∀ l, l ≠ i → u.lane l = s.lane l) ∧ u = { s with now := u.now, lanes := u.lanes }) ∧
      (max s.now t < t0 + 50000 → exec (.forcePendingDrop t i f) s = .next (State.tick t s)))

/-! ## Isolation, watchdogs and the limits of degraded operation (06) -/

/-- R238, R239, R38: a lane's supply element opens when one of its dynamic signals stops; with two lanes still holding theirs the module goes on, and with fewer, other than in one-lane
Nadir, it falls to safe-off: every element open, the supply open, every lane out of the vote. -/
def Obligations.SupplyElementAndSafeOff : Prop :=
  ∀ (t : Nat) (i : LaneId) (s : State), s.control.phase = .running →
    ((∀ j, j ≠ i → (s.lane j).meridianToggles = true ∧ (s.lane j).supervisionToggles = true) →
      ∃ u, exec (.supplyElementDrop t i .supervision) s = .next u ∧ (u.lane i).supplyClosed = false ∧ (u.lane i).supervisionToggles = false ∧
        (∀ j, j ≠ i → u.lane j = s.lane j) ∧ u = { s with now := u.now, lanes := u.lanes }) ∧
    (∀ j, j ≠ i → (s.lane j).meridianToggles = false → s.control.degradation ≠ .oneLane →
      ∃ u, exec (.supplyElementDrop t i .supervision) s = .next u ∧ u.control.phase = .safeOff ∧ u.safeIo.supply = .isOpen ∧ u.terminals = 0 ∧
        (∀ l, (u.lane l).elements = 0 ∧ (u.lane l).supplyClosed = false ∧ (u.lane l).mode ≠ .voting) ∧ u.snapshots = s.snapshots)

/-- R218, R233: when reduced operation reaches its limit the next vote is to enter Nadir by row 5, and 1 h before that one record
says how many minutes are left. Both only in reduced operation. -/
def Obligations.ReducedOperationRunsOut : Prop :=
  ∀ (t : Nat) (s : State), s.control.phase = .running →
    let used := s.control.reducedUsed + (max s.now t - s.control.reducedSince)
    (s.control.degradation = .reduced → s.reducedLimit ≤ used →
      exec (.reducedLimitExpiry t) s = .next { s with now := max s.now t, control := { s.control with nadirDue := some 5 } }) ∧
    (s.control.degradation = .reduced → s.control.reducedWarned = false → s.reducedLimit ≤ used + 3600 * 1000000000 →
      ∃ u q, exec (.reducedWarn t) s = .next u ∧ u.control = { s.control with reducedWarned := true } ∧
        u.almanac = { s.almanac with events := s.almanac.events ++ [q] } ∧ q.code = 0x0403 ∧
        q.payloads = [payloadFields [(24, 2, (s.reducedLimit - used) / (60 * 1000000000))]] ∧
        u = { s with now := u.now, control := u.control, almanac := u.almanac }) ∧
    (s.control.degradation = .reduced → s.control.reducedWarned = true → exec (.reducedWarn t) s = .next (State.tick t s)) ∧
    (s.control.degradation = .full → exec (.reducedLimitExpiry t) s = .next (State.tick t s) ∧ exec (.reducedWarn t) s = .next (State.tick t s))

/-! ## Ndezo and the check channel (07, 08) -/

/-- R251, R267, R271, R272, R287, R290, R292 to R294: the steps of Dawn and of the Polestar's role in a module that runs Ndezo: the listen time leads to a
cold start, with the time base at a common multiple of 10 ms and of the cycle, the cold-start cycle to JOINED as Polestar, three cycles without SYNC to a claim at the cycle start, |θ| of 250 ns in three cycles to ALIGNING, a
lower Polestar out of reach to LISTEN, a full valid cycle to JOINED, and 16 cycles without one to LISTEN. A module that does not run Ndezo takes none of them. -/
def Obligations.DawnAndPolestarStepByStep : Prop :=
  ∀ (t : Nat) (s : State),
    (s.ndezoRuns = true →
      (s.ndezo.dawn = .listen → s.control.mode = .stop → s.ndezo.banned = false → 0 < s.coldCycle →
        s.ndezo.listenSince + 2 * s.coldCycle + 2000 * s.node ≤ max s.now t →
        ∃ u l, exec (.listenTimeExpiry t) s = .next u ∧ u.ndezo.dawn = .cold ∧ u.now = u.ndezo.cycleStart ∧ u.ndezo.constNo = s.param 9 ∧ u.ndezo.cycle64 = s.ndezo.recordedCycle + 2 ^ 20 ∧
          u.ndezo.cycleStart % Nat.lcm 10000000 s.coldCycle = 0 ∧ max s.now t < u.ndezo.cycleStart ∧
          u.ndezo.cycleStart ≤ max s.now t + Nat.lcm 10000000 s.coldCycle ∧ u.sent = s.sent ++ l ∧ l.length = u.sendingPorts.length ∧
          (∀ x ∈ l, ∃ p f, x = Tx.cold p f ∧ f.polestar = s.node ∧ f.txTime = u.now)) ∧
      (s.ndezo.dawn = .cold → s.ndezo.cycleStart + s.coldCycle ≤ max s.now t →
        ∃ u, exec (.coldStartCycleEnd t) s = .next u ∧ u.ndezo = { s.ndezo with
            dawn := .joined, isPolestar := true, claimed := false, polestar := s.node, stratum := 0, parent := none, theta := 0 } ∧
          u = { s with now := u.now, ndezo := u.ndezo, almanac := u.almanac }) ∧
      (s.ndezo.dawn = .joined → s.ndezo.isPolestar = false → 3 ≤ s.ndezo.missedSyncs → max s.now t = s.ndezo.cycleStart →
        ∃ u, exec (.polestarClaim t) s = .next u ∧ u.ndezo = { s.ndezo with
            isPolestar := true, claimed := true, polestar := s.node, stratum := 0, parent := none, missedSyncs := 0, syncForwarded := false,
            claims := s.ndezo.claims + 1 } ∧ u = { s with now := u.now, ndezo := u.ndezo, almanac := u.almanac }) ∧
      (s.ndezo.dawn = .joined → (s.ndezo.missedSyncs < 3 ∨ max s.now t ≠ s.ndezo.cycleStart) → exec (.polestarClaim t) s = .next (State.tick t s)) ∧
      ((s.ndezo.dawn = .aligned ∨ s.ndezo.dawn = .joined) → 3 ≤ s.ndezo.outCycles →
        ∃ u, exec (.outOfStep t) s = .next u ∧ u.ndezo.dawn = .aligning ∧ u.ndezo.outOfStep = true ∧ u.ndezo.isPolestar = false ∧ u.ndezo.buffers = [] ∧
          u = { s with now := u.now, ndezo := u.ndezo, almanac := u.almanac }) ∧
      (s.ndezo.dawn = .joined → 4 ≤ s.ndezo.mergeCycles →
        ∃ u, exec (.domainMerge t) s = .next u ∧ u.ndezo.dawn = .listen ∧ u.ndezo.isPolestar = false ∧ u.ndezo.listenSince = max s.now t ∧
          u = { s with now := u.now, ndezo := u.ndezo, almanac := u.almanac }) ∧
      (s.ndezo.dawn = .aligned → s.ndezo.validCycle = true →
        ∃ u, exec (.dawnJoin t) s = .next u ∧
          u.ndezo = { s.ndezo with dawn := .joined, validCycle := false, alignedCycles := 0, missedSyncs := 0 } ∧
          u = { s with now := u.now, ndezo := u.ndezo, almanac := u.almanac }) ∧
      (s.ndezo.dawn = .aligned → s.ndezo.validCycle = false →
        exec (.dawnJoin t) s = .next (State.tick t s) ∧
        (16 ≤ s.ndezo.alignedCycles →
          ∃ u, exec (.dawnFail t) s = .next u ∧ u.ndezo.dawn = .listen ∧ u.ndezo.listenSince = max s.now t ∧
            u = { s with now := u.now, ndezo := u.ndezo, almanac := u.almanac }) ∧
        (s.ndezo.alignedCycles < 16 → exec (.dawnFail t) s = .next (State.tick t s)))) ∧
    (s.ndezoRuns = false → exec (.listenTimeExpiry t) s = .next (State.tick t s) ∧ exec (.coldStartCycleEnd t) s = .next (State.tick t s) ∧
      exec (.polestarClaim t) s = .next (State.tick t s) ∧ exec (.outOfStep t) s = .next (State.tick t s) ∧
      exec (.domainMerge t) s = .next (State.tick t s) ∧ exec (.dawnJoin t) s = .next (State.tick t s) ∧ exec (.dawnFail t) s = .next (State.tick t s))

/-- R257, R258, R260 to R268, R273, R277, R294: the time frames in a module that runs Ndezo. A joined module sends its LINK frames at each cycle start, on every active port whose owner transmits, and as Polestar its SYNC frame
1,250 ns later; a whole LINK frame with a right header, in the sync window, is kept with the delay it completes, one with the module's own ID makes it leave the domain, and one with a wrong FCS counts; 16 cycles without one make the delay unknown; a SYNC copy sets θ, parent and stratum, moves the time base
of each lane towards its own θ by at most 40 ns, and is forwarded with HOPS and CORRECTION raised; a COLD frame of a lower ID, or a broken one, makes a cold-starting module yield on any Ndezo port, and one of a higher ID does not. -/
def Obligations.TimeFramesOfADomain : Prop :=
  ∀ (t port : Nat) (s : State), s.ndezoRuns = true →
    let whole := fun (h : FrameHead) (n : Nat) => h.ethLength = n + 34 ∧ h.version = 1 ∧ h.reserved = false ∧ h.lengthField = n
    let inTime := fun (stamp : Nat) => s.inSync (Int.ofNat stamp - Int.ofNat s.ndezo.cycleStart) = true
    (s.ndezo.dawn = .joined → s.ndezo.change = none → s.now ≤ t → t ≠ s.ndezo.cycleStart →
      (t % s.domainCycle = 0 →
        ∃ u l, exec (.domainCycleStart t) s = .next u ∧ u.ndezo.cycleStart = t ∧ u.ndezo.cycle64 = s.ndezo.cycle64 + 1 ∧ u.ndezo.dawn = .joined ∧
          u.ndezo.syncHeard = false ∧ u.ndezo.missedSyncs = (if s.ndezo.isPolestar || s.ndezo.syncHeard then 0 else s.ndezo.missedSyncs + 1) ∧
          u.sent = s.sent ++ l ∧ l.length = u.sendingPorts.length ∧
          (∀ x ∈ l, ∃ p f, x = Tx.linkFrame p f ∧ p ∈ u.sendingPorts ∧ f.source = s.node ∧ f.txTime = t ∧ f.joined = true) ∧
          (∀ i, ∀ x ∈ (u.lane i).inputs.streams, x.accepted = false ∧ x.isClosed = false)) ∧
      (t % s.domainCycle ≠ 0 → exec (.domainCycleStart t) s = .next (State.tick t s))) ∧
    (s.ndezo.dawn = .joined → s.ndezo.isPolestar = true → s.ndezo.syncForwarded = false → s.ndezo.change = none → s.ndezo.request = none →
      s.ndezo.cycleStart + 1250 ≤ max s.now t →
      ∃ u f, exec (.syncSend t) s = .next u ∧ u.sent = s.sent ++ s.sendingPorts.map (fun p => Tx.sync p f) ∧ f.polestar = s.node ∧ f.hops = 0 ∧
        f.correction = 0 ∧ f.change = 0 ∧ f.cycle64 = s.ndezo.cycle64 ∧ f.txTime = s.ndezo.cycleStart + 1250 ∧ f.tags = s.ownTags ∧ whole f.head 64 ∧
        u = { s with now := u.now, ndezo := { s.ndezo with syncForwarded := true }, sent := u.sent }) ∧
    (s.ndezo.isPolestar = false → exec (.syncSend t) s = .next (State.tick t s)) ∧
    (s.ndezo.dawn = .joined → s.portActive port = true → s.ndezo.banned = false → ∀ f : LinkFrame, f.head.ethLength = 66 → inTime f.stamp →
      (f.fcsOk = true → whole f.head 32 → f.source ≠ s.node →
        ∃ u, exec (.linkFrame t port f) s = .next u ∧ (u.port port).lastRx = some f ∧ (u.port port).missed = 0 ∧
          (∀ q, (s.port port).prevRx = some q → f.rxTime ≠ 0 → f.rxCycle = (s.ndezo.cycle64 - 1) % 2 ^ 32 → (s.port port).lastTxPrev ≠ 0 →
            (u.port port).delay = some (((Int.ofNat f.rxTime - Int.ofNat (s.port port).lastTxPrev) + (Int.ofNat q.stamp - Int.ofNat q.txTime) + 1) / 2).toNat) ∧
          (u.port port).counters = { (s.port port).counters with rxOk := (s.port port).counters.rxOk + 1 } ∧
          (∀ p, p ≠ port → u.port p = s.port p) ∧ u = { s with now := u.now, ndezo := { s.ndezo with ports := u.ndezo.ports } }) ∧
      (f.fcsOk = true → whole f.head 32 → f.source = s.node →
        ∃ u, exec (.linkFrame t port f) s = .next u ∧ u.ndezo.dawn = .listen ∧ u.ndezo.banned = true ∧
          u = { s with now := u.now, ndezo := u.ndezo, almanac := u.almanac }) ∧
      (f.fcsOk = false →
        ∃ u, exec (.linkFrame t port f) s = .next u ∧
          u.port port = { s.port port with counters := { (s.port port).counters with fcs := (s.port port).counters.fcs + 1 } } ∧
          (∀ p, p ≠ port → u.port p = s.port p) ∧ u = { s with now := u.now, ndezo := { s.ndezo with ports := u.ndezo.ports } })) ∧
    ((s.port port).delay.isSome = true →
      (16 ≤ (s.port port).silent →
        ∃ u, exec (.delayUnknown t port) s = .next u ∧ u.port port = { s.port port with delay := none } ∧ (∀ p, p ≠ port → u.port p = s.port p) ∧
          u = { s with now := u.now, ndezo := { s.ndezo with ports := u.ndezo.ports }, almanac := u.almanac }) ∧
      ((s.port port).silent < 16 → exec (.delayUnknown t port) s = .next (State.tick t s))) ∧
    (s.ndezo.dawn = .joined → s.ndezo.isPolestar = false → s.ndezo.syncTaken = false → s.ndezo.corrected = false → s.portActive port = true →
      s.ndezo.banned = false →
      ∀ (f : SyncFrame) (d : Nat), f.fcsOk = true → f.cut = false → whole f.head 64 → inTime f.stamp → f.polestar = s.ndezo.polestar → f.polestar ≠ s.node →
        f.change = 0 → (s.port port).delay = some d →
      let theta := Int.ofNat f.stamp - (Int.ofNat f.txTime + Int.ofNat f.correction + Int.ofNat d)
      ∃ u m, exec (.syncFrame t port f) s = .next u ∧ u.ndezo.theta = theta ∧
        u.ndezo.parent = some port ∧ u.ndezo.stratum = f.hops ∧ u.ndezo.syncHeard = true ∧ u.ndezo.missedSyncs = 0 ∧ -600 ≤ u.ndezo.rate ∧
        u.ndezo.rate ≤ 600 ∧
        (∀ i, u.lane i = { s.lane i with offset := (s.lane i).offset + max (-40) (min 40 (-(theta + (s.lane i).offset))) - m }) ∧
        u.now = (Int.ofNat (max s.now t) + m).toNat ∧
        u.sent = s.sent ++ (if s.ndezo.syncForwarded || s.ndezo.lowerSent || decide (16 ≤ f.hops) || !s.outcomeKnown then [] else (s.sendingPorts.filter (· != port)).map (fun p =>
          Tx.sync p { f with correction := f.correction + d + f.latency, hops := f.hops + 1 })) ∧
        u = { s with now := u.now, ndezo := u.ndezo, lanes := u.lanes, sent := u.sent, freeCtr := u.freeCtr }) ∧
    (s.ndezo.dawn = .cold → isNdezoPort s.identity.part port = true → ∀ f : SyncFrame,
      let yields := ∃ u, exec (.coldFrame t port f) s = .next u ∧ u.ndezo.dawn = .listen ∧ u.ndezo.listenSince = max s.now t ∧
          u.ndezo.coldYields = s.ndezo.coldYields + 1 ∧ u = { s with now := u.now, ndezo := u.ndezo, almanac := u.almanac }
      (f.fcsOk = true → f.cut = false → whole f.head 64 →
        (f.polestar < s.node → yields) ∧ (s.node ≤ f.polestar → ∃ u, exec (.coldFrame t port f) s = .next u ∧ u = { s with now := max s.now t, ndezo := { s.ndezo with ports := u.ndezo.ports } })) ∧
      (f.fcsOk = false → yields))

/-- R276, R277, R279, R280, Table 7.7: a DATA frame at a port of a joined module that has one receive or forward entry is judged by checks 1 to 5 against that entry, and what fails counts in
its one counter; what passes waits in every voting lane for check 6, or, where the module only forwards it, counts RX_OK (log entry 122). A frame in the sync window is no such frame there (log entry 119). A forward entry sends the frame on, with an inverted FCS where it is broken, and drops it where its header fails. -/
def Obligations.DataFramesMeetTheirWindow : Prop :=
  ∀ (t port k : Nat) (x : Slot) (f : NdFrame) (s : State), s.ndezoRuns = true → s.ndezo.dawn = .joined → s.portActive port = true →
    s.slots.filter (fun y => (y.2.receives || y.2.forwards) && y.2.inPort == port) = [(k, x)] →
    let d := f.offset - Int.ofNat x.start
    let counts := fun (e : Instr) (g : PortCounters → PortCounters) => ∃ u, exec e s = .next u ∧
      (u.port port).counters = g (s.port port).counters ∧ (∀ p, p ≠ port → u.port p = s.port p) ∧ u = { s with now := u.now, ndezo := u.ndezo }
    (s.inSync f.offset = false →
      ((d < -500 ∨ 500 ≤ d) → counts (.dataFrame t port f) (fun c => { c with stray := c.stray + 1 })) ∧
      (-500 ≤ d → d < -250 → counts (.dataFrame t port f) (fun c => { c with windowEarly := c.windowEarly + 1 })) ∧
      (250 ≤ d → d < 500 → counts (.dataFrame t port f) (fun c => { c with windowLate := c.windowLate + 1 }))) ∧
    (s.inSync f.offset = true →
      (f.cut = true → counts (.dataFrame t port f) (fun c => { c with trunc := c.trunc + 1 })) ∧
      (f.cut = false → f.fcsOk = false → counts (.dataFrame t port f) (fun c => { c with fcs := c.fcs + 1 })) ∧
      (f.cut = false → f.fcsOk = true → counts (.dataFrame t port f) (fun c => { c with header := c.header + 1 }))) ∧
    (-250 ≤ d → d < 250 → s.inSync f.offset = false →
      ((f.cut = true ∨ f.length < x.frameLen) → counts (.dataFrame t port f) (fun c => { c with trunc := c.trunc + 1 })) ∧
      (f.cut = false → (x.frameLen < f.length ∨ (f.length = x.frameLen ∧ f.fcsOk = false)) →
        counts (.dataFrame t port f) (fun c => { c with fcs := c.fcs + 1 })) ∧
      (f.cut = false → f.length = x.frameLen → f.fcsOk = true →
        ((f.version ≠ 1 ∨ f.reserved = true ∨ f.constNo ≠ s.headerTag.1 ∨ f.constTag ≠ s.headerTag.2 ∨ f.cycle ≠ s.ndezo.cycle64 % 2 ^ 32) →
          counts (.dataFrame t port f) (fun c => { c with header := c.header + 1 })) ∧
        (s.headerOk f x = true → f.reserved = false → x.receives = true →
          (∀ i, (s.lane i).mode = .voting ∧ (s.lane i).held = false ∧ (s.lane i).inputs.rxPending = []) →
          let found := rxFound allLanes (frameMatches f (s.rxFold x)).1 (frameMatches f (s.rxFold x)).2 f.rx
          ∃ u, exec (.dataFrame t port f) s = .next u ∧
            (∀ i, ∃ r, (u.lane i).inputs.rxPending = [r] ∧ r.port = port ∧ r.stream = x.stream ∧ r.frame = f ∧ r.lastBit = max s.now t ∧
              r.offsetNs = d ∧ r.own = found i ∧ r.slot = k ∧ (∀ j, r.sent.get j = some (found j) ∧ r.others.get j = none)) ∧
            u = { s with now := u.now, ndezo := u.ndezo, lanes := u.lanes }) ∧
        (s.headerOk f x = true → f.reserved = false → x.receives = false →
          ∃ u, exec (.dataFrame t port f) s = .next u ∧
            (∀ i, (u.port port).countersOf i = { (s.port port).countersOf i with
              rxOk := ((s.port port).countersOf i).rxOk + 1
              edge := ((s.port port).countersOf i).edge + (if 200 ≤ d.natAbs then 1 else 0) }) ∧
            (∀ p, p ≠ port → u.port p = s.port p) ∧ u = { s with now := u.now, ndezo := u.ndezo }))) ∧
    (-250 ≤ d → d < 250 →
      let ports := (s.outPorts x).filter (fun n => (s.sender n).isSome)
      (x.forwards = true → s.outcomeKnown = true →
        (s.headerOk f x = true → f.cut = false → f.length = x.frameLen → f.fcsOk = true →
          ∃ u, exec (.forward t port f) s = .next u ∧ u.sent = s.sent ++ ports.map (fun n => Tx.forwarded n k f false) ∧
            (u.port port).counters = { (s.port port).counters with fwd := (s.port port).counters.fwd + 1 } ∧
            u = { s with now := u.now, ndezo := u.ndezo, sent := u.sent }) ∧
        (s.headerOk f x = true → ((f.cut = true ∧ 30 ≤ f.length) ∨ (f.cut = false ∧ (f.length ≠ x.frameLen ∨ f.fcsOk = false))) →
          ∃ u, exec (.forward t port f) s = .next u ∧ u.sent = s.sent ++ ports.map (fun n => Tx.forwarded n k f true) ∧
            (u.port port).counters = { (s.port port).counters with fwdStomp := (s.port port).counters.fwdStomp + 1 } ∧
            u = { s with now := u.now, ndezo := u.ndezo, sent := u.sent }) ∧
        ((s.headerOk f x = false ∨ (f.cut = true ∧ f.length < 30)) →
          counts (.forward t port f) (fun c => { c with fwdDrop := c.fwdDrop + 1 }))))

/-- R282, R283, R311, Table 8.6: three lanes decide a frame of a stream without sender copies in a joined module. With every verdict in hand and no check failed, the receiving lane's
stream takes the payload with the stamp of the decision; with a failed check, or at 300 ns without a verdict, it does not, and the lane counts the
verdict it missed. -/
def Obligations.ReceiveDecisionOfTheLanes : Prop :=
  ∀ (t : Nat) (dst src k : LaneId) (r : RxPending) (z : Word) (w : CheckWord) (v : CheckResult × CheckResult) (s : State),
    (∀ i, (s.lane i).mode = .voting) → dst ≠ src → k ≠ dst → k ≠ src → s.ndezo.dawn = .joined → (s.lane dst).inputs.rxPending = [r] → r.late = false →
    s.senderCopies r.stream = false → (∀ x ∈ (s.lane dst).inputs.streams, x.id = r.stream → x.accepted = false) →
    let results := [r.own.1, r.own.2, v.1, v.2, w.p, w.q]
    let rejected := fun (u : State) => (u.lane dst).inputs.rxPending = [] ∧
      (∀ j, j ≠ dst → u.lane j = { s.lane j with inputs := { (s.lane j).inputs with
        rxPending := if r.logged then (s.lane j).inputs.rxPending else (s.lane j).inputs.rxPending.map (fun y => y.markLogged r) } }) ∧
      (∀ y ∈ (u.lane dst).inputs.streams, ∃ x ∈ (s.lane dst).inputs.streams, y.id = x.id ∧ y.ready = x.ready ∧ y.age = x.age ∧
        y.check = (if x.id = r.stream then x.check + 1 else x.check))
    (readCheck z = some w → w.lane = src → w.msg = 0 → w.host = false → w.port = r.port → w.stream = r.stream →
      r.sent.get src = some (w.p, w.q) → r.others.get src = none → r.others.get k = some v → max s.now t ≤ r.lastBit + 300 →
      (CheckResult.fail ∉ results →
        ∃ u, exec (.rxVerdict t dst src z .none) s = .next u ∧ (u.lane dst).inputs.rxPending = [] ∧ (∀ j, j ≠ dst → u.lane j = s.lane j) ∧
          (∀ y ∈ (u.lane dst).inputs.streams, y.id = r.stream → y.age = 0 ∧ y.accepted = true ∧
            y.ready = some { payload := payloadOf r.frame.payload, stamp := (Int.ofNat (max s.now t) + (s.lane dst).offset).toNat }) ∧
          (∀ x ∈ (s.lane dst).inputs.streams, x.id ≠ r.stream → x ∈ (u.lane dst).inputs.streams)) ∧
      (CheckResult.fail ∈ results → ∃ u, exec (.rxVerdict t dst src z .none) s = .next u ∧ rejected u)) ∧
    (∀ e, (e ≠ .none ∨ readCheck z = none) → exec (.rxVerdict t dst src z e) s = .next (State.tick t s)) ∧
    (r.others.get src = none → r.others.get k = some v →
      (r.lastBit + 300 ≤ max s.now t →
        ∃ u, exec (.rxDecisionDeadline t dst r.port r.stream) s = .next u ∧ rejected u ∧
          (u.lane dst).counters.cwMiss.get src = (s.lane dst).counters.cwMiss.get src + 1 ∧
          (u.lane dst).counters.cwMiss.get k = (s.lane dst).counters.cwMiss.get k) ∧
      (max s.now t < r.lastBit + 300 → exec (.rxDecisionDeadline t dst r.port r.stream) s = .next (State.tick t s)))

/-- R275, R283, R285, R315, R316, Table 8.4: a sending slot from its transmit buffer to its frame, for a stream in a module of three voting lanes: the buffer takes the payload of the latest snapshot committed
20 µs before START or earlier; lane A's CV-P, lane B's CV-Q and lane C's verification reach the other lanes by START − 2 µs, and one that is invalid or late is not
received; at START the frame leaves on every port of the slot whose owner transmits, and without those values on none. At its slot close a stream that got no frame ages. -/
def Obligations.SlotFromBufferToFrame : Prop :=
  ∀ (t k : Nat) (x : Slot) (s : State), (∀ i, (s.lane i).mode = .voting) → s.host.replies = [] →
    (s.slots.find? (fun y => y.1 == k) = some (k, x) → x.stream < 0xFF00 → s.sendsSlot x = true →
      s.slotStart x (max s.now t) ≤ max s.now t + 20000 →
      ∀ p, s.snapshots.find? (fun p => decide (p.commitAt + 20000 ≤ s.slotStart x (max s.now t))) = some p →
      ∃ u, exec (.transmitBufferFill t k) s = .next u ∧
        (∃ b ∈ u.ndezo.buffers, b.slot = k ∧ b.stream = x.stream ∧ b.snapshot = p.number ∧ b.instant = p.commitAt ∧ b.restricted = p.restricted ∧
          (p.restricted = false → b.payload = assocD p.payloads x.stream 0)) ∧
        (∀ b ∈ s.ndezo.buffers, b.slot ≠ k → b ∈ u.ndezo.buffers) ∧
        (∀ i, ({ host := false, stream := x.stream, valueP := none, valueQ := none, verified := Lanes3 none, last := s.slotStart x (max s.now t) - 2000 } :
          TxPending) ∈ (u.lane i).inputs.txPending) ∧
        u = { s with now := u.now, ndezo := { s.ndezo with buffers := u.ndezo.buffers }, lanes := u.lanes }) ∧
    (∀ dst y, (s.lane dst).inputs.txPending = [y] → y.host = false → y.stream = x.stream → y.valueP = none → y.valueQ = none → y.verified = Lanes3 none →
      (∀ value src isP, dst ≠ src →
        (src = (if isP then .A else .B) → max s.now t ≤ y.last →
          ∃ u, exec (.txValue t dst src false x.stream isP (some value)) s = .next u ∧
            (u.lane dst).inputs.txPending = [if isP then { y with valueP := some value } else { y with valueQ := some value }] ∧
            (∀ j, j ≠ dst → u.lane j = s.lane j) ∧ u = { s with now := u.now, lanes := u.lanes }) ∧
        ((src ≠ (if isP then .A else .B) ∨ y.last < max s.now t) →
          exec (.txValue t dst src false x.stream isP (some value)) s = .next (State.tick t s)) ∧
        exec (.txValue t dst src false x.stream isP none) s = .next (State.tick t s)) ∧
      (∀ (z : Word) (w : CheckWord), readCheck z = some w → w.msg = 2 → w.port = 63 → w.host = false → w.stream = x.stream →
        (dst ≠ .C → w.lane = .C → max s.now t ≤ y.last →
          ∃ u, exec (.txVerify t dst .C (some z)) s = .next u ∧
            (u.lane dst).inputs.txPending = [{ y with verified := { a := none, b := none, c := some (w.p, w.q) } }] ∧
            (∀ j, j ≠ dst → u.lane j =
              if dst = .A ∧ j = .C then { s.lane j with inputs := (s.lane j).inputs.bump (txUnit false x.stream) (w.p, w.q) } else s.lane j) ∧
            u = { s with now := u.now, lanes := u.lanes }) ∧
        (∀ src, src ≠ .C → exec (.txVerify t dst src (some z)) s = .next (State.tick t s))) ∧
      (∀ src, exec (.txVerify t dst src none) s = .next (State.tick t s))) ∧
    (∀ b e, s.slots.find? (fun y => y.1 == k) = some (k, x) → s.ndezo.buffers.find? (fun y => y.slot == k) = some b →
      s.ndezo.cycleStart + x.start ≤ max s.now t → max s.now t ≤ b.instant + 2 * s.t0 → s.sendsSlot x = true →
      let m := checkMessage (s.txFold x)
        (coveredBytes (s.ndezo.cycle64 % 2 ^ 32) s.pair.epoch s.headerTag.2 (payloadBytes b.payload (s.sendLength x)))
      ((∀ i, (s.lane i).inputs.txPending = [{
            host := false, stream := x.stream, valueP := some (cvP m), valueQ := some (cvQ m),
            verified := { a := none, b := none, c := some (.pass, .pass) }, last := e }]) →
        ∃ u, exec (.slotSend t k) s = .next u ∧
          u.sent = s.sent ++ ((s.outPorts x).filter (fun n => (s.sender n).isSome)).map (fun n =>
            Tx.data n k x.stream (s.slotFrame x b (cvP m, cvQ m))) ∧
          (∀ y ∈ u.ndezo.buffers, y.slot ≠ k) ∧ (∀ i, (u.lane i).inputs.txPending = [])) ∧
      ((∀ i, (s.lane i).inputs.txPending = []) → ∃ u, exec (.slotSend t k) s = .next u ∧ u.sent = s.sent ∧ ∀ y ∈ u.ndezo.buffers, y.slot ≠ k)) ∧
    (∀ stream, s.ndezoRuns = true → s.ndezo.dawn = .joined → s.rxSlots stream ≠ [] → s.ndezo.cycleStart + s.slotCloseAt stream ≤ max s.now t →
      (∀ i, (s.lane i).inputs.rxPending = []) →
      ∃ u, exec (.slotClose t stream) s = .next u ∧ u = { s with now := u.now, lanes := u.lanes } ∧
        ∀ i, (u.lane i).inputs.streams = (s.lane i).inputs.streams.map (fun y =>
          if y.id = stream then
            { y with
              isClosed := true
              age := if y.isClosed || y.accepted || y.aged then y.age else min 31 (y.age + 1)
              aged := y.aged || !(y.isClosed || y.accepted) }
          else y))

/-! ## The host interface: queries (09, 10) -/

/-- R378 to R383, R393, R346, Table 9.5: the queries of routes, elements, snapshots, status, pace, counters and parameters. A good copy with parameters in range is answered on its own network with what the
latest snapshot and the lanes hold, and changes nothing else. -/
def Obligations.StateQueriesAreAnswered : Prop :=
  ∀ (t : Nat) (x : Session) (c : HostCopy) (s : State), s.hostReady t →
    let first := rd16 c.params 0
    let n := rd16 c.params 2
    let q : State := { s with now := max s.now t, host := s.heardHost t c }
    (s.goodCopy 0x0104 x c → c.params.length = 4 → 1 ≤ n → n ≤ 174 → first + n ≤ 4096 → s.pair.role ≠ .standby →
      ∃ u, exec (.routeQuery t c) s = .next u ∧ s.queryAnswered u t 0x0104 c s.snap.number
        (b16 first ++ b16 n ++ ((List.range n).map (fun k => (s.leadLane.engine.entry (first + k)).bytes)).flatten)) ∧
    (s.goodCopy 0x0205 x c → c.params.length = 4 → 1 ≤ n → n ≤ 698 → first + n ≤ 8192 →
      ∃ u, exec (.elementQuery t c) s = .next u ∧ s.queryAnswered u t 0x0205 c s.snap.number
        (b16 first ++ b16 n ++ ((List.range n).map (fun k =>
          s.elementEntry (s.leadLane.engine.blocked s.img) (s.leadLane.engine.stopped s.img) (first + k))).flatten)) ∧
    (∀ p, s.goodCopy 0x0301 x c → c.params.length = 12 → s.snapshots.find? (fun y => y.number == rd64 c.params 0) = some p → rd64 c.params 0 ≠ 0 →
      rd16 c.params 8 % 4 = 0 → rd16 c.params 10 % 4 = 0 → 4 ≤ rd16 c.params 10 → rd16 c.params 10 ≤ 1376 → rd16 c.params 8 + rd16 c.params 10 ≤ 5648 →
      ∃ u, exec (.snapshotRead t c) s = .next u ∧ s.queryAnswered u t 0x0301 c p.number
        (b16 (rd16 c.params 8) ++ b16 (rd16 c.params 10) ++ zeros 4 ++ slice p.ringEntry (rd16 c.params 8) (rd16 c.params 10))) ∧
    (s.goodCopy 0x0302 x c → c.params = [] →
      ∃ u, exec (.statusRead t c) s = .next u ∧ s.queryAnswered u t 0x0302 c s.snap.number q.statusBytes) ∧
    (s.goodCopy 0x0303 x c → c.params = [] →
      ∃ u, exec (.paceRead t c) s = .next u ∧ s.queryAnswered u t 0x0303 c s.snap.number
        (allLanes.flatMap (fun i => if (s.lane i).coreAnswers then b32 (s.lane i).pace ++ b32 (s.lane i).minPace else zeros 8))) ∧
    (s.goodCopy 0x0304 x c → c.params.length = 4 → rd8 c.params 0 ≤ 3 →
      let g := rd8 c.params 0
      let n := if g = 0 then 15 else if g = 1 then 20 else if g = 2 then 8 else 26
      ∃ u, exec (.countersRead t c) s = .next u ∧ s.queryAnswered u t 0x0304 c s.snap.number
        (b8 g ++ b8 n ++ b16 0 ++ wordBytes (if g = 3 then q.moduleCounters else allLanes.flatMap (fun i =>
          if (s.lane i).coreAnswers then (s.lane i).counters.group i g else List.replicate n 0xFFFFFFFF)))) ∧
    (s.goodCopy 0x0409 x c → c.params.length = 4 → 1 ≤ n → n ≤ 80 →
      let rows := (s.paramRows.filter (fun r => decide (first ≤ r.id))).take n
      ∃ u, exec (.paramRead t c) s = .next u ∧ s.queryAnswered u t 0x0409 c s.snap.number
        (b16 first ++ b16 rows.length ++ (rows.map (·.bytes)).flatten))

/-- R369, R396, R397, R400, R401, R404, R406, R409 to R411, R494: the queries of the session, the Almanac, the identity, Ndezo, the pair, the arbiter, the exchange RAM and the lanes. A good
copy with parameters in range is answered on its own network; ALMANAC_CURSOR and ALMANAC_READ move the session's cursor, ATTEST_QUOTE in form 0 opens a quote, and nothing else changes. -/
def Obligations.SessionAndDeviceQueriesAreAnswered : Prop :=
  ∀ (t : Nat) (x : Session) (c : HostCopy) (s : State), s.hostReady t →
    let q : State := { s with now := max s.now t, host := s.heardHost t c }
    let y := x.heard c (s.stampOf c)
    (s.goodCopy 0x0003 x c → c.params = [] → s.host.lock = none →
      ∃ u, exec (.sessionKeep t c) s = .next u ∧ s.queryAnswered u t 0x0003 c s.snap.number
        (b16 x.credit ++ b16 (s.outstanding c.session) ++ b32 x.high ++ b16 ((y.leaseEnd - max s.now t) / 1000000) ++ b8 0 ++ b8 x.cls.code ++ b32 0)) ∧
    (s.goodCopy 0x0601 x c → c.params.length = 16 → rd8 c.params 0 ≤ 2 → rd64 c.params 8 < 2 ^ 48 →
      let cur := if rd8 c.params 0 = 0 then min (max (rd64 c.params 8) s.oldestRecord) (max s.oldestRecord s.nextSeq)
        else if rd8 c.params 0 = 1 then s.oldestRecord else s.nextSeq
      ∃ u r, exec (.almanacCursor t c) s = .next u ∧ r.answers 0x0601 c stOk (b64 cur ++ b64 s.oldestRecord ++ b64 s.newestRecord) ∧
        u.host.replies = s.host.replies ++ [r] ∧ u.sessionOf c.session = some { y with cursor := cur } ∧
        u = { s with now := u.now, host := u.host, lanes := u.lanes } ∧ s.sameLanes u) ∧
    (s.goodCopy 0x0602 x c → c.params.length = 8 → 1 ≤ rd8 c.params 0 → rd8 c.params 0 ≤ 42 → rd8 c.params 1 = 0 → rd32 c.params 4 = 0 →
      let rs := s.readFrom x.cursor (rd8 c.params 0)
      let a := ((rs.head?).map (fun (r : Record) => r.seq)).getD x.cursor
      ∃ u r, exec (.almanacRead t c) s = .next u ∧ r.answers 0x0602 c stOk
          (b64 a ++ b64 (a + rs.length) ++ b8 rs.length ++ b8 (flag (decide (x.cursor < a)) + 2 * flag s.almanac.stashMode) ++ zeros 6 ++
            (rs.map Record.bytes).flatten) ∧
        u.host.replies = s.host.replies ++ [r] ∧ u.sessionOf c.session = some { y with cursor := a + rs.length } ∧
        u = { s with now := u.now, host := u.host, lanes := u.lanes } ∧ s.sameLanes u) ∧
    (s.goodCopy 0x0701 x c → c.params = [] →
      ∃ u, exec (.identityRead t c) s = .next u ∧ s.queryAnswered u t 0x0701 c s.snap.number s.identityBytes) ∧
    (s.goodCopy 0x0702 x c → c.params.length = 36 → rd8 c.params 0 = 0 → s.identityLost = false → x.quote = none →
      ∃ u r, exec (.attestQuote t c) s = .next u ∧ r.answers 0x0702 c stAccepted [] ∧ u.host.replies = s.host.replies ++ [r] ∧
        u.sessionOf c.session = some { y with quote := some { nonce := slice c.params 4 32, captured := none, signature := none, since := max s.now t } } ∧
        u = { s with now := u.now, host := u.host, lanes := u.lanes, almanac := u.almanac } ∧ s.sameLanes u) ∧
    (s.goodCopy 0x0802 x c → c.params.length = 8 → rd8 c.params 0 = 0 → rd16 c.params 2 = 0 → rd16 c.params 4 = 0 →
      ∃ u, exec (.ndezoStatus t c) s = .next u ∧ s.queryAnswered u t 0x0802 c s.snap.number (b8 0 ++ b8 0 ++ b16 0 ++ s.ndezoModule)) ∧
    (s.goodCopy 0x0901 x c → c.params = [] → s.pair.role = .unpaired →
      ∃ u, exec (.pairStatus t c) s = .next u ∧ s.queryAnswered u t 0x0901 c s.snap.number
        (b8 0 ++ b8 0xFF ++ b16 0xFFFF ++ b32 s.pair.epoch ++ b8 0 ++ zeros 3 ++ b32 s.pair.outputDiffs.toNat ++
          b64 s.pair.lastSwitch ++ b32 q.hoursSince ++ b32 (flag s.pair.switchDue))) ∧
    (∀ i : LaneId, s.goodCopy 0x0A02 x c → c.params.length = 4 → rd8 c.params 0 = i.index → s.counts = true → (s.lane i).store.frozen = true →
      ∃ u, exec (.arbCounters t c) s = .next u ∧ s.queryAnswered u t 0x0A02 c s.snap.number
        (b8 14 ++ zeros 3 ++ ((List.range 14).map (s.lane i).store.counterEntry).flatten)) ∧
    (s.goodCopy 0x0A03 x c → c.params.length = 8 → xramRangeOk (rd32 c.params 0) (rd16 c.params 4) = true →
      let off := rd32 c.params 0
      let len := rd16 c.params 4
      let bytes := Mem.bytes s.xram.mem off len
      ((State.tick t s).clashes off len false = none →
        ∃ u, exec (.xramRead t c) s = .next u ∧ s.queryAnswered u t 0x0A03 c s.snap.number (b32 off ++ b16 len ++ b16 0 ++ bytes)) ∧
      (∀ k, (State.tick t s).clashes off len false = some k →
        ∃ u r v, exec (.xramRead t c) s = .next u ∧ r.answers 0x0A03 c stOk
            (b32 off ++ b16 len ++ b16 (flag k.warned) ++ bytes.take (4 * k.word - off) ++ b32 v ++ bytes.drop (4 * k.word - off + 4)) ∧
          u.host.replies = s.host.replies ++ [r] ∧ u = { s with now := u.now, host := u.host, lanes := u.lanes, freeCtr := u.freeCtr } ∧ s.sameLanes u)) ∧
    (∀ i : LaneId, s.goodCopy 0x0A06 x c → c.params.length = 16 → rd8 c.params 0 = i.index → rd8 c.params 1 = 2 → rd32 c.params 8 = 0 →
      8 ≤ rd16 c.params 12 → rd16 c.params 12 ≤ 1376 → rd16 c.params 12 % 8 = 0 → rd32 c.params 4 + rd16 c.params 12 / 8 ≤ 4096 → (s.lane i).coreAnswers = true →
      ∃ u r, exec (.laneDiag t c) s = .next u ∧ r.answers 0x0A06 c stOk
          (b8 2 ++ b8 (2 ^ i.index) ++ b16 (rd16 c.params 12) ++
            ((List.range (rd16 c.params 12 / 8)).map (fun k => ((s.lane i).engine.entry (rd32 c.params 4 + k)).bytes)).flatten) ∧
        u.host.replies = s.host.replies ++ [r] ∧ u = { s with now := u.now, host := u.host, lanes := u.lanes, freeCtr := u.freeCtr } ∧ s.sameLanes u)

/-! ## The host interface: commands for the route engine (03, 09, 10) -/

/-- R97, R101, R114, R119, R120, R124, R339, R346, R360, R374 to R377, R391, Table 3.3: a permissive command for the route engine or the intake, confirmed by its second copy, in a module in WARM or LIVE and not in Nadir whose acceptance checks hold: it awaits
intake with the stamps of the copy, both networks are told ST_ACCEPTED, its COMMAND record is queued, and nothing else changes. -/
def Obligations.PermissiveRouteCommandsAwaitIntake : Prop :=
  ∀ (t : Nat) (x : Session) (c : HostCopy) (s : State), s.hostReady t → s.pair.role = .unpaired → s.inNadir = false →
    s.powered = true →
    let r := paramRoute c.params
    let e := paramElem c.params
    let en := s.leadLane.engine.entry r
    (s.secondCopy 0x0101 x c → s.control.mode = .run → s.changing true r = false → s.images.takenProfile = none → c.params.length = 4 → (routeDef s.img r).isSome = true → en.state = .idle → r ∉ s.waitingRoutes →
      s.routeLoad < 1024 → s.snap.elemLock &&& reqConflict s.img r = 0 →
      ∃ u, exec (.routeSet t c) s = .next u ∧ s.takenUp u t 0x0101 x c (.routeSet r) []) ∧
    (s.secondCopy 0x0103 x c → s.control.mode = .run → s.changing true r = false → c.params.length = 4 → ((routeDef s.img r).map (·.emergRel)) = some true →
      (en.state = .locked ∨ en.state = .cleared ∨ en.state = .approachLocked ∨ en.state = .occupied) →
      ∃ u, exec (.routeReleaseTimed t c) s = .next u ∧ s.takenUp u t 0x0103 x c (.routeRelease r) []) ∧
    (s.secondCopy 0x0201 x c → s.control.mode = .run → s.changing false e = false → c.params.length = 4 → s.programmed e tyPoint = true → (rd8 c.params 2 = 1 ∨ rd8 c.params 2 = 2) →
      s.snap.elemLocked e = false → getBit s.blockAhead e = false → getBit (s.leadLane.engine.reservation s.img) e = false → e ∉ s.movingPoints s.leadLane.engine →
      ∃ u, exec (.pointMove t c) s = .next u ∧ s.takenUp u t 0x0201 x c (.pointMove e (rd8 c.params 2)) []) ∧
    (s.secondCopy 0x0203 x c → c.params.length = 4 →
      let first := bitsAt (rd16 c.params 0) 0 13
      let last := bitsAt (rd16 c.params 2) 0 13
      let n := ((List.range (last + 1 - first)).filter (fun k => getBit s.blockAhead (first + k))).length
      first ≤ last → n ≠ 0 →
      ∃ u, exec (.pointUnblock t c) s = .next u ∧ s.takenUp u t 0x0203 x c (.pointUnblock first last) (b16 n ++ b16 0)) ∧
    (s.secondCopy 0x0204 x c → s.control.mode = .run → s.changing false e = false → c.params.length = 4 → (elemAt s.img e).etype = tySection → (s.snap.nibble e = 0 ∨ s.snap.nibble e = 2) →
      s.snap.elemLocked e = false → (elemAt s.img e).permFirst ≠ 0xFFFF →
      ∃ u, exec (.sectionReset t c) s = .next u ∧ s.takenUp u t 0x0204 x c (.sectionReset e) []) ∧
    (s.secondCopy 0x0408 x c → s.host.lock = none →
      let l := paramEntries c.params
      c.params.length = 4 + 8 * rd8 c.params 0 → 1 ≤ rd8 c.params 0 → rd8 c.params 0 ≤ 64 → (∀ q ∈ l, classLacks s.img x.cls q.1 = false) →
      firstBad l (paramBad s.img l) = none →
      ∃ u, exec (.paramWrite t c) s = .next u ∧ s.takenUp u t 0x0408 x c (.params l) [])

/-- R119, R125, R338, R339, R341, R342, R346, R350, R360, R373, R375, R390, Tables 3.8, 3.9, 9.5, 9.8: a restrictive command is decided at its first copy, and both networks are told. ROUTE_CANCEL,
SIGNAL_STOP, ALL_STOP and POINT_BLOCK await intake and force the outputs of their elements in every lane, each force pending (R219); LOCK_RELEASE releases the lock and empties the open staging slots; SESSION_CLOSE ends
its session; CHANGE_ABORT calls for the abort. -/
def Obligations.RestrictiveCommandsAreDecidedAtTheFirstCopy : Prop :=
  ∀ (t : Nat) (x : Session) (c : HostCopy) (s : State), s.hostReady t → s.pair.role = .unpaired →
    let e := paramElem c.params
    let r := paramRoute c.params
    let k := rd8 c.params 0
    let cmd := fun op => [x.commandRecord op c]
    (s.firstRestrictive 0x0102 x c → c.params.length = 4 → (routeDef s.img r).isSome = true → s.pair.deferred = [] →
      ((s.leadLane.engine.entry r).state ≠ .idle ∨ r ∈ s.waitingRoutes) → (s.leadLane.engine.entry r).state ≠ .occupied →
      (s.leadLane.engine.entry r).state ≠ .emergTiming →
      ∃ u, exec (.routeCancel t c) s = .next u ∧
        s.decided u t 0x0102 c stAccepted []
          (fun h => ({ h.raised x c with awaiting := h.awaiting.filter (fun i => i.cmd != EngineCmd.routeSet r) }).awaits
            (x.intake 0x0102 c (.routeCancel r (s.waitingRoutes.contains r))))
          (s.forcedBy t (s.cancelForce r)) (cmd 0x0102) ∧
        u = { s with now := u.now, host := u.host, lanes := u.lanes, almanac := u.almanac }) ∧
    (s.firstRestrictive 0x0105 x c → c.params.length = 4 → s.programmed e tySignal = true → s.powered = true →
      ∃ u, exec (.signalStop t c) s = .next u ∧
        s.decided u t 0x0105 c stAccepted [] (fun h => (h.raised x c).awaits (x.intake 0x0105 c (.signalStop e))) (s.forcedBy t [e]) (cmd 0x0105) ∧
        u = { s with now := u.now, host := u.host, lanes := u.lanes, almanac := u.almanac }) ∧
    (s.firstRestrictive 0x0106 x c → c.params = [] → s.powered = true →
      ∃ u, exec (.allStop t c) s = .next u ∧
        s.decided u t 0x0106 c stAccepted [] (fun h => (h.raised x c).awaits (x.intake 0x0106 c .allStop))
          (s.forcedBy t (bitList (typeMask s.img tySignal))) (cmd 0x0106) ∧
        u = { s with now := u.now, host := u.host, lanes := u.lanes, almanac := u.almanac }) ∧
    (s.firstRestrictive 0x0202 x c → c.params.length = 4 → s.programmed e tyPoint = true → s.powered = true →
      ∃ u, exec (.pointBlock t c) s = .next u ∧
        s.decided u t 0x0202 c stAccepted [] (fun h => (h.raised x c).awaits (x.intake 0x0202 c (.pointBlock e))) (s.forcedBy t [e]) (cmd 0x0202) ∧
        u = { s with now := u.now, host := u.host, lanes := u.lanes, almanac := u.almanac }) ∧
    (s.firstRestrictive 0x0005 x c → c.params = [] → s.holdsLock c.session = true →
      ∃ u, exec (.lockRelease t c) s = .next u ∧
        s.decided u t 0x0005 c stOk [] (fun h => { h.raised x c with lock := none }) laneKept (x.record 0x0602 [(24, 1, 2)] :: cmd 0x0005) ∧
        (∀ j, u.stagingAt j = if (s.stagingAt j).state = .isOpen ∨ (s.stagingAt j).state = .writing then Staging.empty else s.stagingAt j) ∧
        u = { s with now := u.now, host := u.host, lanes := u.lanes, almanac := u.almanac
                     images := { s.images with staging := u.images.staging, regions := s.dropOpenSlots.images.regions } }) ∧
    (s.firstRestrictive 0x0002 x c → c.params = [] → s.holdsLock c.session = false →
      ∃ u, exec (.sessionClose t c) s = .next u ∧
        s.decided u t 0x0002 c stOk [] (fun h => { h with sessions := h.sessions.filter (fun y => y.number != c.session) }) laneKept
          (x.record 0x0601 [(24, 1, 1)] :: cmd 0x0002) ∧
        u.sessionOf c.session = none ∧
        u = { s with now := u.now, host := u.host, lanes := u.lanes, almanac := u.almanac }) ∧
    (s.firstRestrictive 0x0407 x c → c.params.length = 4 → k ≤ 1 → (s.stagingAt k).state = .armed →
      ∃ u, exec (.changeAbort t c) s = .next u ∧
        s.decided u t 0x0407 c stAccepted [] (fun h => h.raised x c) laneKept (cmd 0x0407) ∧
        u.stagingAt k = { s.stagingAt k with abortStamps := some c.stamps, abortKey := some (.session c.session c.seq) } ∧ (∀ j, j ≠ k → u.stagingAt j = s.stagingAt j) ∧
        u = { s with now := u.now, host := u.host, lanes := u.lanes, almanac := u.almanac, images := { s.images with staging := u.images.staging } })

/-- R304, R338, R348, R369 to R372, R546: the second copy of a SESSION_OPEN that meets R370 opens a session with a free number, the initial credit and a tag that is not 0; it is open from the next snapshot. Both networks are told, and
its SESSION and COMMAND records are queued. Which free number and tag it gets the manual leaves open (log entry 10). -/
def Obligations.SessionOpensAtItsSecondCopy : Prop :=
  ∀ (t : Nat) (c : HostCopy) (s : State), s.hostReady t → s.secondOpening c → (∃ n, 1 ≤ n ∧ n ≤ 32 ∧ s.sessionOf n = none) →
    openParamsOk c.params = true → (openEngineer c.params = true → s.sealClosed 15 = true ∧ s.certCheck c.params = 0) →
    ∃ (u : State) (n : Nat) (tag : Word), exec (.sessionOpen t c) s = .next u ∧ 1 ≤ n ∧ n ≤ 32 ∧ s.sessionOf n = none ∧ tag ≠ 0 ∧
      let cls : OriginClass := if openEngineer c.params then .engineer else .operator
      ∃ y : Session,
        y = { number := n, tag := tag, hostId := openHost c.params, cls := cls, openedAt := none, credit := s.param 8, high := 0,
              leaseEnd := s.stampOf c + 2 * second, pathX := y.pathX, pathY := y.pathY, cursor := s.oldestRecord, quote := none } ∧
        (if c.net = .y then y.pathY else y.pathX) = some c.path ∧
        s.bothTold u 0x0001 c stAccepted (b16 n ++ b8 cls.code ++ b8 0 ++ b32 tag.toNat ++ b16 (s.param 8) ++ b16 0) ∧
        u.host = { s.countedHost t c.net with
          sessions := s.host.sessions ++ [y], recs := u.host.recs, replies := u.host.replies
          noncesUsed := s.host.noncesUsed ++ (if openEngineer c.params then (s.openNonce c.params).toList else []) } ∧
        u.almanac = { s.almanac with events := s.almanac.events ++ [y.record 0x0601 [(24, 1, 0)], y.commandRecord 0x0001 c] } ∧
        s.sameLanes u ∧ u = { s with now := max s.now t, host := u.host, lanes := u.lanes, almanac := u.almanac, freeCtr := u.freeCtr }

/-- R31, R202, R385, R391, R394, R395, R399, R402, R543, R655, Tables 1.6, 1.7, 10.10: MODE_SET, PROFILE_SELECT, POWER_STATE_SET, DUSK_RUN, TIME_SET and KEY_LIST_UPDATE, confirmed by their second copies where
their acceptance checks hold, are accepted and wait for the commit or intake that takes them in; both networks are told. That a later one replaces one that waits is, but for MODE_SET, the model's choice (log entries 28, 29). -/
def Obligations.CommandsThatWaitForACommit : Prop :=
  ∀ (t : Nat) (x : Session) (c : HostCopy) (s : State), s.hostReady t → s.pair.role = .unpaired →
    let n := rd8 c.params 0
    let key : RecKey := .session c.session c.seq
    let cmd := fun op => [x.commandRecord op c]
    (∀ m, s.secondCopy 0x0401 x c → c.params.length = 40 → modeOf n = some m → (m = .hold → x.cls ≠ .operator ∧ s.sealClosed 15 = true) →
      s.inNadir = false → s.modeParamsOk c.params = true → s.modeRefused m (rd16 c.params 2) = false →
      let cancels := s.modeWaits && m == s.control.mode
      ∃ u, exec (.modeSet t c) s = .next u ∧
        s.decided u t 0x0401 c stAccepted [] (fun h => { h with awaiting := s.dropWaitingMode.host.awaiting }) laneKept (cmd 0x0401) ∧
        u = { s with
          now := u.now
          host := u.host
          lanes := u.lanes
          almanac := u.almanac
          pair := s.dropWaitingMode.pair
          control := { s.control with
            pendingMode := some (m, some key)
            pendingSteps := if cancels then 0 else rd16 c.params 2
            pendingBreaks := if cancels then none else if bitAt (rd8 c.params 1) 0 then some (bpUsed c.params) else none } }) ∧
    (s.secondCopy 0x0402 x c → c.params.length = 4 → s.sealClosed 13 = true → s.inNadir = false → n ≤ 3 → s.snap.routeLock = 0 → s.powered = true →
      n ≠ s.images.runningSlot → s.images.takenProfile = none → s.images.staging.any (fun g => g.state == .armed) = false → s.constellationOpen = false →
      ∃ u, exec (.profileSelect t c) s = .next u ∧ s.decided u t 0x0402 c stAccepted [] id laneKept (cmd 0x0402) ∧
        u = { s with
          now := u.now
          host := u.host
          lanes := u.lanes
          almanac := u.almanac
          images := { s.images with pendingProfile := some { target := n, fromPins := false, key := some key } } }) ∧
    (∀ p, s.secondCopy 0x0501 x c → c.params.length = 4 → powerOf n = some p → ¬(s.control.power = .idle ∧ p = .warm ∧ s.sealBank.role = 0xFF) →
      ¬(s.inNadir = true ∧ p = .live) → (bitAt (rd8 c.params 1) 0 = true → p = .off) → s.switchLocked p = false → s.powerRefused p = false →
      ∃ u, exec (.powerStateSet t c) s = .next u ∧
        s.decided u t 0x0501 c stAccepted [] (fun h => { h with awaiting := s.dropWaitingPower.host.awaiting }) laneKept (cmd 0x0501) ∧
        u = { s with
          now := u.now
          host := u.host
          lanes := u.lanes
          almanac := u.almanac
          pair := s.dropWaitingPower.pair
          control := { s.control with
            pendingPower := some (p, some key)
            pendingTest := bitAt (rd8 c.params 1) 0
            pendingAgain := false } }) ∧
    (s.secondCopy 0x0502 x c → c.params = [] → s.control.power = .idle → s.control.mode = .stop →
      ∃ u, exec (.duskRun t c) s = .next u ∧
        s.decided u t 0x0502 c stAccepted [] (fun h => { h with awaiting := s.dropWaitingPower.host.awaiting }) laneKept (cmd 0x0502) ∧
        u = { s with
          now := u.now
          host := u.host
          lanes := u.lanes
          almanac := u.almanac
          pair := s.dropWaitingPower.pair
          control := { s.control with pendingPower := some (.off, some key), pendingTest := true, pendingAgain := true } }) ∧
    (s.secondCopy 0x0604 x c → c.params.length = 8 → rd64 c.params 0 ≠ 0 →
      ∃ u, exec (.timeSet t c) s = .next u ∧ s.decided u t 0x0604 c stAccepted (b64 (s.wallAt (max s.now t))) id laneKept (cmd 0x0604) ∧
        u = { s with now := u.now, host := u.host, lanes := u.lanes, almanac := u.almanac, pendingWall := some (rd64 c.params 0, key) }) ∧
    (s.secondCopy 0x0703 x c → c.params.length = 496 → keyListOk c.params = true → s.lockedOut c.session = false →
      (s.control.power = .idle ∨ s.control.power = .warm) → s.images.staging.any (fun g => g.state == .armed) = false →
      s.keySignatureOk c.params = true →
      ∃ u, exec (.keyListUpdate t c) s = .next u ∧
        s.decided u t 0x0703 c stAccepted []
          (fun h => { h with pendingKeys := some ({ version := rd32 c.params 0, keys := updateKeys c.params }, key) }) laneKept (cmd 0x0703) ∧
        u = { s with now := u.now, host := u.host, lanes := u.lanes, almanac := u.almanac })

/-- R178 to R180, R186, R187, R386 to R389, R502, R503, Tables 5.1, 5.6, 10.11, 10.12: STAGE_OPEN empties its staging region, every word of it with a right parity (R469), and opens the slot; STAGE_WRITE writes its bytes, with their parity, or starts their copy from the exchange RAM under
lock word 0; STAGE_VERIFY in form 0 starts the verification, in form 1 reports; CHANGE_ARM waits for the commit of the arm. -/
def Obligations.StagingCommands : Prop :=
  ∀ (t : Nat) (x : Session) (c : HostCopy) (s : State), s.hostReady t → s.pair.role = .unpaired → s.holdsLock c.session = true →
    let k := rd8 c.params 0
    let g := s.stagingAt k
    let key : RecKey := .session c.session c.seq
    let cmd := fun op => [x.commandRecord op c]
    (s.secondCopy 0x0403 x c → c.params.length = 4 → s.sealClosed 14 = true → k ≤ 1 → rd8 c.params 1 ≤ 3 → g.state ≠ .armed →
      ∃ u, exec (.stageOpen t c) s = .next u ∧
        s.decided u t 0x0403 c stOk [] id (loaderWrote (s.stagingRegion k) 0 67108864) (x.record 0x0302 [(24, 1, k), (25, 1, rd8 c.params 1)] :: cmd 0x0403) ∧
        u = { s with
          now := u.now
          host := u.host
          lanes := u.lanes
          almanac := u.almanac
          xram := (s.dropCopy k).xram
          images := { s.images with
            regions := s.images.regions.set (s.stagingRegion k) []
            staging := s.images.staging.set k { Staging.empty with state := .isOpen, target := rd8 c.params 1 } } }) ∧
    (s.secondCopy 0x0404 x c → lengthOk 0x0404 c.params = true → stageWriteOk c.params = true → g.state = .isOpen →
      let off := rd32 c.params 4
      let len := rd32 c.params 8
      ∃ u, exec (.stageWrite t c) s = .next u ∧
        (rd8 c.params 1 = 0 → s.decided u t 0x0404 c stOk (b32 (max g.high (off + len))) id (loaderWrote (s.stagingRegion k) off len) [] ∧
          u = { s with
            now := u.now
            host := u.host
            lanes := u.lanes
            images := { s.images with
              regions := s.images.regions.set (s.stagingRegion k) (Mem.store (s.images.stagingMem k) off (slice c.params 16 len))
              staging := s.images.staging.set k { g with high := max g.high (off + len) } } }) ∧
        (rd8 c.params 1 = 1 →
          let free := s.xram.lockWord 0 = 0
          s.decided u t 0x0404 c stAccepted (b32 g.high) id laneKept [] ∧
          u = { s with
            now := u.now
            host := u.host
            lanes := u.lanes
            xram := if free then s.xram.put (lockWordAddr 0) (b32 (2 ^ s.lead.index)) else s.xram
            images := { s.images with staging := s.images.staging.set k { g with
              state := .writing
              copy := some { offset := off, length := len, xram := rd32 c.params 12, since := max s.now t, guarded := decide free,
                             abandoned := false, key := some key, touched := [] } } } })) ∧
    (s.secondCopy 0x0405 x c → c.params.length = 8 → rd8 c.params 1 = 0 → rd32 c.params 4 = 0 → k ≤ 1 → g.state = .isOpen →
      ∃ u, exec (.stageVerify t c) s = .next u ∧ s.decided u t 0x0405 c stAccepted [] id laneKept (cmd 0x0405) ∧
        u = { s with
          now := u.now
          host := u.host
          lanes := u.lanes
          almanac := u.almanac
          images := { s.images with staging := s.images.staging.set k { g with state := .verifying, report := none } } }) ∧
    (s.secondCopy 0x0405 x c → c.params.length = 8 → rd8 c.params 1 = 1 →
      (rd32 c.params 4 = 0 ∨ 40 * rd32 c.params 4 < ((g.report.map (·.entries)).getD []).length) → k ≤ 1 →
      (g.state = .verifying ∨ g.state = .verified ∨ g.state = .failed ∨ g.state = .armed) →
      ∃ u, exec (.stageVerify t c) s = .next u ∧ s.decided u t 0x0405 c stOk (s.verifyReply k (rd32 c.params 4)) id laneKept [] ∧
        u = { s with now := u.now, host := u.host, lanes := u.lanes }) ∧
    (s.secondCopy 0x0406 x c → c.params.length = 4 → k ≤ 1 → s.images.pendingArm = none → s.armCheck k = (stAccepted, 0) →
      ∃ u, exec (.changeArm t c) s = .next u ∧ s.decided u t 0x0406 c stAccepted (b32 0) id laneKept (cmd 0x0406) ∧
        u = { s with
          now := u.now
          host := u.host
          lanes := u.lanes
          almanac := u.almanac
          images := { s.images with pendingArm := some (k, key) } })

/-- R351, R353, R358, R373, R395, R398, R410, R412, R497, R500, R527, R528, R586: LOCK_ACQUIRE, CREDIT_SET, ALMANAC_QUOTA, REPAIR_FUSE, XRAM_WRITE, XRAM_ATOMIC and LANE_REINTEGRATE, confirmed by their second copies where their acceptance checks
hold. XRAM_WRITE writes its bytes and no other; XRAM_ATOMIC writes the sum modulo 2^32, or the operand in a swap, and returns the word before it. Which accesses share a window with an XRAM_WRITE is the model's choice (log entry 36). -/
def Obligations.ModuleCommandsTakeEffectAtTheirDecision : Prop :=
  ∀ (t : Nat) (x : Session) (c : HostCopy) (s : State), s.hostReady t → s.pair.role = .unpaired →
    let cmd := fun op => [x.commandRecord op c]
    (s.secondCopy 0x0004 x c → c.params.length = 4 → 1 ≤ rd16 c.params 0 → rd16 c.params 0 ≤ 600 → s.lockedOut c.session = false →
      let lease := rd16 c.params 0
      ∃ u, exec (.lockAcquire t c) s = .next u ∧
        s.decided u t 0x0004 c stOk (b32 (1000 * lease))
          (fun h => { h with lock := some { session := c.session, leaseEnd := max s.now t + lease * second } }) laneKept
          (x.record 0x0602 [(24, 1, flag (s.holdsLock c.session)), (28, 4, 1000 * lease)] :: cmd 0x0004) ∧
        u = { s with now := u.now, host := u.host, lanes := u.lanes, almanac := u.almanac }) ∧
    (s.secondCopy 0x0006 x c → c.params.length = 4 → 1 ≤ rd16 c.params 0 → rd16 c.params 0 ≤ 256 →
      let n := rd16 c.params 0
      ∃ u, exec (.creditSet t c) s = .next u ∧
        s.decided u t 0x0006 c stOk []
          (fun h => { h with sessions := h.sessions.map (fun y => if y.number = c.session then { y with credit := n } else y) }) laneKept
          (x.record 0x0603 [(24, 2, n), (26, 2, x.credit)] :: cmd 0x0006) ∧
        u = { s with now := u.now, host := u.host, lanes := u.lanes, almanac := u.almanac }) ∧
    (∀ k, s.secondCopy 0x0603 x c → c.params.length = 8 → classOf (rd8 c.params 0) = some k → k ≠ .internal → rd32 c.params 4 ≤ 524288 →
      let q := rd32 c.params 4
      ∃ u, exec (.almanacQuota t c) s = .next u ∧
        s.bothTold u 0x0603 c stAccepted (b32 (s.almanac.used k) ++ b32 (((s.almanac.dropped.find? (fun d => d.1 == k)).map (·.2)).getD 0)) ∧
        s.hostAfter u t c id ∧ s.sameLanes u ∧
        u.almanac = { s.almanac with
          events := s.almanac.events ++ cmd 0x0603
          quotas := s.almanac.quotas.map (fun y => if y.1 = k then (k, q) else y)
          dropping := if s.almanac.used k < q then s.almanac.dropping.filter (· != k) else s.almanac.dropping } ∧
        u = { s with now := max s.now t, host := u.host, lanes := u.lanes, almanac := u.almanac }) ∧
    (∀ i : LaneId, s.secondCopy 0x0503 x c → c.params.length = 4 → rd8 c.params 0 = i.index → rd16 c.params 2 = (s.lane i).softRepairs.length →
      s.lockedOut c.session = false → s.control.power = .idle →
      let l := s.lane i
      ∃ u, exec (.repairFuse t c) s = .next u ∧
        s.decided u t 0x0503 c stAccepted (b16 l.fusable ++ b16 (l.sparesLeft false) ++ b16 (l.sparesLeft true) ++ b16 0) id
          (fun j y => if j = i then { y with fuseRunning := true } else y) (cmd 0x0503) ∧
        u = { s with now := u.now, host := u.host, lanes := u.lanes, almanac := u.almanac }) ∧
    (s.secondCopy 0x0A04 x c → lengthOk 0x0A04 c.params = true → xramRangeOk (rd32 c.params 0) (rd16 c.params 4) = true →
      s.lockedOut c.session = false → Mem.wf s.xram.mem = true →
      let off := rd32 c.params 0
      let len := rd16 c.params 4
      ∃ u, exec (.xramWrite t c) s = .next u ∧ s.decided u t 0x0A04 c stOk (b32 (flag (((State.tick t s).clashes off len true).any (·.warned)))) id laneKept [] ∧
        (∀ a, u.xramByte a = if off ≤ a ∧ a < off + len then c.params.getD (8 + (a - off)) 0 else s.xramByte a) ∧
        u = { s with
          now := u.now
          host := u.host
          lanes := u.lanes
          xram := { s.xram with mem := u.xram.mem }
          images := (s.xramStore off (slice c.params 8 len)).images
          ki40 := (s.xramStore off (slice c.params 8 len)).ki40 }) ∧
    (s.secondCopy 0x0A05 x c → c.params.length = 12 → rd32 c.params 0 % 4 = 0 → rd32 c.params 0 < 1048576 → rd8 c.params 4 ≤ 1 →
      s.lockedOut c.session = false → Mem.wf s.xram.mem = true →
      let off := rd32 c.params 0
      let old := Mem.le s.xram.mem off 4
      let new := if rd8 c.params 4 = 1 then rd32 c.params 8 else old + rd32 c.params 8
      ∃ u, exec (.xramAtomic t c) s = .next u ∧ s.decided u t 0x0A05 c stOk (b32 old ++ b32 0) id laneKept [] ∧
        (∀ k < 4, u.xramByte (off + k) = BitVec.ofNat 8 (new / 256 ^ k)) ∧ (∀ a, a < off ∨ off + 4 ≤ a → u.xramByte a = s.xramByte a) ∧
        u = { s with
          now := u.now
          host := u.host
          lanes := u.lanes
          xram := { s.xram with mem := u.xram.mem }
          images := (s.xramStore off (b32 new)).images
          ki40 := (s.xramStore off (b32 new)).ki40 }) ∧
    (∀ i : LaneId, s.secondCopy 0x0A07 x c → c.params.length = 4 → rd8 c.params 0 = i.index → s.control.degradation = .reduced → s.control.power = .warm →
      s.control.mode = .stop → (s.lane i).mode = .excluded → (s.lane i).exclusions < 3 → s.images.staging.any (fun g => g.state == .armed) = false →
      s.images.takenProfile = none →
      ∃ u, exec (.laneReintegrate t c) s = .next u ∧
        s.decided u t 0x0A07 c stAccepted [] id
          (fun j y => if j = i then
              { y with mode := .restarting, startPassed := false, isolatedFor := none, localFault := none, held := false } else y)
          (x.record 0x0401 [(24, 1, i.index), (25, 1, LaneMode.restarting.code), (26, 1, 0)] :: cmd 0x0A07) ∧
        u = { s with now := u.now, host := u.host, lanes := u.lanes, almanac := u.almanac })

/-- R408, R487 to R490, Table 13.3: ARB_CONTROL, confirmed by its second copy. In WARM outside RUN it brings the arbiters of the lanes that it names to where their own traffic has led them (free values: log entry 35), and then sets their freeze bits, which ends their runs,
or clears the bits, writes a base priority, or clears the counters. With a lane, action or requester that the part has not, or with action 3 where no counters are kept, it is refused with ST_REJ_BAD_PARAM, and else, outside WARM or in RUN, with ST_REJ_STATE. -/
def Obligations.ArbiterControlByAction : Prop :=
  ∀ (t : Nat) (x : Session) (c : HostCopy) (s : State), s.hostReady t → s.pair.role = .unpaired → s.secondCopy 0x0A01 x c → c.params.length = 4 →
    let ls := lanesNamed (rd8 c.params 0)
    let action := rd8 c.params 1
    let req := rd8 c.params 2
    let bad := 3 < rd8 c.params 0 ∨ 3 < action ∨ s.identity.part.requesters ≤ req ∨ (action = 3 ∧ s.counts = false)
    let stops := s.control.power ≠ .warm ∨ s.control.mode = .run
    ((bad ∨ stops) →
      ∃ u, exec (.arbControl t c) s = .next u ∧ s.decided u t 0x0A01 c (if bad then stBadParam else stState) [] id laneKept [] ∧
        u = { s with now := u.now, host := u.host, lanes := u.lanes }) ∧
    (¬bad → ¬stops →
      ∃ (u : State) (y : LaneId → Store), exec (.arbControl t c) s = .next u ∧
        u = { s with now := u.now, host := u.host, lanes := u.lanes, almanac := u.almanac, freeCtr := u.freeCtr } ∧
        (∀ j, if (s.lane j).store.frozen then y j = (s.lane j).store else ∃ n count, y j = (s.lane j).store.traffic s.arbRules n count) ∧
        let store := fun (f : Store → Store) (j : LaneId) (l : Lane) => if j ∈ ls then { l with store := f (y j) } else l
        (action = 0 →
          s.decided u t 0x0A01 c stAccepted [] id
            (store (fun z => { z with grant := none, frozen := true, frozenSince := max s.now t, freezes := z.freezes + 1 }))
            (ls.map (fun i => x.record 0x0407 [(24, 1, i.index), (25, 1, 1)]) ++ [x.commandRecord 0x0A01 c])) ∧
        (action = 1 →
          s.decided u t 0x0A01 c stAccepted [] id (fun j l => if j ∈ ls ∧ l.store.frozen = true then { l with store := { l.store with frozen := false, ringKept := [] } } else l)
            ((ls.filter (fun i => (s.lane i).store.frozen)).map (fun i => x.record 0x0407 [(24, 1, i.index), (25, 1, 0)]) ++ [x.commandRecord 0x0A01 c])) ∧
        (action = 2 →
          s.decided u t 0x0A01 c stAccepted [] id
            (store (fun z => { z with
              priority := z.priority.set req (bitsAt (rd8 c.params 3) 0 3)
              boost := if z.waiting.any (fun p => p.req == req) then z.boost.set req 0 else z.boost
              grant := z.grant.map (fun g => if g.req = req then { g with oldBase := some (z.holderBase g) } else g) }))
            [x.commandRecord 0x0A01 c]) ∧
        (action = 3 →
          s.decided u t 0x0A01 c stAccepted [] id
            (store (fun z => { z with
              grants := List.replicate 14 0
              waits := List.replicate 14 0
              longestRounds := List.replicate 14 0
              longestNs := List.replicate 14 0 }))
            [x.commandRecord 0x0A01 c]))

/-- R295, R403, R405, R407, R462, R466: CONSTELLATION_REQUEST at the Polestar, PORT_ENABLE at any module, SWITCHOVER at the active unit of a pair with a READY standby and STANDBY_SYNC at a standby that is not READY. SWITCHOVER names the first Change Point at
least 2 ms away in a SWITCH frame on both standby links, each where its port owner transmits; STANDBY_SYNC asks for a copy in a COPY_REQ frame on both. The layouts of the two payloads are the model's (log entry 22). -/
def Obligations.NdezoAndPairCommands : Prop :=
  ∀ (t : Nat) (x : Session) (c : HostCopy) (s : State), s.hostReady t →
    let k := rd8 c.params 0
    let cmd := fun op => [x.commandRecord op c]
    (s.secondCopy 0x0801 x c → c.params.length = 4 → s.inNadir = false → k ≤ 7 → s.ndezoRuns = true → s.ndezo.isPolestar = true → k ≠ s.ndezo.constNo →
      s.ndezo.change = none → s.heldBit k = true → s.standbyUnit = false →
      ∃ u, exec (.constellationRequest t c) s = .next u ∧ s.decided u t 0x0801 c stAccepted [] id laneKept (cmd 0x0801) ∧
        u = { s with now := u.now, host := u.host, lanes := u.lanes, almanac := u.almanac, ndezo := { s.ndezo with request := some k } }) ∧
    (s.secondCopy 0x0803 x c → c.params.length = 4 → isNdezoPort s.identity.part k = true → (s.port k).disabled = bitAt (rd8 c.params 1) 0 →
      ∃ u, exec (.portEnable t c) s = .next u ∧ s.decided u t 0x0803 c stAccepted [] id laneKept (cmd 0x0803) ∧
        u.port k = { s.port k with
          disablePending := some (!(s.port k).disabled)
          pendingCommitted := (s.port k).pendingCommitted && (s.port k).disablePending == some (!(s.port k).disabled) } ∧
        (∀ n, n ≠ k → u.port n = s.port n) ∧
        u = { s with now := u.now, host := u.host, lanes := u.lanes, almanac := u.almanac, ndezo := { s.ndezo with ports := u.ndezo.ports } }) ∧
    (s.secondCopy 0x0902 x c → c.params.length = 4 → s.inPair = true → s.peerOk c.params = true → s.pair.role = .active → s.pair.peerStandby = .ready →
      s.images.staging.any (fun g => g.state == .armed) = false → s.images.takenProfile = none →
      let point := (max s.now t + 2 * ms + 10 * ms - 1) / (10 * ms) * (10 * ms)
      ∃ u, exec (.switchover t c) s = .next u ∧ s.decided u t 0x0902 c stAccepted [] id laneKept (cmd 0x0902) ∧
        u.sent = s.sent ++ (s.pairSent .sl0 7 (b64 point) ++ s.pairSent .sl1 7 (b64 point)) ∧
        u = { s with
          now := u.now
          host := u.host
          lanes := u.lanes
          almanac := u.almanac
          sent := u.sent
          pair := { s.pairToldBoth with switchAt := some point, switchAck := 0 } }) ∧
    (s.secondCopy 0x0903 x c → c.params.length = 4 → s.inPair = true → s.peerOk c.params = true → s.pair.role = .standby → s.pair.standby = .notReady →
      let f := copyReqPayload 0 0 0
      ∃ u, exec (.standbySync t c) s = .next u ∧ s.decided u t 0x0903 c stAccepted [] id laneKept (cmd 0x0903) ∧
        u.sent = s.sent ++ (s.pairSent .sl0 5 f ++ s.pairSent .sl1 5 f) ∧
        u = { s with
          now := u.now
          host := u.host
          lanes := u.lanes
          almanac := u.almanac
          sent := u.sent
          pair := { s.pairToldBoth with copyAsked := true } })

/-- R326, R337, R338, R341, R342, R345, R351, R352, R654, Tables 9.4, 9.6: copies that decide no command. At the service port the SVC LED flickers on each. A datagram that is not the module's own, or malformed, is counted and no more; one of no open session gets ST_BAD_CHECK. A first permissive copy opens a record and raises H, without
credit it is refused on both networks; a repeat gets its decision again on its own network. A record whose window closes is decided ST_REJ_SINGLE on both networks. A copy that waits is judged before those that arrive after it, a restrictive one first. -/
def Obligations.CopiesThatDecideNoCommand : Prop :=
  ∀ (t : Nat) (s : State), s.hostReady t →
    (∀ d : Datagram,
      let c := datagramCopy d
      let op := rd16 d.payload 8
      let seen : State := { s with host := { s.host with svcFrames := if d.net = .service then s.host.svcFrames + 1 else s.host.svcFrames } }
      (d.ownPort = false → exec (.hostCopyRejected t d) s = .next { (seen.countNet d.net (fun k => { k with ipDrop := inc k.ipDrop })) with now := max s.now t }) ∧
      (d.ownPort = true → (c.lenOk = false ∨ c.version ≠ 1 ∨ bitAt c.flags 0 = true ∨ 1400 < c.params.length ∨ c.params.length % 4 ≠ 0) →
        exec (.hostCopyRejected t d) s = .next { (seen.countNet d.net (fun k => { k with malformed := inc k.malformed })) with now := max s.now t }) ∧
      (d.ownPort = true → c.lenOk = true → c.version = 1 → bitAt c.flags 0 = false → c.params.length ≤ 1400 → c.params.length % 4 = 0 → d.rx = RxFault.healthy →
        op ≠ 0x0001 → s.sessionOf c.session = none →
        ∃ u r, exec (.hostCopyRejected t d) s = .next u ∧ r.answers op c stBadCheck (bareData op) ∧
          u.host = { s.host with
            arrivals := s.host.arrivals.filter (fun a => decide (max s.now t < a + ms)) ++ [max s.now t]
            svcFrames := seen.host.svcFrames
            replies := s.host.replies ++ [r] } ∧
          (∀ i ∈ s.voting, d.net = .x → (u.lane i).counters.badCheckX = (s.lane i).counters.badCheckX + 1) ∧
          (∀ i ∈ s.voting, d.net = .y → (u.lane i).counters.badCheckY = (s.lane i).counters.badCheckY + 1) ∧
          u = { s with now := max s.now t, host := u.host, lanes := u.lanes, almanac := u.almanac }) ∧
      (∀ (x : Session) (row : OpRow), s.goodCopy op x c → opOf op = some row → row.cls = .permissive → op ≠ 0x0001 → c.net ≠ .service →
        s.recOf (.session c.session c.seq) = none →
        ∃ u r, exec (.hostCopyRejected t d) s = .next u ∧ u.recOf (.session c.session c.seq) = some r ∧
          r = { s.newRec op c with decisions := r.decisions, decidedAt := r.decidedAt, outstanding := r.outstanding } ∧
          (∀ y, u.sessionOf c.session = some y → y.high = max c.seq x.high) ∧
          (s.creditSpent op c.session = false → r.decisions = [] ∧
            u = { s with now := max s.now t, host := { (s.heardHost t c).raised x c with recs := u.host.recs }, lanes := u.lanes } ∧ s.sameLanes u) ∧
          (0x0100 ≤ op → x.credit ≤ (s.host.recs.filter (fun y => y.session == c.session && y.outstanding && !y.key.isOpening)).length → (if c.net = .x then x.pathY else x.pathX).isSome = true → r.outstanding = false ∧
            r.decisions.map (fun e => e.status) = [stCredit] ∧ s.bothTold u op c stCredit (bareData op) ∧ u.almanac = s.almanac)) ∧
      (∀ (x : Session) (row : OpRow) (r : HostRec) (e : Decision), s.goodCopy op x c → opOf op = some row → row.cls ≠ .query → op ≠ 0x0001 →
        s.recOf (.session c.session c.seq) = some r → s.decisionOf (.session c.session c.seq) (HostCopyHead op c) = some e → r.isOpen = false →
        ∃ u y, exec (.hostCopyRejected t d) s = .next u ∧ u.host.replies = s.host.replies ++ [y] ∧ y.repeated = true ∧ y.net = c.net ∧ y.opcode = op ∧
          y.status = e.status ∧ y.snapshot = e.snapshot ∧ y.data = e.data ∧ y.seq = c.seq ∧ y.session = c.session ∧
          u.almanac = s.almanac ∧ s.sameLanes u ∧ u.host.awaiting = s.host.awaiting ∧ u.images = s.images ∧ u.control = s.control)) ∧
    (∀ (n q : Nat) (r : HostRec) (x : Session), s.recOf (.session n q) = some r → s.sessionOf r.session = some x → r.isOpen = true → r.net ≠ .service → r.opcode ≠ 0x0001 →
      r.opened + r.window ≤ max s.now t → x.pathX.isSome = true → x.pathY.isSome = true →
      ∃ u r1 r2, exec (.skewWindowExpiry t (.session n q)) s = .next u ∧ u.host.replies = s.host.replies ++ [r1, r2] ∧ r1.net = .x ∧ r2.net = .y ∧
        (∀ y : Reply, y = r1 ∨ y = r2 → y.status = stSingle ∧ y.seq = q ∧ y.session = r.session ∧ y.opcode = r.opcode ∧ y.repeated = false ∧ y.late = false ∧
          y.data = bareData r.opcode) ∧
        (∃ e : Decision, e.status = stSingle ∧ u.recOf (.session n q) = some { r with decisions := r.decisions ++ [e], decidedAt := max s.now t, outstanding := false }) ∧
        u.host = { (s.countNet r.net (fun k => { k with single := inc k.single })).host with recs := u.host.recs, replies := u.host.replies } ∧
        u.almanac = { s.almanac with events := s.almanac.events ++ [x.record 0x0604 [(24, 1, 0), (25, 1, netCode r.net % 2), (26, 2, r.opcode), (28, 4, q)]] } ∧
        s.sameLanes u ∧ u = { s with now := max s.now t, host := u.host, lanes := u.lanes, almanac := u.almanac }) ∧
    (∀ key, (s.recOf key = none ∨ ∃ r, s.recOf key = some r ∧ (r.isOpen = false ∨ max s.now t < r.opened + r.window)) →
      exec (.skewWindowExpiry t key) s = .next (State.tick t s)) ∧
    (∀ (e : QueuedCopy) (rest : List QueuedCopy) (v : State), s.ki40.waiting = [] →
      (v = { s with host := { s.host with restrictiveQueue := e :: rest } } ∨ v = { s with host := { s.host with otherQueue := e :: rest } }) →
      exec (.copyDequeued t) v = .next ((({ v with
        now := max s.now t
        host := { s.host with
          restrictiveQueue := v.host.restrictiveQueue.drop 1
          otherQueue := if v.host.restrictiveQueue = [] then v.host.otherQueue.drop 1 else v.host.otherQueue
          overrunX := false
          overrunY := false
          overrunS := false } } : State).judge e.opcode e.copy).close (max s.now t) s.pending)) ∧
    (s.ki40.waiting = [] → exec (.copyDequeued t) s = .next (State.tick t s))

/-- R349, R350, R353, R400, R401, R549, R582, Table 9.8: a session whose lease has run out closes, with its records and the lock that it held; the lock's own lease lapses; the OPEN_NONCE changes every 10 s; a captured quote is signed. In Dusk the leases stand still. -/
def Obligations.LeasesNoncesAndQuotes : Prop :=
  ∀ (t : Nat) (s : State),
    let now := max s.now t
    let note := fun (code kind : Nat) => queuedOf code 0 0 Origin.internal [payloadFields [(24, 1, kind)]]
    (∀ (n : Nat) (x : Session), s.sessionOf n = some x →
      (x.leaseEnd ≤ now → s.control.phase ≠ .dusk →
        let held := s.holdsLock n
        ∃ u, exec (.sessionLeaseLapse t n) s = .next u ∧ u.sessionOf n = none ∧
          u = { s with
            now := now
            host := { s.host with
              sessions := s.host.sessions.filter (fun y => y.number != n)
              recs := u.host.recs
              lock := if held then none else s.host.lock }
            images := if held then s.dropOpenSlots.images else s.images
            almanac := { s.almanac with events := s.almanac.events ++ (note 0x0601 2 :: if held then [note 0x0602 2] else []) } } ∧
          (∀ r, r ∈ u.host.recs ↔ r ∈ s.host.recs ∧ r.key.session? ≠ some n)) ∧
      ((now < x.leaseEnd ∨ s.control.phase = .dusk) → exec (.sessionLeaseLapse t n) s = .next (State.tick t s))) ∧
    (∀ n, s.sessionOf n = none → exec (.sessionLeaseLapse t n) s = .next (State.tick t s)) ∧
    (∀ l, s.host.lock = some l →
      (l.leaseEnd ≤ now → s.control.phase ≠ .dusk →
        exec (.lockLeaseLapse t) s = .next { s with
          now := now
          host := { s.host with lock := none }
          images := s.dropOpenSlots.images
          almanac := { s.almanac with events := s.almanac.events ++ [note 0x0602 3] } }) ∧
      ((now < l.leaseEnd ∨ s.control.phase = .dusk) → exec (.lockLeaseLapse t) s = .next (State.tick t s))) ∧
    (s.host.nonceAt + 10 * second ≤ now →
      exec (.openNonceChange t) s = .next { s with
        now := now
        host := { s.host with
          noncePrev := some s.host.nonce
          nonce := s.freeCtr
          nonceAt := now
          noncesUsed := s.host.noncesUsed.filter (fun k => k == s.host.nonce) }
        freeCtr := s.freeCtr + 16 }) ∧
    (now < s.host.nonceAt + 10 * second → exec (.openNonceChange t) s = .next (State.tick t s)) ∧
    (∀ (n : Nat) (x : Session) (q : Quote) (b : Bytes), s.sessionOf n = some x → x.quote = some q → q.captured = some b → q.signature = none →
      ∃ u, exec (.quoteReady t n) s = .next u ∧
        u.sessionOf n = some { x with quote := some { q with signature := some (beBytes 96 (Config.ecdsaSign (Config.sha384 b)).toNat) } } ∧
        (∀ k, k ≠ n → u.sessionOf k = s.sessionOf k) ∧ u = { s with now := now, host := { s.host with sessions := u.host.sessions } })

/-- R39, R510, R513, R514, R517 to R519, R527 to R532, Table 14.5: the first record of a lane's queue is appended to the ring with the next sequence numbers; a repeat of an open record counts on it; at the quota of its class it is dropped and counted; a failed
append leaves it queued, and the Almanac has failed. In stash mode it enters that lane's stash alone. In safe-off the newest records then stand in the exchange RAM, from where the maintenance bus reads them (where they stand is the model's choice: log entry 123). A record without a same event for 1 s closes. -/
def Obligations.AlmanacAppendsAndCloses : Prop :=
  ∀ (t : Nat) (i : LaneId) (fault : AppendFault) (s : State),
    let now := max s.now t
    let l := s.lane i
    let a := s.almanac
    ((l.queue = [] ∨ State.writerRuns (State.tick t s) = false ∨ l.held = true) → exec (.almanacAppend t i fault) s = .next (State.tick t s)) ∧
    (∀ (q : Queued) (rest : List Queued), l.queue = q :: rest → State.writerRuns (State.tick t s) = true → l.held = false →
      (a.stashMode = false → fault ≠ .none → exec (.almanacAppend t i fault) s = .next { s with now := now, almanac := { a with failed := true } }) ∧
      (a.stashMode = true ∨ fault = .none →
        let noted := fun (y : Lane) =>
          if l.almLostPending then Lane.enqueue { y with almLostPending := false } (almanacEntry (i.index + 1) (State.laneWall (State.tick t s) i) 2 0) else y
        ∃ u, exec (.almanacAppend t i fault) s = .next u ∧ (∀ j, j ≠ i → u.lane j = s.lane j) ∧
          u = { s with now := now, lanes := u.lanes, almanac := u.almanac, xram := u.xram, images := u.images, ki40 := u.ki40 } ∧
          ((s.control.phase ≠ .safeOff ∨ s.xram.filled = false) → u.xram = s.xram ∧ u.images = s.images ∧ u.ki40 = s.ki40) ∧
          (s.control.phase = .safeOff → s.xram.filled = true → Mem.wf s.xram.mem = true →
            let bytes := ((u.readable.drop (u.readable.length - 32640)).map Record.bytes).flatten
            ∀ b, u.xramByte b = if b < bytes.length then bytes.getD b 0 else s.xramByte b) ∧
          (a.stashMode = false → fault = .none → u.lane i = noted { l with queue := rest } ∧
            (∀ recs, q.repeats = true → countSame a.records q now = some recs → u.almanac = { a with records := recs }) ∧
            ((q.repeats = false ∨ countSame a.records q now = none) → a.isFull q.cls = false →
              u.almanac = { a with next := a.next + q.payloads.length, dropping := a.dropping.filter (fun c => c != q.cls), records := u.almanac.records } ∧
              (∀ k < q.payloads.length, u.almanac.oldest ≤ a.next + k → ∃ r ∈ u.almanac.records, r.seq = a.next + k ∧ r.code = q.code ∧ r.cls = q.cls ∧
                r.session = q.session ∧ r.hostId = q.hostId ∧ r.wall = q.wall ∧ r.payload = q.payloads.getD k 0 ∧ r.safety = q.safety ∧ r.writer = q.writer)) ∧
            ((q.repeats = false ∨ countSame a.records q now = none) → a.isFull q.cls = true →
              ((u.almanac.dropped.find? (fun d => d.1 == q.cls)).map (·.2)).getD 0 =
                ((a.dropped.find? (fun d => d.1 == q.cls)).map (·.2)).getD 0 + q.payloads.length ∧ q.cls ∈ u.almanac.dropping)) ∧
          (a.stashMode = true → s.control.phase = .running → u.almanac = a ∧
            u.lane i = noted { l with queue := rest, stash := (u.lane i).stash, stashNext := (u.lane i).stashNext, stashLost := (u.lane i).stashLost } ∧
            (q.repeats = false → l.stash.length + q.payloads.length ≤ 128 → l.stashLost = 0 →
              (u.lane i).stash = q.records l.stashNext now (!a.timeSet) false ++ l.stash ∧ (u.lane i).stashNext = l.stashNext + q.payloads.length ∧
              (u.lane i).stashLost = 0)))) ∧
    (∀ seq, ∃ u, exec (.openRecordClose t seq) s = .next u ∧
      let close := fun (r : Record) => if r.seq = seq ∧ r.last + second ≤ now ∧ r.isLossCount = false then { r with isOpen := false } else r
      (a.stashMode = false → u = { s with now := now, almanac := { a with records := a.records.map close } }) ∧
      (a.stashMode = true → u = { s with now := now, lanes := u.lanes } ∧ ∀ j, u.lane j = { s.lane j with stash := (s.lane j).stash.map close }))

/-- R98, R116, R129 to R131, R145, R146, R149, R162 to R165, R171, R172: a body of T0, T1 or T2 in progress in a voting lane completes that lane's output image, with its published variables, T1 with the route engine's work on what its intake took in; a TE run leaves the TE queue, writes its published variables and counts; TB has no image.
TE and TB run only while the program executes and not in Nadir. Of the function blocks called, those of the task execute, each once. No other lane
changes. A breakpoint met in HOLD is recorded once and ends the run of steps. What the program code itself does stands in the command's operand (log entry 3). -/
def Obligations.TaskBodiesCompleteInTheirLane : Prop :=
  ∀ (t : Nat) (i : LaneId) (b : BodyRun) (s : State), (s.lane i).mode = .voting →
    let l := s.lane i
    let start := fun (k : Task) => s.snapNo (((l.program.bodies.find? (fun x => x.1 == k)).map (·.2)).getD s.snap.number)
    let prog := fun (k : Task) => { (l.program.runBlocks s.img k b) with bodies := l.program.bodies.filter (fun x => x.1 != k) }
    let met := fun (k : Task) => breaksMet s.control.breakpoints (calledBlocks s.img k b)
    let quiet := fun (k : Task) => s.control.mode ≠ .hold ∨ met k = [] ∨ i ≠ s.lead
    let others := fun (u : State) => ∀ j, j ≠ i → u.lane j = s.lane j
    let runs := s.hasImage = true ∧ s.control.executing = true ∧ s.control.degradation.isNadir = false
    (l.program.bodies.any (fun x => x.1 == .t0) = true →
      ∃ u, exec (.taskBodyComplete t i .t0 b) s = .next u ∧ others u ∧
        u.lane i = { l with program := { prog .t0 with done := (prog .t0).done ++ [t0Image s.img (start .t0) l.engine b] } } ∧
        (quiet .t0 → u = { s with now := max s.now t, lanes := u.lanes })) ∧
    (l.program.bodies.any (fun x => x.1 == .t1) = true →
      let c : BodyCtx := { m := s.img, p := start .t1, diverge := b.meridianFails, noLock := s.images.takenProfile.isSome, discard := l.program.bodyUpset }
      let e := l.program.working.getD (l.engine, [])
      let w0 := engineBody c (start .t1).instant l.program.intake l.program.marks e.1
      let w := { w0 with events := e.2 ++ w0.events }
      ∃ u, exec (.taskBodyComplete t i .t1 b) s = .next u ∧ others u ∧
        u.lane i = { l with
          program := { prog .t1 with
            done := (prog .t1).done ++ [t1Image s.img (start .t1) w b]
            intake := []
            marks := []
            bodyUpset := false
            working := none }
          counters := l.counters.ofWork w } ∧
        (quiet .t1 → u = { s with now := max s.now t, lanes := u.lanes })) ∧
    (l.program.bodies.any (fun x => x.1 == .t2) = true →
      ∃ u, exec (.taskBodyComplete t i .t2 b) s = .next u ∧ others u ∧
        u.lane i = { l with program := { prog .t2 with
          done := (prog .t2).done ++ [{ task := .t2, fields := programOutputs s.img (start .t2) b, pubs := b.pubs, engine := none, events := [] }] } } ∧
        (quiet .t2 → u = { s with now := max s.now t, lanes := u.lanes })) ∧
    (∀ r rest, l.program.teQueue = r :: rest → runs →
      ∃ u, exec (.taskBodyComplete t i .te b) s = .next u ∧ others u ∧
        (u.lane i).program.teQueue = rest ∧ (u.lane i).program.tePubs = appendPubs l.program.tePubs r.ended b.pubs ∧
        (u.lane i).counters = { l.counters with teRuns := l.counters.teRuns + 1 } ∧
        (u.lane i).program.done = l.program.done ∧ (u.lane i).engine = l.engine ∧
        (quiet .te → u = { s with now := max s.now t, lanes := u.lanes })) ∧
    (runs →
      ∃ u, exec (.taskBodyComplete t i .tb b) s = .next u ∧ others u ∧ u.lane i = { l with program := l.program.runBlocks s.img .tb b } ∧
        (quiet .tb → u = { s with now := max s.now t, lanes := u.lanes })) ∧
    (∀ k, k ≠ .tb → k ≠ .te → l.program.bodies.any (fun x => x.1 == k) = false →
      exec (.taskBodyComplete t i k b) s = .next (State.tick t s)) ∧
    (¬runs → exec (.taskBodyComplete t i .tb b) s = .next (State.tick t s) ∧ exec (.taskBodyComplete t i .te b) s = .next (State.tick t s)) ∧
    (l.program.teQueue = [] → exec (.taskBodyComplete t i .te b) s = .next (State.tick t s)) ∧
    (∀ k, s.bodyReady l k = true → s.control.mode = .hold → i = s.lead → met k ≠ [] →
      ∃ u, exec (.taskBodyComplete t i k b) s = .next u ∧ u.control = { s.control with stepBroken := true } ∧
        u.almanac = { s.almanac with events := s.almanac.events ++ (met k).map (fun n =>
          queuedOf 0x0203 0 0 Origin.internal [payloadFields [(24, 4, n), (28, 4, l.program.logical.a / s.t0)]]) })

/-- R84, R85, R87, R89, R180 to R186, R188, R197, R198, R387, R469, R503, R508, R548: where two voting lanes agree, a verification ends VERIFIED with its report and the image in flash, or FAILED with the number of the first check that fails; an admission ends VALID or INVALID, that of the selected profile first. A lane that
disagrees with two others has a fault of its own and isolates itself. Where no two agree, the image is not admitted, with a check number that is free, and no lane is charged (log entry 129). A copy from the exchange RAM stores its bytes, opens its slot again and releases its guard; a guard not held after 5 ms is given up with a record. -/
def Obligations.VerificationAdmissionAndCopies : Prop :=
  ∀ (t : Nat) (s : State),
    let now := max s.now t
    let verifyNote := fun (k check : Nat) => queuedOf 0x0303 0 0 Origin.internal
      [payloadFields [(24, 1, k), (25, 1, flag (check != 0)), (26, 1, check), (28, 4, imgId (s.images.stagingMem k))]]
    let admissionNote := fun (k check image : Nat) => queuedOf 0x0301 0 0 Origin.internal [payloadFields [(24, 1, k), (25, 1, check), (28, 4, image)]]
    (∀ (k : Nat) (o : Agreement), k ≤ 1 → (s.stagingAt k).state = .verifying → s.twoAgree o = true →
      let m := s.images.stagingMem k
      let check := s.verifyCheck k
      let kept := Mem.window m 0 (imgLen m)
      let region := s.stagingRegion k
      ∃ u, exec (.verifyComplete t k o) s = .next u ∧
        (check = 0 → s.charged now o (loaderWrote region (imgLen m) (67108864 - imgLen m)) u ∧
          u.stagingAt k = { s.stagingAt k with
            state := .verified
            check := 0
            report := some (s.buildReport k)
            load := !s.slotRuns (s.stagingAt k).target
            hash := imageHash m
            keyId := sigBytes m 8 8 } ∧
          u.images.flash = s.images.flash.set region kept ∧ u.images.regions = s.images.regions.set region kept ∧
          u.almanac = { s.almanac with events := s.almanac.events ++ [verifyNote k 0] }) ∧
        (check ≠ 0 → s.charged now o laneKept u ∧
          u.stagingAt k = { s.stagingAt k with state := .failed, check := check, report := none } ∧ u.images.flash = s.images.flash ∧
          u.images.regions = s.images.regions ∧
          u.almanac = { s.almanac with events := s.almanac.events ++
            (verifyNote k check :: if check ≤ 11 then [admissionNote (4 + k) check (imgId m)] else []) }) ∧
        (∀ j, j ≠ k → u.stagingAt j = s.stagingAt j) ∧ (s.inPair = false → u.sent = s.sent ∧ u.pair = s.pair) ∧
        u = { s with
          now := now
          lanes := u.lanes
          almanac := u.almanac
          sent := u.sent
          pair := u.pair
          images := { s.images with
            staging := u.images.staging
            regions := u.images.regions
            flash := u.images.flash
            lastCheck := if check = 0 then s.images.lastCheck else check } }) ∧
    (∀ (k : Nat) (o : Agreement), k ≤ 1 → (s.stagingAt k).state = .verifying → s.twoAgree o = false →
      ∃ u c, exec (.verifyComplete t k o) s = .next u ∧ 1 ≤ c ∧ c ≤ 11 ∧
        u.stagingAt k = { s.stagingAt k with state := .failed, check := c, report := none } ∧ (∀ j, j ≠ k → u.stagingAt j = s.stagingAt j) ∧
        u.almanac = { s.almanac with events := s.almanac.events ++ [verifyNote k c, admissionNote (4 + k) c (imgId (s.images.stagingMem k))] } ∧
        u = { s with
          now := now
          almanac := u.almanac
          freeCtr := u.freeCtr
          images := { s.images with
            staging := u.images.staging
            lastCheck := c } }) ∧
    (∀ (k : Nat) (o : Agreement) (p : Profile), s.images.profiles[k]? = some p → p.status = .verifying →
      let m := s.images.profileMem k
      let check := admission m 67108864 s.trustedKeys s.identity.part s.sealBank.ki40 (k == 0)
      let first := k = s.selectedSlot ∨ s.verifying s.selectedSlot = false
      let ends := fun (c : Nat) (u : State) => u = { s with
          now := now
          lanes := u.lanes
          freeCtr := u.freeCtr
          images := { s.images with
            profiles := s.images.profiles.set k { p with status := if c = 0 then .valid else .invalid, hash := imageHash m }
            lastCheck := if c = 0 then s.images.lastCheck else c }
          almanac := { s.almanac with events := s.almanac.events ++ if c = 0 then [] else [admissionNote k c (imgId m)] } }
      (first → s.twoAgree o = true → ∃ u, exec (.admissionComplete t k o) s = .next u ∧ s.charged now o laneKept u ∧ u.freeCtr = s.freeCtr ∧ ends check u) ∧
      (first → s.twoAgree o = false → ∃ u c, exec (.admissionComplete t k o) s = .next u ∧ u.lanes = s.lanes ∧ 1 ≤ c ∧ c ≤ 11 ∧ ends c u) ∧
      (¬first → exec (.admissionComplete t k o) s = .next (State.tick t s))) ∧
    (∀ i : LaneId,
      (s.images.mapPending = true →
        ∃ u, exec (.slotMapWrite t i) s = .next u ∧ u.lane i = { s.lane i with mapWritten := true } ∧ (∀ j, j ≠ i → u.lane j = s.lane j) ∧
          let last := ∀ j, j ≠ i → (s.lane j).mapWritten = true
          (last → u = { s with
            now := now
            lanes := u.lanes
            images := { s.images with
              mapPending := false
              oldMap := none } }) ∧
          (¬last → u = { s with now := now, lanes := u.lanes })) ∧
      (s.images.mapPending = false → exec (.slotMapWrite t i) s = .next (State.tick t s))) ∧
    (∀ (k : Nat) (g : CopyRun), (s.stagingAt k).copy = some g → (g.guarded = true ∨ g.abandoned = true) →
      ∃ u, exec (.stageWriteCopyComplete t k) s = .next u ∧
        u.stagingAt k = { s.stagingAt k with state := .isOpen, copy := none, high := max (s.stagingAt k).high (g.offset + g.length) } ∧
        (∀ j, j ≠ k → u.stagingAt j = s.stagingAt j) ∧
        u.images.regions = s.images.regions.set (s.stagingRegion k) (Mem.store (s.images.stagingMem k) g.offset (s.copiedBytes g)) ∧
        (g.touched = [] → s.copiedBytes g = Mem.bytes s.xram.mem g.xram g.length) ∧
        (g.offset % 4 = 0 → g.length % 4 = 0 → ∀ i, u.lane i = loaderWrote (s.stagingRegion k) g.offset g.length i (s.lane i)) ∧
        u = { s with
          now := now
          lanes := u.lanes
          host := { s.host with recs := u.host.recs }
          xram := (s.releaseGuard g).xram
          freeCtr := s.freeCtr + g.length
          images := { s.images with
            staging := u.images.staging
            regions := u.images.regions } }) ∧
    (∀ (k : Nat), (s.stagingAt k).copy = none → exec (.stageWriteCopyComplete t k) s = .next (State.tick t s)) ∧
    (∃ u, exec (.xramUnguarded t) s = .next u ∧
      let due := fun (g : CopyRun) => !g.guarded && !g.abandoned && decide (g.since + 5000000 ≤ now)
      (∀ k, k ≤ 1 → u.stagingAt k = { s.stagingAt k with copy := (s.stagingAt k).copy.map (fun g => if due g then { g with abandoned := true } else g) }) ∧
      u.ki40 = { s.ki40 with loadCopy := s.ki40.loadCopy.map (fun g => if due g then { g with abandoned := true } else g) } ∧
      (∀ n, n = ((List.range 2).filter (fun k => (s.stagingAt k).copy.any due)).length + flag (s.ki40.loadCopy.any due) →
        let note := queuedOf 0x0909 0 0 Origin.internal [payloadFields [(24, 1, 0), (25, 1, s.lead.index), (26, 1, 0)]]
        u.almanac = { s.almanac with events := s.almanac.events ++ List.replicate n note }) ∧
      u = { s with now := now, ki40 := u.ki40, almanac := u.almanac, images := { s.images with staging := u.images.staging } })

/-! ## The standby pair (12) -/

/-- R201, R447 to R449, R452 to R455, R459, R466, Tables 12.2, 12.4: a frame of the peer that passes R447. A heartbeat brings the peer's role, state, epoch and acknowledgements, and at a standby the comparison of digests and states; an INTAKE frame a part of its list; a FORCE frame
the stop fast path; a CHANGE frame an arm by image and target, an abort or the peer's staged images, which a unit that asks gets in turn; a SWITCH frame a Change Point. At a module outside a pair nothing happens. The layouts of INTAKE, FORCE, CHANGE and SWITCH payloads are the model's (log entry 22). -/
def Obligations.FramesOfThePeer : Prop :=
  ∀ (t : Nat) (link : PairLink) (f : PairFrame) (s : State),
    let p := s.heardPair t link f
    let kept := fun (u : State) => s.sameLanes u ∧ u = { s with now := max s.now t, lanes := u.lanes, pair := u.pair }
    ((s.inPair = false ∨ s.sealBank.ki40 = true) →
      ∀ i ∈ [Instr.heartbeat t link f, .intakeFrame t link f, .forceFrame t link f, .changeFrame t link f, .switchFrame t link f, .copyReq t link f],
        exec i s = .next (State.tick t s)) ∧
    (s.goodPairFrame link f →
      let b := beatOf f.payload
      let fresh := decide (s.pair.lastCompared < b.digestTime)
      let note := queuedOf 0x0804 0 0 Origin.internal [payloadFields [(24, 8, b.digestTime)]]
      let same := b.degradation = 0 ∧ bitsAt b.modes 2 2 ≠ 2 ∧ b.imageId = imgId s.img ∧ b.modes = s.modesByte
      let inStep := s.pair.standby = .copying ∧ s.pair.caughtUp = true
      let q : Pair := { p with
        beat := some b
        heardRole := some b.role
        heardEpoch := max s.pair.heardEpoch b.epoch
        pairAlarm := false
        peerStandby := if b.role = 2 ∧ p.silent1 = false then standbyOf b.state else .notReady
        intakeAck := if s.pair.role = .active then b.intakeAck else s.pair.intakeAck
        switchAck := if s.pair.role = .active then b.switchAck else s.pair.switchAck
        epoch := if s.pair.role = .standby ∧ b.role = 1 then b.epoch else s.pair.epoch }
      ((s.pair.role ≠ .standby ∨ b.role ≠ 1) → ∃ u, exec (.heartbeat t link f) s = .next u ∧ kept u ∧ u.pair = q) ∧
      (s.pair.role = .standby → b.role = 1 → s.digestAt b.digestTime = some b.digest →
        let matched : Pair := { q with
          differs := if fresh then 0 else s.pair.differs
          lastCompared := max s.pair.lastCompared b.digestTime
          matchSince := some (s.pair.matchSince.getD (max s.now t)) }
        (s.pair.standby ≠ .ready → ∃ u, exec (.heartbeat t link f) s = .next u ∧ kept u ∧ u.pair = matched) ∧
        (s.pair.standby = .ready → same → ∃ u, exec (.heartbeat t link f) s = .next u ∧ kept u ∧ u.pair = { matched with differSince := none }) ∧
        (∀ o, s.pair.standby = .ready → s.pair.beat = some o → (o.degradation = 0 ∧ b.degradation ≠ 0 ∨ bitsAt o.modes 2 2 ≠ 2 ∧ bitsAt b.modes 2 2 = 2) →
          ∃ u, exec (.heartbeat t link f) s = .next u ∧ u.pair.standby = .notReady ∧ u.pair.outputDiffs = s.pair.outputDiffs ∧
            u.almanac = { s.almanac with events := s.almanac.events ++ [pairRecord 2 0 6] } ∧
            s.sameLanes u ∧ u = { s with now := max s.now t, lanes := u.lanes, pair := u.pair, almanac := u.almanac })) ∧
      (∀ d, s.pair.role = .standby → b.role = 1 → s.digestAt b.digestTime = some d → d ≠ b.digest → fresh = true →
        let counted := fun (u : State) => u.pair.outputDiffs = s.pair.outputDiffs + 1 ∧ s.sameLanes u ∧
          u = { s with now := max s.now t, lanes := u.lanes, pair := u.pair, almanac := u.almanac }
        (s.pair.standby ≠ .ready → ¬inStep →
          ∃ u, exec (.heartbeat t link f) s = .next u ∧ counted u ∧ u.pair.standby = s.pair.standby ∧ u.pair.matchSince = none ∧
            u.almanac = { s.almanac with events := s.almanac.events ++ [note] }) ∧
        (inStep →
          ∃ u, exec (.heartbeat t link f) s = .next u ∧ counted u ∧ u.pair.standby = .notReady ∧
            u.almanac = { s.almanac with events := s.almanac.events ++
              [note, pairRecord 2 0 3, queuedOf 0x0805 0 0 Origin.internal [payloadFields [(24, 1, 2), (25, 1, 4)]]] }) ∧
        (s.pair.standby = .ready → same →
          ∃ u, exec (.heartbeat t link f) s = .next u ∧ counted u ∧
            (s.pair.differs < 2 → u.pair.standby = .ready ∧ u.pair.differs = s.pair.differs + 1 ∧
              u.almanac = { s.almanac with events := s.almanac.events ++ [note] }) ∧
            (2 ≤ s.pair.differs → u.pair.standby = .notReady ∧
              u.almanac = { s.almanac with events := s.almanac.events ++ [note, pairRecord 2 0 4] }))) ∧
      (∃ u, exec (.intakeFrame t link f) s = .next u ∧ kept u ∧
        let at_ := rd64 f.payload 0
        let off := rd32 f.payload 8
        let total := rd32 f.payload 12
        u.pair = if s.pair.role = .standby ∧ s.pair.standby ≠ .notReady ∧ s.pair.intakeAck < at_ then
          p.takePart at_ off total (slice f.payload 16 (min 1024 (total - off))) else p) ∧
      (∃ u, exec (.forceFrame t link f) s = .next u ∧ u.pair = p ∧
        s.lanesAfter u (if s.pair.role = .standby then s.forcedBy t (s.forcedElements (rd16 f.payload 0) (f.payload.drop 2)) else laneKept) ∧
        u = { s with now := max s.now t, lanes := u.lanes, pair := u.pair }) ∧
      (let op := rd16 f.payload 0
       let target := rd8 f.payload 3
       let image := rd64 f.payload 8
       let point := rd64 f.payload 16
       (op = 0x0405 → target ≠ 1 →
         ∃ u, exec (.changeFrame t link f) s = .next u ∧ kept u ∧ u.pair = { p with peerStaged := readStaged f.payload }) ∧
       (op = 0x0405 → target = 1 →
         let told := b16 0x0405 ++ b8 s.stagedImages.length ++ b8 0 ++ (s.stagedImages.map (fun x => b64 x.1 ++ b8 x.2)).flatten
         ∃ u, exec (.changeFrame t link f) s = .next u ∧ s.sameLanes u ∧ u.sent = s.sent ++ s.pairSent .sl0 4 told ++ s.pairSent .sl1 4 told ∧
           u.pair = { p with
             peerStaged := readStaged f.payload
             txSeq0 := s.pairSeq .sl0
             txSeq1 := s.pairSeq .sl1 } ∧
           u = { s with now := max s.now t, lanes := u.lanes, pair := u.pair, sent := u.sent }) ∧
       (op ≠ 0x0405 → s.pair.role ≠ .standby → ∃ u, exec (.changeFrame t link f) s = .next u ∧ kept u ∧ u.pair = p) ∧
       (op = 0x0406 → s.pair.role = .standby → s.pair.changeDue ≠ some (point, image, target) →
         let free := s.images.pendingArm = none ∧ s.images.staging.all (fun g => g.state != .armed) = true ∧ State.armPoint (State.tick t s) = point
         ∃ u, exec (.changeFrame t link f) s = .next u ∧ s.sameLanes u ∧ u.pair = { p with changeDue := some (point, image, target) } ∧
           (∀ k, s.slotWith image target .verified = some k → free → u.images = { s.images with pendingArm := some (k, .session 0 0) }) ∧
           ((s.slotWith image target .verified = none ∨ ¬free) → u.images = s.images) ∧
           u = { s with now := max s.now t, lanes := u.lanes, pair := u.pair, images := u.images }) ∧
       (∀ k, op = 0x0407 → s.pair.role = .standby → s.slotWith image target .armed = some k →
         ∃ u, exec (.changeFrame t link f) s = .next u ∧ s.sameLanes u ∧
           u.stagingAt k = { s.stagingAt k with abortStamps := some (s.lanes.mapI (fun i _ => State.laneTime (State.tick t s) i)) } ∧
           (∀ j, j ≠ k → u.stagingAt j = s.stagingAt j) ∧
           u = { s with
             now := max s.now t
             lanes := u.lanes
             pair := p
             images := { s.images with staging := u.images.staging } })) ∧
      (∃ u, exec (.switchFrame t link f) s = .next u ∧ kept u ∧
        u.pair = if s.pair.role = .standby ∧ s.pair.standby = .ready ∧ s.pair.switchAt ≠ some (rd64 f.payload 0) then
          { p with switchAt := some (rd64 f.payload 0), epochNext := some s.newEpoch, epochPending := true } else p))

/-- R462 to R465, Table 12.4: an active unit grants a COPY_REQ with the first Change Point at least 2 ms away, or refuses it; a granted standby is COPYING. It collects the COPY frames in their order, and with the last one, where the hash agrees, it holds the copy set. A part missed, two copies that differ or a wrong hash fail the
copy. The catch-up completes within 200 ms of the copy point. The reasons' codes and the payloads' layouts are the model's (log entry 22). -/
def Obligations.StateCopyOfAPair : Prop :=
  ∀ (t : Nat) (s : State),
    let now := max s.now t
    let copying := s.pair.role = .standby ∧ s.pair.standby = .copying
    let failed : Pair := { s.pair with
      standby := .notReady
      copyPoint := none
      copyBytes := []
      copyNext := 0
      copyHash := none
      copyDone := false
      caughtUp := false
      matchSince := none
      differs := 0
      differSince := none
      intakeParts := [] }
    let notes := fun (n : Nat) => [pairRecord 2 0 3, queuedOf 0x0805 0 0 Origin.internal [payloadFields [(24, 1, 2), (25, 1, n)]]]
    (∀ (link : PairLink) (f : PairFrame), s.goodPairFrame link f →
      let p := s.heardPair t link f
      (s.pair.role = .active → rd8 f.payload 0 = 0 → s.pair.copyPoint = none → s.copyRefusal = none →
        let point := (now + 2 * ms + 10 * ms - 1) / (10 * ms) * (10 * ms)
        ∃ u, exec (.copyReq t link f) s = .next u ∧ s.sameLanes u ∧
          u.sent = s.sent ++ s.pairSent .sl0 5 (copyReqPayload 1 0 point) ++ s.pairSent .sl1 5 (copyReqPayload 1 0 point) ∧
          u.pair = { p with copyPoint := some point, peerStandby := .copying, txSeq0 := s.pairSeq .sl0, txSeq1 := s.pairSeq .sl1 } ∧
          u.almanac = { s.almanac with events := s.almanac.events ++ [queuedOf 0x0805 0 0 Origin.internal [payloadFields [(24, 1, 0)]]] } ∧
          u = { s with now := now, lanes := u.lanes, pair := u.pair, sent := u.sent, almanac := u.almanac }) ∧
      (∀ n, s.pair.role = .active → rd8 f.payload 0 = 0 → s.pair.copyPoint = none → s.copyRefusal = some n →
        ∃ u, exec (.copyReq t link f) s = .next u ∧ s.sameLanes u ∧
          u.sent = s.sent ++ s.pairSent .sl0 5 (copyReqPayload 2 n 0) ++ s.pairSent .sl1 5 (copyReqPayload 2 n 0) ∧
          u.pair = { p with txSeq0 := s.pairSeq .sl0, txSeq1 := s.pairSeq .sl1 } ∧
          u.almanac = { s.almanac with events := s.almanac.events ++ [queuedOf 0x0805 0 0 Origin.internal [payloadFields [(24, 1, 1), (25, 1, n)]]] } ∧
          u = { s with now := now, lanes := u.lanes, pair := u.pair, sent := u.sent, almanac := u.almanac }) ∧
      (s.pair.role = .standby → s.pair.copyAsked = true → rd8 f.payload 0 = 1 →
        ∃ u, exec (.copyReq t link f) s = .next u ∧ s.sameLanes u ∧
          u.pair = { p with
            standby := .copying
            copyAsked := false
            copyPoint := some (rd64 f.payload 8)
            copyBytes := []
            copyNext := 0
            copyHash := none
            copyDone := false
            caughtUp := false
            differs := 0
            matchSince := none } ∧
          u.almanac = { s.almanac with events := s.almanac.events ++ [pairRecord 2 1 1] } ∧
          u = { s with now := now, lanes := u.lanes, pair := u.pair, almanac := u.almanac })) ∧
    (∀ a b : PairFrame, s.goodPairFrame .sl0 a → s.goodPairFrame .sl1 b → copying → s.pair.copyDone = false →
      let d := a.payload.drop 16
      let ok := a.payload = b.payload ∧ rd64 a.payload 0 = s.pair.copyNext
      let all := s.pair.copyBytes ++ a.payload.drop 64
      (ok → rd64 a.payload 8 = 0 →
        ∃ u, exec (.copyFrame t a b) s = .next u ∧ s.sameLanes u ∧ u.pair.copyBytes = s.pair.copyBytes ++ d ∧ u.pair.copyNext = s.pair.copyNext + d.length ∧
          u.pair.standby = .copying ∧ u.pair.rxSeq0 = a.seq ∧ u.pair.rxSeq1 = b.seq ∧ u = { s with now := now, lanes := u.lanes, pair := u.pair }) ∧
      (ok → rd64 a.payload 8 = 1 → sha384 all = slice a.payload 16 48 →
        ∃ u, exec (.copyFrame t a b) s = .next u ∧ u.pair.copyDone = true ∧ u.pair.standby = .copying ∧ u.pair.copyHash = some (slice a.payload 16 48) ∧
          let w := State.loadCopy (State.tick t s) all (s.pair.copyPoint.getD 0)
          (∀ i, (u.lane i).engine = (w.lane i).engine ∧ (u.lane i).program = (w.lane i).program ∧ (u.lane i).inputs.streams = (w.lane i).inputs.streams) ∧
          u.images.params = w.images.params ∧ u.nextNumber = w.nextNumber ∧ u.pair.epoch = w.pair.epoch ∧ u.almanac = s.almanac) ∧
      (¬ok → ∃ u, exec (.copyFrame t a b) s = .next u ∧ s.sameLanes u ∧ u.pair.standby = .notReady ∧ u.pair.copyBytes = [] ∧
        u.almanac = { s.almanac with events := s.almanac.events ++ notes 2 }) ∧
      (ok → rd64 a.payload 8 = 1 → sha384 all ≠ slice a.payload 16 48 →
        ∃ u, exec (.copyFrame t a b) s = .next u ∧ s.sameLanes u ∧ u.pair.standby = .notReady ∧ u.pair.copyBytes = [] ∧
          u.almanac = { s.almanac with events := s.almanac.events ++ notes 3 })) ∧
    (copying → s.pair.copyDone = true → s.pair.caughtUp = false →
      (now ≤ s.pair.copyPoint.getD 0 + 200 * ms →
        exec (.catchUpComplete t) s = .next { s with now := now, pair := { s.pair with caughtUp := true, matchSince := none } }) ∧
      (s.pair.copyPoint.getD 0 + 200 * ms < now →
        exec (.catchUpComplete t) s = .next { s with now := now, pair := failed, almanac := { s.almanac with events := s.almanac.events ++ notes 5 } })) ∧
    (¬(copying ∧ s.pair.copyDone = true ∧ s.pair.caughtUp = false) → exec (.catchUpComplete t) s = .next (State.tick t s))

/-- R440, R448, R449, R456, R458, R459, R466, Tables 12.3, 12.5: a unit sends its heartbeat on both links every 100 µs; at the end of its pair listen it takes its role, an active unit with the smallest epoch of its parity above every one it knows, and asks its peer for the images staged there (log entry 22); a path without an accepted frame for 3 ms is silent; the quarantine ends; an epoch
stands in flash; a switchover without an acknowledgement 1 ms before its Change Point is abandoned; SWITCH_DUE is set and recorded once. -/
def Obligations.RolesPathsAndEpochsOfAPair : Prop :=
  ∀ (t : Nat) (s : State),
    let now := max s.now t
    let p := s.pair
    let alarm := fun (k : Nat) => queuedOf 0x0803 0 0 Origin.internal [payloadFields [(24, 1, k)]]
    let quiet := fun (i : Instr) => exec i s = .next (State.tick t s)
    let asks := b16 0x0405 ++ b8 s.stagedImages.length ++ b8 1 ++ (s.stagedImages.map (fun x => b64 x.1 ++ b8 x.2)).flatten
    (s.sendsBeats = true → t % 100000 = 0 →
      exec (.heartbeatSend t) s = .next { s with
        now := now
        pair := s.pairToldBoth
        sent := s.sent ++ s.pairSent .sl0 1 s.heartbeatBytes ++ s.pairSent .sl1 1 s.heartbeatBytes }) ∧
    ((s.sendsBeats = false ∨ t % 100000 ≠ 0) → quiet (.heartbeatSend t)) ∧
    (s.hasImage = true → p.role = .undecided → p.listenSince + 50 * ms ≤ now → s.ndezo.dawn = .joined →
      ∃ u q, exec (.pairListenEnd t) s = .next u ∧ u.pair = State.pairToldBoth { s with pair := q } ∧
        u.sent = s.sent ++ State.pairSent { s with pair := q } .sl0 4 asks ++ State.pairSent { s with pair := q } .sl1 4 asks ∧
        u = { s with now := now, pair := u.pair, sent := u.sent, almanac := u.almanac } ∧
        (p.heardRole = some 1 → q = { p with role := .standby, standby := .notReady, epoch := p.heardEpoch } ∧
          u.almanac = { s.almanac with events := s.almanac.events ++ [pairRecord 2 0 1] }) ∧
        (∀ r, p.heardRole = some r → r ≠ 1 → s.isLower = false → q = { p with role := .standby, standby := .notReady, epoch := p.heardEpoch } ∧
          u.almanac = { s.almanac with events := s.almanac.events ++ [pairRecord 2 0 2] }) ∧
        (∀ r, p.heardRole = some r → r ≠ 1 → s.isLower = true →
          q = { p with role := .active, epoch := q.epoch, epochPending := true, pairAlarm := false } ∧
          u.almanac = { s.almanac with events := s.almanac.events ++ [pairRecord 1 0xFF 3] }) ∧
        (p.heardRole = none → q = { p with role := .active, epoch := q.epoch, epochPending := true, pairAlarm := true } ∧
          u.almanac = { s.almanac with events := s.almanac.events ++ [pairRecord 1 0xFF 4, alarm 2] }) ∧
        (q.role = .active →
          let known := max (max p.epoch p.heardEpoch) (max p.epochFlash (p.epochNext.getD 0))
          q.epoch % 2 = (if s.isLower then 0 else 1) ∧ known < q.epoch ∧ q.epoch ≤ known + 2)) ∧
    ((s.hasImage = false ∨ now < p.listenSince + 50 * ms ∨ s.ndezo.dawn ≠ .joined) → quiet (.pairListenEnd t)) ∧
    (p.role ≠ .undecided → quiet (.pairListenEnd t)) ∧
    (s.inPair = true →
      (p.last1 + 3 * ms ≤ now → exec (.pathSilent t .path1) s = .next { s with now := now, pair := { p with silent1 := true } }) ∧
      (now < p.last1 + 3 * ms → quiet (.pathSilent t .path1)) ∧
      (p.last2 + 3 * ms ≤ now → p.silent2 = false →
        let lone := p.role = .standby ∧ p.standby = .ready ∧ p.silent1 = false
        exec (.pathSilent t .path2) s = .next { s with
          now := now
          pair := { p with silent2 := true }
          almanac := { s.almanac with events := s.almanac.events ++ if lone then [alarm 1] else [] } }) ∧
      (now < p.last2 + 3 * ms → quiet (.pathSilent t .path2))) ∧
    (s.inPair = false → quiet (.pathSilent t .path1) ∧ quiet (.pathSilent t .path2)) ∧
    (∀ q, p.quarantineFrom = some q →
      (q + 5 * ms + s.t0 + 2 * s.domainCycle ≤ now → exec (.quarantineEnd t) s = .next { s with now := now, pair := { p with quarantineFrom := none } }) ∧
      (now < q + 5 * ms + s.t0 + 2 * s.domainCycle → quiet (.quarantineEnd t))) ∧
    (p.epochPending = true → (p.epochNext = none ∨ p.switchAt = none) →
      exec (.epochFlashWrite t) s = .next { s with now := now, pair := { p with epochFlash := p.epoch, epochPending := false } }) ∧
    (∀ e c, p.epochPending = true → p.epochNext = some e → p.switchAt = some c →
      exec (.epochFlashWrite t) s = .next { s with now := now, pair := { p with epochFlash := e, epochPending := false, switchAck := c } }) ∧
    (p.epochPending = false → quiet (.epochFlashWrite t)) ∧
    (∀ c, p.role = .active → p.switchAt = some c →
      (p.switchAck ≠ c → c ≤ now + ms →
        ∃ u, exec (.switchAbandoned t) s = .next u ∧ u = { s with
          now := now
          pair := { p with switchAt := none }
          host := { s.host with recs := u.host.recs }
          almanac := { s.almanac with events := s.almanac.events ++ [queuedOf 0x0802 0 0 Origin.internal
            [payloadFields [(24, 1, 2), (28, 4, p.epoch)], payloadFields [(24, 4, p.epoch)], payloadFields [(24, 8, s.snap.number)]]] } }) ∧
      ((p.switchAck = c ∨ now + ms < c) → quiet (.switchAbandoned t))) ∧
    (s.inPair = true → p.lastSwitch ≠ 0 → p.switchDue = false → s.param 11 ≤ State.hoursSince (State.tick t s) →
      exec (.switchDue t) s = .next { s with
        now := now
        pair := { p with switchDue := true }
        almanac := { s.almanac with events := s.almanac.events ++ [alarm 5] } }) ∧
    ((s.inPair = false ∨ p.lastSwitch = 0 ∨ p.switchDue = true ∨ State.hoursSince (State.tick t s) < s.param 11) → quiet (.switchDue t))

/-! ## KI-40 mode (17) -/

/-- R599, R602, R603, R612, Tables 17.3, 17.4: STATUS, ROUTE_QUERY, ELEMENT_QUERY and EVENT_READ in KI-40 mode. A good copy with parameters in range has one reply on its own network, held for its window, from the snapshot of the latest cycle start (before the first from the present state: the
model's choice, its log entry on the KI-40 view), or from the Almanac; nothing else changes. -/
def Obligations.Ki40QueriesHaveOneHeldReply : Prop :=
  ∀ (t : Nat) (c : Ki40Copy) (s : State), s.ki40Ready t →
    let v := State.ki40View (State.tick t s)
    let answered := fun (op status : Nat) (data : Bytes) (u : State) => s.sameLanes u ∧ u = { s with
      now := max s.now t
      host := s.countedHost t c.net
      ki40 := s.heldKi40 c [s.ki40ReplyTo t op c c.net status data]
      lanes := u.lanes }
    let first := rd8 c.params 0
    let n := rd8 c.params 1
    let e := rd16 c.params 0
    let m := rd8 c.params 2
    (s.goodKi40 0x01 c → ∃ u, exec (.ki40Status t c) s = .next u ∧ answered 0x01 0 v.statusData u) ∧
    (s.goodKi40 0x0B c → ((1 ≤ n ∧ n ≤ 44 ∧ first + n ≤ 256) → ∃ u, exec (.ki40RouteQuery t c) s = .next u ∧ answered 0x0B 0 (v.routeData first n) u) ∧
      (¬(1 ≤ n ∧ n ≤ 44 ∧ first + n ≤ 256) → ∃ u, exec (.ki40RouteQuery t c) s = .next u ∧ answered 0x0B 6 [] u)) ∧
    (s.goodKi40 0x0C c → ((1 ≤ m ∧ m ≤ 88 ∧ e + m ≤ 512) → ∃ u, exec (.ki40ElementQuery t c) s = .next u ∧ answered 0x0C 0 (v.elementData e m) u) ∧
      (¬(1 ≤ m ∧ m ≤ 88 ∧ e + m ≤ 512) → ∃ u, exec (.ki40ElementQuery t c) s = .next u ∧ answered 0x0C 6 [] u)) ∧
    (s.goodKi40 0x10 c → ∃ u, exec (.eventRead t c) s = .next u ∧ answered 0x10 0 (State.eventData (State.tick t s) (rd32 c.params 0)) u)

/-- R597 to R601, R604, R612, Tables 17.4, 17.5: a KI-40 command acts as its native equivalent of class OPERATOR. A permissive one is decided at its second copy, a restrictive one at its first with the forces of Table 3.9; both
networks have a reply in their window, and its COMMAND record is queued. -/
def Obligations.Ki40CommandsActAsTheirNativeEquivalents : Prop :=
  ∀ (t : Nat) (c : Ki40Copy) (s : State), s.ki40Ready t → s.pair.role = .unpaired → s.pair.deferred = [] →
    let r := rd8 c.params 0
    let e := rd16 c.params 0
    let n := rd8 c.params 0
    let last := rd16 c.params 2
    let en := s.leadLane.engine.entry r
    let runs := s.inNadir = false ∧ s.powered = true ∧ s.control.mode = .run
    let framed := fun (u : State) => u = { s with now := u.now, host := u.host, lanes := u.lanes, ki40 := u.ki40, almanac := u.almanac }
    let taken := fun (op native : Nat) (i : EngineCmd) (data : Bytes) (g : LaneId → Lane → Lane) (u : State) =>
      s.ki40Decided u t op native c 1 data (fun h => h.awaits (ki40Intake op native c i)) g ∧ framed u
    (s.secondKi40 0x02 c → runs → (routeDef s.img r).isSome = true → s.changing true r = false → s.images.takenProfile = none → en.state = .idle →
      r ∉ s.waitingRoutes → s.routeLoad < 1024 → s.snap.elemLock &&& reqConflict s.img r = 0 →
      ∃ u, exec (.ki40RouteSet t c) s = .next u ∧ taken 0x02 0x0101 (.routeSet r) [] laneKept u) ∧
    (s.firstKi40 0x03 c → (routeDef s.img r).isSome = true → (en.state ≠ .idle ∨ r ∈ s.waitingRoutes) → en.state ≠ .occupied → en.state ≠ .emergTiming →
      ∃ u, exec (.ki40RouteCancel t c) s = .next u ∧
        s.ki40Decided u t 0x03 0x0102 c 1 []
          (fun h => ({ h with awaiting := h.awaiting.filter (fun i => i.cmd != EngineCmd.routeSet r) }).awaits
            (ki40Intake 0x03 0x0102 c (.routeCancel r (s.waitingRoutes.contains r))))
          (s.forcedBy t (s.cancelForce r)) ∧ framed u) ∧
    (s.secondKi40 0x04 c → runs → s.changing true r = false → ((routeDef s.img r).map (·.emergRel)) = some true →
      (en.state = .locked ∨ en.state = .cleared ∨ en.state = .approachLocked ∨ en.state = .occupied) →
      ∃ u, exec (.ki40RouteReleaseTimed t c) s = .next u ∧ taken 0x04 0x0103 (.routeRelease r) [] laneKept u) ∧
    (s.firstKi40 0x05 c → s.programmed e tySignal = true → s.powered = true →
      ∃ u, exec (.ki40SignalStop t c) s = .next u ∧ taken 0x05 0x0105 (.signalStop e) [] (s.forcedBy t [e]) u) ∧
    (s.firstKi40 0x06 c → s.powered = true →
      ∃ u, exec (.ki40AllStop t c) s = .next u ∧ taken 0x06 0x0106 .allStop [] (s.forcedBy t (bitList (typeMask s.img tySignal))) u) ∧
    (s.secondKi40 0x07 c → runs → s.changing false e = false → s.programmed e tyPoint = true → (rd8 c.params 2 = 1 ∨ rd8 c.params 2 = 2) → s.snap.elemLocked e = false →
      getBit s.blockAhead e = false → getBit (s.leadLane.engine.reservation s.img) e = false → e ∉ s.movingPoints s.leadLane.engine →
      ∃ u, exec (.ki40PointMove t c) s = .next u ∧ taken 0x07 0x0201 (.pointMove e (rd8 c.params 2)) [] laneKept u) ∧
    (s.firstKi40 0x08 c → s.programmed e tyPoint = true → s.powered = true →
      ∃ u, exec (.ki40PointBlock t c) s = .next u ∧ taken 0x08 0x0202 (.pointBlock e) [] (s.forcedBy t [e]) u) ∧
    (s.secondKi40 0x09 c → s.inNadir = false → s.powered = true → e ≤ last →
      let count := ((List.range (last + 1 - e)).filter (fun k => getBit s.blockAhead (e + k))).length
      count ≠ 0 → ∃ u, exec (.ki40PointUnblock t c) s = .next u ∧ taken 0x09 0x0203 (.pointUnblock e last) (b16 count) laneKept u) ∧
    (s.secondKi40 0x0A c → runs → s.changing false e = false → (elemAt s.img e).etype = tySection → (s.snap.nibble e = 0 ∨ s.snap.nibble e = 2) →
      s.snap.elemLocked e = false → (elemAt s.img e).permFirst ≠ 0xFFFF →
      ∃ u, exec (.ki40SectionReset t c) s = .next u ∧ taken 0x0A 0x0204 (.sectionReset e) [] laneKept u) ∧
    (∀ m, s.secondKi40 0x0D c → n ≤ 1 → modeOf n = some m → s.inNadir = false → s.modeRefused m 0 = false →
      ∃ u, exec (.ki40Mode t c) s = .next u ∧
        s.ki40Decided u t 0x0D 0x0401 c 1 [] (fun h => { h with awaiting := s.dropWaitingMode.host.awaiting }) laneKept ∧
        u = { s with
          now := u.now
          host := u.host
          lanes := u.lanes
          ki40 := u.ki40
          almanac := u.almanac
          control := { s.control with
            pendingMode := some (m, some (.ki40 c.seq))
            pendingSteps := 0
            pendingBreaks := none } }) ∧
    (∀ p, s.secondKi40 0x0E c → powerOf n = some p → ¬(s.control.power = .idle ∧ p = .warm ∧ s.sealBank.role = 0xFF) → ¬(s.inNadir = true ∧ p = .live) →
      (bitAt (rd8 c.params 1) 0 = true → p = .off) → s.switchLocked p = false → s.powerRefused p = false →
      ∃ u, exec (.ki40Power t c) s = .next u ∧
        s.ki40Decided u t 0x0E 0x0501 c 1 [] (fun h => { h with awaiting := s.dropWaitingPower.host.awaiting }) laneKept ∧
        u = { s with
          now := u.now
          host := u.host
          lanes := u.lanes
          ki40 := u.ki40
          almanac := u.almanac
          control := { s.control with
            pendingPower := some (p, some (.ki40 c.seq))
            pendingTest := bitAt (rd8 c.params 1) 0
            pendingAgain := false } }) ∧
    (s.secondKi40 0x11 c → rd64 c.params 0 ≠ 0 →
      ∃ u, exec (.ki40TimeSet t c) s = .next u ∧ s.ki40Decided u t 0x11 0x0604 c 1 [] id laneKept ∧
        u = { s with
          now := u.now
          host := u.host
          lanes := u.lanes
          ki40 := u.ki40
          almanac := u.almanac
          pendingWall := some (rd64 c.params 0, .ki40 c.seq) })

/-- R595 to R597, R599, R602, R605, Table 17.4: DATA_LOAD, whose phase 0 zero-fills the load region with OFFSET 0 and starts the copy from the exchange RAM, and whose phase 1 starts the admission, with the end of each; a datagram that is no
good copy; the reply windows; the KI-40 cycle. That DATA_LOAD has no COMMAND record, and is refused while a copy or an admission runs, is the model's choice (log entry 46). -/
def Obligations.DataLoadRepliesAndCyclesOfKi40 : Prop :=
  ∀ (t : Nat) (s : State),
    let now := max s.now t
    let region := (s.images.profiles.getD 0 { region := 6, status := .empty, hash := [] }).region
    (∀ c : Ki40Copy, s.ki40Ready t → s.secondKi40 0x20 c → s.sealClosed 15 = true → s.control.power = .idle → s.ki40.loadCopy = none → s.ki40.load ≠ 2 →
      let off := rd32 c.params 4
      let held := s.heldKi40 c [s.ki40ReplyTo t 0x20 c .x 1 [], s.ki40ReplyTo t 0x20 c .y 1 []]
      (rd8 c.params 0 = 0 → loadParamsOk c.params = true →
        let free := s.xram.lockWord 0 = 0
        ∃ u, exec (.dataLoadPhase0 t c) s = .next u ∧ s.lanesAfter u (if off = 0 then loaderWrote (s.stagingRegion 0) 0 67108864 else laneKept) ∧
          u.ki40 = { held with
            load := 1
            loadCheck := 0
            loadHigh := if off = 0 then 0 else s.ki40.loadHigh
            loadCopy := some { offset := off, length := rd32 c.params 8, xram := rd32 c.params 12, since := now, guarded := decide free, abandoned := false,
                               key := some (.ki40 c.seq), touched := [] } } ∧
          u.host = { s.countedHost t c.net with recs := u.host.recs } ∧
          u = { s with
            now := now
            host := u.host
            lanes := u.lanes
            ki40 := u.ki40
            xram := if free then s.xram.put (lockWordAddr 0) (b32 (2 ^ s.lead.index)) else s.xram
            images := { s.images with regions := if off = 0 then s.images.regions.set (s.stagingRegion 0) [] else s.images.regions } }) ∧
      (rd8 c.params 0 = 1 →
        ∃ u, exec (.dataLoadPhase1 t c) s = .next u ∧ s.sameLanes u ∧ u.ki40 = { held with load := 2 } ∧
          u.host = { s.countedHost t c.net with recs := u.host.recs } ∧
          u = { s with now := now, host := u.host, lanes := u.lanes, ki40 := u.ki40 })) ∧
    (∀ g : CopyRun, s.ki40.loadCopy = some g → (g.guarded = true ∨ g.abandoned = true) →
      ∃ u, exec (.dataLoadCopyComplete t) s = .next u ∧ (g.touched = [] → s.copiedBytes g = Mem.bytes s.xram.mem g.xram g.length) ∧
        (g.offset % 4 = 0 → g.length % 4 = 0 → ∀ i, u.lane i = loaderWrote (s.stagingRegion 0) g.offset g.length i (s.lane i)) ∧ u = { s with
        now := now
        lanes := u.lanes
        host := { s.host with recs := u.host.recs }
        xram := (s.releaseGuard g).xram
        freeCtr := s.freeCtr + g.length
        ki40 := { s.ki40 with
          loadCopy := none
          loadHigh := max s.ki40.loadHigh (g.offset + g.length) }
        images := { s.images with regions := s.images.regions.set (s.stagingRegion 0) (Mem.store (s.images.stagingMem 0) g.offset (s.copiedBytes g)) } }) ∧
    (∀ (o : Agreement) (p : Profile), s.ki40.load = 2 → s.images.profiles[0]? = some p →
      let m := s.images.stagingMem 0
      let check := admission m s.ki40.loadHigh s.trustedKeys s.identity.part true true
      let kept := Mem.window m 0 (imgLen m)
      let fails := fun (c : Nat) (u : State) => u = { s with
          now := now
          lanes := u.lanes
          freeCtr := u.freeCtr
          ki40 := { s.ki40 with
            load := 4
            loadCheck := c }
          images := { s.images with lastCheck := c }
          almanac := { s.almanac with events := s.almanac.events ++
            [queuedOf 0x0301 0 0 Origin.internal [payloadFields [(24, 1, 4), (25, 1, c), (28, 4, imgId m)]]] } }
      (s.twoAgree o = true → check = 0 → ∃ u, exec (.ki40LoadComplete t o) s = .next u ∧ s.charged now o (loaderWrote region 0 67108864) u ∧ u = { s with
          now := now
          lanes := u.lanes
          images := { s.images with
            regions := s.images.regions.set region kept
            flash := s.images.flash.set region kept
            profiles := s.images.profiles.set 0 { p with status := .valid, hash := imageHash m } }
          ki40 := { s.ki40 with
            load := 3
            loadCheck := 0 } }) ∧
      (s.twoAgree o = true → check ≠ 0 →
        ∃ u, exec (.ki40LoadComplete t o) s = .next u ∧ s.charged now o laneKept u ∧ u.freeCtr = s.freeCtr ∧ fails check u) ∧
      (s.twoAgree o = false → ∃ u c, exec (.ki40LoadComplete t o) s = .next u ∧ u.lanes = s.lanes ∧ 1 ≤ c ∧ c ≤ 11 ∧ fails c u)) ∧
    (∀ o, s.ki40.load ≠ 2 → exec (.ki40LoadComplete t o) s = .next (State.tick t s)) ∧
    (∀ d : Datagram, s.ki40Ready t → d.net ≠ .service → (d.path.port = 48 ∨ d.path.port = 52) →
      let c := ki40OfDatagram d
      let h := ki40Head (rd8 d.payload 1) c
      let fits := d.payload.length = 64 ∧ rd8 d.payload 0 = 0xC1 ∧ c.station = s.node
      (d.ownPort = false → exec (.ki40DatagramDiscarded t d) s = .next { (s.countNet d.net (fun k => { k with ipDrop := inc k.ipDrop })) with now := now }) ∧
      (d.ownPort = true → ¬fits → exec (.ki40DatagramDiscarded t d) s = .next { (s.countNet d.net (fun k => { k with malformed := inc k.malformed })) with now := now }) ∧
      (d.ownPort = true → fits → d.rx = RxFault.healthy → (d.net = .x ∨ d.net = .y) → (c.crcC ≠ crcC h ∨ c.crcT ≠ crcT h) →
        ∃ u, exec (.ki40DatagramDiscarded t d) s = .next u ∧
          (∀ i ∈ s.voting, (u.lane i).counters.badCheckX = (s.lane i).counters.badCheckX + (if d.net = .x then 1 else 0) ∧
            (u.lane i).counters.badCheckY = (s.lane i).counters.badCheckY + (if d.net = .y then 1 else 0)) ∧
          u = { s with
            now := now
            lanes := u.lanes
            almanac := u.almanac
            host := { s.host with arrivals := s.host.arrivals.filter (fun a => decide (now < a + ms)) ++ [now] } })) ∧
    (∀ r : Reply, s.control.phase = .running → 2 ≤ s.voting.length → s.ki40.held = [r] → r.path.isSome = true → r.ki40 = true →
      (now < r.decided + 2 * ms → exec (.ki40ReplyWindow t) s = .next (State.tick t s)) ∧
      (r.decided + 2 * ms ≤ now → now < r.decided + 4 * ms →
        ∃ u x, exec (.ki40ReplyWindow t) s = .next u ∧ x = { r with oneLane := s.control.degradation == Degradation.oneLane, decided := now, bytes := x.bytes } ∧
          x.bytes = x.ki40Wire s.node ∧ s.sameLanes u ∧
          u = { s with now := now, lanes := u.lanes, host := { s.host with replies := s.host.replies ++ [x] }, ki40 := { s.ki40 with held := [] } })) ∧
    (s.control.phase = .running → s.sealBank.ki40 = true → now % 50000000 = 0 →
      ∃ u, exec (.ki40CycleStart t) s = .next u ∧ u.ki40.cycle = now / 50000000 ∧
        (s.snap.instant = now → ∃ v : Ki40View, u.ki40.view = some v ∧ v.snapshot = s.snap ∧ v.cycle = now / 50000000 ∧ v.routes = s.leadLane.engine.routes ∧
          v.load = s.ki40.load ∧ v.loadCheck = s.ki40.loadCheck) ∧
        (s.snap.instant ≠ now → u.ki40.view = s.ki40.view) ∧
        u = { s with now := now, ki40 := { s.ki40 with cycle := u.ki40.cycle, view := u.ki40.view } }) ∧
    ((s.control.phase ≠ .running ∨ s.sealBank.ki40 = false ∨ now % 50000000 ≠ 0) → exec (.ki40CycleStart t) s = .next (State.tick t s))

/-- R328, R607 to R610, Tables 9.1, 17.6: the poll rounds of a module in KI-40 mode. At P the POLL of a port leaves, if the owner of the port transmits (R22, R231), with the values of the latest snapshot 20 µs before it; an answer between 20 µs and 900 µs later that passes its checks fills the stream's buffer in every voting
lane; at P + 900 µs without one the stream ages. A host port answers an ARP request for its address; at the service port both frames count for its LED (R654). The round's number as that of its start in 20 ms is the model's choice (its log entry on polls). -/
def Obligations.PollRoundsAnswersAndArp : Prop :=
  ∀ (t port : Nat) (s : State),
    let now := max s.now t
    let quiet := fun (i : Instr) => exec i s = .next (State.tick t s)
    (s.polls = true → now % 20000000 = 0 → exec (.pollRoundStart t) s = .next { s with
      now := now
      ki40 := { s.ki40 with
        round := now / 20000000
        roundStart := now
        pollDone := s.ki40.pollDone || s.ki40.polled
        polled := true } }) ∧
    ((s.polls = false ∨ now % 20000000 ≠ 0) → quiet (.pollRoundStart t)) ∧
    (let p := s.ki40.roundStart + ms * port + 500000
     ∀ x, outStream s.img (0x200 + port) = some x → s.polls = true → port < 16 → s.ki40.polled = true → s.control.degradation ≠ .oneLane → p ≤ now →
      now < s.ki40.roundStart + 20 * ms → s.pollFresh port = true →
      ∃ u no live data, exec (.poll t port) s = .next u ∧ no = s.ki40.round % 65536 ∧
        (let h := pollHead 0x31 x.peer no live s.node (payloadBytes data 32)
         u.sent = s.sent ++ if (s.sender port).isSome then [.poll port no live data (crcC h) (crcT h)] else []) ∧
        (∀ q, s.snapshots.find? (fun y => decide (y.commitAt + 20000 ≤ p)) = some q → (q.restricted = false → data = assocD q.payloads (0x200 + port) 0) ∧
          (live = true ↔ q.restricted = false ∧ s.safeIo.supply = .isClosed ∧ s.safeIo.closedAt ≤ q.commitAt)) ∧
        (∀ i, u.lane i = (s.lane i).modStream (0x100 + port) (fun y => { y with accepted := false, isClosed := false, aged := false })) ∧
        u = { s with now := now, lanes := u.lanes, sent := u.sent, ki40 := { s.ki40 with pollAt := assocSet s.ki40.pollAt port p } }) ∧
    ((s.polls = false ∨ 16 ≤ port ∨ s.control.degradation = .oneLane ∨ now < s.ki40.roundStart + ms * port + 500000 ∨ s.pollFresh port = false) →
      quiet (.poll t port)) ∧
    (s.pollFresh port = true ↔ s.snapshots ≠ [] ∧ s.pollInstant port ≤ (s.pollSnapshot (s.pollInstant port)).commitAt + 2 * s.t0) ∧
    (∀ (f : AnswerFrame) (x : Stream), s.polls = true → port < 16 → inStream s.img (0x100 + port) = some x → (assoc s.ki40.pollAt port).isSome = true → 2 ≤ s.voting.length →
      20000 ≤ f.offset → f.offset < 900000 → f.lengthOk = true → f.fcsOk = true → f.type = 0x32 → f.oc = x.peer → f.pollNo = s.ki40.round % 65536 → f.station = s.node →
      f.rx = RxFault.healthy → (∀ i ∈ s.unexcluded, (s.lane i).held = false) →
      let h := pollHead f.type f.oc f.pollNo f.live f.station f.data
      let pass := f.crcC = crcC h ∧ f.crcT = crcT h
      (pass → s.leadLane.inputs.streams.any (fun y => y.id == 0x100 + port && y.accepted) = false →
        ∃ u, exec (.answer t port f) s = .next u ∧
          (∀ i ∈ s.voting, (u.lane i).inputs.streams = (s.lane i).inputs.streams.map (fun y => if y.id = 0x100 + port then
            { y with
              ready := some { payload := payloadOf (slice f.data 0 32), stamp := (Int.ofNat now + (s.lane i).offset).toNat }
              previous := y.ready
              prevAge := y.age
              age := 0
              accepted := true } else y)) ∧
          (u.port port).counters = { (s.port port).counters with rxOk := inc (s.port port).counters.rxOk } ∧ u.snapshots = s.snapshots ∧ u.host = s.host) ∧
      (¬pass → ∃ u, exec (.answer t port f) s = .next u ∧ (u.port port).counters = { (s.port port).counters with check := inc (s.port port).counters.check } ∧
        (∀ i ∈ s.voting, (u.lane i).inputs.streams = (s.lane i).inputs.streams.map (fun y => if y.id = 0x100 + port then { y with check := inc y.check } else y)) ∧
        u.snapshots = s.snapshots ∧ u.host = s.host)) ∧
    (∀ p, assoc s.ki40.pollAt port = some p → s.polls = true → (∀ i, (s.lane i).inputs.rxPending = []) →
      (p + 900000 ≤ now →
        ∃ u, exec (.answerWindowClose t port) s = .next u ∧
          (∀ i, (u.lane i).inputs.streams = (s.lane i).inputs.streams.map (fun y =>
            if y.id = 0x100 + port then { y with
              isClosed := true
              aged := y.aged || !(y.isClosed || y.accepted)
              age := if y.isClosed || y.accepted || y.aged then y.age else min 31 (y.age + 1) } else y)) ∧
          u = { s with now := now, lanes := u.lanes, ki40 := { s.ki40 with pollAt := assocErase s.ki40.pollAt port } }) ∧
      (now < p + 900000 → quiet (.answerWindowClose t port))) ∧
    (∀ ip mac, s.control.phase = .running →
      let seen := fun (k : Nat) => { s.host with svcFrames := if port = 62 then s.host.svcFrames + k else s.host.svcFrames }
      (s.portSpeaks port = true → s.hostAddress port = some ip →
        exec (.arpRequest t port ip mac) s = .next { s with
          now := now
          host := seen 2
          sent := s.sent ++ if port = 62 ∨ (s.sender port).isSome = true then [.arp port ip mac] else [] }) ∧
      (s.hostAddress port ≠ some ip → exec (.arpRequest t port ip mac) s = .next { s with now := now, host := seen 1 }))

/-! ## Every command and every step -/

/-- The block: a step takes the command at the front of the queue and runs exec on it with the queue's rest; on an empty queue the block idles (log entry 7, the model's choice). -/
def Obligations.StepRunsTheCommandInFront : Prop :=
  (∀ (c : Instr) (rest : List Instr) (s : State), s.pending = c :: rest → step s = exec c { s with pending := rest }) ∧
  (∀ s : State, s.pending = [] → step s = .next s)

/-- The block: every command answers a next state with the queue it was run with and a clock that has not gone back (but for the two commands that set the time base: a SYNC frame and the end of the listen time), but for a cycle of the maintenance bus at an address that the bus does not have (Table 13.5); no command is refused. -/
def Obligations.EveryCommandIsAnswered : Prop :=
  ∀ (c : Instr) (s : State),
    let offTheBus := fun (c : Instr) => ∃ (t a : Nat) (d : Half) (w : Window) (b : Bool) (y : BusCycle), 524288 ≤ a ∧
      (c ∈ [Instr.mbRead t a w, .mbWrite t a d w, .atomicLoad t a d, .atomicExecute t a d b, .atomicResult t a b] ∨ (c = .cycleCutShort t y ∧ cycleAddr y = a))
    (¬offTheBus c → ∃ u, exec c s = .next u ∧ u.pending = s.pending ∧
      ((∀ t p f, c ≠ .syncFrame t p f) → (∀ t, c ≠ .listenTimeExpiry t) → s.now ≤ u.now)) ∧
    (offTheBus c → exec c s = .fault .noSuchAddress)

/-- The memories of the module: whatever command a step runs, the exchange RAM, every table store region and flash area and the instance data of every lane keep their canonical form, in every state that has it. -/
def Obligations.EveryStepKeepsTheMemoriesCanonical : Prop :=
  ∀ s u : State, s.memWf → step s = .next u → u.memWf

/-- OFF and the lane states before a start (16): reset. No output is on and no supply closed, nothing waits and nothing has been sent, no snapshot, session or lock exists, and every memory is in canonical form. The register values that the manual does not give are the model's (log entry 2). -/
def Obligations.ResetIsRestrictive : Prop :=
  State.reset.memWf ∧ State.reset.pending = [] ∧ State.reset.sent = [] ∧ State.reset.snapshots = [] ∧ State.reset.host.sessions = [] ∧ State.reset.host.lock = none ∧
  State.reset.control.power = .off ∧ State.reset.terminals = 0 ∧ State.reset.safeIo.supply = .isOpen ∧
  ∀ i, (State.reset.lane i).elements = 0 ∧ (State.reset.lane i).supplyClosed = false
end

