-- ==== Sys2Proof/Laws/State.lean ====
section
/-! SUPPORT. What each named operation over the state changes: one lemma for each field and operation, so that no later proof
unfolds a record update. -/

namespace Sys2Proof.Machine

variable (s : State)

/-! ## Lanes -/

@[simp] theorem Lanes.get_put_same {α : Type} (l : Lanes α) (i : LaneId) (x : α) : (l.put i x).get i = x := by cases i <;> rfl

theorem Lanes.get_put {α : Type} (l : Lanes α) (i j : LaneId) (x : α) : (l.put i x).get j = if j = i then x else l.get j := by
  cases i <;> cases j <;> rfl

@[simp] theorem Lanes.get_put_other {α : Type} (l : Lanes α) {i j : LaneId} (x : α) (h : j ≠ i) : (l.put i x).get j = l.get j := by
  rw [Lanes.get_put, if_neg h]

@[simp] theorem Lanes.get_mapI {α β : Type} (l : Lanes α) (f : LaneId → α → β) (i : LaneId) : (l.mapI f).get i = f i (l.get i) := by
  cases i <;> rfl

/-- Two triples that agree at each lane are equal. -/
theorem Lanes.ext_get {α : Type} {l m : Lanes α} (h : ∀ i, l.get i = m.get i) : l = m := by
  cases l; cases m
  have ha := h .A
  have hb := h .B
  have hc := h .C
  simp only [Lanes.get] at ha hb hc
  rw [ha, hb, hc]

@[simp] theorem setLane_lane_same (i : LaneId) (l : Lane) : (s.setLane i l).lane i = l := Lanes.get_put_same s.lanes i l

@[simp] theorem setLane_lane_other {i j : LaneId} (l : Lane) (h : j ≠ i) : (s.setLane i l).lane j = s.lane j :=
  Lanes.get_put_other s.lanes l h

@[simp] theorem modLane_lane_same (i : LaneId) (f : Lane → Lane) : (s.modLane i f).lane i = f (s.lane i) :=
  Lanes.get_put_same s.lanes i _

@[simp] theorem modLane_lane_other {i j : LaneId} (f : Lane → Lane) (h : j ≠ i) : (s.modLane i f).lane j = s.lane j :=
  Lanes.get_put_other s.lanes _ h

theorem modLane_lane (i j : LaneId) (f : Lane → Lane) : (s.modLane i f).lane j = if j = i then f (s.lane j) else s.lane j := by
  by_cases h : j = i
  · subst h; simp
  · simp [h]

@[simp] theorem mapLanes_lane (f : Lane → Lane) (i : LaneId) : (s.mapLanes f).lane i = f (s.lane i) := Lanes.get_mapI _ _ i

@[simp] theorem mapVoting_lane (f : Lane → Lane) (i : LaneId) :
    (s.mapVoting f).lane i = if (s.lane i).mode = .voting then f (s.lane i) else s.lane i := Lanes.get_mapI _ _ i

@[simp] theorem tick_lane (t : Nat) (i : LaneId) : (State.tick t s).lane i = s.lane i := rfl
@[simp] theorem close_lane (n : Nat) (q : List Instr) (i : LaneId) : (s.close n q).lane i = s.lane i := rfl
@[simp] theorem close_now (n : Nat) (q : List Instr) : (s.close n q).now = n := rfl
@[simp] theorem close_pending (n : Nat) (q : List Instr) : (s.close n q).pending = q := rfl
@[simp] theorem drawn_lane (i : LaneId) : s.drawn.lane i = s.lane i := rfl
@[simp] theorem send_lane (x : Tx) (i : LaneId) : (s.send x).lane i = s.lane i := rfl
@[simp] theorem event_lane (code : Nat) (o : Origin) (l : List (Nat × Nat × Nat)) (i : LaneId) : (s.event code o l).lane i = s.lane i := rfl

/-! ## What each operation changes -/

@[simp] theorem tick_now (t : Nat) : (State.tick t s).now = max s.now t := rfl
@[simp] theorem drawn_freeCtr : s.drawn.freeCtr = s.freeCtr + 1 := rfl
@[simp] theorem send_sent (x : Tx) : (s.send x).sent = s.sent ++ [x] := rfl
@[simp] theorem event_almanac (code : Nat) (o : Origin) (l : List (Nat × Nat × Nat)) :
    (s.event code o l).almanac = { s.almanac with events := s.almanac.events ++ [queuedOf code 0 0 o [payloadFields l]] } := rfl

/-! ## What each operation leaves -/

@[simp] theorem tick_control (t : Nat) : (State.tick t s).control = s.control := rfl
@[simp] theorem tick_lanes (t : Nat) : (State.tick t s).lanes = s.lanes := rfl
@[simp] theorem tick_snapshots (t : Nat) : (State.tick t s).snapshots = s.snapshots := rfl
@[simp] theorem tick_nextNumber (t : Nat) : (State.tick t s).nextNumber = s.nextNumber := rfl
@[simp] theorem tick_wallOffset (t : Nat) : (State.tick t s).wallOffset = s.wallOffset := rfl
@[simp] theorem tick_pendingWall (t : Nat) : (State.tick t s).pendingWall = s.pendingWall := rfl
@[simp] theorem tick_images (t : Nat) : (State.tick t s).images = s.images := rfl
@[simp] theorem tick_host (t : Nat) : (State.tick t s).host = s.host := rfl
@[simp] theorem tick_ndezo (t : Nat) : (State.tick t s).ndezo = s.ndezo := rfl
@[simp] theorem tick_safeIo (t : Nat) : (State.tick t s).safeIo = s.safeIo := rfl
@[simp] theorem tick_pair (t : Nat) : (State.tick t s).pair = s.pair := rfl
@[simp] theorem tick_xram (t : Nat) : (State.tick t s).xram = s.xram := rfl
@[simp] theorem tick_almanac (t : Nat) : (State.tick t s).almanac = s.almanac := rfl
@[simp] theorem tick_sealBank (t : Nat) : (State.tick t s).sealBank = s.sealBank := rfl
@[simp] theorem tick_startup (t : Nat) : (State.tick t s).startup = s.startup := rfl
@[simp] theorem tick_ki40 (t : Nat) : (State.tick t s).ki40 = s.ki40 := rfl
@[simp] theorem tick_identity (t : Nat) : (State.tick t s).identity = s.identity := rfl
@[simp] theorem tick_freeCtr (t : Nat) : (State.tick t s).freeCtr = s.freeCtr := rfl
@[simp] theorem tick_sent (t : Nat) : (State.tick t s).sent = s.sent := rfl
@[simp] theorem tick_pending (t : Nat) : (State.tick t s).pending = s.pending := rfl

@[simp] theorem setLane_now (i : LaneId) (l : Lane) : (s.setLane i l).now = s.now := rfl
@[simp] theorem setLane_control (i : LaneId) (l : Lane) : (s.setLane i l).control = s.control := rfl
@[simp] theorem setLane_snapshots (i : LaneId) (l : Lane) : (s.setLane i l).snapshots = s.snapshots := rfl
@[simp] theorem setLane_nextNumber (i : LaneId) (l : Lane) : (s.setLane i l).nextNumber = s.nextNumber := rfl
@[simp] theorem setLane_wallOffset (i : LaneId) (l : Lane) : (s.setLane i l).wallOffset = s.wallOffset := rfl
@[simp] theorem setLane_pendingWall (i : LaneId) (l : Lane) : (s.setLane i l).pendingWall = s.pendingWall := rfl
@[simp] theorem setLane_images (i : LaneId) (l : Lane) : (s.setLane i l).images = s.images := rfl
@[simp] theorem setLane_host (i : LaneId) (l : Lane) : (s.setLane i l).host = s.host := rfl
@[simp] theorem setLane_ndezo (i : LaneId) (l : Lane) : (s.setLane i l).ndezo = s.ndezo := rfl
@[simp] theorem setLane_safeIo (i : LaneId) (l : Lane) : (s.setLane i l).safeIo = s.safeIo := rfl
@[simp] theorem setLane_pair (i : LaneId) (l : Lane) : (s.setLane i l).pair = s.pair := rfl
@[simp] theorem setLane_xram (i : LaneId) (l : Lane) : (s.setLane i l).xram = s.xram := rfl
@[simp] theorem setLane_almanac (i : LaneId) (l : Lane) : (s.setLane i l).almanac = s.almanac := rfl
@[simp] theorem setLane_sealBank (i : LaneId) (l : Lane) : (s.setLane i l).sealBank = s.sealBank := rfl
@[simp] theorem setLane_startup (i : LaneId) (l : Lane) : (s.setLane i l).startup = s.startup := rfl
@[simp] theorem setLane_ki40 (i : LaneId) (l : Lane) : (s.setLane i l).ki40 = s.ki40 := rfl
@[simp] theorem setLane_identity (i : LaneId) (l : Lane) : (s.setLane i l).identity = s.identity := rfl
@[simp] theorem setLane_freeCtr (i : LaneId) (l : Lane) : (s.setLane i l).freeCtr = s.freeCtr := rfl
@[simp] theorem setLane_sent (i : LaneId) (l : Lane) : (s.setLane i l).sent = s.sent := rfl
@[simp] theorem setLane_pending (i : LaneId) (l : Lane) : (s.setLane i l).pending = s.pending := rfl

@[simp] theorem modLane_now (i : LaneId) (f : Lane → Lane) : (s.modLane i f).now = s.now := rfl
@[simp] theorem modLane_control (i : LaneId) (f : Lane → Lane) : (s.modLane i f).control = s.control := rfl
@[simp] theorem modLane_snapshots (i : LaneId) (f : Lane → Lane) : (s.modLane i f).snapshots = s.snapshots := rfl
@[simp] theorem modLane_nextNumber (i : LaneId) (f : Lane → Lane) : (s.modLane i f).nextNumber = s.nextNumber := rfl
@[simp] theorem modLane_wallOffset (i : LaneId) (f : Lane → Lane) : (s.modLane i f).wallOffset = s.wallOffset := rfl
@[simp] theorem modLane_pendingWall (i : LaneId) (f : Lane → Lane) : (s.modLane i f).pendingWall = s.pendingWall := rfl
@[simp] theorem modLane_images (i : LaneId) (f : Lane → Lane) : (s.modLane i f).images = s.images := rfl
@[simp] theorem modLane_host (i : LaneId) (f : Lane → Lane) : (s.modLane i f).host = s.host := rfl
@[simp] theorem modLane_ndezo (i : LaneId) (f : Lane → Lane) : (s.modLane i f).ndezo = s.ndezo := rfl
@[simp] theorem modLane_safeIo (i : LaneId) (f : Lane → Lane) : (s.modLane i f).safeIo = s.safeIo := rfl
@[simp] theorem modLane_pair (i : LaneId) (f : Lane → Lane) : (s.modLane i f).pair = s.pair := rfl
@[simp] theorem modLane_xram (i : LaneId) (f : Lane → Lane) : (s.modLane i f).xram = s.xram := rfl
@[simp] theorem modLane_almanac (i : LaneId) (f : Lane → Lane) : (s.modLane i f).almanac = s.almanac := rfl
@[simp] theorem modLane_sealBank (i : LaneId) (f : Lane → Lane) : (s.modLane i f).sealBank = s.sealBank := rfl
@[simp] theorem modLane_startup (i : LaneId) (f : Lane → Lane) : (s.modLane i f).startup = s.startup := rfl
@[simp] theorem modLane_ki40 (i : LaneId) (f : Lane → Lane) : (s.modLane i f).ki40 = s.ki40 := rfl
@[simp] theorem modLane_identity (i : LaneId) (f : Lane → Lane) : (s.modLane i f).identity = s.identity := rfl
@[simp] theorem modLane_freeCtr (i : LaneId) (f : Lane → Lane) : (s.modLane i f).freeCtr = s.freeCtr := rfl
@[simp] theorem modLane_sent (i : LaneId) (f : Lane → Lane) : (s.modLane i f).sent = s.sent := rfl
@[simp] theorem modLane_pending (i : LaneId) (f : Lane → Lane) : (s.modLane i f).pending = s.pending := rfl

@[simp] theorem mapLanes_now (f : Lane → Lane) : (s.mapLanes f).now = s.now := rfl
@[simp] theorem mapLanes_control (f : Lane → Lane) : (s.mapLanes f).control = s.control := rfl
@[simp] theorem mapLanes_snapshots (f : Lane → Lane) : (s.mapLanes f).snapshots = s.snapshots := rfl
@[simp] theorem mapLanes_nextNumber (f : Lane → Lane) : (s.mapLanes f).nextNumber = s.nextNumber := rfl
@[simp] theorem mapLanes_wallOffset (f : Lane → Lane) : (s.mapLanes f).wallOffset = s.wallOffset := rfl
@[simp] theorem mapLanes_pendingWall (f : Lane → Lane) : (s.mapLanes f).pendingWall = s.pendingWall := rfl
@[simp] theorem mapLanes_images (f : Lane → Lane) : (s.mapLanes f).images = s.images := rfl
@[simp] theorem mapLanes_host (f : Lane → Lane) : (s.mapLanes f).host = s.host := rfl
@[simp] theorem mapLanes_ndezo (f : Lane → Lane) : (s.mapLanes f).ndezo = s.ndezo := rfl
@[simp] theorem mapLanes_safeIo (f : Lane → Lane) : (s.mapLanes f).safeIo = s.safeIo := rfl
@[simp] theorem mapLanes_pair (f : Lane → Lane) : (s.mapLanes f).pair = s.pair := rfl
@[simp] theorem mapLanes_xram (f : Lane → Lane) : (s.mapLanes f).xram = s.xram := rfl
@[simp] theorem mapLanes_almanac (f : Lane → Lane) : (s.mapLanes f).almanac = s.almanac := rfl
@[simp] theorem mapLanes_sealBank (f : Lane → Lane) : (s.mapLanes f).sealBank = s.sealBank := rfl
@[simp] theorem mapLanes_startup (f : Lane → Lane) : (s.mapLanes f).startup = s.startup := rfl
@[simp] theorem mapLanes_ki40 (f : Lane → Lane) : (s.mapLanes f).ki40 = s.ki40 := rfl
@[simp] theorem mapLanes_identity (f : Lane → Lane) : (s.mapLanes f).identity = s.identity := rfl
@[simp] theorem mapLanes_freeCtr (f : Lane → Lane) : (s.mapLanes f).freeCtr = s.freeCtr := rfl
@[simp] theorem mapLanes_sent (f : Lane → Lane) : (s.mapLanes f).sent = s.sent := rfl
@[simp] theorem mapLanes_pending (f : Lane → Lane) : (s.mapLanes f).pending = s.pending := rfl

@[simp] theorem mapVoting_now (f : Lane → Lane) : (s.mapVoting f).now = s.now := rfl
@[simp] theorem mapVoting_control (f : Lane → Lane) : (s.mapVoting f).control = s.control := rfl
@[simp] theorem mapVoting_snapshots (f : Lane → Lane) : (s.mapVoting f).snapshots = s.snapshots := rfl
@[simp] theorem mapVoting_nextNumber (f : Lane → Lane) : (s.mapVoting f).nextNumber = s.nextNumber := rfl
@[simp] theorem mapVoting_wallOffset (f : Lane → Lane) : (s.mapVoting f).wallOffset = s.wallOffset := rfl
@[simp] theorem mapVoting_pendingWall (f : Lane → Lane) : (s.mapVoting f).pendingWall = s.pendingWall := rfl
@[simp] theorem mapVoting_images (f : Lane → Lane) : (s.mapVoting f).images = s.images := rfl
@[simp] theorem mapVoting_host (f : Lane → Lane) : (s.mapVoting f).host = s.host := rfl
@[simp] theorem mapVoting_ndezo (f : Lane → Lane) : (s.mapVoting f).ndezo = s.ndezo := rfl
@[simp] theorem mapVoting_safeIo (f : Lane → Lane) : (s.mapVoting f).safeIo = s.safeIo := rfl
@[simp] theorem mapVoting_pair (f : Lane → Lane) : (s.mapVoting f).pair = s.pair := rfl
@[simp] theorem mapVoting_xram (f : Lane → Lane) : (s.mapVoting f).xram = s.xram := rfl
@[simp] theorem mapVoting_almanac (f : Lane → Lane) : (s.mapVoting f).almanac = s.almanac := rfl
@[simp] theorem mapVoting_sealBank (f : Lane → Lane) : (s.mapVoting f).sealBank = s.sealBank := rfl
@[simp] theorem mapVoting_startup (f : Lane → Lane) : (s.mapVoting f).startup = s.startup := rfl
@[simp] theorem mapVoting_ki40 (f : Lane → Lane) : (s.mapVoting f).ki40 = s.ki40 := rfl
@[simp] theorem mapVoting_identity (f : Lane → Lane) : (s.mapVoting f).identity = s.identity := rfl
@[simp] theorem mapVoting_freeCtr (f : Lane → Lane) : (s.mapVoting f).freeCtr = s.freeCtr := rfl
@[simp] theorem mapVoting_sent (f : Lane → Lane) : (s.mapVoting f).sent = s.sent := rfl
@[simp] theorem mapVoting_pending (f : Lane → Lane) : (s.mapVoting f).pending = s.pending := rfl

@[simp] theorem close_control (n : Nat) (q : List Instr) : (s.close n q).control = s.control := rfl
@[simp] theorem close_lanes (n : Nat) (q : List Instr) : (s.close n q).lanes = s.lanes := rfl
@[simp] theorem close_snapshots (n : Nat) (q : List Instr) : (s.close n q).snapshots = s.snapshots := rfl
@[simp] theorem close_nextNumber (n : Nat) (q : List Instr) : (s.close n q).nextNumber = s.nextNumber := rfl
@[simp] theorem close_wallOffset (n : Nat) (q : List Instr) : (s.close n q).wallOffset = s.wallOffset := rfl
@[simp] theorem close_pendingWall (n : Nat) (q : List Instr) : (s.close n q).pendingWall = s.pendingWall := rfl
@[simp] theorem close_images (n : Nat) (q : List Instr) : (s.close n q).images = s.images := rfl
@[simp] theorem close_host (n : Nat) (q : List Instr) : (s.close n q).host = s.host := rfl
@[simp] theorem close_ndezo (n : Nat) (q : List Instr) : (s.close n q).ndezo = s.ndezo := rfl
@[simp] theorem close_safeIo (n : Nat) (q : List Instr) : (s.close n q).safeIo = s.safeIo := rfl
@[simp] theorem close_pair (n : Nat) (q : List Instr) : (s.close n q).pair = s.pair := rfl
@[simp] theorem close_xram (n : Nat) (q : List Instr) : (s.close n q).xram = s.xram := rfl
@[simp] theorem close_almanac (n : Nat) (q : List Instr) : (s.close n q).almanac = s.almanac := rfl
@[simp] theorem close_sealBank (n : Nat) (q : List Instr) : (s.close n q).sealBank = s.sealBank := rfl
@[simp] theorem close_startup (n : Nat) (q : List Instr) : (s.close n q).startup = s.startup := rfl
@[simp] theorem close_ki40 (n : Nat) (q : List Instr) : (s.close n q).ki40 = s.ki40 := rfl
@[simp] theorem close_identity (n : Nat) (q : List Instr) : (s.close n q).identity = s.identity := rfl
@[simp] theorem close_freeCtr (n : Nat) (q : List Instr) : (s.close n q).freeCtr = s.freeCtr := rfl
@[simp] theorem close_sent (n : Nat) (q : List Instr) : (s.close n q).sent = s.sent := rfl

@[simp] theorem drawn_now : (s.drawn).now = s.now := rfl
@[simp] theorem drawn_control : (s.drawn).control = s.control := rfl
@[simp] theorem drawn_lanes : (s.drawn).lanes = s.lanes := rfl
@[simp] theorem drawn_snapshots : (s.drawn).snapshots = s.snapshots := rfl
@[simp] theorem drawn_nextNumber : (s.drawn).nextNumber = s.nextNumber := rfl
@[simp] theorem drawn_wallOffset : (s.drawn).wallOffset = s.wallOffset := rfl
@[simp] theorem drawn_pendingWall : (s.drawn).pendingWall = s.pendingWall := rfl
@[simp] theorem drawn_images : (s.drawn).images = s.images := rfl
@[simp] theorem drawn_host : (s.drawn).host = s.host := rfl
@[simp] theorem drawn_ndezo : (s.drawn).ndezo = s.ndezo := rfl
@[simp] theorem drawn_safeIo : (s.drawn).safeIo = s.safeIo := rfl
@[simp] theorem drawn_pair : (s.drawn).pair = s.pair := rfl
@[simp] theorem drawn_xram : (s.drawn).xram = s.xram := rfl
@[simp] theorem drawn_almanac : (s.drawn).almanac = s.almanac := rfl
@[simp] theorem drawn_sealBank : (s.drawn).sealBank = s.sealBank := rfl
@[simp] theorem drawn_startup : (s.drawn).startup = s.startup := rfl
@[simp] theorem drawn_ki40 : (s.drawn).ki40 = s.ki40 := rfl
@[simp] theorem drawn_identity : (s.drawn).identity = s.identity := rfl
@[simp] theorem drawn_sent : (s.drawn).sent = s.sent := rfl
@[simp] theorem drawn_pending : (s.drawn).pending = s.pending := rfl

@[simp] theorem send_now (x : Tx) : (s.send x).now = s.now := rfl
@[simp] theorem send_control (x : Tx) : (s.send x).control = s.control := rfl
@[simp] theorem send_lanes (x : Tx) : (s.send x).lanes = s.lanes := rfl
@[simp] theorem send_snapshots (x : Tx) : (s.send x).snapshots = s.snapshots := rfl
@[simp] theorem send_nextNumber (x : Tx) : (s.send x).nextNumber = s.nextNumber := rfl
@[simp] theorem send_wallOffset (x : Tx) : (s.send x).wallOffset = s.wallOffset := rfl
@[simp] theorem send_pendingWall (x : Tx) : (s.send x).pendingWall = s.pendingWall := rfl
@[simp] theorem send_images (x : Tx) : (s.send x).images = s.images := rfl
@[simp] theorem send_host (x : Tx) : (s.send x).host = s.host := rfl
@[simp] theorem send_ndezo (x : Tx) : (s.send x).ndezo = s.ndezo := rfl
@[simp] theorem send_safeIo (x : Tx) : (s.send x).safeIo = s.safeIo := rfl
@[simp] theorem send_pair (x : Tx) : (s.send x).pair = s.pair := rfl
@[simp] theorem send_xram (x : Tx) : (s.send x).xram = s.xram := rfl
@[simp] theorem send_almanac (x : Tx) : (s.send x).almanac = s.almanac := rfl
@[simp] theorem send_sealBank (x : Tx) : (s.send x).sealBank = s.sealBank := rfl
@[simp] theorem send_startup (x : Tx) : (s.send x).startup = s.startup := rfl
@[simp] theorem send_ki40 (x : Tx) : (s.send x).ki40 = s.ki40 := rfl
@[simp] theorem send_identity (x : Tx) : (s.send x).identity = s.identity := rfl
@[simp] theorem send_freeCtr (x : Tx) : (s.send x).freeCtr = s.freeCtr := rfl
@[simp] theorem send_pending (x : Tx) : (s.send x).pending = s.pending := rfl

@[simp] theorem event_now (code : Nat) (o : Origin) (l : List (Nat × Nat × Nat)) : (s.event code o l).now = s.now := rfl
@[simp] theorem event_control (code : Nat) (o : Origin) (l : List (Nat × Nat × Nat)) : (s.event code o l).control = s.control := rfl
@[simp] theorem event_lanes (code : Nat) (o : Origin) (l : List (Nat × Nat × Nat)) : (s.event code o l).lanes = s.lanes := rfl
@[simp] theorem event_snapshots (code : Nat) (o : Origin) (l : List (Nat × Nat × Nat)) : (s.event code o l).snapshots = s.snapshots := rfl
@[simp] theorem event_nextNumber (code : Nat) (o : Origin) (l : List (Nat × Nat × Nat)) : (s.event code o l).nextNumber = s.nextNumber := rfl
@[simp] theorem event_wallOffset (code : Nat) (o : Origin) (l : List (Nat × Nat × Nat)) : (s.event code o l).wallOffset = s.wallOffset := rfl
@[simp] theorem event_pendingWall (code : Nat) (o : Origin) (l : List (Nat × Nat × Nat)) : (s.event code o l).pendingWall = s.pendingWall := rfl
@[simp] theorem event_images (code : Nat) (o : Origin) (l : List (Nat × Nat × Nat)) : (s.event code o l).images = s.images := rfl
@[simp] theorem event_host (code : Nat) (o : Origin) (l : List (Nat × Nat × Nat)) : (s.event code o l).host = s.host := rfl
@[simp] theorem event_ndezo (code : Nat) (o : Origin) (l : List (Nat × Nat × Nat)) : (s.event code o l).ndezo = s.ndezo := rfl
@[simp] theorem event_safeIo (code : Nat) (o : Origin) (l : List (Nat × Nat × Nat)) : (s.event code o l).safeIo = s.safeIo := rfl
@[simp] theorem event_pair (code : Nat) (o : Origin) (l : List (Nat × Nat × Nat)) : (s.event code o l).pair = s.pair := rfl
@[simp] theorem event_xram (code : Nat) (o : Origin) (l : List (Nat × Nat × Nat)) : (s.event code o l).xram = s.xram := rfl
@[simp] theorem event_sealBank (code : Nat) (o : Origin) (l : List (Nat × Nat × Nat)) : (s.event code o l).sealBank = s.sealBank := rfl
@[simp] theorem event_startup (code : Nat) (o : Origin) (l : List (Nat × Nat × Nat)) : (s.event code o l).startup = s.startup := rfl
@[simp] theorem event_ki40 (code : Nat) (o : Origin) (l : List (Nat × Nat × Nat)) : (s.event code o l).ki40 = s.ki40 := rfl
@[simp] theorem event_identity (code : Nat) (o : Origin) (l : List (Nat × Nat × Nat)) : (s.event code o l).identity = s.identity := rfl
@[simp] theorem event_freeCtr (code : Nat) (o : Origin) (l : List (Nat × Nat × Nat)) : (s.event code o l).freeCtr = s.freeCtr := rfl
@[simp] theorem event_sent (code : Nat) (o : Origin) (l : List (Nat × Nat × Nat)) : (s.event code o l).sent = s.sent := rfl
@[simp] theorem event_pending (code : Nat) (o : Origin) (l : List (Nat × Nat × Nat)) : (s.event code o l).pending = s.pending := rfl

@[simp] theorem eventGroup_now (code : Nat) (o : Origin) (l : List (List (Nat × Nat × Nat))) : (s.eventGroup code o l).now = s.now := rfl
@[simp] theorem eventGroup_control (code : Nat) (o : Origin) (l : List (List (Nat × Nat × Nat))) : (s.eventGroup code o l).control = s.control := rfl
@[simp] theorem eventGroup_lanes (code : Nat) (o : Origin) (l : List (List (Nat × Nat × Nat))) : (s.eventGroup code o l).lanes = s.lanes := rfl
@[simp] theorem eventGroup_snapshots (code : Nat) (o : Origin) (l : List (List (Nat × Nat × Nat))) : (s.eventGroup code o l).snapshots = s.snapshots := rfl
@[simp] theorem eventGroup_nextNumber (code : Nat) (o : Origin) (l : List (List (Nat × Nat × Nat))) : (s.eventGroup code o l).nextNumber = s.nextNumber := rfl
@[simp] theorem eventGroup_wallOffset (code : Nat) (o : Origin) (l : List (List (Nat × Nat × Nat))) : (s.eventGroup code o l).wallOffset = s.wallOffset := rfl
@[simp] theorem eventGroup_pendingWall (code : Nat) (o : Origin) (l : List (List (Nat × Nat × Nat))) : (s.eventGroup code o l).pendingWall = s.pendingWall := rfl
@[simp] theorem eventGroup_images (code : Nat) (o : Origin) (l : List (List (Nat × Nat × Nat))) : (s.eventGroup code o l).images = s.images := rfl
@[simp] theorem eventGroup_host (code : Nat) (o : Origin) (l : List (List (Nat × Nat × Nat))) : (s.eventGroup code o l).host = s.host := rfl
@[simp] theorem eventGroup_ndezo (code : Nat) (o : Origin) (l : List (List (Nat × Nat × Nat))) : (s.eventGroup code o l).ndezo = s.ndezo := rfl
@[simp] theorem eventGroup_safeIo (code : Nat) (o : Origin) (l : List (List (Nat × Nat × Nat))) : (s.eventGroup code o l).safeIo = s.safeIo := rfl
@[simp] theorem eventGroup_pair (code : Nat) (o : Origin) (l : List (List (Nat × Nat × Nat))) : (s.eventGroup code o l).pair = s.pair := rfl
@[simp] theorem eventGroup_xram (code : Nat) (o : Origin) (l : List (List (Nat × Nat × Nat))) : (s.eventGroup code o l).xram = s.xram := rfl
@[simp] theorem eventGroup_sealBank (code : Nat) (o : Origin) (l : List (List (Nat × Nat × Nat))) : (s.eventGroup code o l).sealBank = s.sealBank := rfl
@[simp] theorem eventGroup_startup (code : Nat) (o : Origin) (l : List (List (Nat × Nat × Nat))) : (s.eventGroup code o l).startup = s.startup := rfl
@[simp] theorem eventGroup_ki40 (code : Nat) (o : Origin) (l : List (List (Nat × Nat × Nat))) : (s.eventGroup code o l).ki40 = s.ki40 := rfl
@[simp] theorem eventGroup_identity (code : Nat) (o : Origin) (l : List (List (Nat × Nat × Nat))) : (s.eventGroup code o l).identity = s.identity := rfl
@[simp] theorem eventGroup_freeCtr (code : Nat) (o : Origin) (l : List (List (Nat × Nat × Nat))) : (s.eventGroup code o l).freeCtr = s.freeCtr := rfl
@[simp] theorem eventGroup_sent (code : Nat) (o : Origin) (l : List (List (Nat × Nat × Nat))) : (s.eventGroup code o l).sent = s.sent := rfl
@[simp] theorem eventGroup_pending (code : Nat) (o : Origin) (l : List (List (Nat × Nat × Nat))) : (s.eventGroup code o l).pending = s.pending := rfl

@[simp] theorem laneEvent_now (i : LaneId) (code : Nat) (l : List (Nat × Nat × Nat)) : (s.laneEvent i code l).now = s.now := rfl
@[simp] theorem laneEvent_control (i : LaneId) (code : Nat) (l : List (Nat × Nat × Nat)) : (s.laneEvent i code l).control = s.control := rfl
@[simp] theorem laneEvent_snapshots (i : LaneId) (code : Nat) (l : List (Nat × Nat × Nat)) : (s.laneEvent i code l).snapshots = s.snapshots := rfl
@[simp] theorem laneEvent_nextNumber (i : LaneId) (code : Nat) (l : List (Nat × Nat × Nat)) : (s.laneEvent i code l).nextNumber = s.nextNumber := rfl
@[simp] theorem laneEvent_wallOffset (i : LaneId) (code : Nat) (l : List (Nat × Nat × Nat)) : (s.laneEvent i code l).wallOffset = s.wallOffset := rfl
@[simp] theorem laneEvent_pendingWall (i : LaneId) (code : Nat) (l : List (Nat × Nat × Nat)) : (s.laneEvent i code l).pendingWall = s.pendingWall := rfl
@[simp] theorem laneEvent_images (i : LaneId) (code : Nat) (l : List (Nat × Nat × Nat)) : (s.laneEvent i code l).images = s.images := rfl
@[simp] theorem laneEvent_host (i : LaneId) (code : Nat) (l : List (Nat × Nat × Nat)) : (s.laneEvent i code l).host = s.host := rfl
@[simp] theorem laneEvent_ndezo (i : LaneId) (code : Nat) (l : List (Nat × Nat × Nat)) : (s.laneEvent i code l).ndezo = s.ndezo := rfl
@[simp] theorem laneEvent_safeIo (i : LaneId) (code : Nat) (l : List (Nat × Nat × Nat)) : (s.laneEvent i code l).safeIo = s.safeIo := rfl
@[simp] theorem laneEvent_pair (i : LaneId) (code : Nat) (l : List (Nat × Nat × Nat)) : (s.laneEvent i code l).pair = s.pair := rfl
@[simp] theorem laneEvent_xram (i : LaneId) (code : Nat) (l : List (Nat × Nat × Nat)) : (s.laneEvent i code l).xram = s.xram := rfl
@[simp] theorem laneEvent_almanac (i : LaneId) (code : Nat) (l : List (Nat × Nat × Nat)) : (s.laneEvent i code l).almanac = s.almanac := rfl
@[simp] theorem laneEvent_sealBank (i : LaneId) (code : Nat) (l : List (Nat × Nat × Nat)) : (s.laneEvent i code l).sealBank = s.sealBank := rfl
@[simp] theorem laneEvent_startup (i : LaneId) (code : Nat) (l : List (Nat × Nat × Nat)) : (s.laneEvent i code l).startup = s.startup := rfl
@[simp] theorem laneEvent_ki40 (i : LaneId) (code : Nat) (l : List (Nat × Nat × Nat)) : (s.laneEvent i code l).ki40 = s.ki40 := rfl
@[simp] theorem laneEvent_identity (i : LaneId) (code : Nat) (l : List (Nat × Nat × Nat)) : (s.laneEvent i code l).identity = s.identity := rfl
@[simp] theorem laneEvent_freeCtr (i : LaneId) (code : Nat) (l : List (Nat × Nat × Nat)) : (s.laneEvent i code l).freeCtr = s.freeCtr := rfl
@[simp] theorem laneEvent_sent (i : LaneId) (code : Nat) (l : List (Nat × Nat × Nat)) : (s.laneEvent i code l).sent = s.sent := rfl
@[simp] theorem laneEvent_pending (i : LaneId) (code : Nat) (l : List (Nat × Nat × Nat)) : (s.laneEvent i code l).pending = s.pending := rfl

/-- Every command answers a next state, whose queue is that of the state before and whose clock has gone to its instant. -/
theorem run_eq (t : Nat) (f : State → State) :
    run t f s = .next ((f (State.tick t s)).close (max s.now t) s.pending) := rfl

end Sys2Proof.Machine
end

