-- ==== Sys2Proof/Laws/Host.lean ====
section
/-! SUPPORT. What becomes of a copy that passes the checks of Table 9.4: it is heard, and then answered or compared. -/

namespace Sys2Proof.Machine

/-- Two or three lanes vote. -/
theorem voting_two {s : State} (h : 2 ≤ s.voting.length) :
    s.voting = [.A, .B, .C] ∨ s.voting = [.A, .B] ∨ s.voting = [.A, .C] ∨ s.voting = [.B, .C] := by
  unfold State.voting allLanes at *
  simp only [List.filter_cons, List.filter_nil] at *
  split at h <;> split at h <;> split at h <;> simp_all

/-- Two voting lanes are two lanes that no snapshot has excluded. -/
theorem unexcluded_two {s : State} (h : 2 ≤ s.voting.length) :
    s.unexcluded = [.A, .B, .C] ∨ s.unexcluded = [.A, .B] ∨ s.unexcluded = [.A, .C] ∨ s.unexcluded = [.B, .C] := by
  unfold State.voting allLanes at h
  unfold State.unexcluded allLanes
  simp only [List.filter_cons, List.filter_nil] at *
  cases ha : (s.lane .A).mode <;> cases hb : (s.lane .B).mode <;> cases hc : (s.lane .C).mode <;> simp_all

/-- Lanes of the same modes vote alike. -/
theorem voting_same {s u : State} (h : ∀ i, (u.lane i).mode = (s.lane i).mode) : u.voting = s.voting := by
  unfold State.voting
  simp only [h]

theorem lead_same {s u : State} (h : ∀ i, (u.lane i).mode = (s.lane i).mode) : u.lead = s.lead := by
  unfold State.lead State.lowest
  rw [voting_same h]

theorem lapseSession_keeps {s : State} (n : Nat) (h : ∀ x ∈ s.host.sessions, s.now < x.leaseEnd) : s.lapseSession n = s := by
  unfold State.lapseSession
  split
  · next x hx =>
    have := h x (List.mem_of_find?_eq_some hx)
    rw [if_neg (by omega)]
  · rfl

theorem lapseDue_keeps {s : State} (h : ∀ x ∈ s.host.sessions, s.now < x.leaseEnd)
    (hl : ∀ l, s.host.lock = some l → s.now < l.leaseEnd) : s.lapseDue = s := by
  have hs : ∀ l : List Nat, l.foldl State.lapseSession s = s := by
    intro l
    induction l with
    | nil => rfl
    | cons a r ih => rw [List.foldl_cons, lapseSession_keeps a h, ih]
  unfold State.lapseDue
  rw [hs]
  unfold State.lapseLock
  split
  · next l e => have := hl l e; rw [if_neg (by omega)]
  · rfl

/-- A lane that is not held in reset sends its verdicts. -/
theorem silent_none {s : State} {i : LaneId} (h : (s.lane i).held = false) : s.silentLane i = false := by
  unfold State.silentLane; rw [h]; exact Bool.and_false _

/-- A telegram with right check values and healthy check units is accepted by the lanes that check it; only their check units have counted. -/
theorem checkTelegram_healthy (s : State) (l : List LaneId) (hl : l = [.A, .B, .C] ∨ l = [.A, .B] ∨ l = [.A, .C] ∨ l = [.B, .C])
    (hh : ∀ i ∈ l, (s.lane i).held = false) (host port unit stream : Nat) :
    ∃ L : Lanes Lane, s.checkTelegram l host port unit stream true true RxFault.healthy = ({ s with lanes := L }, true) ∧
      ∀ i, L.get i = { s.lane i with inputs := { (s.lane i).inputs with checkUnits := (L.get i).inputs.checkUnits } } := by
  have ha : s.absent l RxFault.healthy = [] := by
    unfold State.absent
    split
    · rfl
    · rw [List.filter_eq_nil_iff]
      intro i hi
      simp [RxFault.healthy, silent_none (hh i hi)]
  have hf : l.filter (fun i => !s.silentLane i) = l := by
    rw [List.filter_eq_self]
    intro i hi
    rw [silent_none (hh i hi)]; rfl
  unfold State.checkTelegram
  rw [ha, hf]
  rcases hl with rfl | rfl | rfl | rfl
  all_goals
    refine ⟨_, rfl, ?_⟩
    intro i
    cases i <;> rfl

/-- A good copy in an open session is heard, and then answered (a query) or compared under the network rule (Table 9.4). -/
theorem hostArrive_good {s : State} {t op : Nat} {x : Session} {c : HostCopy} {row : OpRow} (h : s.hostReady t) (g : s.goodCopy op x c)
    (hop : op ≠ 0x0001) (hr : opOf op = some row) :
    ∃ p, s.heardCopy p t c ∧
      (s.tick t).hostArrive op c = if row.cls = .query then p.answerQuery op c else p.compareCopy op row.cls c := by
  obtain ⟨h1, h2, h3, h4, h5, h6, h7, h8, h9, h10⟩ := h
  obtain ⟨g1, g2, g3, g4, g5, g6, g7, g8, g9, g10, g11, g12, g13, ⟨r, g14, g15, g16⟩, g17⟩ := g
  rw [hr] at g14
  obtain rfl := Option.some.inj g14
  let v : State := { s.tick t with
    host := { s.host with svcFrames := if c.net = .service then s.host.svcFrames + 1 else s.host.svcFrames } }
  have hv : (s.tick t).svcSeen c.net = v := by
    have : (s.tick t).phyPowered = true := by
      have e : (s.tick t).control.phase = .running := h1
      unfold State.phyPowered
      rw [e]
    unfold State.svcSeen
    rw [this]
    by_cases hc : c.net = .service
    · rw [if_pos ⟨hc, rfl⟩]
      simp only [v, if_pos hc]
      rfl
    · rw [if_neg (fun e => hc e.1)]
      simp only [v, if_neg hc]
      rfl
  have harr : (v.countArrival).crowded = false := by
    have : (List.filter (fun a => decide (v.now < a + ms)) s.host.arrivals).length ≤ s.host.arrivals.length := List.length_filter_le _ _
    simp only [v, State.tick] at this
    unfold State.crowded State.countArrival
    simp only [v, State.tick, h5, h6, List.isEmpty_nil, Bool.not_true, Bool.or_false, List.length_append, List.length_singleton, decide_eq_false_iff_not]
    omega
  have hl : v.lapseDue = v := lapseDue_keeps (s := v) h8 h9
  have hans : (s.tick t).answers = true := by simp [State.answers, State.tick, h1]
  let q := v.countArrival
  have hopen : q.openFor c = some x := by
    have e1 : q.sessionOf c.session = some x := g1
    unfold State.openFor
    rw [e1]
    have : ((c.net == Net.service) == (x.cls == OriginClass.maintenance)) = true := by
      by_cases hc : c.net = .service
      · simp [hc, g2.1 hc]
      · have : x.cls ≠ .maintenance := fun e => hc (g2.2 e)
        simp [hc, this]
    have e3 : q.opened x c = true := g3
    simp only [Option.filter, this, e3, Bool.true_and, if_true]
  have hansw : q.answering = s.unexcluded := by
    have : q.control.phase = .running := h1
    unfold State.answering
    rw [this]
    rfl
  obtain ⟨L, hp1, hp3⟩ := checkTelegram_healthy q s.unexcluded (unexcluded_two h2) h10 1 c.path.port (0x10000 + c.session) c.session
  let p1 : State := { q with lanes := L }
  have hjudge : q.judge op c = (p1.heardFrom op c).judgeHeader op c := by
    unfold State.judge
    simp only [if_neg hop, hopen, hansw, g10, Option.isSome_some, Bool.or_true, Bool.true_and]
    have e1 : (c.cvP == cvP (checkMessage (q.hostFold op (some x)) (HostCopyHead op c))) = true := by
      rw [g11]; exact beq_self_eq_true _
    have e2 : (c.cvQ == cvQ (checkMessage (q.hostFold op (some x)) (HostCopyHead op c))) = true := by
      rw [g12]; exact beq_self_eq_true _
    rw [e1, e2, hp1]
    simp only [Bool.true_eq_false, if_false]
    have : (p1.heardFrom op c).control.phase = .running := by
      unfold State.heardFrom
      rw [if_neg hop]
      exact h1
    rw [if_pos this]
  have hmode : ∀ i, (L.get i).mode = (s.lane i).mode := fun i => by rw [hp3 i]; rfl
  have hst : p1.stampOf c = s.stampOf c := by
    show c.stamps.get p1.lead = c.stamps.get s.lead
    rw [lead_same (s := s) (u := p1) hmode]
  let S := s.host.sessions.map (fun x => if x.number = c.session then x.heard c (s.stampOf c) else x)
  let p2 : State := { p1 with host := { p1.host with sessions := S } }
  have hp2 : p1.heardFrom op c = p2 := by
    unfold State.heardFrom State.modSession
    rw [if_neg hop]
    simp only [hst]
    have : p1.control.phase ≠ .dusk := by show s.control.phase ≠ _; rw [h1]; decide
    simp only [if_neg this]
    rfl
  refine ⟨p2.countNet c.net (fun k => { k with copies := inc k.copies }), ⟨?_, ?_⟩, ?_⟩
  · cases hn : c.net <;> simp only [State.countNet, p2, p1, q, v, State.countArrival, State.tick, State.heardHost, hn] <;> rfl
  · intro i
    have : (p2.countNet c.net (fun k => { k with copies := inc k.copies })).lane i = L.get i := by cases c.net <;> rfl
    rw [this, hp3 i]
    rfl
  · unfold State.hostArrive
    rw [hv]
    simp only
    rw [if_pos ⟨hans, Or.inr h4⟩, hl]
    have hadm : v.admitCopy op c = q.judge op c := by
      unfold State.admitCopy
      have e1 : ¬(v.sealBank.ki40 = true ∧ c.net ≠ .service) := by
        show ¬(s.sealBank.ki40 = true ∧ _)
        rw [h3]; simp
      rw [if_neg e1, if_neg (by rw [g4]; simp), if_neg (by rw [g5, g6, g7]; simp [bitAt]; omega)]
      simp only [harr, Bool.false_eq_true, if_false]
      rfl
    rw [hadm, hjudge, hp2]
    have hsess : p2.sessionOf c.session = some (x.heard c (s.stampOf c)) := by
      show S.find? _ = _
      have g1' : s.host.sessions.find? (fun y => y.number == c.session) = some x := g1
      have : ∀ (l : List Session) (y : Session), l.find? (fun z => z.number == c.session) = some y →
          (l.map (fun z => if z.number = c.session then z.heard c (s.stampOf c) else z)).find? (fun z => z.number == c.session) =
            some (y.heard c (s.stampOf c)) := by
        intro l
        induction l with
        | nil => intro y hy; simp at hy
        | cons a r ih =>
          intro y hy
          by_cases ha : a.number = c.session
          · have hb : (a.number == c.session) = true := by simp [ha]
            simp only [List.find?_cons, hb, Option.some.injEq] at hy
            subst hy
            have hh : ((a.heard c (s.stampOf c)).number == c.session) = true := by simpa [Session.heard] using ha
            simp only [List.map_cons, if_pos ha, List.find?_cons, hh]
          · have hb : (a.number == c.session) = false := by simp [ha]
            simp only [List.find?_cons, hb] at hy
            simp only [List.map_cons, if_neg ha, List.find?_cons, hb]
            exact ih y hy
      exact this _ _ g1'
    unfold State.judgeHeader
    rw [if_neg (by rw [g7, g13]; simp [hop]), hr]
    simp only
    have hadmits : ¬(op ≠ 1 ∧ (p2.sessionOf c.session).any (fun x => !row.admits x.cls) = true) := by
      rw [hsess]
      have : (x.heard c (s.stampOf c)).cls = x.cls := rfl
      simp [this, g15]
    have hseq : ¬(row.cls ≠ .query ∧ p2.seqOk op c = false) := by
      rintro ⟨ha, hb⟩
      have := g16 ha
      unfold State.seqOk at this hb
      rw [hsess] at hb
      rw [g1] at this
      have e : (x.heard c (s.stampOf c)).high = x.high := rfl
      simp only [Option.any_some, e] at this hb
      rw [this] at hb
      exact absurd hb (by simp)
    have hah : ¬(p2.isAhead c.reqSnap = true) := by
      have : p2.isAhead c.reqSnap = s.isAhead c.reqSnap := rfl
      rw [this, g17]; simp
    rw [if_neg hadmits, if_neg hseq, if_neg hah]

/-- Lanes that stay the same twice stay the same. -/
theorem sameLanes_trans {s p u : State} (h1 : s.sameLanes p) (h2 : p.sameLanes u) : s.sameLanes u := by
  intro i
  have a := h1 i
  have b := h2 i
  generalize (p.lane i).inputs.checkUnits = k1, (p.lane i).inputs.txPending = k2 at a
  rw [a] at b
  exact b

/-- A reply whose path is known waits for the check units of the voting lanes. -/
theorem replyWith_waits {s : State} (f : Fold) (r : Reply) (path : ReturnPath) (h1 : s.control.phase = .running)
    (h2 : 2 ≤ s.voting.length) (hp : s.replyPath r = some path) :
    ∃ b L, s.replyWith f r = { s with
        host := { s.host with replies := s.host.replies ++
          [{ r with path := some path, oneLane := s.control.degradation == .oneLane, bytes := b }] }, lanes := L } ∧
      ∀ i, L.get i = { s.lane i with inputs := { (s.lane i).inputs with txPending := (L.get i).inputs.txPending } } := by
  have ha : s.answering = s.unexcluded := by unfold State.answering; rw [h1]
  have hans : s.answers = true := by simp [State.answers, h1]
  unfold State.replyWith
  simp only [hans, Bool.true_eq_false, if_false, hp, ha]
  rw [if_neg (by rcases unexcluded_two h2 with e | e | e | e <;> rw [e] <;> decide)]
  refine ⟨_, _, rfl, ?_⟩
  intro i
  rcases unexcluded_two h2 with e | e | e | e <;> rw [e] <;> cases i <;> rfl

/-- A query whose acceptance changes nothing answers with its data. -/
theorem query_answered {s : State} {t op : Nat} {x : Session} {c : HostCopy} {row : OpRow} {snap : Nat} {data : Bytes} (h : s.hostReady t) (g : s.goodCopy op x c)
    (hop : op ≠ 0x0001) (hr : opOf op = some row) (hq : row.cls = .query) (hn : row.recorded = false) (hq2 : op ≠ 0x0702)
    (ha : ∀ p, s.heardCopy p t c → ∃ n, p.accept (p.cmdOf op c (p.newRec op c) none) = { st := p, status := stOk, data := data, snapshot := n } ∧
      n.getD p.replySnapshot = snap)
    (hl2 : op ≠ 0x0403) (hl3 : op ≠ 0x0002) :
    ∃ u, run t (fun v => v.hostArrive op c) s = .next u ∧ s.queryAnswered u t op c snap data := by
  obtain ⟨p, hp, he⟩ := hostArrive_good h g hop hr
  rw [if_pos hq] at he
  refine ⟨_, rfl, ?_⟩
  show s.queryAnswered (((s.tick t).hostArrive op c).close (max s.now t) s.pending) t op c snap data
  rw [he]
  obtain ⟨n, hn', hsn⟩ := ha p hp
  have hph : p.control.phase = .running := by rw [hp.1]; exact h.1
  have hmo : 2 ≤ p.voting.length := by rw [voting_same (s := s) (fun i => by rw [hp.2 i])]; exact h.2.1
  have hrec : recordsCommand op c.params = false := by simp [recordsCommand, hr, hn]
  have hl : isRestrictive op = false := by unfold isRestrictive; rw [hr, Option.any_some, hq]; rfl
  obtain ⟨b, L, e1, e2⟩ := replyWith_waits (s := p) (p.replyFold op c.session)
    (p.copyReply op c c.net (some c.path) false stOk (n.getD p.replySnapshot) data) c.path hph hmo rfl
  have hans : p.answerQuery op c = { p with
        host := { p.host with replies := p.host.replies ++ [{ p.copyReply op c c.net (some c.path) false stOk (n.getD p.replySnapshot) data with
          oneLane := p.control.degradation == .oneLane, bytes := b }] }, lanes := L } := by
    unfold State.answerQuery
    simp only [hn', State.afterAccept, hl, hl2, hl3, hrec, if_false, decide_eq_false hq2, Bool.false_and, Bool.false_eq_true]
    rw [if_pos (by simp)]
    exact e1
  rw [hans]
  have hho : p.host = s.heardHost t c := by rw [hp.1]
  have hrep : p.host.replies = s.host.replies := by rw [hho]; unfold State.heardHost; cases c.net <;> rfl
  refine ⟨{ p.copyReply op c c.net (some c.path) false stOk (n.getD p.replySnapshot) data with
    oneLane := p.control.degradation == .oneLane, bytes := b }, ⟨rfl, rfl, rfl, rfl, rfl, rfl, rfl, rfl, rfl, rfl, rfl, rfl, rfl⟩, hsn, ?_, ?_⟩
  · rw [hrep, hho]
    obtain ⟨K, hK⟩ : ∃ K, p = { s with now := max s.now t, host := s.heardHost t c, lanes := K } := ⟨_, hp.1⟩
    subst hK
    rfl
  · refine sameLanes_trans hp.2 (fun i => ?_)
    show L.get i = { p.lane i with inputs := { (p.lane i).inputs with checkUnits := (L.get i).inputs.checkUnits, txPending := (L.get i).inputs.txPending } }
    have hc : (L.get i).inputs.checkUnits = (p.lane i).inputs.checkUnits := by rw [e2 i]
    rw [hc]
    exact e2 i

/-- A session record is never dropped as an old SESSION_OPEN. -/
theorem recOf_keepsOpening (s : State) (l : List HostRec) (n q : Nat) :
    (l.filter s.keepsOpening).find? (fun r => r.key == .session n q) = l.find? (fun r => r.key == .session n q) := by
  induction l with
  | nil => rfl
  | cons a r ih =>
    by_cases hk : a.key = .session n q
    · have : s.keepsOpening a = true := by unfold State.keepsOpening; rw [hk]; rfl
      have hb : (a.key == RecKey.session n q) = true := by rw [hk]; exact beq_self_eq_true _
      rw [List.filter_cons_of_pos this, List.find?_cons, List.find?_cons, hb]
    · have hb : (a.key == RecKey.session n q) = false := by simpa using hk
      by_cases hf : s.keepsOpening a = true
      · rw [List.filter_cons_of_pos hf, List.find?_cons, List.find?_cons, hb]; exact ih
      · rw [List.filter_cons_of_neg hf, List.find?_cons, hb]; exact ih

theorem stamp_heard {s p : State} {t : Nat} {c : HostCopy} (h : s.heardCopy p t c) : p.stampOf c = s.stampOf c := by
  show c.stamps.get p.lead = c.stamps.get s.lead
  rw [lead_same (s := s) (fun i => by rw [h.2 i])]

theorem heardHost_recs (s : State) (t : Nat) (c : HostCopy) : (s.heardHost t c).recs = s.host.recs := by
  unfold State.heardHost; cases c.net <;> rfl

theorem find_modRec (l : List HostRec) (k : RecKey) (f : HostRec → HostRec) (hf : ∀ r, (f r).key = r.key) {r : HostRec}
    (h : l.find? (fun r => r.key == k) = some r) : (l.map (fun r => if r.key = k then f r else r)).find? (fun r => r.key == k) = some (f r) := by
  induction l with
  | nil => simp at h
  | cons a rest ih =>
    by_cases hk : a.key = k
    · have hb : (a.key == k) = true := by simp [hk]
      rw [List.find?_cons, hb] at h
      obtain rfl := Option.some.inj h
      have hb2 : ((f a).key == k) = true := by rw [hf]; exact hb
      rw [List.map_cons, if_pos hk, List.find?_cons, hb2]
    · have hb : (a.key == k) = false := by simp [hk]
      rw [List.find?_cons, hb] at h
      rw [List.map_cons, if_neg hk, List.find?_cons, hb]
      exact ih h

theorem heard_recs {s p : State} {t : Nat} {c : HostCopy} (h : s.heardCopy p t c) (R : List HostRec) :
    { p with host := { p.host with recs := R } } =
      { s with now := max s.now t, host := { s.heardHost t c with recs := R }, lanes := p.lanes } := by
  have a := h.1
  generalize p.lanes = K at a ⊢
  subst a
  rfl

/-- Fewer records hold no decision of a copy where more held none. -/
theorem decisionOf_filter_none {s u : State} {k : RecKey} {b : Bytes} {keep : HostRec → Bool} (h : s.decisionOf k b = none)
    (hu : u.host.recs = s.host.recs.filter keep) : u.decisionOf k b = none := by
  unfold State.decisionOf at *
  rw [List.find?_eq_none] at *
  intro d hd
  refine h d ?_
  rw [hu] at hd
  obtain ⟨r, hr, hd⟩ := List.mem_flatMap.1 hd
  obtain ⟨hr, hk⟩ := List.mem_filter.1 hr
  exact List.mem_flatMap.2 ⟨r, List.mem_filter.2 ⟨(List.mem_filter.1 hr).1, hk⟩, hd⟩

/-- The second copy of a permissive command decides it for both networks. -/
theorem second_copy_decides {s : State} {t op : Nat} {x : Session} {c : HostCopy} {row : OpRow} (h : s.hostReady t) (g : s.secondCopy op x c)
    (hop : op ≠ 0x0001) (hr : opOf op = some row) (hc : row.cls = .permissive) :
    ∃ p r, p = { s with now := max s.now t, host := { s.heardHost t c with recs := p.host.recs }, lanes := p.lanes } ∧ s.sameLanes p ∧
      p.recOf (.session c.session c.seq) = some r ∧ r.decisions = [] ∧ r.key = .session c.session c.seq ∧
      (s.tick t).hostArrive op c = p.decideCopy op c none [.x, .y] := by
  obtain ⟨g1, g2, g3, g9, r, g4, g5, g6, g7, g8⟩ := g
  obtain ⟨p, hp, he⟩ := hostArrive_good h g1 hop hr
  rw [if_neg (by rw [hc]; decide)] at he
  have hkey : copyKey op c = .session c.session c.seq := by unfold copyKey; rw [if_neg hop]
  have hst := stamp_heard hp
  have hrecs : p.host.recs = s.host.recs := by rw [hp.1]; exact heardHost_recs s t c
  let p1 : State := { p with host := { p.host with recs := p.host.recs.filter p.keepsOpening } }
  have h1 : p1.recOf (copyKey op c) = some r := by
    rw [hkey]
    show (p.host.recs.filter p.keepsOpening).find? _ = _
    rw [recOf_keepsOpening, hrecs]
    exact g4
  have hrk : r.key = .session c.session c.seq := by
    have := List.find?_some g4
    simpa using this
  let p2 : State := p1.modRec r.key (fun y => y.addPath c)
  refine ⟨p2, r.addPath c, ?_, hp.2, ?_, ?_, ?_, ?_⟩
  · exact heard_recs hp p2.host.recs
  · show (p1.host.recs.map _).find? _ = _
    rw [hkey] at h1
    rw [hrk]
    exact find_modRec p1.host.recs _ _ (fun y => by unfold HostRec.addPath; split <;> rfl) h1
  · unfold HostRec.addPath; split <;> exact g5
  · unfold HostRec.addPath; split <;> exact hrk
  · rw [he]
    unfold State.compareCopy
    have h1' : State.recOf { p with host := { p.host with recs := p.host.recs.filter p.keepsOpening } } (copyKey op c) = some r := h1
    have hw : ¬(r.opened + r.window ≤ State.stampOf { p with host := { p.host with recs := p.host.recs.filter p.keepsOpening } } c) := by
      show ¬(r.opened + r.window ≤ p.stampOf c)
      rw [hst]; omega
    simp only [h1', if_neg hw]
    have hd : State.decisionOf { p with host := { p.host with recs := p.host.recs.filter p.keepsOpening } } r.key (HostCopyHead op c) = none := by
      rw [hrk]
      exact decisionOf_filter_none g9 (by rw [← hrecs])
    unfold State.laterCopy
    simp only [hd, hc]
    have hopen : r.isOpen = true := by simp [HostRec.isOpen, g5]
    rw [if_neg (by decide), if_pos hopen, if_neg (fun e => g6 e.symm), if_pos g7.symm]

theorem sameLanes_tx {s u : State} (h : ∀ i, u.lane i = { s.lane i with inputs := { (s.lane i).inputs with txPending := (u.lane i).inputs.txPending } }) :
    s.sameLanes u := by
  intro i
  have hc : (u.lane i).inputs.checkUnits = (s.lane i).inputs.checkUnits := by rw [h i]
  rw [hc]
  exact h i

theorem sameLanes_mode {s u : State} (h : s.sameLanes u) (h2 : 2 ≤ s.voting.length) : 2 ≤ u.voting.length := by
  rw [voting_same (s := s) (fun i => by rw [h i])]; exact h2

/-- What a reply adds: one reply, and in each lane a telegram that waits for check values. -/
theorem reply_adds {s : State} (r : Reply) (y : Session) (h1 : s.control.phase = .running) (h2 : 2 ≤ s.voting.length)
    (hy : s.sessionOf r.session = some y) (hp : r.path.isSome = true ∨ (if r.net = .y then y.pathY else y.pathX).isSome = true) :
    ∃ r' : Reply, r'.path.isSome = true ∧ r' = { r with path := r'.path, oneLane := r'.oneLane, bytes := r'.bytes } ∧
      ∃ L, s.reply r = { s with host := { s.host with replies := s.host.replies ++ [r'] }, lanes := L } ∧
        s.sameLanes (s.reply r) := by
  have hq : ∃ q, s.replyPath r = some q := by
    unfold State.replyPath
    cases hr : r.path with
    | some q => exact ⟨q, rfl⟩
    | none =>
      rw [hr] at hp
      have hq : (if r.net = .y then y.pathY else y.pathX).isSome = true := by
        rcases hp with h | h
        · exact absurd h (by simp)
        · exact h
      obtain ⟨q, hq⟩ := Option.isSome_iff_exists.1 hq
      exact ⟨q, by simp only [hy, Option.bind_some]; exact hq⟩
  obtain ⟨q, hq⟩ := hq
  obtain ⟨b, L, e1, e2⟩ := replyWith_waits (s := s) (s.replyFold r.opcode r.session) r q h1 h2 hq
  refine ⟨{ r with path := some q, oneLane := s.control.degradation == .oneLane, bytes := b }, rfl, rfl, L, e1, ?_⟩
  have : s.reply r = _ := e1
  rw [this]
  exact sameLanes_tx e2

/-- What a decision for both networks leaves: the state that its acceptance made, the record decided, two replies and, where the opcode has one,
the COMMAND record. -/
theorem decideCopy_tells {p v : State} {op st : Nat} {c : HostCopy} {r : HostRec} {d : Bytes} {y : Session} (hop : op ≠ 0x0001) (hop2 : op ≠ 0x0002)
    (hr : p.recOf (.session c.session c.seq) = some r)
    (ha : p.accept (p.cmdOf op c r none) = { st := v, status := st, data := d, snapshot := none })
    (hs : st = stOk ∨ st = stAccepted) (h1 : v.control.phase = .running) (h2 : 2 ≤ v.voting.length)
    (hy : v.sessionOf c.session = some y) (hn : c.net ≠ .service) (hp : (if c.net = .x then y.pathY else y.pathX).isSome = true)
    (ht : v.pair.role = .unpaired) :
    ∃ w r1 r2, p.decideCopy op c none [.x, .y] = w ∧ v.sameLanes w ∧
      w = { v with
        host := { v.host with recs := w.host.recs, replies := v.host.replies ++ [r1, r2] }, lanes := w.lanes
        almanac := { v.almanac with events := v.almanac.events ++ (if recordsCommand op c.params then
            [queuedOf 0x0606 0 0 (p.cmdOf op c r none).origin [payloadFields [(24, 2, op), (26, 2, rd16 c.params 0), (28, 4, c.originId)]]] else []) } } ∧
      r1.net = .x ∧ r2.net = .y ∧
      ∀ q : Reply, q = r1 ∨ q = r2 → q.ki40 = false ∧ q.repeated = false ∧ q.late = false ∧ q.session = c.session ∧ q.seq = c.seq ∧ q.opcode = op ∧
        q.originId = c.originId ∧ q.status = st ∧ q.data = d ∧ q.path.isSome = true := by
  have hkey : copyKey op c = .session c.session c.seq := by unfold copyKey; rw [if_neg hop]
  let v1 : State := v.putDecision r.key op { status := st, snapshot := p.replySnapshot, data := d, bytes := HostCopyHead op c }
  have hpaths : ∀ n : Net, n = .x ∨ n = .y → (if n = c.net then some c.path else (none : Option ReturnPath)).isSome = true ∨
      (if n = .y then y.pathY else y.pathX).isSome = true := by
    intro n hn'
    by_cases e : n = c.net
    · left; simp [e]
    · right
      rcases hn' with rfl | rfl
      · cases hcn : c.net <;> simp_all
      · cases hcn : c.net <;> simp_all
  obtain ⟨r1, a1, a2, L1, a3, a5⟩ := reply_adds (s := v1) (v1.copyReply op c .x (if Net.x = c.net then some c.path else none) false st p.replySnapshot d)
    y h1 h2 hy (hpaths .x (Or.inl rfl))
  let v2 : State := { v1 with host := { v1.host with replies := v1.host.replies ++ [r1] }, lanes := L1 }
  have hv2 : v1.reply (v1.copyReply op c .x (if Net.x = c.net then some c.path else none) false st p.replySnapshot d) = v2 := a3
  rw [hv2] at a5
  obtain ⟨r2, b1, b2, L2, b3, b5⟩ := reply_adds (s := v2) (v2.copyReply op c .y (if Net.y = c.net then some c.path else none) false st p.replySnapshot d)
    y h1 (sameLanes_mode a5 h2) hy (hpaths .y (Or.inr rfl))
  have e : p.decideCopy op c none [.x, .y] =
      (v2.reply (v2.copyReply op c .y (if Net.y = c.net then some c.path else none) false st p.replySnapshot d)).afterAccept op c (p.cmdOf op c r none) d := by
    unfold State.decideCopy
    rw [hkey]
    simp only [decideKey, hr]
    simp only [ha, Option.getD_none]
    rw [if_pos hs]
    unfold State.sendDecision
    simp only [List.foldl_cons, List.foldl_nil, if_neg hop]
    rw [← hv2]
  have hl : v2.host.replies ++ [r2] = v.host.replies ++ [r1, r2] := by
    show (v.host.replies ++ [r1]) ++ [r2] = _
    simp
  rw [hl] at b3
  rw [b3] at e b5
  have haft : ∀ W : State, W.pair.role = .unpaired → W.afterAccept op c (p.cmdOf op c r none) d =
      { W with almanac := { W.almanac with events := W.almanac.events ++ (if recordsCommand op c.params then
            [queuedOf 0x0606 0 0 (p.cmdOf op c r none).origin [payloadFields [(24, 2, op), (26, 2, rd16 c.params 0), (28, 4, c.originId)]]] else []) } } := by
    intro W hW
    have t1 : W.tellPeer 3 (p.cmdOf op c r none) = W := by
      unfold State.tellPeer; rw [if_neg (by rw [hW]; decide)]
    have t2 : W.tellStaged false = W := by
      unfold State.tellStaged State.inPair; rw [if_neg (by simp [hW])]
    unfold State.afterAccept
    simp only [t1, t2, ite_self, if_neg hop, if_neg hop2]
    split
    · rfl
    · simp
  replace e := e.trans (haft _ ht)
  refine ⟨_, r1, r2, e, ?_, ?_, ?_, ?_, ?_⟩
  · exact sameLanes_trans a5 b5
  · rfl
  · rw [a2]; rfl
  · rw [b2]; rfl
  · rintro q (rfl | rfl)
    · rw [a2]; exact ⟨rfl, rfl, rfl, rfl, rfl, rfl, rfl, rfl, rfl, a1⟩
    · rw [b2]; exact ⟨rfl, rfl, rfl, rfl, rfl, rfl, rfl, rfl, rfl, b1⟩

theorem find_heard (l : List Session) (c : HostCopy) (stamp : Nat) {y : Session} (h : l.find? (fun z => z.number == c.session) = some y) :
    (l.map (fun z => if z.number = c.session then z.heard c stamp else z)).find? (fun z => z.number == c.session) = some (y.heard c stamp) := by
  induction l with
  | nil => simp at h
  | cons a r ih =>
    by_cases ha : a.number = c.session
    · have hb : (a.number == c.session) = true := by simp [ha]
      simp only [List.find?_cons, hb, Option.some.injEq] at h
      subst h
      have hh : ((a.heard c stamp).number == c.session) = true := by simpa [Session.heard] using ha
      simp only [List.map_cons, if_pos ha, List.find?_cons, hh]
    · have hb : (a.number == c.session) = false := by simp [ha]
      simp only [List.find?_cons, hb] at h
      simp only [List.map_cons, if_neg ha, List.find?_cons, hb]
      exact ih h

theorem heardHost_session {s : State} (t : Nat) {x : Session} {c : HostCopy} (h : s.sessionOf c.session = some x) :
    (s.heardHost t c).sessions.find? (fun z => z.number == c.session) = some (x.heard c (s.stampOf c)) :=
  find_heard s.host.sessions c (s.stampOf c) h

theorem heardHost_replies (s : State) (t : Nat) (c : HostCopy) : (s.heardHost t c).replies = s.host.replies := by
  unfold State.heardHost; cases c.net <;> rfl

theorem heardHost_awaiting (s : State) (t : Nat) (c : HostCopy) : (s.heardHost t c).awaiting = s.host.awaiting := by
  unfold State.heardHost; cases c.net <;> rfl

/-- The second copy of a permissive command, accepted into a state `v` that a good copy's state `p` becomes. -/
theorem second_copy_accepted {s : State} {t op st : Nat} {x : Session} {c : HostCopy} {row : OpRow} {data : Bytes} {next : State → Cmd → State}
    (h : s.hostReady t) (g : s.secondCopy op x c) (hop : op ≠ 0x0001) (hop2 : op ≠ 0x0002) (hr : opOf op = some row) (hc : row.cls = .permissive)
    (hs : st = stOk ∨ st = stAccepted)
    (ha : ∀ p cmd, p = { s with now := max s.now t, host := { s.heardHost t c with recs := p.host.recs }, lanes := p.lanes } → s.sameLanes p →
      cmd.opcode = op → cmd.params = c.params → cmd.key = .session c.session c.seq → cmd.session = c.session → cmd.cls = x.cls → cmd.hostId = x.hostId →
      cmd.originId = c.originId → cmd.content = none → cmd.stamps = c.stamps →
      p.accept cmd = { st := next p cmd, status := st, data := data, snapshot := none } ∧
      (next p cmd).control.phase = .running ∧ 2 ≤ (next p cmd).voting.length ∧
      (∃ y, (next p cmd).sessionOf c.session = some y ∧ y.pathX = (x.heard c (s.stampOf c)).pathX ∧ y.pathY = (x.heard c (s.stampOf c)).pathY) ∧
      (next p cmd).pair.role = .unpaired) :
    ∃ p cmd w r1 r2, p = { s with now := max s.now t, host := { s.heardHost t c with recs := p.host.recs }, lanes := p.lanes } ∧ s.sameLanes p ∧
      cmd.key = .session c.session c.seq ∧ cmd.params = c.params ∧ cmd.session = c.session ∧ cmd.cls = x.cls ∧ cmd.hostId = x.hostId ∧
      cmd.originId = c.originId ∧ cmd.opcode = op ∧ cmd.content = none ∧ cmd.stamps = c.stamps ∧
      run t (fun v => v.hostArrive op c) s = .next (w.close (max s.now t) s.pending) ∧
      (next p cmd).sameLanes w ∧
      w = { next p cmd with
        host := { (next p cmd).host with recs := w.host.recs, replies := (next p cmd).host.replies ++ [r1, r2] }, lanes := w.lanes
        almanac := { (next p cmd).almanac with events := (next p cmd).almanac.events ++ (if recordsCommand op c.params then
            [queuedOf 0x0606 0 0 (Origin.ofSession x) [payloadFields [(24, 2, op), (26, 2, rd16 c.params 0), (28, 4, c.originId)]]] else []) } } ∧
      r1.net = .x ∧ r2.net = .y ∧
      ∀ q : Reply, q = r1 ∨ q = r2 → q.ki40 = false ∧ q.repeated = false ∧ q.late = false ∧ q.session = c.session ∧ q.seq = c.seq ∧ q.opcode = op ∧
        q.originId = c.originId ∧ q.status = st ∧ q.data = data ∧ q.path.isSome = true := by
  obtain ⟨p, r, hp, hl, hrec, hd, hk, he⟩ := second_copy_decides h g hop hr hc
  have hsess : p.sessionOf c.session = some (x.heard c (s.stampOf c)) := by
    have e : p.host.sessions = (s.heardHost t c).sessions := by rw [hp]
    unfold State.sessionOf
    rw [e]
    exact heardHost_session t g.1.1
  let cmd := p.cmdOf op c r none
  have hcls : cmd.cls = x.cls := by show ((p.sessionOf c.session).map (·.cls)).getD .internal = _; rw [hsess]; rfl
  have hhid : cmd.hostId = x.hostId := by show ((p.sessionOf c.session).map (·.hostId)).getD 0 = _; rw [hsess]; rfl
  have hnum : x.number = c.session := by
    have := List.find?_some g.1.1
    simpa using this
  obtain ⟨a1, a2, a3, ⟨y, a4, a4x, a4y⟩, a5⟩ := ha p cmd hp hl rfl rfl hk rfl hcls hhid rfl rfl rfl
  obtain ⟨w, r1, r2, b1, b2, b3, b4, b5, b6⟩ := decideCopy_tells hop hop2 hrec a1 hs a2 a3 a4 g.2.1
    (by
      have := g.2.2.1
      rw [a4x, a4y]
      have hs := g.2.1
      cases hcn : c.net with
      | x => simpa only [Session.heard, hcn, if_true, reduceCtorEq, if_false] using this
      | y => simpa only [Session.heard, hcn, if_true, reduceCtorEq, if_false] using this
      | service => exact absurd hcn hs) a5
  have horg : cmd.origin = Origin.ofSession x := by
    unfold Cmd.origin Origin.ofSession
    rw [hcls, hhid, hnum]
    rfl
  refine ⟨p, cmd, w, r1, r2, hp, hl, hk, rfl, rfl, hcls, hhid, rfl, rfl, rfl, rfl, ?_, b2, ?_, b4, b5, b6⟩
  · show Host.Outcome.next (((s.tick t).hostArrive op c).close (max s.now t) s.pending) = _
    rw [he, b1]
  · rw [← horg]; exact b3

/-- A permissive command whose acceptance only lets it await intake. -/
theorem second_copy_awaits {s : State} {t op : Nat} {x : Session} {c : HostCopy} {row : OpRow} {e : EngineCmd} {data : Bytes}
    (h : s.hostReady t) (g : s.secondCopy op x c) (hop : op ≠ 0x0001) (hop2 : op ≠ 0x0002) (hr : opOf op = some row) (hc : row.cls = .permissive)
    (hrec : recordsCommand op c.params = true) (hu : s.pair.role = .unpaired)
    (ha : ∀ p cmd, p = { s with now := max s.now t, host := { s.heardHost t c with recs := p.host.recs }, lanes := p.lanes } → s.sameLanes p →
      cmd.opcode = op → cmd.params = c.params → cmd.cls = x.cls → p.accept cmd = { st := p.await cmd e, status := stAccepted, data := data, snapshot := none }) :
    ∃ u, run t (fun v => v.hostArrive op c) s = .next u ∧ s.takenUp u t op x c e data := by
  obtain ⟨p, cmd, w, r1, r2, hp, hl, k1, k2, k3, k4, k5, k6, k7, k8, k9, hrun, hw1, hw2, hn1, hn2, hq⟩ :=
    second_copy_accepted (st := stAccepted) (data := data) (next := fun p cmd => p.await cmd e) h g hop hop2 hr hc (Or.inr rfl)
      (by
        intro p cmd hp hl c1 c2 c3 c4 c5 c6 c7 c8 c9
        refine ⟨ha p cmd hp hl c1 c2 c5, ?_, sameLanes_mode hl h.2.1, ⟨x.heard c (s.stampOf c), ?_, rfl, rfl⟩, ?_⟩
        · show p.control.phase = _
          rw [hp]; exact h.1
        · show p.host.sessions.find? _ = _
          have e : p.host.sessions = (s.heardHost t c).sessions := by rw [hp]
          rw [e]
          exact heardHost_session t g.1.1
        · show p.pair.role = _
          rw [hp]; exact hu)
  have haw : p.host.awaiting = s.host.awaiting := by rw [hp]; exact heardHost_awaiting s t c
  have hrep : p.host.replies = s.host.replies := by rw [hp]; exact heardHost_replies s t c
  have hint : ({ key := cmd.key, content := cmd.content, cmd := e, cls := cmd.cls, session := cmd.session, hostId := cmd.hostId, originId := cmd.originId, opcode := cmd.opcode, stamps := cmd.stamps, due := 0 } : Intake) = x.intake op c e := by
    rw [k1, k3, k4, k5, k6, k7, k8, k9]; rfl
  have hho : w.host = { s.heardHost t c with awaiting := s.host.awaiting ++ [x.intake op c e], recs := w.host.recs, replies := s.host.replies ++ [r1, r2] } := by
    rw [hw2]
    have e1 : (p.await cmd e).host.replies = s.host.replies := hrep
    have e2 : (p.await cmd e).host = { p.host with awaiting := p.host.awaiting ++ [x.intake op c e] } := by rw [← hint]; rfl
    show { (p.await cmd e).host with recs := w.host.recs, replies := (p.await cmd e).host.replies ++ [r1, r2] } = _
    rw [e1, e2, haw]
    have : p.host = { s.heardHost t c with recs := p.host.recs } := by rw [hp]
    rw [this]
  have hwe : w = { s with now := max s.now t, host := w.host, lanes := w.lanes, almanac := w.almanac } := by
    have e1 : w = { p.await cmd e with host := w.host, lanes := w.lanes, almanac := w.almanac } := by rw [hw2]
    have e2 : ∀ H L A, ({ p.await cmd e with host := H, lanes := L, almanac := A } : State) = { s with now := max s.now t, host := H, lanes := L, almanac := A } := by
      intro H L A
      show ({ p with host := H, lanes := L, almanac := A } : State) = _
      rw [hp]
    exact e1.trans (e2 _ _ _)
  have hclose : w.close (max s.now t) s.pending = w := by rw [hwe]; rfl
  rw [hclose] at hrun
  refine ⟨w, hrun, ⟨r1, r2, by rw [hho], hn1, hn2, hq⟩, by unfold State.hostAfter; rw [hho], ?_, sameLanes_trans hl hw1, hwe⟩
  unfold State.commandNoted
  have : w.almanac = { (p.await cmd e).almanac with events := (p.await cmd e).almanac.events ++ (if recordsCommand op c.params = true then
            [queuedOf 0x0606 0 0 (Origin.ofSession x) [payloadFields [(24, 2, op), (26, 2, rd16 c.params 0), (28, 4, c.originId)]]]
          else []) } := by rw [hw2]
  rw [this, if_pos hrec]
  have ea : (p.await cmd e).almanac = s.almanac := by show p.almanac = _; rw [hp]
  rw [ea]

/-- A list of records without a key has none after it is filtered. -/
theorem find_filter_none (l : List HostRec) (p : HostRec → Bool) (k : RecKey) (h : l.find? (fun r => r.key == k) = none) :
    (l.filter p).find? (fun r => r.key == k) = none := by
  rw [List.find?_eq_none] at *
  exact fun x hx => h x (List.mem_filter.1 hx).1

/-- Opening a record raises H. -/
theorem openRec_raises {p : State} {op : Nat} {c : HostCopy} {y : Session} (h : p.sessionOf c.session = some y) :
    ∃ R, p.openRec op c = { p with host := { p.host.raised y c with recs := R } } := by
  unfold State.openRec State.raiseHigh
  have hs2 : ({ p with host := { p.host with recs := p.host.recs ++ [p.newRec op c] } } : State).sessionOf c.session = some y := h
  simp only [hs2, Option.map_some, Option.getD_some]
  exact ⟨_, rfl⟩

theorem heard_raised {s p : State} {H : HostSide} {L : Lanes Lane} {y : Session} {c : HostCopy} {n : Nat} {Q R : List HostRec} (h : p = { s with now := n, host := H, lanes := L }) :
    ({ p with host := { (HostSide.raised { p.host with recs := Q } y c) with recs := R } } : State) =
      { s with now := n, host := { H.raised y c with recs := R }, lanes := L } := by
  subst h; rfl

/-- The first copy of a restrictive command, with its record opened: it goes to its decision for both networks. -/
theorem first_restrictive_decides {s : State} {t op : Nat} {x : Session} {c : HostCopy} {row : OpRow} (h : s.hostReady t)
    (g : s.firstRestrictive op x c) (hop : op ≠ 0x0001) (hr : opOf op = some row) (hc : row.cls = .restrictive) :
    ∃ p r, p = { s with now := max s.now t, host := { (s.heardHost t c).raised x c with recs := p.host.recs }, lanes := p.lanes } ∧ s.sameLanes p ∧
      p.recOf (.session c.session c.seq) = some r ∧ r.decisions = [] ∧ r.key = .session c.session c.seq ∧
      (s.tick t).hostArrive op c = p.decideCopy op c none [.x, .y] := by
  obtain ⟨g1, g2, g3, g4⟩ := g
  obtain ⟨p, hp, he⟩ := hostArrive_good h g1 hop hr
  rw [if_neg (by rw [hc]; decide)] at he
  have hkey : copyKey op c = .session c.session c.seq := by unfold copyKey; rw [if_neg hop]
  have hrecs : p.host.recs = s.host.recs := by rw [hp.1]; exact heardHost_recs s t c
  let p1 : State := { p with host := { p.host with recs := p.host.recs.filter p.keepsOpening } }
  have h1 : p1.recOf (.session c.session c.seq) = none := by
    show (p.host.recs.filter p.keepsOpening).find? _ = none
    exact find_filter_none _ _ _ (by rw [hrecs]; exact g4)
  have hsess : p1.sessionOf c.session = some (x.heard c (s.stampOf c)) := by
    have e : p1.host.sessions = (s.heardHost t c).sessions := by show p.host.sessions = _; rw [hp.1]
    unfold State.sessionOf
    rw [e]
    exact heardHost_session t g1.1
  refine ⟨p1.openRec op c, p1.newRec op c, ?_, hp.2, ?_, rfl, hkey, ?_⟩
  · obtain ⟨R, hR⟩ := openRec_raises (op := op) hsess
    rw [hR]
    have e := heard_raised (c := c) (y := x.heard c (s.stampOf c)) (Q := p.host.recs.filter p.keepsOpening) (R := R) hp.1
    exact e
  · show ((p1.host.recs ++ [p1.newRec op c]).filter _).find? _ = _
    rw [List.filter_append, List.find?_append]
    rw [find_filter_none _ _ _ h1, Option.none_or, List.filter_singleton]
    have hk : (p1.newRec op c).key = .session c.session c.seq := hkey
    have ho : (p1.newRec op c).isOpen = true := rfl
    simp only [hk, ho, Bool.or_true, cond_true, List.find?_singleton, beq_self_eq_true, if_true]
  · rw [he]
    unfold State.compareCopy
    have h1' : State.recOf { p with host := { p.host with recs := p.host.recs.filter p.keepsOpening } } (copyKey op c) = none := by rw [hkey]; exact h1
    simp only [h1']
    unfold State.firstCopy
    rw [hc]
    simp only [reduceCtorEq, false_and, if_false, true_or, if_true]
    have : replyNets c.net = [.x, .y] := by unfold replyNets; cases hn : c.net <;> simp_all
    rw [this]

theorem raised_session {l : List Session} {n q : Nat} {y : Session} (h : l.find? (fun z => z.number == n) = some y) :
    (l.map (fun z => if z.number = n then { z with high := q } else z)).find? (fun z => z.number == n) = some { y with high := q } := by
  induction l with
  | nil => simp at h
  | cons a r ih =>
    by_cases ha : a.number = n
    · have hb : (a.number == n) = true := by simp [ha]
      simp only [List.find?_cons, hb, Option.some.injEq] at h
      subst h
      simp only [List.map_cons, if_pos ha, List.find?_cons, hb]
    · have hb : (a.number == n) = false := by simp [ha]
      simp only [List.find?_cons, hb] at h
      simp only [List.map_cons, if_neg ha, List.find?_cons, hb]
      exact ih h

/-- The first copy of a restrictive command, accepted into a state that a good copy's state `p` becomes. -/
theorem first_restrictive_accepted {s : State} {t op st : Nat} {x : Session} {c : HostCopy} {row : OpRow} {data : Bytes} {next : State → Cmd → State}
    (h : s.hostReady t) (g : s.firstRestrictive op x c) (hop : op ≠ 0x0001) (hop2 : op ≠ 0x0002) (hr : opOf op = some row) (hc : row.cls = .restrictive)
    (hs : st = stOk ∨ st = stAccepted)
    (ha : ∀ p cmd, p = { s with now := max s.now t, host := { (s.heardHost t c).raised x c with recs := p.host.recs }, lanes := p.lanes } → s.sameLanes p →
      cmd.opcode = op → cmd.params = c.params → cmd.key = .session c.session c.seq → cmd.session = c.session → cmd.cls = x.cls → cmd.hostId = x.hostId →
      cmd.originId = c.originId → cmd.content = none → cmd.stamps = c.stamps →
      p.accept cmd = { st := next p cmd, status := st, data := data, snapshot := none } ∧
      (next p cmd).control.phase = .running ∧ 2 ≤ (next p cmd).voting.length ∧
      (∃ y, (next p cmd).sessionOf c.session = some y ∧ y.pathX = (x.heard c (s.stampOf c)).pathX ∧ y.pathY = (x.heard c (s.stampOf c)).pathY) ∧
      (next p cmd).pair.role = .unpaired) :
    ∃ p cmd w r1 r2, p = { s with now := max s.now t, host := { (s.heardHost t c).raised x c with recs := p.host.recs }, lanes := p.lanes } ∧ s.sameLanes p ∧
      cmd.key = .session c.session c.seq ∧ cmd.params = c.params ∧ cmd.session = c.session ∧ cmd.cls = x.cls ∧ cmd.hostId = x.hostId ∧
      cmd.originId = c.originId ∧ cmd.opcode = op ∧ cmd.content = none ∧ cmd.stamps = c.stamps ∧
      run t (fun v => v.hostArrive op c) s = .next (w.close (max s.now t) s.pending) ∧
      (next p cmd).sameLanes w ∧
      w = { next p cmd with
        host := { (next p cmd).host with recs := w.host.recs, replies := (next p cmd).host.replies ++ [r1, r2] }, lanes := w.lanes
        almanac := { (next p cmd).almanac with events := (next p cmd).almanac.events ++ (if recordsCommand op c.params then
            [queuedOf 0x0606 0 0 (Origin.ofSession x) [payloadFields [(24, 2, op), (26, 2, rd16 c.params 0), (28, 4, c.originId)]]] else []) } } ∧
      r1.net = .x ∧ r2.net = .y ∧
      ∀ q : Reply, q = r1 ∨ q = r2 → q.ki40 = false ∧ q.repeated = false ∧ q.late = false ∧ q.session = c.session ∧ q.seq = c.seq ∧ q.opcode = op ∧
        q.originId = c.originId ∧ q.status = st ∧ q.data = data ∧ q.path.isSome = true := by
  obtain ⟨p, r, hp, hl, hrec, hd, hk, he⟩ := first_restrictive_decides h g hop hr hc
  have hsess : p.sessionOf c.session = some { x.heard c (s.stampOf c) with high := max c.seq x.high } := by
    have e : p.host.sessions = ((s.heardHost t c).raised x c).sessions := by rw [hp]
    unfold State.sessionOf
    rw [e]
    exact raised_session (heardHost_session t g.1.1)
  let cmd := p.cmdOf op c r none
  have hcls : cmd.cls = x.cls := by show ((p.sessionOf c.session).map (·.cls)).getD .internal = _; rw [hsess]; rfl
  have hhid : cmd.hostId = x.hostId := by show ((p.sessionOf c.session).map (·.hostId)).getD 0 = _; rw [hsess]; rfl
  have hnum : x.number = c.session := by
    have := List.find?_some g.1.1
    simpa using this
  obtain ⟨a1, a2, a3, ⟨y, a4, a4x, a4y⟩, a5⟩ := ha p cmd hp hl rfl rfl hk rfl hcls hhid rfl rfl rfl
  obtain ⟨w, r1, r2, b1, b2, b3, b4, b5, b6⟩ := decideCopy_tells hop hop2 hrec a1 hs a2 a3 a4 g.2.1
    (by
      have := g.2.2.1
      rw [a4x, a4y]
      have hs := g.2.1
      cases hcn : c.net with
      | x => simpa only [Session.heard, hcn, if_true, reduceCtorEq, if_false] using this
      | y => simpa only [Session.heard, hcn, if_true, reduceCtorEq, if_false] using this
      | service => exact absurd hcn hs) a5
  have horg : cmd.origin = Origin.ofSession x := by
    unfold Cmd.origin Origin.ofSession
    rw [hcls, hhid, hnum]
    rfl
  refine ⟨p, cmd, w, r1, r2, hp, hl, hk, rfl, rfl, hcls, hhid, rfl, rfl, rfl, rfl, ?_, b2, ?_, b4, b5, b6⟩
  · show Host.Outcome.next (((s.tick t).hostArrive op c).close (max s.now t) s.pending) = _
    rw [he, b1]
  · rw [← horg]; exact b3

theorem pend_keeps (l : Lane) (t : Nat) (f : Force) : ∃ F, l.pend t f = { l with forces := F } := by
  unfold Lane.pend; split
  · exact ⟨l.forces, rfl⟩
  · exact ⟨_, rfl⟩

theorem pendAll_keeps (l : Lane) (t : Nat) (fs : List Force) : ∃ F, l.pendAll t fs = { l with forces := F } := by
  unfold Lane.pendAll
  induction fs generalizing l with
  | nil => exact ⟨l.forces, rfl⟩
  | cons a r ih =>
    obtain ⟨F, hF⟩ := pend_keeps l t a
    rw [List.foldl_cons, hF]
    obtain ⟨G, hG⟩ := ih { l with forces := F }
    exact ⟨G, hG⟩

theorem pendAll_inputs (l : Lane) (t : Nat) (fs : List Force) (I : Inputs) :
    ({ l with inputs := I } : Lane).pendAll t fs = { l.pendAll t fs with inputs := I } := by
  unfold Lane.pendAll
  induction fs generalizing l with
  | nil => rfl
  | cons a r ih =>
    rw [List.foldl_cons, List.foldl_cons]
    have : ({ l with inputs := I } : Lane).pend t a = { l.pend t a with inputs := I } := by
      unfold Lane.pend
      split <;> rfl
    rw [this, ih]

/-- Forces leave the mode of a lane. -/
@[simp] theorem pendAll_mode (l : Lane) (t : Nat) (fs : List Force) : (l.pendAll t fs).mode = l.mode := by
  obtain ⟨F, hF⟩ := pendAll_keeps l t fs
  rw [hF]

/-- Lanes that differ in no more than check counts differ in their inputs only. -/
theorem sameLanes_inputs {s p : State} (h : s.sameLanes p) (i : LaneId) : p.lane i = { s.lane i with inputs := (p.lane i).inputs } := by
  have key : ∀ (P Q : Lane) (I : Inputs), P = { Q with inputs := I } → P = { Q with inputs := P.inputs } := by
    rintro P Q I rfl; rfl
  exact key _ _ _ (h i)

/-- Forces by command in voting lanes: each lane as `State.forcedBy` says. -/
theorem commandForce_lane {s p : State} {t : Nat} {es : List Nat} (hl : s.sameLanes p)
    (hp : p = { s with now := max s.now t, host := p.host, lanes := p.lanes }) :
    p.commandForce es = { p with lanes := (p.commandForce es).lanes } ∧
    ∀ i, (p.commandForce es).lane i = { s.forcedBy t es i (s.lane i) with inputs := (p.lane i).inputs } := by
  have hi : p.hasImage = s.hasImage := by rw [hp]; rfl
  have hg : p.img = s.img := by rw [hp]; rfl
  have hn : p.now = max s.now t := by rw [hp]
  refine ⟨by unfold State.commandForce; split <;> rfl, fun i => ?_⟩
  have hm : (p.lane i).mode = (s.lane i).mode := by rw [hl i]
  have h2 := sameLanes_inputs hl i
  unfold State.commandForce State.forcedBy
  rw [hi, hg, hn]
  by_cases hh : s.hasImage = true
  · rw [if_pos hh]
    simp only []
    generalize ((es.flatMap (groupsFor s.img)).map (·.force)).eraseDups = fs
    have e : (p.mapVoting (fun l => l.pendAll (max s.now t) fs)).lane i =
        (if (p.lane i).mode = .voting then (p.lane i).pendAll (max s.now t) fs else p.lane i) := by
      cases i <;> rfl
    rw [e]
    generalize p.lane i = P at h2 hm ⊢
    by_cases hv : (s.lane i).mode = .voting
    · rw [if_pos (by rw [hm]; exact hv), if_pos ⟨hh, hv⟩, h2, pendAll_inputs]
    · rw [if_neg (by rw [hm]; exact hv), if_neg (fun x => hv x.2)]
      exact h2
  · rw [if_neg hh, if_neg (fun x => hh x.1)]
    exact h2

theorem addsTo_lanes {s p v u : State} {g : LaneId → Lane → Lane} (h1 : s.sameLanes p) (h2 : ∀ i, v.lane i = { g i (s.lane i) with inputs := (p.lane i).inputs })
    (h3 : v.sameLanes u) : s.lanesAfter u g := by
  intro i
  have a := h3 i
  have b := h2 i
  have c := congrArg Lane.inputs (h1 i)
  rw [b] at a
  conv_lhs => rw [a]
  have : (p.lane i).inputs = { (s.lane i).inputs with checkUnits := (p.lane i).inputs.checkUnits, txPending := (p.lane i).inputs.txPending } := c
  generalize (u.lane i).inputs.checkUnits = K
  generalize (u.lane i).inputs.txPending = T
  rw [this]

/-- A restrictive command whose acceptance lets it await intake and forces the outputs of its elements. -/
theorem first_restrictive_awaits {s : State} {t op : Nat} {x : Session} {c : HostCopy} {row : OpRow} {e : EngineCmd} {es : List Nat}
    (h : s.hostReady t) (g : s.firstRestrictive op x c) (hop : op ≠ 0x0001) (hop2 : op ≠ 0x0002) (hr : opOf op = some row) (hc : row.cls = .restrictive)
    (hrec : recordsCommand op c.params = true) (hu : s.pair.role = .unpaired)
    (ha : ∀ p cmd, p = { s with now := max s.now t, host := { (s.heardHost t c).raised x c with recs := p.host.recs }, lanes := p.lanes } → s.sameLanes p →
      cmd.opcode = op → cmd.params = c.params → cmd.cls = x.cls →
      p.accept cmd = { st := (p.await cmd e).commandForce es, status := stAccepted, data := [], snapshot := none }) :
    ∃ u, run t (fun v => v.hostArrive op c) s = .next u ∧
      s.decided u t op c stAccepted [] (fun y => (y.raised x c).awaits (x.intake op c e)) (s.forcedBy t es) [x.commandRecord op c] ∧
      u = { s with now := u.now, host := u.host, lanes := u.lanes, almanac := u.almanac } := by
  have hf : ∀ p cmd, p = { s with now := max s.now t, host := { (s.heardHost t c).raised x c with recs := p.host.recs }, lanes := p.lanes } → s.sameLanes p →
      (p.await cmd e).commandForce es = { p.await cmd e with lanes := ((p.await cmd e).commandForce es).lanes } ∧
      ∀ i, ((p.await cmd e).commandForce es).lane i = { s.forcedBy t es i (s.lane i) with inputs := (p.lane i).inputs } := by
    intro p cmd hp hl
    refine commandForce_lane (p := p.await cmd e) hl ?_
    show ({ p with host := (p.await cmd e).host } : State) = _
    generalize (p.await cmd e).host = H
    conv_lhs => rw [hp]
    rfl
  have hmode : ∀ i (l : Lane), (s.forcedBy t es i l).mode = l.mode := by
    intro i l
    unfold State.forcedBy
    split
    · exact pendAll_mode _ _ _
    · rfl
  obtain ⟨p, cmd, w, r1, r2, hp, hl, k1, k2, k3, k4, k5, k6, k7, k8, k9, hrun, hw1, hw2, hn1, hn2, hq⟩ :=
    first_restrictive_accepted (st := stAccepted) (data := []) (next := fun p cmd => (p.await cmd e).commandForce es) h g hop hop2 hr hc (Or.inr rfl)
      (by
        intro p cmd hp hl c1 c2 c3 c4 c5 c6 c7 c8 c9
        obtain ⟨f1, f2⟩ := hf p cmd hp hl
        refine ⟨ha p cmd hp hl c1 c2 c5, ?_, ?_, ?_, ?_⟩
        · rw [f1]; show p.control.phase = _; rw [hp]; exact h.1
        · rw [voting_same (s := s) (fun i => by rw [f2]; exact hmode i _)]; exact h.2.1
        · refine ⟨{ x.heard c (s.stampOf c) with high := max c.seq x.high }, ?_, rfl, rfl⟩
          rw [f1]
          show p.host.sessions.find? _ = _
          have e : p.host.sessions = ((s.heardHost t c).raised x c).sessions := by rw [hp]
          rw [e]
          exact raised_session (heardHost_session t g.1.1)
        · rw [f1]; show p.pair.role = _; rw [hp]; exact hu)
  obtain ⟨f1, f2⟩ := hf p cmd hp hl
  have haw : p.host.awaiting = s.host.awaiting := by rw [hp]; exact heardHost_awaiting s t c
  have hrep : p.host.replies = s.host.replies := by rw [hp]; exact heardHost_replies s t c
  have hint : ({ key := cmd.key, content := cmd.content, cmd := e, cls := cmd.cls, session := cmd.session, hostId := cmd.hostId, originId := cmd.originId, opcode := cmd.opcode, stamps := cmd.stamps, due := 0 } : Intake) = x.intake op c e := by
    rw [k1, k3, k4, k5, k6, k7, k8, k9]; rfl
  rw [f1] at hw2
  have hho : w.host = { ((s.heardHost t c).raised x c).awaits (x.intake op c e) with recs := w.host.recs, replies := s.host.replies ++ [r1, r2] } := by
    rw [hw2]
    have e1 : (p.await cmd e).host.replies = s.host.replies := hrep
    have e2 : (p.await cmd e).host = { p.host with awaiting := p.host.awaiting ++ [x.intake op c e] } := by rw [← hint]; rfl
    show { (p.await cmd e).host with recs := w.host.recs, replies := (p.await cmd e).host.replies ++ [r1, r2] } = _
    rw [e1, e2]
    have : p.host = { (s.heardHost t c).raised x c with recs := p.host.recs } := by rw [hp]
    rw [this]
    rfl
  have hwe : w = { s with now := max s.now t, host := w.host, lanes := w.lanes, almanac := w.almanac } := by
    have e1 : w = { p.await cmd e with host := w.host, lanes := w.lanes, almanac := w.almanac } := by rw [hw2]
    have e2 : ∀ H L A, ({ p.await cmd e with host := H, lanes := L, almanac := A } : State) = { s with now := max s.now t, host := H, lanes := L, almanac := A } := by
      intro H L A
      show ({ p with host := H, lanes := L, almanac := A } : State) = _
      rw [hp]
    exact e1.trans (e2 _ _ _)
  have hnow : w.now = max s.now t := by rw [hwe]
  have hclose : w.close (max s.now t) s.pending = w := by rw [hwe]; rfl
  rw [hclose] at hrun
  refine ⟨w, hrun, ⟨⟨r1, r2, by rw [hho], hn1, hn2, hq⟩, by unfold State.hostAfter; rw [hho]; rfl, addsTo_lanes hl f2 hw1, hnow, ?_⟩, by rw [hnow]; exact hwe⟩
  have : w.almanac = { (p.await cmd e).almanac with events := (p.await cmd e).almanac.events ++ (if recordsCommand op c.params = true then
            [queuedOf 0x0606 0 0 (Origin.ofSession x) [payloadFields [(24, 2, op), (26, 2, rd16 c.params 0), (28, 4, c.originId)]]]
          else []) } := by rw [hw2]
  rw [this, if_pos hrec]
  have ea : (p.await cmd e).almanac = s.almanac := by show p.almanac = _; rw [hp]
  rw [ea]
  rfl

end Sys2Proof.Machine
end

