-- ==== Sys2Proof/Laws/Lanes.lean ====
section
/-! SUPPORT. The operations that change lanes and nothing else: lane faults, the records of a lane, isolation, the writes of the image loader
and the time bases. -/

namespace Sys2Proof.Machine

variable (s : State)

/-- Two states that differ at most in their lanes. -/
def SameButLanes (s u : State) : Prop := u = { s with lanes := u.lanes }

theorem SameButLanes.refl : SameButLanes s s := rfl

theorem SameButLanes.trans {s u v : State} (h : SameButLanes s u) (g : SameButLanes u v) : SameButLanes s v := by
  unfold SameButLanes at *; rw [g, h]

theorem modLane_sameButLanes (i : LaneId) (f : Lane → Lane) : SameButLanes s (s.modLane i f) := rfl

theorem laneEvent_sameButLanes (i : LaneId) (code : Nat) (l : List (Nat × Nat × Nat)) : SameButLanes s (s.laneEvent i code l) := rfl

theorem faultLane_sameButLanes (i : LaneId) (c : Cause) : SameButLanes s (s.faultLane i c) := rfl

theorem memoryEvent_sameButLanes (i : LaneId) (m : Memory) (req : Nat) (cleared : Bool) (addr : Nat) :
    SameButLanes s (s.memoryEvent i m req cleared addr) := rfl

theorem loaderWrite_sameButLanes (addr len : Nat) (i : LaneId) : SameButLanes s (s.loaderWrite addr len i) := by
  unfold State.loaderWrite; split <;> rfl

theorem isolate_sameButLanes (i : LaneId) (missing : Bool) : SameButLanes s (s.isolate i missing) := by
  by_cases h : (s.lane i).mode = .voting
  · simp only [State.isolate, if_pos h]; rfl
  · simp only [State.isolate, if_neg h]; rfl

theorem oddLane_sameButLanes (i : LaneId) (c : Cause) : SameButLanes s (s.oddLane i c) :=
  (modLane_sameButLanes s i _).trans (isolate_sameButLanes _ i false)

theorem rebase_sameButLanes : SameButLanes s s.rebase := rfl

theorem drift_sameButLanes (d : Lanes Int) : SameButLanes s (s.drift d) := rfl

theorem moveLanes_sameButLanes (f : Int → Int) : SameButLanes s (s.moveLanes f) := rfl

/-- A lane finds a fault: its first one stands. -/
@[simp] theorem faultLane_lane_same (i : LaneId) (c : Cause) :
    (s.faultLane i c).lane i = { s.lane i with localFault := some ((s.lane i).localFault.getD c) } := modLane_lane_same s i _

@[simp] theorem faultLane_lane_other {i j : LaneId} (c : Cause) (h : j ≠ i) : (s.faultLane i c).lane j = s.lane j :=
  modLane_lane_other s _ h

theorem isolate_lane_other {i j : LaneId} (missing : Bool) (h : j ≠ i) : (s.isolate i missing).lane j = s.lane j := by
  by_cases g : (s.lane i).mode = .voting
  · simp only [State.isolate, if_pos g, State.laneEvent, modLane_lane_other _ _ h]
  · simp only [State.isolate, if_neg g]

/-- The lane that isolates: its elements are open and it votes no more. -/
theorem isolate_lane_same (i : LaneId) (missing : Bool) (h : (s.lane i).mode = .voting) :
    ((s.isolate i missing).lane i).mode = .isolated ∧ ((s.isolate i missing).lane i).elements = 0 ∧
      ((s.isolate i missing).lane i).supplyClosed = false := by
  simp only [State.isolate, if_pos h, modLane_lane_same, and_self]

end Sys2Proof.Machine
end

