-- ==== Sys2Proof/Laws/Memory.lean ====
section
/-! SUPPORT. The laws of the byte memories: every operation keeps the canonical form, a read after a write gives the byte
written, and a write leaves every other byte alone. -/

namespace Sys2Proof.Machine

/-- In canonical form with a first cell, every later address is higher. -/
theorem Mem.wf_cons {c : Host.Cell} {m : Mem} :
    Mem.wf (c :: m) = true ↔ c.2 ≠ 0 ∧ (∀ d ∈ m, c.1 < d.1) ∧ Mem.wf m = true := by
  induction m generalizing c with
  | nil => simp [Mem.wf]
  | cons d r ih =>
    simp only [Mem.wf, Bool.and_eq_true, bne_iff_ne, ne_eq, decide_eq_true_eq, List.mem_cons, forall_eq_or_imp]
    constructor
    · rintro ⟨⟨h0, h1⟩, h2⟩
      obtain ⟨-, h4, -⟩ := ih.1 h2
      exact ⟨h0, ⟨h1, fun x hx => lt_trans h1 (h4 x hx)⟩, h2⟩
    · rintro ⟨h0, ⟨h1, -⟩, h2⟩
      exact ⟨⟨h0, h1⟩, h2⟩

/-- An address below every listed one reads 0. -/
theorem Mem.read_below {m : Mem} {a : Nat} (h : ∀ d ∈ m, a < d.1) : Mem.read m a = 0 := by
  induction m with
  | nil => rfl
  | cons c r ih =>
    have h1 := h c (List.mem_cons_self ..)
    rw [Mem.read, if_neg (by omega)]
    exact ih (fun d hd => h d (List.mem_cons_of_mem _ hd))

/-- The addresses of a written memory: those it had, and the one written. -/
theorem Mem.mem_write {m : Mem} {a : Nat} {b : Byte} {d : Host.Cell} (h : d ∈ Mem.write m a b) : d = (a, b) ∨ d ∈ m := by
  induction m with
  | nil =>
    rw [Mem.write] at h
    split at h <;> simp_all
  | cons c r ih =>
    rw [Mem.write] at h
    split at h
    · split at h <;> simp_all
    · split at h
      · split at h
        · exact .inr (List.mem_cons_of_mem _ h)
        · rcases List.mem_cons.1 h with h | h
          · exact .inl h
          · exact .inr (List.mem_cons_of_mem _ h)
      · rcases List.mem_cons.1 h with h | h
        · exact .inr (h ▸ List.mem_cons_self ..)
        · rcases ih h with h | h
          · exact .inl h
          · exact .inr (List.mem_cons_of_mem _ h)

/-- A write keeps the canonical form. -/
theorem Mem.wf_write {m : Mem} (a : Nat) (b : Byte) (h : Mem.wf m = true) : Mem.wf (Mem.write m a b) = true := by
  induction m with
  | nil =>
    rw [Mem.write]
    split
    · rfl
    · simpa [Mem.wf] using ‹¬b = 0›
  | cons c r ih =>
    obtain ⟨h0, h1, h2⟩ := Mem.wf_cons.1 h
    rw [Mem.write]
    split
    · split
      · exact h
      · refine Mem.wf_cons.2 ⟨‹_›, fun d hd => ?_, h⟩
        rcases List.mem_cons.1 hd with hd | hd
        · exact hd ▸ ‹a < c.1›
        · exact lt_trans ‹a < c.1› (h1 d hd)
    · split
      · split
        · exact h2
        · refine Mem.wf_cons.2 ⟨‹_›, fun d hd => ?_, h2⟩
          have := h1 d hd
          show a < d.1
          omega
      · refine Mem.wf_cons.2 ⟨h0, fun d hd => ?_, ih h2⟩
        rcases Mem.mem_write hd with hd | hd
        · subst hd
          show c.1 < a
          omega
        · exact h1 d hd

/-- A read after a write. -/
theorem Mem.read_write {m : Mem} (a b : Nat) (x : Byte) (h : Mem.wf m = true) :
    Mem.read (Mem.write m a x) b = if b = a then x else Mem.read m b := by
  induction m with
  | nil =>
    rw [Mem.write]
    split
    · by_cases hb : b = a
      · rw [if_pos hb]
        exact ‹x = 0›.symm
      · rw [if_neg hb]
    · show (if a = b then x else Mem.read [] b) = _
      by_cases hb : b = a
      · rw [if_pos hb, if_pos hb.symm]
      · rw [if_neg hb, if_neg (Ne.symm hb)]
  | cons c r ih =>
    obtain ⟨h0, h1, h2⟩ := Mem.wf_cons.1 h
    rw [Mem.write]
    split
    · have hlow : ∀ d ∈ c :: r, a < d.1 := by
        intro d hd
        rcases List.mem_cons.1 hd with hd | hd
        · exact hd ▸ ‹a < c.1›
        · exact lt_trans ‹a < c.1› (h1 d hd)
      split
      · by_cases hb : b = a
        · subst hb
          rw [Mem.read_below hlow, if_pos rfl]
          exact ‹x = 0›.symm
        · rw [if_neg hb]
      · show (if a = b then x else Mem.read (c :: r) b) = _
        by_cases hb : b = a
        · rw [if_pos hb, if_pos hb.symm]
        · rw [if_neg hb, if_neg (Ne.symm hb)]
    · split
      · have hlow : ∀ d ∈ r, a < d.1 := fun d hd => by have := h1 d hd; omega
        split
        · by_cases hb : b = a
          · subst hb
            rw [Mem.read_below hlow, if_pos rfl]
            exact ‹x = 0›.symm
          · rw [if_neg hb, Mem.read, if_neg (by omega)]
        · rw [Mem.read, Mem.read]
          by_cases hb : b = a
          · simp [hb]
          · rw [if_neg (by omega), if_neg hb, if_neg (by omega)]
      · rw [Mem.read, Mem.read]
        by_cases hb : c.1 = b
        · rw [if_pos hb, if_pos hb, if_neg (by omega)]
        · rw [if_neg hb, if_neg hb, ih h2]

/-- A string of bytes keeps the canonical form. -/
theorem Mem.wf_store {m : Mem} (a : Nat) (bs : Bytes) (h : Mem.wf m = true) : Mem.wf (Mem.store m a bs) = true := by
  induction bs generalizing m a with
  | nil => exact h
  | cons b r ih => exact ih (a + 1) (Mem.wf_write a b h)

/-- A read after a string of bytes is stored. -/
theorem Mem.read_store {m : Mem} (a b : Nat) (bs : Bytes) (h : Mem.wf m = true) :
    Mem.read (Mem.store m a bs) b = if a ≤ b ∧ b < a + bs.length then bs.getD (b - a) 0 else Mem.read m b := by
  induction bs generalizing m a with
  | nil => simp [Mem.store]
  | cons x r ih =>
    rw [Mem.store, ih (a + 1) (Mem.wf_write a x h), Mem.read_write a b x h]
    by_cases hb : b = a
    · subst hb
      simp
    · simp only [hb, if_false, List.length_cons]
      by_cases hr : a + 1 ≤ b ∧ b < a + 1 + r.length
      · rw [if_pos hr, if_pos (by omega)]
        have : b - a = (b - (a + 1)) + 1 := by omega
        rw [this, List.getD_cons_succ]
      · rw [if_neg hr, if_neg (by omega)]

/-- Dropping cells keeps the canonical form. -/
theorem Mem.wf_filter {m : Mem} (p : Host.Cell → Bool) (h : Mem.wf m = true) : Mem.wf (m.filter p) = true := by
  induction m with
  | nil => rfl
  | cons c r ih =>
    obtain ⟨h0, h1, h2⟩ := Mem.wf_cons.1 h
    rw [List.filter]
    split
    · exact Mem.wf_cons.2 ⟨h0, fun d hd => h1 d (List.mem_of_mem_filter hd), ih h2⟩
    · exact ih h2

theorem Mem.wf_clear {m : Mem} (a n : Nat) (h : Mem.wf m = true) : Mem.wf (Mem.clear m a n) = true := Mem.wf_filter _ h

/-- Clearing reads 0 inside and what was there outside. -/
theorem Mem.read_clear {m : Mem} (a n b : Nat) :
    Mem.read (Mem.clear m a n) b = if a ≤ b ∧ b < a + n then 0 else Mem.read m b := by
  induction m with
  | nil => simp [Mem.clear, Mem.read]
  | cons c r ih =>
    have ih' : Mem.read (r.filter (fun c => c.1 < a || a + n ≤ c.1)) b = if a ≤ b ∧ b < a + n then 0 else Mem.read r b := ih
    rw [Mem.clear, List.filter]
    split <;> rename_i hp <;> simp only [Bool.or_eq_true, decide_eq_true_eq, Bool.or_eq_false_iff, decide_eq_false_iff_not] at hp
    · rw [Mem.read, Mem.read, ih']
      by_cases hb : c.1 = b
      · rw [if_pos hb, if_pos hb, if_neg (by omega)]
      · rw [if_neg hb, if_neg hb]
    · rw [ih', Mem.read]
      by_cases hb : c.1 = b
      · rw [if_pos hb, if_pos (by omega), if_pos (by omega)]
      · rw [if_neg hb]

/-- Two canonical memories that read alike are equal. -/
theorem Mem.ext_read {m n : Mem} (hm : Mem.wf m = true) (hn : Mem.wf n = true) (h : ∀ a, Mem.read m a = Mem.read n a) : m = n := by
  induction m generalizing n with
  | nil =>
    cases n with
    | nil => rfl
    | cons d r =>
      obtain ⟨h0, -, -⟩ := Mem.wf_cons.1 hn
      have := h d.1
      rw [Mem.read, Mem.read, if_pos rfl] at this
      exact absurd this.symm h0
  | cons c r ih =>
    obtain ⟨h0, h1, h2⟩ := Mem.wf_cons.1 hm
    cases n with
    | nil =>
      have : Mem.read (c :: r) c.1 = 0 := h c.1
      rw [Mem.read, if_pos rfl] at this
      exact absurd this h0
    | cons d q =>
      obtain ⟨k0, k1, k2⟩ := Mem.wf_cons.1 hn
      have hcd : c.1 = d.1 := by
        rcases Nat.lt_trichotomy c.1 d.1 with hlt | heq | hgt
        · have e := h c.1
          rw [Mem.read, if_pos rfl, Mem.read_below (m := d :: q)] at e
          · exact absurd e h0
          · intro x hx
            rcases List.mem_cons.1 hx with hx | hx
            · exact hx ▸ hlt
            · exact lt_trans hlt (k1 x hx)
        · exact heq
        · have e := h d.1
          rw [Mem.read_below (m := c :: r), Mem.read, if_pos rfl] at e
          · exact absurd e.symm k0
          · intro x hx
            rcases List.mem_cons.1 hx with hx | hx
            · exact hx ▸ hgt
            · exact lt_trans hgt (h1 x hx)
      have hc2 : c.2 = d.2 := by
        have e := h c.1
        rwa [Mem.read, if_pos rfl, Mem.read, if_pos hcd.symm] at e
      have hr : r = q := by
        refine ih h2 k2 (fun a => ?_)
        by_cases ha : c.1 = a
        · rw [Mem.read_below (fun x hx => ha ▸ h1 x hx), Mem.read_below (fun x hx => by have := k1 x hx; omega)]
        · have e := h a
          rwa [Mem.read, if_neg ha, Mem.read, if_neg (by omega)] at e
      exact congr (congrArg List.cons (Prod.ext hcd hc2)) hr

end Sys2Proof.Machine
end

