-- ==== Sys2Proof/Tests/Slice0.lean ====
section
/-! SUPPORT. Tests of the model: ill-formed commands that WellFormed refuses, single commands with results that spec/ states, and for every
statement with hypotheses a concrete state and operands that meet them. -/

open Sys2Proof Sys2Proof.Machine

namespace Sys2Proof.Tests

set_option Elab.async false

/-! ## Helpers: a small image, a running module, good copies -/

/-- The non-zero ones of `k` bytes of a number, from an address. -/
def cells (a k n : Nat) : Mem := ((leBytes k n).zipIdx.map (fun x => (a + x.2, x.1))).filter (fun c => c.2 != 0)

/-- An image with point 1, section 2, signal 3, route 0, a safe output for the three, one Constellation, two streams and one parameter (Tables 2.1 to 2.14). -/
def image : Mem :=
  cells 15 1 1 ++ cells 40 2 1 ++ cells 42 2 1 ++ cells 48 2 1 ++ cells 50 2 1 ++ cells 52 2 1 ++
  cells 64 8 (1024 + 64 * 2 ^ 32) ++ cells 72 8 (2048 + 9472 * 2 ^ 32) ++ cells 80 8 (16384 + 256 * 2 ^ 32) ++
  cells 104 8 (20480 + 136 * 2 ^ 32) ++ cells 112 8 (24576 + 32 * 2 ^ 32) ++ cells 120 8 (28672 + 16 * 2 ^ 32) ++
  cells 1040 1 1 ++ cells 1042 2 0x8000 ++ cells 1052 2 1 ++ cells 1056 1 2 ++ cells 1068 2 1 ++ cells 1072 1 3 ++ cells 1074 2 0x8000 ++ cells 1084 2 1 ++
  cells 2050 2 9 ++ cells 16390 2 1 ++
  cells 20482 2 3 ++ cells 20484 4 1000000 ++ cells 20488 8 7 ++
  cells 20544 2 1700 ++ cells 20546 2 80 ++ cells 20548 2 0x100 ++ cells 20550 2 5 ++ cells 20552 8 0x10 ++ cells 20560 1 6 ++ cells 20561 1 3 ++
  cells 20568 2 400 ++ cells 20570 2 80 ++ cells 20572 2 0x200 ++ cells 20574 2 1 ++ cells 20576 8 0x10 ++ cells 20584 1 1 ++
  cells 20592 2 800 ++ cells 20594 2 80 ++ cells 20596 2 0xFF00 ++ cells 20598 2 9 ++ cells 20608 1 2 ++ cells 20609 1 58 ++
  cells 24576 2 0x100 ++ cells 24579 1 3 ++ cells 24580 2 5 ++ cells 24582 2 38 ++
  cells 24592 2 0x200 ++ cells 24594 1 1 ++ cells 24596 2 5 ++ cells 24598 2 38 ++
  cells 28672 2 0x100 ++ cells 28675 1 3 ++ cells 28676 4 5 ++ cells 28680 4 1 ++ cells 28684 4 10

def path (net : Net) : ReturnPath := { port := if net = .y then 52 else if net = .x then 48 else 62, mac := 2, ip := 3, udp := 4 }

/-- An operator's session 1. -/
def session (cls : OriginClass) : Session :=
  { number := 1, tag := 0x1234, hostId := 7, cls := cls, openedAt := some (Lanes3 0), credit := 32, high := 0, leaseEnd := 2 * second,
    pathX := some (path .x), pathY := some (path .y), cursor := 0, quote := none }

/-- The module in LIVE and RUN with three voting lanes, joined, at the instant 1 ms, with a session. -/
def live : State :=
  let l : Lane := { Lane.atReset with
    meridianToggles := true
    supervisionToggles := true
    supplyClosed := true
    startPassed := true }
  { State.reset with
    now := 1000000
    control := { Control.atReset with
      phase := .running
      power := .live
      mode := .run }
    lanes := Lanes3 l
    images := { Images.atReset with regions := [image, [], [], [], [], []] }
    snapshots := [{ Snapshot.none with
      number := 10
      instant := 1000000
      power := .live
      mode := .run }]
    nextNumber := 11
    host := { HostSide.atReset with sessions := [session .engineer] }
    ndezo := { Ndezo.atReset with
      dawn := .joined
      cycleStart := 1000000
      cycle64 := 5 }
    safeIo := { SafeIo.atReset with supply := .isClosed }
    xram := { Xram.atReset with filled := true }
    sealBank := { Seal.atReset with
      voted := List.replicate 16 .isClosed
      nodeId := 1
      nodeKnown := true } }

def inMode (s : State) (p : Power) (m : Mode) : State := { s with control := { s.control with power := p, mode := m } }

/-- Every lane as `f` makes it. -/
def lanesWith (s : State) (f : Lane → Lane) : State := { s with lanes := s.lanes.mapI (fun _ l => f l) }

/-- A copy of opcode `op` in session 1 with its check values (Table 8.1), on network X at 1 ms. -/
def copyOf (s : State) (op seq : Nat) (params : Bytes) : HostCopy :=
  let c : HostCopy := {
    net := .x, path := path .x, stamps := Lanes3 1000000, ownPort := true, lenOk := true, version := 1, flags := 0, session := 1, seq := seq,
    originId := 9, reqSnap := 0, hostTime := 0, params := params, cvP := 0, cvQ := 0, rx := RxFault.healthy }
  let m := checkMessage (s.hostFold op (s.sessionOf 1)) (HostCopyHead op c)
  { c with cvP := cvP m, cvQ := cvQ m }

/-- The module in which the copy's twin on network Y has opened the record. -/
def afterFirst (s : State) (op : Nat) (c : HostCopy) : State :=
  { s with host := { s.host with recs := [{ s.newRec op c with net := .y, pathX := none, pathY := some (path .y) }] } }

/-- The check values of a copy are right for session 1 (Table 8.1). -/
def CvRight (s : State) (op : Nat) (c : HostCopy) : Prop :=
  c.cvP = cvP (checkMessage (s.hostFold op (s.sessionOf 1)) (HostCopyHead op c)) ∧ c.cvQ = cvQ (checkMessage (s.hostFold op (s.sessionOf 1)) (HostCopyHead op c))

theorem copyOf_cv (s : State) (op seq : Nat) (p : Bytes) : CvRight s op (copyOf s op seq p) := ⟨rfl, rfl⟩

theorem copyOf_cv_afterFirst (s : State) (op seq : Nat) (p : Bytes) (c : HostCopy) : CvRight (afterFirst s op c) op (copyOf s op seq p) := ⟨rfl, rfl⟩

/-- `goodCopy` but for its check values, as a check. -/
def goodCopyB (s : State) (op : Nat) (x : Session) (c : HostCopy) : Bool :=
  c.session == 1 && s.sessionOf 1 == some x && ((c.net == .service) == (x.cls == .maintenance)) && s.opened x c &&
  c.ownPort && c.lenOk && c.version == 1 && c.flags == 0 && decide (c.params.length ≤ 1400) && c.params.length % 4 == 0 &&
  c.rx == RxFault.healthy && reservedOk op c.params &&
  (opOf op).any (fun r => r.admits x.cls && (r.cls == .query || s.seqOk op c)) && !s.isAhead c.reqSnap

theorem goodCopy_of_check {s : State} {op : Nat} {x : Session} {c : HostCopy} (h : goodCopyB s op x c = true) (cv : CvRight s op c) : s.goodCopy op x c := by
  simp only [goodCopyB, Bool.and_eq_true, Option.any_eq_true, decide_eq_true_eq, Bool.or_eq_true, Bool.not_eq_true', Bool.beq_eq_decide_eq] at h
  obtain ⟨⟨⟨⟨⟨⟨⟨⟨⟨⟨⟨⟨⟨h0, h1⟩, h2⟩, h3⟩, h4⟩, h5⟩, h6⟩, h7⟩, h8⟩, h9⟩, h10⟩, h13⟩, ⟨r, hr, ha, hq⟩⟩, h15⟩ := h
  obtain ⟨cv1, cv2⟩ := cv
  rw [h1] at cv1 cv2
  refine ⟨h0 ▸ h1, ?_, h3, h4, h5, h6, h7, h8, h9, h10, cv1, cv2, h13, ⟨r, hr, ha, fun hne => ?_⟩, h15⟩
  · simpa using h2
  · rcases hq with hq | hq
    · exact absurd hq hne
    · exact hq

/-- `secondCopy` but for its check values, as a check. -/
def secondCopyB (s : State) (op : Nat) (x : Session) (c : HostCopy) : Bool :=
  goodCopyB s op x c && c.net != .service && (if c.net = .x then x.pathY else x.pathX).isSome &&
  s.decisionOf (.session c.session c.seq) (HostCopyHead op c) == none && (s.recOf (.session c.session c.seq)).any (fun r => r.decisions == [] && r.net != c.net && r.bytes == HostCopyHead op c && decide (s.stampOf c < r.opened + r.window))

theorem secondCopy_of_check {s : State} {op : Nat} {x : Session} {c : HostCopy} (h : secondCopyB s op x c = true) (cv : CvRight s op c) : s.secondCopy op x c := by
  simp only [secondCopyB, Bool.and_eq_true, beq_iff_eq, bne_iff_ne, Option.any_eq_true, decide_eq_true_eq] at h
  obtain ⟨⟨⟨⟨h1, h2⟩, h3⟩, h0⟩, r, hr, ⟨⟨h4, h5⟩, h6⟩, h7⟩ := h
  exact ⟨goodCopy_of_check h1 cv, h2, h3, h0, r, hr, h4, h5, h6, h7⟩

/-- `firstRestrictive` but for its check values, as a check. -/
def firstRestrictiveB (s : State) (op : Nat) (x : Session) (c : HostCopy) : Bool :=
  goodCopyB s op x c && c.net != .service && (if c.net = .x then x.pathY else x.pathX).isSome && (s.recOf (.session c.session c.seq)).isNone

theorem firstRestrictive_of_check {s : State} {op : Nat} {x : Session} {c : HostCopy} (h : firstRestrictiveB s op x c = true) (cv : CvRight s op c) :
    s.firstRestrictive op x c := by
  simp only [firstRestrictiveB, Bool.and_eq_true, bne_iff_ne, Option.isNone_iff_eq_none] at h
  obtain ⟨⟨⟨h1, h2⟩, h3⟩, h4⟩ := h
  exact ⟨goodCopy_of_check h1 cv, h2, h3, h4⟩

/-- `hostReady` as a check. -/
def hostReadyB (s : State) (t : Nat) : Bool :=
  s.control.phase == .running && decide (2 ≤ s.voting.length) && !s.sealBank.ki40 && s.sealBank.nodeKnown && s.host.restrictiveQueue == [] &&
  s.host.otherQueue == [] && decide (s.host.arrivals.length < 128) && s.host.sessions.all (fun x => decide (max s.now t < x.leaseEnd)) &&
  s.host.lock.all (fun l => decide (max s.now t < l.leaseEnd)) && s.unexcluded.all (fun i => !(s.lane i).held)

theorem hostReady_of_check {s : State} {t : Nat} (h : hostReadyB s t = true) : s.hostReady t := by
  simp only [hostReadyB, Bool.and_eq_true, beq_iff_eq, decide_eq_true_eq, List.all_eq_true, Bool.not_eq_true', Option.all_eq_true_iff_get] at h
  obtain ⟨⟨⟨⟨⟨⟨⟨⟨⟨h1, h2⟩, h3⟩, h4⟩, h5⟩, h6⟩, h7⟩, h8⟩, h9⟩, h10⟩ := h
  refine ⟨h1, h2, h3, h4, h5, h6, h7, h8, fun l hl => ?_, h10⟩
  have := h9 (by simp [hl])
  simpa [hl] using this

theorem live_ready : live.hostReady 1000000 := hostReady_of_check (by decide +kernel)

/-! ## WellFormed refuses what no event of the manual has -/

def copy0 : HostCopy := copyOf live 0x0302 1 []
def datagram0 : Datagram :=
  { net := .x, path := path .x, stamps := Lanes3 0, ownPort := true, payload := zeros 36, rx := RxFault.healthy }
def kiCopy0 : Ki40Copy :=
  { net := .x, path := path .x, stamps := Lanes3 1000000, seq := 1, status := 0, flags := 0, station := 1, cycle := 0, params := zeros 48, crcC := 0,
    crcT := 0, rx := RxFault.healthy }
/-- A verdict of lane B on a frame of stream 0x0100 at F3: CV-P not made, CV-Q passed. -/
def word0 : CheckWord := { lane := .B, msg := 0, host := false, port := 3, stream := 0x100, p := .notMade, q := .pass }
def run0 : BodyRun := { fields := [], safeOut := [], aspects := [], release := [], pubs := [], blocks := [], meridianFails := [] }
def frame0 : NdFrame :=
  { offset := 425000, length := 80, cut := false, fcsOk := true, version := 1, type := 1, constNo := 0, restricted := false, reserved := false,
    lengthField := 38, cycle := 5, epoch := 0, constTag := 7, payload := zeros 38, cvP := 0, cvQ := 0, rx := RxFault.healthy }
def head0 (len : Nat) : FrameHead := { ethLength := len + 34, version := 1, reserved := false, lengthField := len, cycle := 5, epoch := 0 }
def link0 : LinkFrame :=
  { stamp := 1001250, fcsOk := true, head := head0 32, constNo := 0, constTag := 7, source := 2, stratum := 0, parent := false, joined := true, ready := false, held := 1, linkDelay := 0, txTime := 0,
    rxTime := 0, rxCycle := 0 }
def sync0 : SyncFrame :=
  { stamp := 1002000, fcsOk := true, cut := false, head := head0 64, constNo := 0, constTag := 7, polestar := 0, hops := 0, change := 0, changeNo := 0, cycle64 := 5,
    txTime := 1001250, correction := 0, latency := 300, tags := List.replicate 8 0 }
def pairFrame0 : PairFrame := { sender := 9, seq := 1, epoch := 0, payload := zeros 64, cvP := 0, cvQ := 0, rx := RxFault.healthy }
def answer0 : AnswerFrame :=
  { offset := 20000, lengthOk := true, fcsOk := true, type := 0x32, oc := 5, pollNo := 0, station := 1, live := false, data := zeros 32, crcC := 0,
    crcT := 0, rx := RxFault.healthy }

/-- The terms of which the ill-formed ones below differ in one point each. -/
theorem test_wf_accepts :
    [Instr.statusRead 0 copy0, .hostCopyRejected 0 datagram0, .ki40Status 0 kiCopy0, .rxVerdict 0 .A .B (packCheck word0) .none, .taskBodyComplete 0 .A .t1 run0,
     .dataFrame 0 3 frame0, .linkFrame 0 3 link0, .syncFrame 0 58 sync0, .heartbeat 0 .sl0 pairFrame0, .answer 0 3 answer0, .mbRead 0 524287 { lane := .none, laneLater := false },
     .safeInputChange 0 .A 63 { level := true, samples := 2 }, .testSlotStart 0 31, .slotSend 0 1023].all Instr.wf = true := by decide +kernel

/-- A copy: version, flags, session, sequence, origin, snapshot, time and parameter length of Table 9.2; the ports of R22; addresses. -/
theorem test_wf_refuses_copies :
    [Instr.statusRead 0 { copy0 with version := 256 }, .statusRead 0 { copy0 with flags := 256 }, .statusRead 0 { copy0 with session := 65536 },
     .statusRead 0 { copy0 with seq := 2 ^ 32 }, .statusRead 0 { copy0 with originId := 2 ^ 32 }, .statusRead 0 { copy0 with reqSnap := 2 ^ 32 },
     .statusRead 0 { copy0 with hostTime := 2 ^ 32 }, .statusRead 0 { copy0 with params := zeros 65536 }, .statusRead 0 { copy0 with net := .y },
     .statusRead 0 { copy0 with path := { path .x with port := 47 } }, .statusRead 0 { copy0 with path := { path .x with mac := 2 ^ 48 } },
     .statusRead 0 { copy0 with path := { path .x with ip := 2 ^ 32 } }, .statusRead 0 { copy0 with path := { path .x with udp := 65536 } },
     .statusRead 0 { copy0 with net := .service }, .hostCopyRejected 0 { datagram0 with payload := zeros 1473 },
     .hostCopyRejected 0 { datagram0 with net := .y }].all (fun i => !i.wf) = true := by decide +kernel

/-- A KI-40 copy (Table 17.2). -/
theorem test_wf_refuses_ki40 :
    [Instr.ki40Status 0 { kiCopy0 with net := .service }, .ki40Status 0 { kiCopy0 with seq := 65536 }, .ki40Status 0 { kiCopy0 with status := 256 },
     .ki40Status 0 { kiCopy0 with flags := 256 }, .ki40Status 0 { kiCopy0 with station := 65536 }, .ki40Status 0 { kiCopy0 with cycle := 2 ^ 32 },
     .ki40Status 0 { kiCopy0 with params := zeros 47 }, .ki40Status 0 { kiCopy0 with net := .y }].all (fun i => !i.wf) = true := by decide +kernel

/-- Lanes of a cross-lane link, check words, records, forces, point calls, program results. -/
theorem test_wf_refuses_lanes :
    [Instr.voteVector 0 .A .A .none, .rxVerdict 0 .B .B (packCheck word0) .none, .txVerify 0 .B .B none,
     .txValue 0 .A .B false 65536 true none, .txValue 0 .C .C false 0 true none,
     .skewWindowExpiry 0 (.session 65536 0), .skewWindowExpiry 0 (.session 0 (2 ^ 32)), .skewWindowExpiry 0 (.opening 65536 0),
     .skewWindowExpiry 0 (.opening 0 (2 ^ 32)), .skewWindowExpiry 0 (.ki40 65536), .sessionLeaseLapse 0 65536, .forcePendingDrop 0 .A (.output 32),
     .forcePendingDrop 0 .A (.field 65536), .detectTimeout 0 (.route 4096), .detectTimeout 0 (.point 8192), .approachTimerExpiry 0 4096,
     .sectionResetEnd 0 8192, .safeInputChange 0 .A 64 { level := true, samples := 2 }, .paceMeasurement 0 .A (2 ^ 32), .rxDecisionDeadline 0 .A 64 0,
     .rxDecisionDeadline 0 .A 0 65536, .taskBodyComplete 0 .A .t0 { run0 with fields := [(65536, 0)] },
     .taskBodyComplete 0 .A .t0 { run0 with safeOut := [(32, true)] }, .taskBodyComplete 0 .A .t0 { run0 with aspects := [(8192, 0)] },
     .taskBodyComplete 0 .A .t0 { run0 with aspects := [(0, 16)] }, .taskBodyComplete 0 .A .t0 { run0 with release := [8192] },
     .taskBodyComplete 0 .A .t0 { run0 with blocks := [{ inst := 5, timers := [], edges := [], writes := [] }, { inst := 5, timers := [], edges := [], writes := [] }] },
     .taskBodyComplete 0 .A .t0 { run0 with meridianFails := [4096] }].all (fun i => !i.wf) = true := by decide +kernel

/-- Ndezo, pair and KI-40 field frames (Tables 7.2 to 7.5, 12.1, 17.6). -/
theorem test_wf_refuses_frames :
    [Instr.dataFrame 0 48 frame0, .dataFrame 0 3 { frame0 with version := 16 }, .dataFrame 0 3 { frame0 with type := 16 }, .dataFrame 0 3 { frame0 with constNo := 256 },
     .dataFrame 0 3 { frame0 with lengthField := 65536 }, .dataFrame 0 3 { frame0 with cycle := 2 ^ 32 }, .dataFrame 0 3 { frame0 with epoch := 2 ^ 32 },
     .dataFrame 0 3 { frame0 with constTag := 2 ^ 32 }, .dataFrame 0 3 { frame0 with payload := zeros 1025 }, .linkFrame 0 62 link0,
     .linkFrame 0 3 { link0 with source := 1024 }, .linkFrame 0 3 { link0 with head := { head0 32 with version := 16 } },
     .syncFrame 0 3 { sync0 with head := { head0 64 with lengthField := 65536 } }, .syncFrame 0 3 { sync0 with head := { head0 64 with cycle := 2 ^ 32 } },
     .coldFrame 0 3 { sync0 with head := { head0 64 with epoch := 2 ^ 32 } }, .linkFrame 0 3 { link0 with stratum := 32 }, .linkFrame 0 3 { link0 with held := 256 },
     .linkFrame 0 3 { link0 with linkDelay := 2 ^ 32 }, .linkFrame 0 3 { link0 with txTime := 2 ^ 64 }, .linkFrame 0 3 { link0 with rxTime := 2 ^ 64 },
     .linkFrame 0 3 { link0 with rxCycle := 2 ^ 32 }, .syncFrame 0 3 { sync0 with constNo := 256 }, .syncFrame 0 3 { sync0 with constTag := 2 ^ 32 },
     .syncFrame 0 3 { sync0 with polestar := 1024 }, .coldFrame 0 3 { sync0 with hops := 256 }, .syncFrame 0 3 { sync0 with change := 4 },
     .syncFrame 0 3 { sync0 with changeNo := 8 }, .syncFrame 0 3 { sync0 with cycle64 := 2 ^ 64 }, .syncFrame 0 3 { sync0 with txTime := 2 ^ 64 },
     .syncFrame 0 3 { sync0 with correction := 2 ^ 64 }, .syncFrame 0 3 { sync0 with tags := [] }, .syncFrame 0 3 { sync0 with tags := List.replicate 8 (2 ^ 32) },
     .heartbeat 0 .sl0 { pairFrame0 with seq := 2 ^ 32 }, .heartbeat 0 .sl0 { pairFrame0 with epoch := 2 ^ 32 }, .copyFrame 0 pairFrame0 { pairFrame0 with payload := zeros 1441 },
     .answer 0 48 answer0, .answer 0 3 { answer0 with type := 256 }, .answer 0 3 { answer0 with oc := 256 }, .answer 0 3 { answer0 with pollNo := 65536 },
     .answer 0 3 { answer0 with station := 65536 }, .poll 0 48, .delayUnknown 0 57, .slotSend 0 1024, .slotClose 0 65536].all (fun i => !i.wf) = true := by
  decide +kernel

/-- Outputs, switches, pins, slots, bus addresses, records and hosts' ARP requests. -/
theorem test_wf_refuses_numbers :
    [Instr.testSlotStart 0 32, .darkTestStep 0 32 0 { left := true, returned := true, terminalOff := true },
     .darkTestStep 0 0 6 { left := true, returned := true, terminalOff := true }, .sealChange 0 16 (Lanes3 .isOpen), .sealDisagreement 0 .A 16,
     .pselChange 0 (Lanes3 4), .verifyComplete 0 2 .all, .admissionComplete 0 4 .all, .mbRead 0 524288 { lane := .none, laneLater := false },
     .mbWrite 0 524288 0 { lane := .none, laneLater := false }, .atomicLoad 0 524288 0, .atomicExecute 0 524288 0 false, .atomicResult 0 524288 false,
     .cycleCutShort 0 (.read 524288), .cycleCutShort 0 (.write 524288 0), .cycleCutShort 0 (.atomicLoad 524288 0),
     .cycleCutShort 0 (.atomicExecute 524288 0 false), .cycleCutShort 0 (.atomicResult 524288 false), .openRecordClose 0 (2 ^ 48),
     .duskConditions 0 .A 0 0 65536, .arpRequest 0 47 0 0, .arpRequest 0 48 (2 ^ 32) 0, .arpRequest 0 48 0 (2 ^ 48)].all (fun i => !i.wf) = true := by
  decide +kernel

/-! ## Check values and single commands -/

/-- "123456789". CV-P is CRC-32C, CRC_C the CRC-16 of 0x1021 and CRC_T that of 0x8BB7: the values of their published definitions. -/
def digits : Bytes := (List.range 9).map (fun k => BitVec.ofNat 8 (0x31 + k))

theorem test_crc_p : cvP digits = 0xE3069283 := by decide +kernel
theorem test_crc_q : cvQ digits = 0x2D3DD0AE := by decide +kernel
theorem test_crc_c : crcC digits = 0x29B1 := by decide +kernel
theorem test_crc_t : crcT digits = 0xD0DB := by decide +kernel

/-- The state that a command answers. -/
def after (c : Instr) (s : State) : State :=
  match exec c s with
  | .next u => u
  | _ => s

def noLane : Window := { lane := .none, laneLater := false }

/-- Table 13.5: halfword 5 is bytes 10 and 11, low byte first. -/
theorem test_mbWrite : (after (.mbWrite 0 5 0x1234 noLane) live).xram.mem = [(10, 0x34), (11, 0x12)] := by decide +kernel

/-- The last halfword of the bank: byte 0xFFFFF. -/
theorem test_mbWrite_top : (after (.mbWrite 0 524287 0x8000 noLane) live).xram.mem = [(1048575, 0x80)] := by decide +kernel

/-- R499: the sum wraps modulo 2^32; the word before stands in the holding register. -/
theorem test_atomic_wraps :
    let s := { live with xram := { live.xram with mem := [(8, 0xFF), (9, 0xFF), (10, 0xFF), (11, 0xFF)] } }
    let u := after (.atomicExecute 0 5 0 false) (after (.atomicLoad 0 4 2) s)
    u.xram.mem = [(8, 1)] ∧ u.xram.holding = 0xFFFFFFFF := by decide +kernel

/-- A swap takes the operand as it is. -/
theorem test_atomic_swap :
    let u := after (.atomicExecute 0 5 0xABCD true) (after (.atomicLoad 0 4 0x1234) live)
    u.xram.mem = [(8, 0x34), (9, 0x12), (10, 0xCD), (11, 0xAB)] := by decide +kernel

/-- R626: a return within 10 ms leaves the module running; at 10 ms the power-fail takes it to reset. -/
theorem test_power_fail :
    (after (.powerFail 10999999) (after (.supplyBelow 1000000) live)).control.phase = .running ∧
    (after (.powerFail 11000000) (after (.supplyBelow 1000000) live)).control.phase = .reset := by decide +kernel

/-- R571: s0 is 100 ms after the release. -/
theorem test_start_instant :
    (after (.start 99999999) State.reset).control.phase = .release ∧ (after (.start 100000000) State.reset).control.phase = .starting := by decide +kernel

/-- R43: the second measurement below 1,000 steps/µs in a row is a lane fault; 1,000 is none. -/
theorem test_pace :
    ((after (.paceMeasurement 0 .B 999) (after (.paceMeasurement 0 .B 999) live)).lane .B).localFault = some .pace ∧
    ((after (.paceMeasurement 0 .B 1000) (after (.paceMeasurement 0 .B 999) live)).lane .B).localFault = none := by decide +kernel

/-- R237: the watchdog is 4 ms. -/
theorem test_watchdog :
    ((after (.watchdogExpiry 3999999 .C) live).lane .C).mode = .voting ∧ ((after (.watchdogExpiry 4000000 .C) live).lane .C).mode = .isolated := by
  decide +kernel

/-- R349: a lease lapses at its end. -/
theorem test_lease :
    (after (.sessionLeaseLapse 1999999999 1) live).host.sessions.length = 1 ∧ (after (.sessionLeaseLapse 2000000000 1) live).host.sessions = [] := by
  decide +kernel

/-- R339 and R375: SIGNAL_STOP is accepted at its first copy, with a reply on each network. -/
theorem test_signalStop :
    let u := after (.signalStop 1000000 (copyOf live 0x0105 1 (b16 3 ++ zeros 2))) live
    u.host.replies.map (fun r => (r.net, r.status)) = [(.x, 1), (.y, 1)] ∧ u.host.awaiting.map (·.cmd) = [.signalStop 3] := by decide +kernel

/-- A copy with one bit of CV-P changed gets ST_BAD_CHECK. -/
theorem test_badCheck :
    let c := copyOf live 0x0302 1 []
    (after (.statusRead 1000000 { c with cvP := c.cvP ^^^ 1 }) live).host.replies.map (·.status) = [stBadCheck] := by decide +kernel

def aging : ArbRules := { ages := true, counts := false, requesters := 14 }

/-- R482, R483: at the break point after its first burst the image loader's run of 4 (base 1) gives way to the link core (base 6), and its request
stays raised for the other 3. Meridian's run is not broken. -/
theorem test_break_point :
    let ends := fun (l : List (Nat × Nat)) => ({ gap := 1, burstEnds := true, raised := l } : PortEvent)
    let x := (((live.lane .A).store.event aging { gap := 1, burstEnds := false, raised := [(6, 4)] }).event aging (ends [(2, 1)]))
    let m := (((live.lane .A).store.event aging { gap := 1, burstEnds := false, raised := [(4, 8)] }).event aging (ends [(2, 1)]))
    x.grant.map (fun g => (g.req, g.bursts)) = some (2, 1) ∧ x.waiting.map (fun p => (p.req, p.bursts, p.lost)) = [(6, 3, 1)] ∧
    m.grant.map (fun g => (g.req, g.bursts)) = some (4, 7) ∧ m.waiting.map (fun p => (p.req, p.lost)) = [(2, 1)] := by decide +kernel

/-- R485: a requester at base 7 reaches 15 after 8 lost rounds, and stays there. -/
theorem test_aging :
    let lost := fun (n : Nat) => (List.range n).foldl (fun (x : Store) _ => x.lose aging 4) (live.lane .A).store
    (lost 7).effective aging 4 = 14 ∧ (lost 8).effective aging 4 = 15 ∧ (lost 9).boost.getD 4 0 = 8 := by decide +kernel

/-! ## Witnesses: states that meet the hypotheses of the statements -/

/-- `live` with lane `i` as `f` makes it. -/
def liveWith (i : LaneId) (f : Lane → Lane) : State := live.modLane i f

theorem allVoting (i : LaneId) : (live.lane i).mode = LaneMode.voting := by cases i <;> decide +kernel

/-- MaintenanceCyclesWriteAndRead, at the last halfword. -/
theorem witness_maintenanceCycles :
    524287 < 524288 ∧ live.busAnswers = true ∧ live.xram.filled = true ∧ Mem.wf live.xram.mem = true ∧ noLane.lane = .none := by decide +kernel

/-- AtomicOperationOnAWord: an operand loaded for the word, none loaded, a load of another word, and OLD held. -/
theorem witness_atomic :
    (let s := after (.atomicLoad 0 524286 7) live
     s.busAnswers = true ∧ s.xram.filled = true ∧ Mem.wf s.xram.mem = true ∧ s.xram.loaded = true ∧ s.xram.holdingAddr = 524287 / 2) ∧
    live.xram.loaded = false ∧ (after (.atomicLoad 0 0 7) live).xram.holdingAddr ≠ 524287 / 2 ∧
    (let s := after (.atomicExecute 0 524287 0 false) (after (.atomicLoad 0 524286 7) live)
     s.xram.hasOld = true ∧ s.xram.holdingAddr = 524287 / 2) := by decide +kernel

/-- MaintenanceBusWhereThereIsNoBank: before the fill, in OFF, and the first address past the bus. -/
theorem witness_noBank :
    (let s : State := { live with xram := Xram.atReset }
     s.busAnswers = true ∧ s.xram.filled = false) ∧ State.reset.busAnswers = false ∧ 524288 ≤ 524288 := by decide +kernel

/-- CutShortCycleIsDoneOrNot. -/
theorem witness_cutShort : 0 < 524288 ∧ Mem.wf live.xram.mem = true := by decide +kernel

/-- ScrubbersAndTheFreezeBit: a lane not frozen, at the last burst of a pass, at a burst with a word wrong in its cell, and a frozen lane before and at the end of its 10 ms. -/
theorem witness_scrubbers :
    let s := liveWith .A (fun l => { l with store := { l.store with tsPos := 8388607, sramPos := 65535 } })
    let z := liveWith .A (fun l => { l with store := { l.store with frozen := true, frozenSince := 1000000 } })
    live.control.phase = .running ∧ (live.lane .A).mode ≠ .restarting ∧ (live.lane .A).held = false ∧ (live.lane .A).store.frozen = false ∧
    (live.lane .A).localFault = none ∧ (s.lane .A).store.frozen = false ∧ 8388608 ≤ (s.lane .A).store.tsPos + 1 ∧ 65536 ≤ (s.lane .A).store.sramPos + 1 ∧
    (∀ w ∈ (live.lane .A).store.badTable, w / 16 ≠ (live.lane .A).store.tsPos) ∧ (∀ w ∈ (live.lane .A).store.badSram, w / 16 ≠ (live.lane .A).store.sramPos) ∧
    (let y := liveWith .A (fun l => { l with store := { l.store with badTable := [15], badSram := [15] } })
     15 ∈ (y.lane .A).store.badTable ∧ 15 / 16 = (y.lane .A).store.tsPos ∧ 15 ∈ (y.lane .A).store.badSram ∧ 15 / 16 = (y.lane .A).store.sramPos) ∧
    (z.lane .A).store.frozen = true ∧ (z.lane .A).store.frozenSince + 10000000 ≤ max z.now 11000000 ∧
    max z.now 10999999 < (z.lane .A).store.frozenSince + 10000000 := by decide +kernel

/-- SuppliesThatFall: both inputs good; below for less than 10 ms and for 10 ms; the other lanes hold their supply elements. -/
theorem witness_supplies :
    (let s : State := { live with sealBank := { live.sealBank with below := true, belowSince := 1000000 } }
     live.sealBank.below = false ∧ s.sealBank.below = true ∧ s.control.phase = .running ∧ max s.now 10999999 < s.sealBank.belowSince + 10000000 ∧
     s.sealBank.belowSince + 10000000 ≤ max s.now 11000000 ∧ (s.lane .A).queue = []) ∧
    (∀ j, j ≠ LaneId.A → (live.lane j).meridianToggles = true ∧ (live.lane j).supervisionToggles = true) ∧ (live.lane .A).mode = .voting :=
  ⟨by decide +kernel, by intro j _; cases j <;> decide +kernel, allVoting _⟩

/-- ResetPinAndSeatHoldTheModule: held by one of the three only; an assertion of 5 s and of 1 ns more. -/
theorem witness_resetPin :
    let held : State := { live with control := { live.control with phase := .reset } }
    let pin : State := { held with sealBank := { held.sealBank with resetAsserted := true, resetSince := 1000000 } }
    let seat : State := { held with sealBank := { held.sealBank with unseated := true } }
    let low : State := { held with sealBank := { held.sealBank with below := true } }
    (pin.control.phase = .reset ∧ pin.sealBank.resetAsserted = true ∧ pin.sealBank.unseated = false ∧ pin.sealBank.below = false) ∧
    (seat.sealBank.unseated = true ∧ seat.sealBank.resetAsserted = false ∧ seat.sealBank.below = false) ∧
    (low.sealBank.below = true ∧ low.sealBank.resetAsserted = false ∧ low.sealBank.unseated = false) ∧
    pin.sealBank.resetSince + 5000000000 < max pin.now 5001000001 ∧ max pin.now 5001000000 ≤ pin.sealBank.resetSince + 5000000000 ∧
    (let both : State := { pin with now := 3000000, sealBank := { pin.sealBank with unseated := true, unseatedSince := 2000000 } }
     both.sealBank.resetAsserted = true ∧ both.sealBank.unseated = true ∧ both.sealBank.resetSince ≤ both.sealBank.unseatedSince ∧
     both.sealBank.unseatedSince ≤ both.now) := by decide +kernel

/-- StartBeginsFromTheRelease: the last instant before s0, and s0. -/
theorem witness_startBegins :
    State.reset.control.phase = .release ∧ State.reset.sealBank.below = false ∧ State.reset.sealBank.releaseSince + 100000000 ≤ max State.reset.now 100000000 ∧
    (State.reset.lane .A).checkpoint = (State.reset.lane .B).checkpoint ∧ max State.reset.now 99999999 < State.reset.sealBank.releaseSince + 100000000 := by
  decide +kernel

def starting : State := after (.start 100000000) State.reset

/-- A start in which the lanes of `l` have passed, with their BIST done. -/
def bistDone (l : List LaneId) : State :=
  let s : State := { starting with startup := { starting.startup with bistTurn := none } }
  { s with lanes := s.lanes.mapI (fun i x => { x with bistNeeded := false, startPassed := l.contains i }) }

def startResult0 : StartResult :=
  { readBackOk := Lanes3 true, katFail := Lanes3 none, keyLists := .all, seals := Lanes3 (List.replicate 16 .isClosed), psel := Lanes3 0, mramOk := true }

/-- PowerUpBistLaneByLane. -/
theorem witness_bist : starting.control.phase = .starting ∧ starting.startup.bistTurn = some .A := by decide +kernel

/-- StartEndsInIdleOrIsRetriedOnce: three, two and one passing lane; a retry that waits, before and at its instant. -/
theorem witness_startEnds :
    (∀ l ∈ [[LaneId.A, .B, .C], [LaneId.B, .C]], let s := bistDone l
      s.control.phase = .starting ∧ s.startup.bistTurn = none ∧ 2 ≤ (allLanes.filter (fun i => (s.startPasses startResult0).get i)).length ∧
      s.startup.restart = false ∧ s.control.degradation = .full) ∧
    (let s := bistDone [.C]
     (allLanes.filter (fun i => (s.startPasses startResult0).get i)).length < 2 ∧ s.startup.retried = false ∧
     (after (.startComplete 200000000 startResult0) s).control.phase = .retryWait ∧
     (after (.startComplete 200000000 startResult0) s).startup.retryAt ≤ max 200000000 1200000000 ∧
     max 200000000 1199999999 < (after (.startComplete 200000000 startResult0) s).startup.retryAt) ∧
    (let s : State := { bistDone [.C] with startup := { (bistDone [.C]).startup with retried := true } }
     (allLanes.filter (fun i => (s.startPasses startResult0).get i)).length < 2 ∧ s.startup.retried = true) := by decide +kernel

def duskRecord0 : DuskRecord :=
  { magic := 0, format := 0, lane := .A, fwVersion := 0, runNo := 1, wall := 0, patterns := 5, clockKhz := 0, signature := 0, verdict := 0, march := 0,
    newRepairs := 0, vmin := 0, vmax := 0, marker := 0, markerPatterns := 0, crcOk := true }

/-- DuskTestSealsEachLane. -/
theorem witness_dusk :
    let s : State := { liveWith .A (fun l => { l with dusk := some duskRecord0 }) with
      control := { live.control with phase := .dusk }, startup := { live.startup with duskTurn := some .A } }
    s.control.phase = .dusk ∧ s.startup.duskTurn = some .A ∧ (s.lane .A).dusk = some duskRecord0 ∧ laneOf (LaneId.A.index + 1) = some .B ∧
    s.startup.duskStop = false := by decide +kernel

/-- ReintegrationAndFuseRepair. -/
theorem witness_reintegration :
    live.control.phase = .running ∧ ((liveWith .C (fun l => { l with mode := .restarting })).lane .C).mode = .restarting ∧
    ((liveWith .C (fun l => { l with mode := .copying })).lane .C).mode = .copying ∧ ((liveWith .A (fun l => { l with fuseRunning := true })).lane .A).fuseRunning = true := by
  decide +kernel

/-- SealAndPinReadingsAreVoted: two readings that agree, three that differ; a difference of 1 s, one of less, and one recorded. -/
theorem witness_seals :
    live.control.phase = .running ∧ 15 < 16 ∧ (∀ i, (live.lane i).mode = .voting) ∧
    (let x : Lanes Reading := { a := .isOpen, b := .isOpen, c := .isClosed }
     x.a = .isOpen ∧ x.b = .isOpen) ∧
    (let x : Lanes Reading := { a := .isOpen, b := .discrepant, c := .isClosed }
     x.a ≠ x.b ∧ x.a ≠ x.c ∧ x.b ≠ x.c) ∧
    (let e : Differ := { since := 0, recorded := false, agreed := none }
     let s := liveWith .A (fun l => { l with inputs := { l.inputs with differs := [(15, e)] } })
     assoc (s.lane .A).inputs.differs 15 = some e ∧ e.agreed = none ∧ e.recorded = false ∧ e.since + 1000000000 ≤ max s.now 1000000000 ∧
     (s.lane .A).queue = [] ∧ max s.now 999999999 < e.since + 1000000000) :=
  ⟨by decide +kernel, by decide, allVoting, by decide, by decide, by decide +kernel⟩

/-- `live` with output 31 committed at 1. -/
def lit : State := { live with snapshots := [{ live.snap with safeOut := 0x80000000 }] }

/-- TestSlotBeginsTheTestOfItsOutput: output 31 at 1 and output 0 at 0, each in its slot, and without the output supply. -/
theorem witness_testSlot :
    lit.now ≤ 193010000 ∧ lit.control.phase = .running ∧ lit.control.power = .live ∧ lit.safeIo.supply = .isClosed ∧ lit.safeIo.test = none ∧
    31 < 32 ∧ 193010000 % 100000000 = 3000000 * 31 + 10000 ∧ 100010000 % 100000000 = 3000000 * 0 + 10000 ∧ lit.safeIo.outputLow = false ∧
    lit.snap.safeOut.getLsbD 31 = true ∧ lit.snap.safeOut.getLsbD 0 = false ∧
    ({ lit with safeIo := { lit.safeIo with outputLow := true } } : State).safeIo.outputLow = true := by decide +kernel

/-- `lit` with a running test of output 31. -/
def testing (k : TestKind) : State := { lit with safeIo := { lit.safeIo with test := some { output := 31, start := 1000000, kind := k } } }

/-- OffPulseIsJudged, ElementTestFindsTheFault and DarkTestStepByStep, each at the first instant at which it is judged. -/
theorem witness_tests :
    ((testing (.offPulse false)).safeIo.test = some { output := 31, start := 1000000, kind := .offPulse false } ∧
      1000000 + 250000 ≤ max (testing (.offPulse false)).now 1250000 ∧ (testing (.offPulse false)).safeIo.supply = .isClosed ∧
      (testing (.offPulse false)).safeIo.outputLow = false ∧ max (testing (.offPulse false)).now 1249999 < 1000000 + 250000) ∧
    ((testing (.element .C .before)).safeIo.test = some { output := 31, start := 1000000, kind := .element .C .before } ∧
      1000000 + 1000000 ≤ max (testing (.element .C .before)).now 2000000 ∧ max (testing (.element .C .before)).now 1999999 < 1000000 + 1000000 ∧
      max (testing (.element .C .before)).now 2199999 < 1000000 + 1200000 ∧ 1000000 + 1200000 ≤ max (testing (.element .C .before)).now 2200000) ∧
    ((testing (.dark 5)).safeIo.test = some { output := 31, start := 1000000, kind := .dark 5 } ∧ 5 < 6 ∧
      1000000 + 25000 * 5 + 20000 ≤ max (testing (.dark 5)).now 1145000 ∧ max (testing (.dark 5)).now 1144999 < 1000000 + 25000 * 5 + 20000) ∧ (∀ j, ((testing (.dark 5)).lane j).mode = LaneMode.voting) ∧
    (∀ j, ((testing (.element .C .before)).lane j).mode = LaneMode.voting) :=
  ⟨by decide +kernel, by decide +kernel, by decide +kernel, by intro j; cases j <;> decide +kernel, by intro j; cases j <;> decide +kernel⟩

/-- OutputConditionsOutsideTheSlots. -/
theorem witness_outputConditions :
    (lit.snap.safeOut.getLsbD 31 = true ∧ lit.energisedSince 31 + 1000000000 ≤ max lit.now 1000000000 ∧
      assocD lit.safeIo.lastPulse 31 0 + 1000000000 ≤ max lit.now 1000000000 ∧ 31 ∉ lit.safeIo.untested ∧ (lit.lane .A).mode = .voting ∧
      lit.energisedSince 31 + 2000000 ≤ max lit.now 2000000) ∧
    (let s : State := { lanesWith live (fun l => { l with engine := { l.engine with shortSet := 1 } }) with
       safeIo := { live.safeIo with zeroSince := [(0, 0)] } }
     s.leadLane.engine.shortSet.getLsbD 0 = true ∧ assoc s.safeIo.zeroSince 0 = some 0 ∧ 0 + 100000000 ≤ max s.now 100000000 ∧ s.control.power = .live ∧
     s.safeIo.supply = .isClosed ∧ s.safeIo.outputLow = false ∧ s.safeIo.test = none) := by decide +kernel

/-- `live` with a T1 body in progress in lane A, whose route 0 stands in the given state with a timer in its last cycle. -/
def inBody (st : RouteState) (k : TimerKind) : State :=
  liveWith .A (fun l => { l with
    program := { l.program with bodies := [(.t1, 10)] }
    engine := { l.engine with
      routes := [(0, { RouteEntry.idle with state := st, timerKind := k, timer := 1 })]
      resets := [{ element := 2, left := 1 }] } })

/-- RouteTimersAndSectionResetsRunOut. -/
theorem witness_routeTimers :
    ∀ x ∈ [(RouteState.pointsCalled, TimerKind.detection), (.approachLocked, .approach), (.emergTiming, .emergency), (.occupied, .overlap)],
      let s := inBody x.1 x.2
      (s.lane .A).mode = .voting ∧ (Task.t1, 10) ∈ (s.lane .A).program.bodies ∧ (s.lane .A).program.working = none ∧ (s.lane .A).program.intake = [] ∧
      ((s.lane .A).engine.entry 0).timer ≤ 1 ∧ ((s.lane .A).engine.entry 0).state = x.1 ∧ ((s.lane .A).engine.entry 0).timerKind = x.2 ∧
      ({ element := 2, left := 1 } : ResetRun) ∈ (s.lane .A).engine.resets := by decide +kernel

/-- InputLevelsAndPace: a pace of 999 after one low one, of 1,000, 1,049 and 1,050; the margin state at and before its second. -/
theorem witness_pace :
    63 < 64 ∧ live.control.phase = .running ∧ 999 < 1000 ∧ 1000 ≤ 1000 ∧ 1049 < 1050 ∧ 1050 ≤ 1050 ∧
    (let s := liveWith .A (fun l => { l with lowPaces := 1, pace := 1050 })
     (s.lane .A).lowPaces = 1 ∧ (s.lane .A).mode = .voting ∧ (s.lane .A).localFault = none ∧ (s.lane .A).paceMargin = false ∧ (s.lane .A).queue = [] ∧
     1050 ≤ (s.lane .A).pace ∧ (s.lane .A).paceGoodSince + 1000000000 ≤ max s.now 1000000000) := by decide +kernel

/-- PlannedStartBeginsAVoteInEveryLane: the T0 start at 1.25 ms. -/
theorem witness_plannedStart :
    (live.now ≤ 1250000 ∧ live.control.phase = .running ∧ live.voting ≠ [] ∧ 1250000 % live.period = 0) ∧
    ∀ i, (live.lane i).mode = .voting → (live.lane i).vote.instant < 1250000 ∧ (live.lane i).vote.decided = true :=
  ⟨by decide +kernel, by intro i _; cases i <;> decide +kernel⟩

def vector0 : Vector :=
  { number := 11, laneTime := laneWord 1250000, lane := .A, mini := false, safeOut := 0, state := 0, elemLock := 0, routeLock := 0, payloads := [], forces := [], forceAll := false,
    armPass := none, abortSeen := false }

/-- `live` in the vote of 1.25 ms, with every lane's own vector. -/
def voting0 : State :=
  { live with lanes := live.lanes.mapI (fun i l => { l with vote := { l.vote with
      instant := 1250000
      own := some { vector0 with lane := i }
      decided := false
      committed := false } }) }

def verdict0 : Verdict := { lane := .B, rx := Lanes3 true, committed := true, notice := false, cause := none, snapLow := 11 }
def notice0 : Verdict := { lane := .B, rx := Lanes3 false, committed := false, notice := true, cause := some .pace, snapLow := 10 }

/-- LinkMessagesReachTheirLane: a vector, a fault notice, a verdict word and one that follows a mini-vote, in time and late. -/
theorem witness_links :
    LaneId.A ≠ .B ∧ (voting0.lane .B).vote.own = some { vector0 with lane := .B } ∧ ({ voting0 with now := max voting0.now 1251000 } : State).takesVote .A .B = true ∧
    ({ voting0 with now := max voting0.now 1400000 } : State).takesVote .A .B = false ∧
    (let s := voting0.modLane .B (fun l => { l with localFault := some .pace, vote := { l.vote with own := none, notice := some notice0, sent := some verdict0 } })
     (s.lane .B).vote.own = none ∧ (s.lane .B).vote.notice = some notice0 ∧ notice0.cause = some .pace ∧
     ({ s with now := max s.now 1251000 } : State).takesVote .A .B = true ∧ (s.lane .B).vote.sent = some verdict0 ∧
     s.control.degradation ≠ .reduced ∧ (s.lane .A).vote.verdicts.get .B ≠ some verdict0) ∧
    (let s := voting0.modLane .B (fun l => { l with vote := { l.vote with miniSent := some verdict0 } })
     (s.lane .B).vote.sent = none ∧ (s.lane .B).vote.miniSent = some verdict0 ∧ (s.lane .A).vote.miniVerdicts.get .B = none) := by decide +kernel

/-- VectorsAreDecidedByTableSixTwo: lane times at the bound of 1 µs, 25 units of 40 ns, one past it, and an odd lock vector. -/
theorem witness_table62 :
    (timeDiff (vector0.laneTime + 25) vector0.laneTime).natAbs ≤ 25 ∧ (timeDiff (vector0.laneTime + 3) vector0.laneTime).natAbs ≤ 25 ∧
    (timeDiff (vector0.laneTime + 3) (vector0.laneTime + 25)).natAbs ≤ 25 ∧ 25 < (timeDiff (vector0.laneTime + 26) vector0.laneTime).natAbs ∧
    vector0.elemLock ≠ 1 := by decide +kernel

/-- AgreedVoteCommitsOneSnapshot: the first lane, in IDLE at 2 ms, and the second one. -/
theorem witness_agreedVote :
    let base := inMode (lanesWith live (fun l => { l with vote := { l.vote with
      instant := 2000000, own := some vector0, decided := false, rx := { a := .nothing, b := .vector { vector0 with lane := .B }, c := .vector { vector0 with lane := .C } } } })) .idle .stop
    let second : State := { base with snapshots := [{ live.snap with instant := 2000000 }] }
    (LaneId.A.others = [.B, .C] ∧ base.control.phase = .running ∧ base.control.degradation = .full ∧ base.control.nadirDue = none ∧ base.hasImage = false ∧
      base.pair.switchAt = none ∧ (base.lane .A).vote.decided = false ∧ (base.lane .A).vote.miniOwn = .nothing ∧ (base.lane .A).vote.own = some vector0 ∧
      (base.lane .A).vote.rx.get .B = .vector { vector0 with lane := .B } ∧ (base.lane .A).vote.rx.get .C = .vector { vector0 with lane := .C } ∧
      base.lastCycle.instant ≠ (base.lane .A).vote.instant ∧ (base.lane .A).vote.instant % 10000000 ≠ 0 ∧ base.control.pendingPower = none ∧
      base.control.pendingMode = none ∧ second.lastCycle.instant = (second.lane .A).vote.instant ∧ second.snapshots ≠ [] ∧ second.control.executing = false ∧
      second.control.voted = .full ∧ second.control.votedDue = none) ∧
    ∀ l, (base.lane l).mode = .voting ∧ (base.lane l).expel = none :=
  ⟨by decide +kernel, by intro l; cases l <;> decide +kernel⟩

/-- LanesThatIsolateAndAreExcluded: no vector held at the deadline and before it; an isolation of 5 ms and less; a watchdog at 4 ms and before. -/
theorem witness_isolation :
    (voting0.control.phase = .running ∧ voting0.control.degradation = .full ∧ voting0.control.nadirDue = none ∧ (voting0.lane .A).vote.decided = false ∧
      (voting0.lane .A).vote.miniOwn = .nothing ∧ (voting0.lane .A).vote.own = some vector0 ∧
      (voting0.lastCycle.instant ≠ (voting0.lane .A).vote.instant ∨ voting0.snapshots = [] ∨ voting0.control.voted = .full ∧ voting0.control.votedDue = none) ∧
      ({ voting0 with now := max voting0.now 1300000 } : State).pastDeadline .A = true ∧
      ({ voting0 with now := max voting0.now 1250000 } : State).pastDeadline .A = false) ∧
    (∀ l, (voting0.lane l).mode = .voting ∧ (voting0.lane l).expel = none ∧ (voting0.lane .A).vote.rx.get l = .nothing ∧
      (voting0.lane l).vote.instant = (voting0.lane .A).vote.instant) ∧
    (let s := liveWith .A (fun l => { l with mode := .isolated, isolatedAt := 1000000 })
     (s.lane .A).mode = .isolated ∧ (s.lane .A).isolatedAt + 5000000 ≤ max s.now 6000000 ∧ max s.now 5999999 < (s.lane .A).isolatedAt + 5000000 ∧ s.voting ≠ [] ∧
     s.control.degradation = .full) ∧
    ((live.lane .A).mode = .voting ∧ (live.lane .A).lastCommit + 4000000 ≤ max live.now 4000000 ∧ max live.now 3999999 < (live.lane .A).lastCommit + 4000000) :=
  ⟨by decide +kernel, by intro l; cases l <;> decide +kernel, by decide +kernel, by decide +kernel⟩

/-- `live` with a mini-vote vector of every lane held in lane A, forcing what `f` says. -/
def mini (safeOut : BitVec 32) (f : List Force) : State :=
  let v := { vector0 with mini := true, safeOut := safeOut, forces := f }
  let s := lanesWith lit (fun l => { l with lastNumber := 10, forces := { l.forces with pending := [(.output 31, 1000000)] } })
  (s.modLane .A (fun l => { l with vote := { l.vote with miniOwn := .vector v, miniRx := Lanes3 (.vector v) } })).modLane .B
    (fun l => { l with vote := { l.vote with miniOwn := .vector v } })

/-- MiniVoteStartsAndIsJoined: lane C is free, and lane B has begun one. -/
theorem witness_miniVote :
    let s := mini 0x80000000 []
    s.control.phase = .running ∧ s.hasImage = true ∧ (s.lane .C).mode = .voting ∧ (s.lane .C).vote.miniOwn = .nothing ∧ (s.lane .C).vote.decided = true ∧
    (s.lane .C).forces.pending ≠ [] ∧ LaneId.C ≠ .B ∧ (s.lane .B).mode = .voting ∧
    (s.lane .B).vote.miniOwn ≠ .nothing ∧ (s.lane .C).lastNumber ≤ (s.lane .B).lastNumber ∧ (s.lane .C).localFault = none ∧
    ((s.modLane .C (fun l => { l with localFault := some .pace })).lane .C).localFault = some .pace := by decide +kernel

/-- `live` with output 0 committed at the low bit of `x`, and a mini-vote vector of every lane that has none of the outputs on. -/
def miniDeciding (x : Nat) : State :=
  { lanesWith live (fun l => { l with vote := { l.vote with miniOwn := .vector { vector0 with mini := true }, miniRx := Lanes3 (.vector { vector0 with mini := true }) } }) with
    snapshots := [{ live.snap with safeOut := BitVec.ofNat 32 x }] }

/-- MiniVotesAndForcesTheyDoNotCommit: two of three vectors force output 0; none does; a force 50 µs old and 1 ns younger, alone for the fourth time. -/
theorem witness_miniVotes :
    (∀ l, ((mini 0 []).lane l).mode = LaneMode.voting) ∧
    (∀ x ∈ [1, 0],
      let s := miniDeciding x
      s.control.phase = .running ∧ s.control.degradation = .full ∧ (s.lane .A).vote.miniOwn = .vector { vector0 with mini := true } ∧ s.snap.mini = false ∧ s.miniNotices .A = [] ∧
      ({ s with now := max s.now 1001000 } : State).miniDue .A = true ∧ (∀ y ∈ s.miniHeld .A, s.miniBad (groups s.img) y.2 = false) ∧
      (s.miniForces (groups s.img) 2 ((s.miniHeld .A).map (·.2)) ≠ [] ↔ x = 1) ∧ (∀ g ∈ groups s.img, g.kind = 0 → g.restrictive = 0)) ∧
    (let s : State := { liveWith .A (fun l => { l with forces := { l.forces with pending := [(.output 0, 1000000)], alone := [1000000, 1000000, 1000000] } }) with
       snapshots := [{ live.snap with safeOut := 1 }] }
     (s.lane .A).forces.pending.find? (fun p => p.1 == .output 0) = some (.output 0, 1000000) ∧ 1000000 + 50000 ≤ max s.now 1050000 ∧
     max s.now 1049999 < 1000000 + 50000 ∧ s.snap.forceRestrictive (groups s.img) (.output 0) = false ∧
     3 ≤ ((s.lane .A).forces.alone.filter (fun a => decide (max s.now 1050000 < a + 1000000000))).length ∧ (s.lane .A).localFault = none) :=
  ⟨by intro l; cases l <;> decide +kernel, by decide +kernel, by decide +kernel⟩

/-- SupplyElementAndSafeOff: the other lanes hold their elements, and one of them does not. -/
theorem witness_safeOff :
    live.control.phase = .running ∧ (∀ j, j ≠ LaneId.A → (live.lane j).meridianToggles = true ∧ (live.lane j).supervisionToggles = true) ∧
    LaneId.B ≠ .A ∧ ((liveWith .B (fun l => { l with meridianToggles := false })).lane .B).meridianToggles = false ∧ live.control.degradation ≠ .oneLane :=
  ⟨by decide +kernel, by intro j _; cases j <;> decide +kernel, by decide, by decide +kernel, by decide +kernel⟩

/-- ReducedOperationRunsOut: the default of 72 h used up, and 71 h of it. -/
theorem witness_reduced :
    let s := fun (used : Nat) (warned : Bool) =>
      { live with control := { live.control with degradation := .reduced, reducedUsed := used, reducedSince := 1000000, reducedWarned := warned } }
    (s 259200000000000 true).control.degradation = .reduced ∧
    (s 259200000000000 true).reducedLimit ≤ 259200000000000 + (max (s 0 true).now 1000000 - 1000000) ∧
    (s 255600000000000 false).reducedLimit ≤ 255600000000000 + (max (s 0 true).now 1000000 - 1000000) + 3600 * 1000000000 ∧
    (s 0 false).control.reducedWarned = false ∧ live.control.degradation = .full := by decide +kernel

def withNdezo (f : Ndezo → Ndezo) : State := { live with ndezo := f live.ndezo }

/-- DawnAndPolestarStepByStep, each step at its bound and before it. -/
theorem witness_dawn :
    live.ndezoRuns = true ∧ (inMode live .idle .stop).ndezoRuns = false ∧
    (let s : State := { inMode live .warm .stop with ndezo := { live.ndezo with dawn := .listen, listenSince := 1000000 } }
     s.ndezo.dawn = .listen ∧ s.control.mode = .stop ∧ s.ndezo.banned = false ∧ 0 < s.coldCycle ∧
     s.ndezo.listenSince + 2 * s.coldCycle + 2000 * s.node ≤ max s.now 3002000) ∧
    (let s := withNdezo (fun n => { n with dawn := .cold })
     s.ndezo.dawn = .cold ∧ s.ndezo.cycleStart + s.coldCycle ≤ max s.now 2000000) ∧
    (let s := withNdezo (fun n => { n with missedSyncs := 3, outCycles := 3, mergeCycles := 4 })
     s.ndezo.dawn = .joined ∧ s.ndezo.isPolestar = false ∧ 3 ≤ s.ndezo.missedSyncs ∧ max s.now 1000000 = s.ndezo.cycleStart ∧
     max s.now 1000001 ≠ s.ndezo.cycleStart ∧ 3 ≤ s.ndezo.outCycles ∧ 4 ≤ s.ndezo.mergeCycles) ∧
    (live.ndezo.missedSyncs < 3) ∧
    (let s := withNdezo (fun n => { n with dawn := .aligned, validCycle := true })
     s.ndezo.dawn = .aligned ∧ s.ndezo.validCycle = true) ∧
    (let s := withNdezo (fun n => { n with dawn := .aligned, alignedCycles := 16 })
     s.ndezo.validCycle = false ∧ 16 ≤ s.ndezo.alignedCycles) ∧
    (withNdezo (fun n => { n with dawn := .aligned, alignedCycles := 15 })).ndezo.alignedCycles < 16 := by decide +kernel

/-- TimeFramesOfADomain: the cycle start at 2 ms, a SYNC due, LINK, SYNC and COLD frames, a delay with 15 and 16 cycles missed. -/
theorem witness_timeFrames :
    (live.ndezoRuns = true ∧ live.ndezo.dawn = .joined ∧ live.ndezo.change = none ∧ live.now ≤ 2000000 ∧ 2000000 ≠ live.ndezo.cycleStart ∧
      2000000 % live.domainCycle = 0 ∧ 2000001 % live.domainCycle ≠ 0) ∧
    (let s := withNdezo (fun n => { n with isPolestar := true })
     s.ndezo.isPolestar = true ∧ s.ndezo.syncForwarded = false ∧ s.ndezo.request = none ∧ s.ndezo.cycleStart + 1250 ≤ max s.now 1001250) ∧
    (live.ndezo.isPolestar = false ∧ live.portActive 3 = true ∧ live.ndezo.banned = false ∧ link0.fcsOk = true ∧ link0.source ≠ live.node ∧
      ({ link0 with source := 1 } : LinkFrame).source = live.node ∧ link0.head.ethLength = 66 ∧ link0.head.lengthField = 32 ∧ link0.head.version = 1 ∧
      link0.head.reserved = false ∧ sync0.head.ethLength = 64 + 34 ∧ sync0.head.lengthField = 64 ∧ sync0.head.version = 1 ∧ sync0.head.reserved = false) ∧
    (let s := withNdezo (fun n => { n with ports := [{ Port.fresh 3 with prevRx := some link0, lastTxPrev := 1001250 }] })
     (s.port 3).prevRx = some link0 ∧ (s.port 3).lastTxPrev ≠ 0 ∧ ({ link0 with rxTime := 1001290, rxCycle := 4 } : LinkFrame).rxCycle = (s.ndezo.cycle64 - 1) % 2 ^ 32) ∧
    (let s := fun (silent : Nat) => withNdezo (fun n => { n with ports := [{ Port.fresh 3 with delay := some 40, missed := silent + 1 }] })
     ((s 16).port 3).delay.isSome = true ∧ 16 ≤ ((s 16).port 3).silent ∧ ((s 15).port 3).silent < 16 ∧ (s 0).ndezo.syncTaken = false ∧ (s 0).ndezo.corrected = false ∧
     sync0.fcsOk = true ∧ sync0.cut = false ∧ sync0.polestar = (s 0).ndezo.polestar ∧ sync0.polestar ≠ (s 0).node ∧ sync0.change = 0 ∧
     ((s 0).port 3).delay = some 40 ∧ (s 0).portActive 3 = true) ∧
    (let s := withNdezo (fun n => { n with dawn := .cold })
     s.ndezo.dawn = .cold ∧ sync0.polestar < s.node ∧ s.node ≤ ({ sync0 with polestar := 1 } : SyncFrame).polestar) := by decide +kernel

/-- The sync window of `live` reaches at least 2.5 µs and at most 400 µs into the cycle (R260), so the frames above are in it and those of the slot
below are not. -/
theorem witness_syncWindow :
    live.inSync (Int.ofNat link0.stamp - Int.ofNat live.ndezo.cycleStart) = true ∧ live.inSync (Int.ofNat sync0.stamp - Int.ofNat live.ndezo.cycleStart) = true ∧
    (∀ d : Int, 400000 ≤ d ∨ d < 0 → live.inSync d = false) ∧ live.inSync 0 = true := by
  have c : live.shortestCycle = 1000000 := by decide +kernel
  have lo : 2500 ≤ live.syncWindow := by simp only [State.syncWindow]; omega
  have hi : live.syncWindow ≤ 400000 := by simp only [State.syncWindow, c]; omega
  have inside : ∀ d : Int, 0 ≤ d → d < 2500 → live.inSync d = true := by
    intro d h1 h2
    simp only [State.inSync, Int.ofNat_eq_natCast, Bool.and_eq_true, decide_eq_true_eq]
    omega
  refine ⟨inside _ (by decide +kernel) (by decide +kernel), inside _ (by decide +kernel) (by decide +kernel), fun d h => ?_, inside 0 (by decide) (by decide)⟩
  simp only [State.inSync, Int.ofNat_eq_natCast, Bool.and_eq_false_iff, decide_eq_false_iff_not]
  omega

def slot0 : Slot := { start := 425000, frameLen := 80, stream := 0x100, sender := 5, outPorts := 0x10, action := 6, inPort := 3 }

/-- DataFramesMeetTheirWindow: the window's edges (the sync window at 0 and past it: witness_syncWindow), and a frame that passes, fails its FCS, fails its header, is short. -/
theorem witness_dataFrames :
    (live.ndezoRuns = true ∧ live.ndezo.dawn = .joined ∧ live.portActive 3 = true ∧
      live.slots.filter (fun y => (y.2.receives || y.2.forwards) && y.2.inPort == 3) = [(0, slot0)]) ∧
    ((424499 : Int) - 425000 < -500 ∧ (500 : Int) ≤ 425500 - 425000 ∧ (-500 : Int) ≤ 424500 - 425000 ∧ (424749 : Int) - 425000 < -250 ∧ (250 : Int) ≤ 425250 - 425000 ∧
      (425499 : Int) - 425000 < 500 ∧ (-250 : Int) ≤ 424750 - 425000 ∧ (425249 : Int) - 425000 < 250 ∧ (0 : Int) - 425000 < -250) ∧
    (live.headerOk frame0 slot0 = true ∧ frame0.cut = false ∧ frame0.length = slot0.frameLen ∧ frame0.fcsOk = true ∧ slot0.receives = true ∧
      slot0.forwards = true ∧ live.outcomeKnown = true ∧ ({ frame0 with version := 2 } : NdFrame).version ≠ 1 ∧
      live.headerOk { frame0 with version := 2 } slot0 = false ∧ ({ frame0 with length := 79 } : NdFrame).length < slot0.frameLen ∧
      slot0.frameLen < ({ frame0 with length := 81 } : NdFrame).length ∧ live.headerOk { frame0 with fcsOk := false } slot0 = true) ∧
    (∀ i, (live.lane i).mode = .voting ∧ (live.lane i).inputs.rxPending = []) :=
  ⟨by decide +kernel, by decide, by decide +kernel, by intro i; cases i <;> decide +kernel⟩

def pending0 : RxPending :=
  { host := false, port := 3, stream := 0x100, lastBit := 1425000, frame := frame0, own := (.pass, .notMade),
    sent := { a := none, b := some (.notMade, .pass), c := some (.pass, .pass) }, others := { a := none, b := none, c := some (.pass, .pass) },
    offsetNs := 0, late := false, slot := 0, logged := false }

/-- A verdict in which lane B reports that CV-Q has failed, for a frame of which it found that. -/
def word1 : CheckWord := { word0 with q := .fail }

/-- ReceiveDecisionOfTheLanes: the verdict of lane B at the last instant, a fail, a word with a reserved code, and the deadline. -/
theorem witness_receive :
    let s := fun (r : RxPending) => liveWith .A (fun l => { l with inputs := { l.inputs with rxPending := [r] } })
    let r1 : RxPending := { pending0 with sent := { pending0.sent with b := some (.notMade, .fail) } }
    (∀ i, ((s pending0).lane i).mode = LaneMode.voting) ∧
    (LaneId.A ≠ .B ∧ LaneId.C ≠ .A ∧ LaneId.C ≠ .B ∧ (s pending0).ndezo.dawn = .joined ∧ ((s pending0).lane .A).inputs.rxPending = [pending0] ∧ pending0.late = false ∧
      (s pending0).senderCopies pending0.stream = false ∧
      (∀ x ∈ ((s pending0).lane .A).inputs.streams, x.id = pending0.stream → x.accepted = false) ∧
      max (s pending0).now 1425300 ≤ pending0.lastBit + 300 ∧ max (s pending0).now 1425299 < pending0.lastBit + 300) ∧
    (∀ x ∈ [(word0, pending0), (word1, r1)],
      readCheck (packCheck x.1) = some x.1 ∧ x.1.lane = .B ∧ x.1.msg = 0 ∧ x.1.host = false ∧ x.1.port = x.2.port ∧ x.1.stream = x.2.stream ∧
      x.2.sent.get .B = some (x.1.p, x.1.q) ∧ x.2.others.get .B = none ∧ x.2.others.get .C = some (.pass, .pass)) ∧
    CheckResult.fail ∉ [pending0.own.1, pending0.own.2, .pass, .pass, word0.p, word0.q] ∧
    CheckResult.fail ∈ [r1.own.1, r1.own.2, .pass, .pass, word1.p, word1.q] ∧ readCheck (packCheck word0 ||| 0x300) = none := by
  refine ⟨?_, by decide +kernel, by decide +kernel, by decide +kernel, by decide +kernel, by decide +kernel⟩
  intro i; cases i <;> decide +kernel

def slot1 : Slot := { start := 100000, frameLen := 80, stream := 0x200, sender := 1, outPorts := 0x10, action := 1, inPort := 0 }
def buffer1 : TxBuffer := { slot := 1, stream := 0x200, payload := 0, restricted := false, snapshot := 10, instant := 1000000 }
def txBlank : TxPending := { host := false, stream := 0x200, valueP := none, valueQ := none, verified := Lanes3 none, last := 1098000 }
def verify0 : CheckWord := { word0 with lane := .C, msg := 2, port := 63, stream := 0x200, p := .pass }

/-- SlotFromBufferToFrame: the fill 20 µs before START, a telegram that waits, START, and the slot close. -/
theorem witness_slot :
    (∀ i, (live.lane i).mode = .voting ∧ (live.lane i).inputs.txPending = [] ∧ (live.lane i).inputs.rxPending = []) ∧
    (live.host.replies = [] ∧ live.slots.find? (fun y => y.1 == 1) = some (1, slot1) ∧ slot1.stream < 0xFF00 ∧ live.sendsSlot slot1 = true ∧ (live.snapshots.find? (fun p => decide (p.commitAt + 20000 ≤ live.slotStart slot1 (max live.now 1080000)))).isSome = true ∧
      live.slotStart slot1 (max live.now 1080000) ≤ max live.now 1080000 + 20000) ∧
    (let s := lanesWith live (fun l => { l with inputs := { l.inputs with txPending := [txBlank] } })
     (s.lane .A).inputs.txPending = [txBlank] ∧ txBlank.host = false ∧ txBlank.stream = slot1.stream ∧ txBlank.valueP = none ∧ txBlank.valueQ = none ∧
     txBlank.verified = Lanes3 none ∧ LaneId.B ≠ .A ∧ LaneId.A ≠ .C ∧ max s.now 1098000 ≤ txBlank.last ∧ txBlank.last < max s.now 1098001 ∧
     readCheck (packCheck verify0) = some verify0 ∧ verify0.msg = 2 ∧ verify0.port = 63 ∧ verify0.host = false ∧ verify0.stream = slot1.stream ∧ verify0.lane = .C) ∧
    (let s := withNdezo (fun n => { n with buffers := [buffer1] })
     s.ndezo.buffers.find? (fun y => y.slot == 1) = some buffer1 ∧ s.ndezo.cycleStart + slot1.start ≤ max s.now 1100000 ∧
     max s.now 1100000 ≤ buffer1.instant + 2 * s.t0 ∧ s.sendsSlot slot1 = true) ∧
    (live.ndezoRuns = true ∧ live.ndezo.dawn = .joined ∧ live.rxSlots 0x100 ≠ [] ∧
      live.ndezo.cycleStart + live.slotCloseAt 0x100 ≤ max live.now 1500000) :=
  ⟨by intro i; cases i <;> decide +kernel, by decide +kernel, by decide +kernel, by decide +kernel, by decide +kernel⟩

/-! ### The host interface -/

def sess : Session := session .engineer

/-- Good copies of the opcodes and parameters of a list, in a module ready for them. -/
theorem good_all {s : State} {l : List (Nat × Bytes)} (h : l.all (fun x => goodCopyB s x.1 sess (copyOf s x.1 1 x.2)) = true) :
    ∀ x ∈ l, s.goodCopy x.1 sess (copyOf s x.1 1 x.2) := fun x hx => goodCopy_of_check (List.all_eq_true.mp h x hx) (copyOf_cv _ _ _ _)

/-- The second copy of an opcode with its parameters, in the module that has judged the first. -/
def Second (s : State) (x : Nat × Bytes) : Prop := (afterFirst s x.1 (copyOf s x.1 1 x.2)).secondCopy x.1 sess (copyOf s x.1 1 x.2)

def secondB (s : State) (x : Nat × Bytes) : Bool := secondCopyB (afterFirst s x.1 (copyOf s x.1 1 x.2)) x.1 sess (copyOf s x.1 1 x.2)

theorem second_of_check {s : State} {x : Nat × Bytes} (h : secondB s x = true) : Second s x := secondCopy_of_check h (copyOf_cv_afterFirst _ _ _ _ _)

theorem second_all {s : State} {l : List (Nat × Bytes)} (h : l.all (secondB s) = true) : ∀ x ∈ l, Second s x :=
  fun x hx => second_of_check (List.all_eq_true.mp h x hx)

theorem first_all {s : State} {l : List (Nat × Bytes)} (h : l.all (fun x => firstRestrictiveB s x.1 sess (copyOf s x.1 1 x.2)) = true) :
    ∀ x ∈ l, s.firstRestrictive x.1 sess (copyOf s x.1 1 x.2) := fun x hx => firstRestrictive_of_check (List.all_eq_true.mp h x hx) (copyOf_cv _ _ _ _)

/-- The record of the first copy leaves the module ready. -/
theorem afterFirst_ready {s : State} {op : Nat} {c : HostCopy} {t : Nat} (h : s.hostReady t) : (afterFirst s op c).hostReady t := h

def stateQueries : List (Nat × Bytes) :=
  [(0x0104, b16 3922 ++ b16 174), (0x0205, b16 7494 ++ b16 698), (0x0301, b64 10 ++ b16 4272 ++ b16 1376), (0x0302, []), (0x0303, []),
   (0x0304, b8 3 ++ zeros 3), (0x0409, b16 0 ++ b16 80)]

/-- StateQueriesAreAnswered, at the last routes, elements, words of the snapshot, group and entries. -/
theorem witness_stateQueries :
    live.hostReady 1000000 ∧ (∀ x ∈ stateQueries, live.goodCopy x.1 sess (copyOf live x.1 1 x.2)) ∧
    (3922 + 174 ≤ 4096 ∧ 7494 + 698 ≤ 8192 ∧ 4272 % 4 = 0 ∧ 1376 % 4 = 0 ∧ 4272 + 1376 ≤ 5648 ∧ live.pair.role ≠ .standby ∧
     live.snapshots.find? (fun y => y.number == rd64 (b64 10) 0) = some live.snap) :=
  ⟨live_ready, good_all (by decide +kernel), by decide +kernel⟩

/-- `live` in a module whose counters count, with lane B frozen. -/
def frozenB : State := liveWith .B (fun l => { l with store := { l.store with frozen := true } })

def sessionQueries : List (Nat × Bytes) :=
  [(0x0003, []), (0x0601, b8 0 ++ zeros 7 ++ b64 (2 ^ 48 - 1)), (0x0602, b8 42 ++ zeros 7), (0x0701, []), (0x0702, b8 0 ++ zeros 35),
   (0x0802, zeros 8), (0x0901, []), (0x0A03, b32 1047200 ++ b16 1376 ++ zeros 2), (0x0A06, b8 1 ++ b8 2 ++ zeros 2 ++ b32 3924 ++ zeros 4 ++ b16 1376 ++ zeros 2)]

/-- SessionAndDeviceQueriesAreAnswered but for ARB_COUNTERS, and ARB_COUNTERS in an image with parameter 7 at 1. -/
theorem witness_sessionQueries :
    live.hostReady 1000000 ∧ (∀ x ∈ sessionQueries, live.goodCopy x.1 sess (copyOf live x.1 1 x.2)) ∧
    (let k : Clash := { instant := 1000000, word := 261800, laneWrite := false, warned := true }
     let s : State := { live with xram := { live.xram with clash := some k } }
     (State.tick 1000000 s).clashes 1047200 1376 false = some k ∧ (State.tick 1000000 live).clashes 1047200 1376 false = none ∧
     s.goodCopy 0x0A03 sess (copyOf s 0x0A03 1 (b32 1047200 ++ b16 1376 ++ zeros 2))) ∧
    (live.host.lock = none ∧ live.identityLost = false ∧ sess.quote = none ∧ live.pair.role = .unpaired ∧ xramRangeOk 1047200 1376 = true ∧
      3924 + 1376 / 8 ≤ 4096 ∧ (live.lane .B).coreAnswers = true) ∧
    (let m := image.filter (fun c => c.1 < 28672) ++ cells 28672 2 7 ++ cells 28675 1 3 ++ cells 28676 4 1
     let s : State := { frozenB with images := { frozenB.images with regions := [m, [], [], [], [], []] } }
     s.goodCopy 0x0A02 sess (copyOf s 0x0A02 1 (b8 1 ++ zeros 3)) ∧ s.counts = true ∧ (s.lane .B).store.frozen = true) :=
  ⟨live_ready, good_all (by decide +kernel), ⟨by decide +kernel, by decide +kernel, goodCopy_of_check (by decide +kernel) (copyOf_cv _ _ _ _)⟩,
    by decide +kernel, goodCopy_of_check (by decide +kernel) (copyOf_cv _ _ _ _), by decide +kernel⟩

/-- `live` with its block set clear, so that a POINT_MOVE finds nothing in its way, and route 0 in `st`. -/
def routesIn (st : RouteState) : State :=
  lanesWith live (fun l => { l with engine := { l.engine with
    block := 2
    routes := if st = .idle then [] else [(0, { RouteEntry.idle with state := st })] } })

/-- `live` with point 1 not blocked. -/
def unblocked : State := lanesWith live (fun l => { l with engine := { l.engine with block := 0 } })

/-- PermissiveRouteCommandsAwaitIntake. -/
theorem witness_permissive :
    (live.hostReady 1000000 ∧ live.pair.role = .unpaired ∧ live.inNadir = false ∧ live.powered = true ∧ live.control.mode = .run) ∧
    (∀ x ∈ [(0x0101, b16 0 ++ zeros 2), (0x0203, b16 1 ++ b16 8191), (0x0204, b16 2 ++ zeros 2), (0x0408, b8 1 ++ zeros 3 ++ b16 0x100 ++ zeros 2 ++ b32 10)],
      Second live x) ∧
    (live.changing true 0 = false ∧ live.images.takenProfile = none ∧ (routeDef live.img 0).isSome = true ∧ (live.leadLane.engine.entry 0).state = .idle ∧
      0 ∉ live.waitingRoutes ∧ live.routeLoad < 1024 ∧ live.snap.elemLock &&& reqConflict live.img 0 = 0) ∧
    (((List.range (8191 + 1 - 1)).filter (fun k => getBit live.blockAhead (1 + k))).length ≠ 0) ∧
    (live.changing false 2 = false ∧ (elemAt live.img 2).etype = tySection ∧ live.snap.nibble 2 = 0 ∧ live.snap.elemLocked 2 = false ∧
      (elemAt live.img 2).permFirst ≠ 0xFFFF) ∧
    (let l := paramEntries (b8 1 ++ zeros 3 ++ b16 0x100 ++ zeros 2 ++ b32 10)
     live.host.lock = none ∧ (∀ q ∈ l, classLacks live.img sess.cls q.1 = false) ∧ firstBad l (paramBad live.img l) = none) ∧
    (let s := routesIn .occupied
     Second s (0x0103, zeros 4) ∧ s.changing true 0 = false ∧
     ((routeDef s.img 0).map (·.emergRel)) = some true ∧ (s.leadLane.engine.entry 0).state = .occupied) ∧
    (let p := b16 1 ++ b8 2 ++ zeros 1
     Second unblocked (0x0201, p) ∧ unblocked.changing false 1 = false ∧ unblocked.programmed 1 tyPoint = true ∧ unblocked.snap.elemLocked 1 = false ∧
     getBit unblocked.blockAhead 1 = false ∧ getBit (unblocked.leadLane.engine.reservation unblocked.img) 1 = false ∧ 1 ∉ unblocked.movingPoints unblocked.leadLane.engine) :=
  ⟨⟨live_ready, by decide +kernel, by decide +kernel, by decide +kernel, by decide +kernel⟩, second_all (by decide +kernel), by decide +kernel, by decide +kernel,
    by decide +kernel, by decide +kernel, ⟨second_of_check (by decide +kernel), by decide +kernel⟩, ⟨second_of_check (by decide +kernel), by decide +kernel⟩⟩

/-- `live` in which session 1 holds the lock and staging slot 0 is armed. -/
def locked : State :=
  { live with
    host := { live.host with lock := some { session := 1, leaseEnd := second } }
    images := { live.images with staging := [{ Staging.empty with state := .armed }, Staging.empty] } }

/-- RestrictiveCommandsAreDecidedAtTheFirstCopy. -/
theorem witness_restrictive :
    (live.hostReady 1000000 ∧ live.pair.role = .unpaired ∧ live.powered = true ∧ live.programmed 3 tySignal = true ∧ live.programmed 1 tyPoint = true ∧
      live.holdsLock 1 = false) ∧
    (∀ x ∈ [(0x0105, b16 3 ++ zeros 2), (0x0106, []), (0x0202, b16 1 ++ zeros 2), (0x0002, [])], live.firstRestrictive x.1 sess (copyOf live x.1 1 x.2)) ∧
    (let s := routesIn .cleared
     s.firstRestrictive 0x0102 sess (copyOf s 0x0102 1 (zeros 4)) ∧ (routeDef s.img 0).isSome = true ∧ s.pair.deferred = [] ∧
     (s.leadLane.engine.entry 0).state ≠ .idle ∧ (s.leadLane.engine.entry 0).state ≠ .occupied ∧ (s.leadLane.engine.entry 0).state ≠ .emergTiming) ∧
    (∀ x ∈ [(0x0005, ([] : Bytes)), (0x0407, zeros 4)], locked.firstRestrictive x.1 sess (copyOf locked x.1 1 x.2)) ∧ locked.hostReady 1000000 ∧
    locked.holdsLock 1 = true ∧ (locked.stagingAt 0).state = .armed :=
  ⟨⟨live_ready, by decide +kernel, by decide +kernel, by decide +kernel, by decide +kernel, by decide +kernel⟩, first_all (by decide +kernel),
    ⟨firstRestrictive_of_check (by decide +kernel) (copyOf_cv _ _ _ _), by decide +kernel⟩,
    first_all (by decide +kernel), hostReady_of_check (by decide +kernel), by decide +kernel, by decide +kernel⟩

/-- The copy with the check values that it has outside a session (R305). -/
def sealedOpening (c : HostCopy) : HostCopy :=
  let m := checkMessage (live.hostFold 0x0001 none) (HostCopyHead 0x0001 c)
  { c with cvP := cvP m, cvQ := cvQ m }

/-- A SESSION_OPEN of host 7 as OPERATOR. -/
def opening : HostCopy := sealedOpening { copyOf live 0x0302 5 (b16 7 ++ zeros 118) with session := 0 }

theorem sealedOpening_cv (c d : HostCopy) :
    let m := checkMessage ((afterFirst live 0x0001 d).hostFold 0x0001 none) (HostCopyHead 0x0001 (sealedOpening c))
    (sealedOpening c).cvP = cvP m ∧ (sealedOpening c).cvQ = cvQ m := ⟨rfl, rfl⟩

theorem opening_cv :
    let m := checkMessage ((afterFirst live 0x0001 opening).hostFold 0x0001 none) (HostCopyHead 0x0001 opening)
    opening.cvP = cvP m ∧ opening.cvQ = cvQ m := sealedOpening_cv _ _

/-- SessionOpensAtItsSecondCopy. -/
theorem witness_sessionOpen :
    let s := afterFirst live 0x0001 opening
    s.hostReady 1000000 ∧ s.secondOpening opening ∧ (∃ n, 1 ≤ n ∧ n ≤ 32 ∧ s.sessionOf n = none) ∧ openParamsOk opening.params = true ∧
    (openEngineer opening.params = true → s.sealClosed 15 = true ∧ s.certCheck opening.params = 0) := by
  refine ⟨afterFirst_ready live_ready, ⟨?_, ?_⟩, ⟨2, by decide, by decide, by decide +kernel⟩, by decide +kernel, ?_⟩
  · exact ⟨by decide +kernel, by decide +kernel, by decide +kernel, by decide +kernel, by decide +kernel, by decide +kernel, by decide +kernel, by decide +kernel,
      by decide +kernel, opening_cv.1, opening_cv.2, by decide +kernel, by decide +kernel, by decide +kernel⟩
  · exact ⟨by decide +kernel, _, rfl, by decide +kernel, by decide +kernel, by decide +kernel, by decide +kernel, by decide +kernel⟩
  · intro h; exact absurd h (by decide +kernel)

/-- CommandsThatWaitForACommit but for KEY_LIST_UPDATE. -/
theorem witness_waiting :
    (let s := inMode live .warm .stop
     s.hostReady 1000000 ∧ s.pair.role = .unpaired ∧
     (∀ x ∈ [(0x0401, b8 1 ++ zeros 39), (0x0402, b8 3 ++ zeros 3), (0x0501, b8 3 ++ zeros 3), (0x0604, b64 1)],
       Second s x) ∧
     (modeOf 1 = some .run ∧ s.inNadir = false ∧ s.modeParamsOk (b8 1 ++ zeros 39) = true ∧ s.modeRefused .run 0 = false) ∧
     (s.sealClosed 13 = true ∧ s.snap.routeLock = 0 ∧ s.powered = true ∧ 3 ≠ s.images.runningSlot ∧ s.images.takenProfile = none ∧
       s.images.staging.any (fun g => g.state == .armed) = false ∧ s.constellationOpen = false) ∧
     (powerOf 3 = some .live ∧ s.switchLocked .live = false ∧ s.powerRefused .live = false)) ∧
    (let s := inMode live .idle .stop
     Second s (0x0502, []) ∧ s.control.power = .idle ∧ s.control.mode = .stop) :=
  ⟨⟨hostReady_of_check (by decide +kernel), by decide +kernel, second_all (by decide +kernel), by decide +kernel, by decide +kernel, by decide +kernel⟩,
    second_of_check (by decide +kernel), by decide +kernel, by decide +kernel⟩

/-- KEY_LIST_UPDATE: its signature and its key's point are values of functions that nothing fixes (log entry 8); the other hypotheses are met. -/
def keyParams : Bytes := b32 2 ++ b8 1 ++ zeros 3 ++ keyId Config.malrekKey ++ (b8 1 ++ zeros 95) ++ zeros 288 ++ zeros 96

theorem leBytes_length (k n : Nat) : (leBytes k n).length = k := by
  induction k generalizing n with
  | zero => rfl
  | succ k ih => simp [leBytes, ih]

theorem slice_middle (a b c : Bytes) (i k : Nat) (ha : a.length = i) (hb : b.length = k) : slice (a ++ b ++ c) i k = b := by
  subst ha; subst hb
  simp [slice, zeros]

theorem keyId_in_params : keyId Config.malrekKey = slice keyParams 8 8 := by
  have h : (keyId Config.malrekKey).length = 8 := by simp [keyId, sha384, hashBytes, beBytes, leBytes_length]
  have e : keyParams = (b32 2 ++ b8 1 ++ zeros 3) ++ keyId Config.malrekKey ++ ((b8 1 ++ zeros 95) ++ zeros 288 ++ zeros 96) := by
    simp only [keyParams, List.append_assoc]
  rw [e, slice_middle _ _ _ 8 8 rfl h]

theorem witness_keyList (h : Config.curvePoint (updateKey keyParams 0) = true)
    (k : Config.ecdsaVerify Config.malrekKey (Config.sha384 (keyParams.take 400)) (slice keyParams 400 48) (slice keyParams 448 48) = true) :
    let s := inMode live .warm .stop
    s.lockedOut 1 = false ∧ s.control.power = .warm ∧ s.images.staging.any (fun g => g.state == .armed) = false ∧ keyListOk keyParams = true ∧
    s.keySignatureOk keyParams = true := by
  have e : updateKeys keyParams = [updateKey keyParams 0] := rfl
  refine ⟨by decide +kernel, by decide +kernel, by decide +kernel, ?_, ?_⟩
  · have z : (updateUnused keyParams).all (fun k => k == zeros 96) = true := by decide +kernel
    simp only [keyListOk, e, z, List.all_cons, List.all_nil, h]
    rfl
  · have v : live.host.keys.version < rd32 keyParams 0 := by decide +kernel
    have n := keyId_in_params
    have kk : (inMode live .warm .stop).host.keys.keys = [Config.malrekKey] := rfl
    have vv : (inMode live .warm .stop).host.keys.version < rd32 keyParams 0 := v
    have tt : (inMode live .warm .stop).trustedKeys = [Config.malrekKey] := kk
    simp [State.keySignatureOk, tt, vv, n, k]

/-- `live` in which session 1 holds the lock and staging slot 0 is in a state. -/
def staged (st : StageState) : State :=
  { live with
    host := { live.host with lock := some { session := 1, leaseEnd := second } }
    images := { live.images with staging := [{ Staging.empty with state := st, target := 1 }, Staging.empty] } }

/-- The last 64 bytes of a region from the last 64 bytes of the exchange RAM, and 4 bytes in the telegram. -/
def writeXram : Bytes := b8 0 ++ b8 1 ++ zeros 2 ++ b32 67108800 ++ b32 64 ++ b32 1048512
def writeBytes : Bytes := b8 0 ++ b8 0 ++ zeros 2 ++ b32 67108860 ++ b32 4 ++ b32 0 ++ b32 0xFFFFFFFF

/-- StagingCommands. -/
theorem witness_staging :
    ((staged .isOpen).hostReady 1000000 ∧ (staged .isOpen).pair.role = .unpaired ∧ (staged .isOpen).holdsLock 1 = true ∧ (staged .isOpen).sealClosed 14 = true) ∧
    (∀ x ∈ [(0x0403, b8 0 ++ b8 3 ++ zeros 2), (0x0404, writeXram), (0x0404, writeBytes), (0x0405, zeros 8)], Second (staged .isOpen) x) ∧
    (((staged .isOpen).stagingAt 0).state = .isOpen ∧ lengthOk 0x0404 writeXram = true ∧ stageWriteOk writeXram = true ∧ lengthOk 0x0404 writeBytes = true ∧
      stageWriteOk writeBytes = true) ∧
    (Second (staged .failed) (0x0405, b8 0 ++ b8 1 ++ zeros 6) ∧ ((staged .failed).stagingAt 0).state = .failed) ∧
    (Second (staged .verified) (0x0406, zeros 4) ∧ (staged .verified).images.pendingArm = none ∧ (staged .verified).armCheck 0 = (stAccepted, 0)) :=
  ⟨⟨hostReady_of_check (by decide +kernel), by decide +kernel, by decide +kernel, by decide +kernel⟩, second_all (by decide +kernel), by decide +kernel,
    ⟨second_of_check (by decide +kernel), by decide +kernel⟩, second_of_check (by decide +kernel), by decide +kernel, by decide +kernel⟩

/-- ModuleCommandsTakeEffectAtTheirDecision, at the ends of the ranges. -/
theorem witness_module :
    (live.hostReady 1000000 ∧ live.pair.role = .unpaired ∧ live.lockedOut 1 = false ∧ Mem.wf live.xram.mem = true) ∧
    (∀ x ∈ [(0x0004, b16 600 ++ zeros 2), (0x0006, b16 256 ++ zeros 2), (0x0603, b8 1 ++ zeros 3 ++ b32 524288), (0x0A04, b32 1048572 ++ b16 4 ++ zeros 6),
      (0x0A05, b32 1048572 ++ b8 1 ++ zeros 3 ++ b32 7)], Second live x) ∧
    (classOf 1 = some .engineer ∧ lengthOk 0x0A04 (b32 1048572 ++ b16 4 ++ zeros 6) = true ∧ xramRangeOk 1048572 4 = true) ∧
    (let s := inMode live .idle .stop
     Second s (0x0503, b8 2 ++ zeros 1 ++ b16 0) ∧ (s.lane .C).softRepairs.length = 0 ∧ s.control.power = .idle) ∧
    (let s0 := inMode (liveWith .C (fun l => { l with mode := .excluded, exclusions := 2 })) .warm .stop
     let s : State := { s0 with control := { s0.control with degradation := .reduced } }
     Second s (0x0A07, b8 2 ++ zeros 3) ∧ s.hostReady 1000000 ∧ s.control.degradation = .reduced ∧ s.control.power = .warm ∧ s.control.mode = .stop ∧
     (s.lane .C).mode = .excluded ∧ (s.lane .C).exclusions < 3 ∧ s.images.staging.any (fun g => g.state == .armed) = false ∧ s.images.takenProfile = none) :=
  ⟨⟨live_ready, by decide +kernel, by decide +kernel, by decide +kernel⟩, second_all (by decide +kernel), by decide +kernel,
    ⟨second_of_check (by decide +kernel), by decide +kernel, by decide +kernel⟩,
    second_of_check (by decide +kernel), hostReady_of_check (by decide +kernel), by decide +kernel⟩

/-- ArbiterControlByAction: each action, and clearing in an image whose parameter 7 is 1. -/
theorem witness_arbiter :
    (let s := inMode live .warm .stop
     s.hostReady 1000000 ∧ s.pair.role = .unpaired ∧ (∀ x ∈ [(0x0A01, b8 3 ++ b8 0 ++ zeros 2), (0x0A01, b8 2 ++ b8 1 ++ zeros 2), (0x0A01, b8 0 ++ b8 2 ++ b8 13 ++ b8 7)],
       Second s x) ∧ 13 < s.identity.part.requesters ∧ s.control.power = .warm ∧ s.control.mode ≠ .run ∧ s.counts = false ∧
     (frozenB.lane .B).store.frozen = true) ∧
    (let m := image.filter (fun c => c.1 < 28672) ++ cells 28672 2 7 ++ cells 28675 1 3 ++ cells 28676 4 1
     let s : State := { inMode live .warm .stop with images := { live.images with regions := [m, [], [], [], [], []] } }
     Second s (0x0A01, b8 3 ++ b8 3 ++ zeros 2) ∧ s.counts = true) :=
  ⟨⟨hostReady_of_check (by decide +kernel), by decide +kernel, second_all (by decide +kernel), by decide +kernel, by decide +kernel, by decide +kernel, by decide +kernel,
    by decide +kernel⟩, second_of_check (by decide +kernel), by decide +kernel⟩

def inPairAs (f : Pair → Pair) : State := { live with pair := f live.pair }

/-- NdezoAndPairCommands. -/
theorem witness_ndezoAndPair :
    (let s := withNdezo (fun n => { n with isPolestar := true, constNo := 1 })
     s.hostReady 1000000 ∧ Second s (0x0801, zeros 4) ∧ s.inNadir = false ∧ s.ndezoRuns = true ∧ s.ndezo.isPolestar = true ∧ 0 ≠ s.ndezo.constNo ∧
     s.ndezo.change = none ∧ s.heldBit 0 = true ∧ s.standbyUnit = false) ∧
    (Second live (0x0803, b8 61 ++ zeros 3) ∧ isNdezoPort live.identity.part 61 = true ∧ (live.port 61).disabled = bitAt 0 0) ∧
    (let s := inPairAs (fun p => { p with role := .active, peerStandby := .ready })
     Second s (0x0902, b16 9 ++ zeros 2) ∧ s.inPair = true ∧ s.peerOk (b16 9 ++ zeros 2) = true ∧ s.pair.role = .active ∧ s.pair.peerStandby = .ready ∧
     s.images.staging.any (fun g => g.state == .armed) = false ∧ s.images.takenProfile = none) ∧
    (let s := inPairAs (fun p => { p with role := .standby })
     Second s (0x0903, b16 9 ++ zeros 2) ∧ s.inPair = true ∧ s.peerOk (b16 9 ++ zeros 2) = true ∧ s.pair.role = .standby ∧ s.pair.standby = .notReady) :=
  ⟨⟨hostReady_of_check (by decide +kernel), second_of_check (by decide +kernel), by decide +kernel⟩, ⟨second_of_check (by decide +kernel), by decide +kernel⟩,
    ⟨second_of_check (by decide +kernel), by decide +kernel⟩, second_of_check (by decide +kernel), by decide +kernel⟩

/-- A copy as the datagram that holds it (Table 9.2). -/
def datagramOf (op : Nat) (c : HostCopy) : Datagram :=
  { net := c.net, path := c.path, stamps := c.stamps, ownPort := c.ownPort, payload := HostCopyHead op c ++ b32 c.cvP.toNat ++ b32 c.cvQ.toNat, rx := c.rx }

def stopCopy : HostCopy := copyOf live 0x0101 1 (zeros 4)

/-- The datagram of a ROUTE_SET reads back as the copy. -/
theorem datagram_reads : datagramCopy (datagramOf 0x0101 stopCopy) = stopCopy := by decide +kernel

/-- CopiesThatDecideNoCommand: a first copy with and without credit, a repeat, a window that closes, copies in the two queues. -/
theorem witness_copies :
    live.hostReady 1000000 ∧
    (live.goodCopy 0x0101 sess stopCopy ∧ opOf 0x0101 = some (opRow 0x0101 .permissive true true false true) ∧ stopCopy.net ≠ .service ∧
      live.recOf (.session 1 1) = none ∧ live.creditSpent 0x0101 1 = false ∧ sess.pathY.isSome = true) ∧
    (let x := { sess with credit := 0 }
     let s : State := { live with host := { live.host with sessions := [x] } }
     x.credit ≤ (s.host.recs.filter (fun y => y.session == 1 && y.outstanding && !y.key.isOpening)).length) ∧
    (let e : Decision := { status := stAccepted, snapshot := 10, data := [], bytes := HostCopyHead 0x0101 stopCopy }
     let r : HostRec := { live.newRec 0x0101 stopCopy with decisions := [e] }
     let s : State := { live with host := { live.host with recs := [r] } }
     s.recOf (.session 1 1) = some r ∧ s.decisionOf (.session 1 1) (HostCopyHead 0x0101 stopCopy) = some e ∧ r.isOpen = false) ∧
    (let s := afterFirst live 0x0101 stopCopy
     (s.recOf (.session 1 1)).any (fun r => r.isOpen && r.net != .service && decide (r.opened + r.window ≤ max s.now 3000000) &&
       !decide (r.opened + r.window ≤ max s.now 2999999)) = true ∧ (s.sessionOf 1).any (fun x => x.pathX.isSome && x.pathY.isSome) = true) ∧
    live.ki40.waiting = [] :=
  ⟨live_ready, ⟨goodCopy_of_check (by decide +kernel) (copyOf_cv _ _ _ _), by decide +kernel⟩, by decide +kernel, by decide +kernel, by decide +kernel, by decide +kernel⟩

/-- LeasesNoncesAndQuotes. -/
theorem witness_leases :
    (live.sessionOf 1 = some sess ∧ sess.leaseEnd ≤ max live.now 2000000000 ∧ max live.now 1999999999 < sess.leaseEnd ∧ live.control.phase ≠ .dusk ∧
      live.sessionOf 2 = none) ∧
    (locked.host.lock = some { session := 1, leaseEnd := second } ∧ second ≤ max locked.now 1000000000) ∧
    live.host.nonceAt + 10 * second ≤ max live.now 10000000000 ∧ max live.now 9999999999 < live.host.nonceAt + 10 * second ∧
    (let q : Quote := { nonce := zeros 32, captured := some (zeros 288), signature := none, since := 0 }
     let s : State := { live with host := { live.host with sessions := [{ sess with quote := some q }] } }
     s.sessionOf 1 = some { sess with quote := some q } ∧ q.captured = some (zeros 288) ∧ q.signature = none) := by decide +kernel

def queued0 : Queued := queuedOf 0x0606 0 0 Origin.internal [0]
def repeated0 : Queued := queuedOf 0x0206 1 0 Origin.internal [0]

/-- AlmanacAppendsAndCloses: an empty queue; a record in a running module, at a full quota, that repeats an open one, and in stash mode. -/
theorem witness_almanac :
    (live.lane .A).queue = [] ∧
    (let s := liveWith .A (fun l => { l with queue := [queued0] })
     (s.lane .A).queue = queued0 :: [] ∧ State.writerRuns (State.tick 0 s) = true ∧ (s.lane .A).held = false ∧ s.almanac.stashMode = false ∧
     queued0.repeats = false ∧ s.almanac.isFull queued0.cls = false ∧ s.almanac.oldest ≤ s.almanac.next + 0) ∧
    (let a : Almanac := { live.almanac with quotas := [(.operator, 0)] }
     a.isFull .operator = true ∧ (queuedOf 0x0606 0 0 Origin.ki40 [0]).cls = .operator) ∧
    (repeated0.repeats = true ∧ (countSame (repeated0.records 5 0 true false) repeated0 0).isSome = true) ∧
    (let s : State := { liveWith .A (fun l => { l with queue := [queued0] }) with almanac := { live.almanac with stashMode := true } }
     s.almanac.stashMode = true ∧ s.control.phase = .running ∧ (s.lane .A).stash.length + queued0.payloads.length ≤ 128 ∧ (s.lane .A).stashLost = 0) := by
  decide +kernel

/-- `image` with an instance 0x05000005 of T0 (Table 2.10). -/
def programImage : Mem := Mem.store (Mem.store (Mem.store image 44 (b32 1)) 96 (b64 (30720 + 24 * 2 ^ 32))) 30720 (b32 0x05000005)

/-- TaskBodiesCompleteInTheirLane: bodies in progress, a TE run that waits, the program executing and not, and a breakpoint met in HOLD. -/
theorem witness_taskBodies :
    (let s0 := liveWith .A (fun l => { l with program := { l.program with
       bodies := [(.t0, 10), (.t1, 10), (.t2, 10)]
       teQueue := [{ stream := 0x100, peer := 5, ageLimit := 3, age := 4, latchTime := 0, dropoutNo := 1, snapshot := 10, logical := 0, pubs := [], ended := 0 }] } })
     let s : State := { s0 with control := { s0.control with executing := true } }
     (s.lane .A).mode = .voting ∧ (∀ k ∈ [Task.t0, .t1, .t2], (s.lane .A).program.bodies.any (fun x => x.1 == k) = true) ∧
     (s.lane .A).program.teQueue ≠ [] ∧ s.control.mode ≠ .hold ∧ s.hasImage = true ∧ s.control.executing = true ∧ s.control.degradation.isNadir = false ∧
     s0.control.executing = false) ∧
    (live.lane .A).program.bodies.any (fun x => x.1 == .t0) = false ∧ (live.lane .A).program.teQueue = [] ∧
    (let b := { run0 with blocks := [{ inst := 0x05000005, timers := [], edges := [], writes := [] }] }
     let s0 := liveWith .A (fun l => { l with program := { l.program with bodies := [(.t0, 10)] } })
     let s : State := { s0 with control := { s0.control with mode := .hold, breakpoints := [0x05000005] }, images := { s0.images with regions := [programImage, [], [], [], [], []] } }
     s.control.mode = .hold ∧ LaneId.A = s.lead ∧ breaksMet s.control.breakpoints (calledBlocks s.img .t0 b) ≠ [] ∧ s.bodyReady (s.lane .A) .t0 = true) := by
  decide +kernel

def copyRun0 : CopyRun := { offset := 0, length := 64, xram := 0, since := 1000000, guarded := true, abandoned := false, key := none, touched := [] }

/-- VerificationAdmissionAndCopies. -/
theorem witness_verification :
    ((staged .verifying).stagingAt 0).state = .verifying ∧ (staged .verifying).twoAgree (.odd .C) = true ∧ (staged .verifying).twoAgree .all = true ∧
    (staged .verifying).twoAgree .none = false ∧ (staged .verifying).voting.length = 3 ∧
    (staged .verifying).inPair = false ∧
    (let p : Profile := { region := 3, status := .verifying, hash := [] }
     let s : State := { live with images := { live.images with profiles := live.images.profiles.set 3 p } }
     s.images.profiles[3]? = some p ∧ p.status = .verifying ∧ s.verifying s.selectedSlot = false ∧ s.selectedSlot ≠ 3) ∧
    ({ live with images := { live.images with mapPending := true } } : State).images.mapPending = true ∧ live.images.mapPending = false ∧
    (∀ g ∈ [copyRun0, { copyRun0 with guarded := false, abandoned := true }],
      let s : State := { live with images := { live.images with staging := [{ Staging.empty with state := .writing, copy := some g }, Staging.empty] } }
      (s.stagingAt 0).copy = some g ∧ (g.guarded = true ∨ g.abandoned = true) ∧ g.touched = []) ∧
    (live.stagingAt 1).copy = none := by decide +kernel

/-! ### The standby pair -/

/-- A frame of unit 9 on a standby link with its check values. -/
def peerFrame (s : State) (link : PairLink) (payload : Bytes) : PairFrame :=
  let f : PairFrame := { pairFrame0 with payload := payload }
  let m := checkMessage (s.pairFold link f) (s.pairCovered link f)
  { f with cvP := cvP m, cvQ := cvQ m }

/-- It is good in a unit of the pair that has heard no frame on the link. -/
theorem peerFrame_good (s : State) (link : PairLink) (b : Bytes) (_ : link ≠ .domain)
    (h : (s.inPair && !s.sealBank.ki40 && decide (2 ≤ s.voting.length) && s.pairSeqOk link pairFrame0 && pairPeer s.img == some 9 && s.unexcluded.all (fun i => !(s.lane i).held)) = true) :
    s.goodPairFrame link (peerFrame s link b) := by
  simp only [Bool.and_eq_true, decide_eq_true_eq, beq_iff_eq, Bool.not_eq_true', List.all_eq_true] at h
  obtain ⟨⟨⟨⟨⟨h1, h2⟩, h3⟩, h4⟩, h5⟩, h6⟩ := h
  refine ⟨h1, h2, h3, rfl, ?_, ?_, ?_, ?_, h6⟩
  · cases link <;> rfl
  · cases link <;> rfl
  · cases link <;> exact h4
  · rw [h5]; rfl

def standby (st : StandbyState) : State := inPairAs (fun p => { p with role := .standby, standby := st })

/-- A heartbeat of an active unit in the same state as `s`, at the digest instant 1 ms. -/
def beatBytes (s : State) (digest : Nat) : Bytes :=
  b8 1 ++ b8 0 ++ b8 0 ++ b8 s.modesByte ++ b32 3 ++ b64 10 ++ b64 1000000 ++ b32 digest ++ zeros 4 ++ b64 (imgId s.img) ++ zeros 24

/-- A standby that holds the image 0 for slot 1 in `st`. -/
def holding (st : StageState) : State := { standby .ready with images := (staged st).images }

/-- A CHANGE frame of an arm or an abort for slot 1, image 0. -/
def changeBytes (op point : Nat) : Bytes := b16 op ++ zeros 1 ++ b8 1 ++ zeros 4 ++ b64 0 ++ b64 point ++ zeros 40

/-- FramesOfThePeer: a heartbeat that agrees, one that differs at a fresh instant, one that tells of a fault, the CHANGE forms. -/
theorem witness_peerFrames :
    (live.inPair = false ∧ (standby .ready).goodPairFrame .sl0 (peerFrame (standby .ready) .sl0 (zeros 64))) ∧
    (let s := standby .ready
     let d := ((s.digestAt 1000000).map (·.toNat)).getD 0
     let b := beatOf (beatBytes s d)
     s.pair.role = .standby ∧ b.role = 1 ∧ s.pair.standby = .ready ∧ b.degradation = 0 ∧ bitsAt b.modes 2 2 ≠ 2 ∧ b.imageId = imgId s.img ∧ b.modes = s.modesByte ∧
     s.digestAt b.digestTime = some b.digest ∧ s.digestAt (beatOf (beatBytes s (d + 1))).digestTime ≠ some (beatOf (beatBytes s (d + 1))).digest ∧
     s.pair.lastCompared < b.digestTime ∧ s.pair.differs < 2 ∧ (standby .copying).pair.caughtUp = false ∧
     (inPairAs (fun p => { p with role := .standby, standby := .copying, caughtUp := true })).pair.caughtUp = true) ∧
    (let b := beatOf (beatBytes (standby .ready) 0)
     let s := inPairAs (fun p => { p with role := .standby, standby := .ready, beat := some b })
     s.pair.beat = some b ∧ b.degradation = 0 ∧ ({ b with degradation := 1 } : Beat).degradation ≠ 0) ∧
    (let f := changeBytes 0x0406 ((holding .verified).armPoint)
     (holding .verified).slotWith 0 1 .verified = some 0 ∧ (holding .verified).images.pendingArm = none ∧
     (holding .verified).images.staging.all (fun g => g.state != .armed) = true ∧ State.armPoint (State.tick 1000000 (holding .verified)) = rd64 f 16 ∧
     (holding .verified).pair.changeDue = none ∧ rd16 f 0 = 0x0406 ∧ rd8 f 3 = 1 ∧ rd64 f 8 = 0) ∧
    (holding .armed).slotWith 0 1 .armed = some 0 :=
  ⟨⟨by decide +kernel, peerFrame_good _ _ _ (by decide) (by decide +kernel)⟩, by decide +kernel, by decide +kernel, by decide +kernel, by decide +kernel⟩

/-- StateCopyOfAPair: a request at the active unit, granted and refused; the grant; COPY frames in order; the catch-up in time and late. -/
theorem witness_stateCopy :
    (let s := inPairAs (fun p => { p with role := .active })
     s.goodPairFrame .sl0 (peerFrame s .sl0 (zeros 64)) ∧ s.pair.copyPoint = none ∧ s.copyRefusal = none ∧
     ({ s with pair := { s.pair with silent1 := true } } : State).copyRefusal = some 3) ∧
    (let s := inPairAs (fun p => { p with role := .standby, copyAsked := true })
     s.goodPairFrame .sl1 (peerFrame s .sl1 (b8 1 ++ zeros 63)) ∧ s.pair.copyAsked = true) ∧
    (let s := standby .copying
     s.goodPairFrame .sl0 (peerFrame s .sl0 (zeros 64)) ∧ s.goodPairFrame .sl1 (peerFrame s .sl1 (zeros 64)) ∧ s.pair.standby = .copying ∧ s.pair.copyDone = false ∧
     rd64 (zeros 64) 0 = s.pair.copyNext) ∧
    (let s := inPairAs (fun p => { p with role := .standby, standby := .copying, copyDone := true, copyPoint := some 0 })
     s.pair.copyDone = true ∧ s.pair.caughtUp = false ∧ max s.now 200000000 ≤ s.pair.copyPoint.getD 0 + 200 * ms ∧
     s.pair.copyPoint.getD 0 + 200 * ms < max s.now 200000001) :=
  ⟨⟨peerFrame_good _ _ _ (by decide) (by decide +kernel), by decide +kernel, by decide +kernel, by decide +kernel⟩,
    ⟨peerFrame_good _ _ _ (by decide) (by decide +kernel), by decide +kernel⟩,
    ⟨peerFrame_good _ _ _ (by decide) (by decide +kernel), peerFrame_good _ _ _ (by decide) (by decide +kernel), by decide +kernel, by decide +kernel, by decide +kernel⟩,
    by decide +kernel⟩

/-- RolesPathsAndEpochsOfAPair, each event at its instant and 1 ns before. -/
theorem witness_roles :
    (let s := inPairAs (fun p => { p with role := .undecided })
     s.hasImage = true ∧ s.pair.role = .undecided ∧ s.pair.listenSince + 50 * ms ≤ max s.now 50000000 ∧ s.ndezo.dawn = .joined ∧ s.pair.heardRole = none ∧
     s.isLower = true ∧ s.sendsBeats = true ∧ 1000000 % 100000 = 0) ∧
    live.sendsBeats = false ∧
    (let s := standby .ready
     s.inPair = true ∧ s.pair.last1 + 3 * ms ≤ max s.now 3000000 ∧ max s.now 2999999 < s.pair.last1 + 3 * ms ∧ s.pair.last2 + 3 * ms ≤ max s.now 3000000 ∧
     s.pair.silent2 = false) ∧
    (let s := inPairAs (fun p => { p with role := .active, quarantineFrom := some 1000000, epochPending := true, switchAt := some 10000000, lastSwitch := 5 })
     s.pair.quarantineFrom = some 1000000 ∧ 1000000 + 5 * ms + s.t0 + 2 * s.domainCycle ≤ max s.now 8250000 ∧
     max s.now 8249999 < 1000000 + 5 * ms + s.t0 + 2 * s.domainCycle ∧ s.pair.epochPending = true ∧ s.pair.epochNext = none ∧ s.pair.role = .active ∧
     s.pair.switchAck ≠ 10000000 ∧ 10000000 ≤ max s.now 9000000 + ms ∧ max s.now 8999999 + ms < 10000000 ∧ s.inPair = true ∧ s.pair.lastSwitch ≠ 0 ∧
     s.pair.switchDue = false ∧ s.param 11 ≤ State.hoursSince (State.tick 604800000000000 s)) := by decide +kernel

/-! ### KI-40 mode -/

/-- A module in KI-40 mode. -/
def ki40Live : State := { live with sealBank := { live.sealBank with ki40 := true } }

def ki40CopyOf (op : Nat) (params : Bytes) : Ki40Copy :=
  let c : Ki40Copy := { kiCopy0 with params := slice params 0 48 }
  { c with crcC := crcC (ki40Head op c), crcT := crcT (ki40Head op c) }

/-- The rest of what makes a KI-40 copy good, as a check. -/
def goodKi40B (s : State) (op : Nat) (p : Bytes) : Bool :=
  (ki40CopyOf op p).params.length == 48 && (ki40CopyOf op p).station == s.node && ki40FieldsOk op (ki40CopyOf op p)

theorem goodKi40_of_check {s : State} {op : Nat} {p : Bytes} (h : goodKi40B s op p = true) : s.goodKi40 op (ki40CopyOf op p) := by
  simp only [goodKi40B, Bool.and_eq_true, beq_iff_eq] at h
  exact ⟨by show Net.x ≠ Net.service; decide, .inl rfl, h.1.1, h.1.2, rfl, rfl, rfl, h.2⟩

/-- The module that has judged the copy's twin on network Y. -/
def afterFirstKi40 (s : State) (op : Nat) (c : Ki40Copy) : State :=
  { s with host := { s.host with recs := [{
      key := .ki40 c.seq, session := 0, opcode := op, originId := 0, net := .y, bytes := ki40Head op c, opened := 1000000, window := 2000000, decisions := [],
      decidedAt := 0, outstanding := true, pathX := none, pathY := some (path .y) }] } }

def SecondKi40 (s : State) (x : Nat × Bytes) : Prop := (afterFirstKi40 s x.1 (ki40CopyOf x.1 x.2)).secondKi40 x.1 (ki40CopyOf x.1 x.2)

theorem secondKi40_all {s : State} {l : List (Nat × Bytes)} (h : l.all (fun x => goodKi40B s x.1 x.2) = true) (hs : s.ki40Stamp kiCopy0 < 1000000 + 2000000) :
    ∀ x ∈ l, SecondKi40 s x :=
  fun x hx => ⟨goodKi40_of_check (List.all_eq_true.mp h x hx), by rfl, ⟨_, rfl, rfl, by show Net.y ≠ Net.x; decide, rfl, hs⟩⟩

theorem goodKi40_all {s : State} {l : List (Nat × Bytes)} (h : l.all (fun x => goodKi40B s x.1 x.2) = true) :
    ∀ x ∈ l, s.goodKi40 x.1 (ki40CopyOf x.1 x.2) := fun x hx => goodKi40_of_check (List.all_eq_true.mp h x hx)

theorem ki40Live_ready : ki40Live.ki40Ready 1000000 :=
  ⟨by decide +kernel, by decide +kernel, by decide +kernel, by decide +kernel, by decide +kernel, by decide +kernel, by decide +kernel, by decide +kernel,
    by decide +kernel, fun l h => absurd h (by simp [ki40Live, live, HostSide.atReset]), by decide +kernel⟩

/-- Ki40QueriesHaveOneHeldReply, at the last entries and one past them. -/
theorem witness_ki40Queries :
    ki40Live.ki40Ready 1000000 ∧
    (∀ x ∈ [(0x01, ([] : Bytes)), (0x0B, b8 212 ++ b8 44), (0x0B, b8 213 ++ b8 44), (0x0C, b16 424 ++ b8 88), (0x0C, b16 425 ++ b8 88), (0x10, b32 5)],
      ki40Live.goodKi40 x.1 (ki40CopyOf x.1 x.2)) ∧ 212 + 44 ≤ 256 ∧ 424 + 88 ≤ 512 :=
  ⟨ki40Live_ready, goodKi40_all (by decide +kernel), by decide, by decide⟩

/-- Ki40CommandsActAsTheirNativeEquivalents; the states of the routes and elements are those of the native witnesses. -/
theorem witness_ki40Commands :
    (ki40Live.ki40Ready 1000000 ∧ ki40Live.pair.role = .unpaired ∧ ki40Live.pair.deferred = [] ∧ ki40Live.inNadir = false ∧ ki40Live.powered = true ∧
      ki40Live.control.mode = .run) ∧
    (∀ x ∈ [(0x02, b8 0), (0x04, b8 0), (0x07, b16 1 ++ b8 2), (0x09, b16 1 ++ b16 511), (0x0A, b16 2), (0x0D, b8 0), (0x0E, b8 2), (0x11, b64 1)],
      SecondKi40 ki40Live x) ∧
    (∀ x ∈ [(0x03, b8 0), (0x05, b16 3), (0x06, []), (0x08, b16 1)], ki40Live.goodKi40 x.1 (ki40CopyOf x.1 x.2)) ∧ ki40Live.recOf (.ki40 1) = none ∧
    (modeOf 0 = some .stop ∧ ki40Live.modeRefused .stop 0 = false ∧ powerOf 2 = some .warm ∧ ki40Live.switchLocked .warm = false ∧
      ki40Live.powerRefused .warm = false) :=
  ⟨⟨ki40Live_ready, by decide +kernel, by decide +kernel, by decide +kernel, by decide +kernel, by decide +kernel⟩, secondKi40_all (by decide +kernel) (by decide +kernel),
    goodKi40_all (by decide +kernel), by decide +kernel, by decide +kernel⟩

/-- DataLoadRepliesAndCyclesOfKi40. -/
theorem witness_dataLoad :
    (let s := inMode ki40Live .idle .stop
     s.ki40Ready 1000000 ∧ (∀ x ∈ [(0x20, b8 0 ++ zeros 3 ++ b32 67108800 ++ b32 64 ++ b32 1048512), (0x20, b8 1)], SecondKi40 s x) ∧
     s.sealClosed 15 = true ∧ s.control.power = .idle ∧ s.ki40.loadCopy = none ∧ s.ki40.load ≠ 2 ∧
     loadParamsOk (b8 0 ++ zeros 3 ++ b32 67108800 ++ b32 64 ++ b32 1048512) = true) ∧
    (let s : State := { ki40Live with ki40 := { ki40Live.ki40 with load := 2, loadCopy := some copyRun0 } }
     s.ki40.loadCopy = some copyRun0 ∧ copyRun0.guarded = true ∧ s.ki40.load = 2 ∧ s.twoAgree .all = true ∧ s.twoAgree .none = false ∧ (s.images.profiles[0]?).isSome = true) ∧
    (let d : Datagram := { net := .x, path := path .x, stamps := Lanes3 1000000, ownPort := true, payload := b8 0xC1 ++ b8 1 ++ zeros 4 ++ b16 1 ++ zeros 56,
                           rx := RxFault.healthy }
     d.payload.length = 64 ∧ rd8 d.payload 0 = 0xC1 ∧ (ki40OfDatagram d).station = ki40Live.node ∧
     (ki40OfDatagram d).crcC ≠ crcC (ki40Head (rd8 d.payload 1) (ki40OfDatagram d))) ∧
    (let r := { ki40Live.ki40ReplyTo 1000000 0x01 (ki40CopyOf 0x01 []) .x 0 [] with decided := 1000000 }
     let s : State := { ki40Live with ki40 := { ki40Live.ki40 with held := [r] } }
     s.control.phase = .running ∧ 2 ≤ s.voting.length ∧ s.ki40.held = [r] ∧ r.path.isSome = true ∧ r.ki40 = true ∧ max s.now 2999999 < r.decided + 2 * ms ∧
     r.decided + 2 * ms ≤ max s.now 3000000 ∧ max s.now 4999999 < r.decided + 4 * ms) ∧
    max ki40Live.now 50000000 % 50000000 = 0 :=
  ⟨⟨⟨by decide +kernel, by decide +kernel, by decide +kernel, by decide +kernel, by decide +kernel, by decide +kernel, by decide +kernel, by decide +kernel,
      by decide +kernel, fun l h => absurd h (by simp [inMode, ki40Live, live, HostSide.atReset]), by decide +kernel⟩, secondKi40_all (by decide +kernel) (by decide +kernel),
      by decide +kernel⟩, by decide +kernel, by decide +kernel, by decide +kernel, by decide +kernel⟩

/-- PollRoundsAnswersAndArp: a round start; port 0 at its P; an answer at the edges of its window; the window's end; an ARP request. -/
theorem witness_polls :
    (ki40Live.polls = true ∧ max ki40Live.now 20000000 % 20000000 = 0 ∧ max ki40Live.now 20000001 % 20000000 ≠ 0 ∧ live.polls = false) ∧
    (let s : State := { ki40Live with ki40 := { ki40Live.ki40 with polled := true, pollAt := [(0, 500000)] } }
     (outStream s.img 0x200).isSome = true ∧ (inStream s.img 0x100).isSome = true ∧ s.ki40.polled = true ∧ s.control.degradation ≠ .oneLane ∧
     s.pollFresh 0 = true ∧ s.ki40.roundStart + ms * 0 + 500000 ≤ max s.now 1000000 ∧ max s.now 1000000 < s.ki40.roundStart + 20 * ms ∧
     (assoc s.ki40.pollAt 0).isSome = true ∧ 2 ≤ s.voting.length ∧ (∀ i ∈ s.unexcluded, (s.lane i).held = false) ∧ (s.sender 0).isSome = true ∧ answer0.lengthOk = true ∧ answer0.fcsOk = true ∧ answer0.type = 0x32 ∧
     (inStream s.img 0x100).map (·.peer) = some answer0.oc ∧ answer0.pollNo = s.ki40.round % 65536 ∧ answer0.station = s.node ∧
     s.leadLane.inputs.streams.any (fun y => y.id == 0x100 + 0 && y.accepted) = false ∧ assoc s.ki40.pollAt 0 = some 500000 ∧
     500000 + 900000 ≤ max s.now 1400000 ∧ max s.now 1399999 < 500000 + 900000 ∧ (20000 : Int) ≤ answer0.offset ∧ answer0.offset < 900000) ∧
    (live.portSpeaks 48 = true ∧ (live.hostAddress 48).isSome = true ∧ live.hostAddress 48 ≠ some 0) := by decide +kernel

/-! ### Every command and every step -/

/-- StepRunsTheCommandInFront, EveryCommandIsAnswered and EveryStepKeepsTheMemoriesCanonical: a command in front, and a step that it takes. -/
theorem witness_step :
    let s : State := { live with pending := [.mbWrite 0 5 0x1234 noLane] }
    s.memWf ∧ (∃ u, step s = .next u ∧ u.pending = [] ∧ u.xram.mem = [(10, 0x34), (11, 0x12)]) ∧ live.pending = [] ∧ step live = .next live :=
  ⟨⟨by decide +kernel, by decide +kernel, by decide +kernel, by intro i; cases i <;> decide +kernel⟩, ⟨_, rfl, by decide +kernel, by decide +kernel⟩, by decide +kernel, rfl⟩

end Sys2Proof.Tests
end

section
/-! # Runs that change lanes only, safe inputs and pace (R43 to R47, R413, R414) -/

namespace Sys2Proof.Machine

/-! ## Runs of a command -/

/-- A command with no effect leaves the clock at its instant and nothing else changed. -/
theorem run_idle {s : State} {t : Nat} {f : State → State} (h : f (s.tick t) = s.tick t) : run t f s = .next (State.tick t s) := by
  rw [run_eq, h]; rfl

/-- The state after a command that changes lanes only. -/
theorem run_sameButLanes {s : State} {t : Nat} {f : State → State} (h : SameButLanes (s.tick t) (f (s.tick t))) :
    run t f s = .next { s with now := max s.now t, lanes := (f (s.tick t)).lanes } := by
  unfold SameButLanes at h
  rw [run_eq, h]
  rfl

/-- `s` with other lanes at another instant holds those lanes. -/
theorem lane_of_lanes (s : State) (n : Nat) (u : State) (i : LaneId) : ({ s with now := n, lanes := u.lanes } : State).lane i = u.lane i := rfl

/-! ## Safe inputs -/

theorem getLsbD_setBit {n : Nat} (x : BitVec n) {k : Nat} (hk : k < n) (j : Nat) (b : Bool) :
    (setBit x k b).getLsbD j = if j = k then b else x.getLsbD j := by
  unfold setBit setField
  rw [BitVec.getLsbD_or, BitVec.getLsbD_and, BitVec.getLsbD_not, BitVec.getLsbD_ofNat, BitVec.getLsbD_ofNat]
  by_cases hj : j = k
  · subst hj
    cases b <;> simp [flag, hk, Nat.testBit_shiftLeft]
  · rw [if_neg hj]
    have hbit : ∀ v : Nat, v < 2 → (v <<< k).testBit j = false := by
      intro v hv
      rw [Nat.testBit_shiftLeft]
      by_cases hle : k ≤ j
      · have : 0 < j - k := by omega
        rw [Nat.testBit_lt_two_pow (lt_of_lt_of_le hv (Nat.le_self_pow (by omega) 2)), Bool.and_false]
      · simp [hle]
    rw [hbit (2 ^ 1 - 1) (by decide), hbit (flag b % 2 ^ 1) (Nat.mod_lt _ (by decide))]
    by_cases hn : j < n
    · simp [hn]
    · simp [hn, BitVec.getLsbD_of_ge x j (Nat.le_of_not_lt hn)]

/-- The fast path changes the pending forces of its lane only. -/
theorem reevaluate_changes (s : State) (i : LaneId) (new : List (Nat × Nat)) :
    SameButLanes s (s.reevaluate i new) ∧ (∀ j, j ≠ i → (s.reevaluate i new).lane j = s.lane j) ∧
      ∃ F, (s.reevaluate i new).lane i = { s.lane i with forces := F } := by
  unfold State.reevaluate
  simp only []
  split
  · exact ⟨rfl, fun _ _ => rfl, _, rfl⟩
  · refine ⟨rfl, fun j hj => modLane_lane_other s _ hj, ?_⟩
    rw [modLane_lane_same]
    exact pendAll_keeps _ _ _

/-- A new level of a safe input: the lane takes it, and no other lane changes. -/
theorem inputIn_changes (s : State) (i : LaneId) (k : Nat) (b : Bool) :
    SameButLanes s (s.inputIn i k b) ∧ (∀ j, j ≠ i → (s.inputIn i k b).lane j = s.lane j) ∧
      ((s.inputIn i k b).lane i).inputs.level = setBit (s.lane i).inputs.level k b ∧
      ((s.inputIn i k b).lane i).inputs.latched = (s.lane i).inputs.latched ∧ ((s.inputIn i k b).lane i).engine = (s.lane i).engine := by
  unfold State.inputIn
  simp only []
  split
  · obtain ⟨hs, ho, F, hF⟩ := reevaluate_changes (State.modLane (State.modLane s i _) i _) i _
    refine ⟨((modLane_sameButLanes s i _).trans (modLane_sameButLanes _ i _)).trans hs, fun j hj => ?_, ?_⟩
    · rw [ho j hj, modLane_lane_other _ _ hj, modLane_lane_other _ _ hj]
    · rw [hF, modLane_lane_same, modLane_lane_same]
      exact ⟨rfl, rfl, rfl⟩
  · refine ⟨rfl, fun j hj => modLane_lane_other s _ hj, ?_⟩
    rw [modLane_lane_same]
    exact ⟨rfl, rfl, rfl⟩

/-- A level that the filter has passed stands in the lane and moves no other input. -/
theorem safeInputChange_passes {s : State} {i : LaneId} {k : Nat} {x : InputSense} (hk : k < 64) (hx : filterSamples (s.inputFilter k) ≤ x.samples) :
    let u := s.safeInputChange i k x
    SameButLanes s u ∧ (u.lane i).inputs.level.getLsbD k = x.level ∧
      (∀ j, j ≠ k → (u.lane i).inputs.level.getLsbD j = (s.lane i).inputs.level.getLsbD j) ∧
      (u.lane i).inputs.latched = (s.lane i).inputs.latched ∧ (u.lane i).engine = (s.lane i).engine ∧ ∀ j, j ≠ i → u.lane j = s.lane j := by
  intro u
  by_cases hl : getBit (s.lane i).inputs.level k = x.level
  · have hu : u = s := if_neg (fun h => h.2.2 hl)
    rw [hu]
    exact ⟨rfl, hl, fun _ _ => rfl, rfl, rfl, fun _ _ => rfl⟩
  · have hu : u = s.inputIn i k x.level := if_pos ⟨hk, hx, hl⟩
    obtain ⟨hs, ho, hlevel, hlatched, hengine⟩ := inputIn_changes s i k x.level
    rw [hu]
    refine ⟨hs, ?_, fun j hj => ?_, hlatched, hengine, ho⟩
    · rw [hlevel, getLsbD_setBit _ hk, if_pos rfl]
    · rw [hlevel, getLsbD_setBit _ hk, if_neg hj]

/-- Fewer samples than the filter class requires change nothing. -/
theorem safeInputChange_short {s : State} {i : LaneId} {k : Nat} {x : InputSense} (hx : x.samples < filterSamples (s.inputFilter k)) :
    s.safeInputChange i k x = s := if_neg (fun h => by omega)

/-! ## Pace -/

/-- A lane with a new pace, before the records (R43, R46, R47). -/
def Lane.paced (l : Lane) (now pace : Nat) : Lane :=
  ({ l with
    pace := pace
    minPace := if l.minPace = 0 then pace else min l.minPace pace
    lowPaces := if pace < 1000 then l.lowPaces + 1 else 0
    paceMargin := l.paceMargin || decide (pace < 1050)
    paceGoodSince := if decide (pace < 1050) = false ∧ l.pace < 1050 then now else l.paceGoodSince } : Lane).paceFault

/-- A pace fault is the only thing that `Lane.paceFault` changes. -/
theorem paceFault_keeps (l : Lane) : ∃ F, l.paceFault = { l with localFault := F } := by
  unfold Lane.paceFault
  split
  · exact ⟨_, rfl⟩
  · exact ⟨l.localFault, rfl⟩

theorem paced_keeps (l : Lane) (now p : Nat) : ∃ F G, l.paced now p = { l with
    pace := p
    minPace := if l.minPace = 0 then p else min l.minPace p
    lowPaces := if p < 1000 then l.lowPaces + 1 else 0
    paceMargin := l.paceMargin || decide (p < 1050)
    paceGoodSince := G
    localFault := F } := by
  obtain ⟨F, hF⟩ := paceFault_keeps { l with
    pace := p
    minPace := if l.minPace = 0 then p else min l.minPace p
    lowPaces := if p < 1000 then l.lowPaces + 1 else 0
    paceMargin := l.paceMargin || decide (p < 1050)
    paceGoodSince := if decide (p < 1050) = false ∧ l.pace < 1050 then now else l.paceGoodSince }
  exact ⟨F, _, hF⟩

/-- A second consecutive low pace is a fault of a voting lane (R47). -/
theorem paced_second_low {l : Lane} {now p : Nat} (hp : p < 1000) (h1 : l.lowPaces = 1) (hm : l.mode = .voting) (hf : l.localFault = none) :
    (l.paced now p).localFault = some .pace := by
  simp [Lane.paced, Lane.paceFault, hp, h1, hm, hf]

/-- A pace of 1,000 or more finds no fault. -/
theorem paced_good {l : Lane} {now p : Nat} (hp : 1000 ≤ p) : (l.paced now p).localFault = l.localFault := by
  simp [Lane.paced, Lane.paceFault, Nat.not_lt.2 hp]

/-- An entry that joins a writer's queue changes the queue and its losses only. -/
theorem enqueue_keeps (l : Lane) (q : Queued) : ∃ Q n b, l.enqueue q = { l with queue := Q, almLost := n, almLostPending := b } := by
  unfold Lane.enqueue
  split
  · exact ⟨_, l.almLost, l.almLostPending, rfl⟩
  · split
    · exact ⟨_, _, _, rfl⟩
    · exact ⟨l.queue, _, _, rfl⟩

theorem enqueue_empty {l : Lane} (q : Queued) (hl : l.queue = []) (hq : q.payloads.length = 1) : (l.enqueue q).queue = [q] := by
  simp [Lane.enqueue, queueLength, hl, hq]

theorem laneEvent_lane_same (s : State) (i : LaneId) (code : Nat) (l : List (Nat × Nat × Nat)) :
    (s.laneEvent i code l).lane i = (s.lane i).enqueue (queuedOf code (i.index + 1) (s.laneWall i) Origin.internal [payloadFields l]) :=
  modLane_lane_same s i _

theorem laneEvent_lane_other (s : State) {i j : LaneId} (code : Nat) (l : List (Nat × Nat × Nat)) (h : j ≠ i) :
    (s.laneEvent i code l).lane j = s.lane j := modLane_lane_other s _ h

/-- A pace measurement in a running module: the lane is paced, and writes its record on entry to the margin. -/
theorem paceMeasured_running {s : State} (i : LaneId) (p : Nat) (h : s.control.phase = .running) :
    s.paceMeasured i p = if p < 1050 ∧ (s.lane i).paceMargin = false
      then (s.modLane i (fun l => l.paced s.now p)).laneEvent i 0x0207 [(24, 1, i.index), (28, 4, p)]
      else s.modLane i (fun l => l.paced s.now p) := by
  unfold State.paceMeasured
  rw [if_neg (by rw [h]; decide)]
  simp only [Bool.and_eq_true, decide_eq_true_eq, Bool.not_eq_true']
  rfl

theorem paceMeasured_frame {s : State} (i : LaneId) (p : Nat) (h : s.control.phase = .running) :
    SameButLanes s (s.paceMeasured i p) ∧ ∀ j, j ≠ i → (s.paceMeasured i p).lane j = s.lane j := by
  rw [paceMeasured_running i p h]
  split
  · exact ⟨rfl, fun j hj => (laneEvent_lane_other _ _ _ hj).trans (modLane_lane_other _ _ hj)⟩
  · exact ⟨rfl, fun j hj => modLane_lane_other _ _ hj⟩

/-- The lane after a pace measurement, but for what its record changes. -/
theorem paceMeasured_lane {s : State} (i : LaneId) (p : Nat) (h : s.control.phase = .running) :
    ∃ Q n b, (s.paceMeasured i p).lane i = { (s.lane i).paced s.now p with
      queue := Q
      almLost := n
      almLostPending := b } := by
  rw [paceMeasured_running i p h]
  split
  · rw [laneEvent_lane_same, modLane_lane_same]
    exact enqueue_keeps _ _
  · rw [modLane_lane_same]
    exact ⟨_, _, _, rfl⟩

theorem paceMeasured_queue_entry {s : State} (i : LaneId) (p : Nat) (h : s.control.phase = .running) (hp : p < 1050)
    (hm : (s.lane i).paceMargin = false) (hq : (s.lane i).queue = []) :
    ∃ q, ((s.paceMeasured i p).lane i).queue = [q] ∧ q.code = 0x0207 ∧ q.payloads = [payloadFields [(24, 1, i.index), (28, 4, p)]] := by
  rw [paceMeasured_running i p h, if_pos ⟨hp, hm⟩, laneEvent_lane_same, modLane_lane_same]
  obtain ⟨F, G, hl⟩ := paced_keeps (s.lane i) s.now p
  exact ⟨_, enqueue_empty _ (by rw [hl]; exact hq) rfl, rfl, rfl⟩

theorem paceMeasured_queue_kept {s : State} (i : LaneId) (p : Nat) (h : s.control.phase = .running)
    (hp : 1050 ≤ p ∨ (s.lane i).paceMargin = true) : ((s.paceMeasured i p).lane i).queue = (s.lane i).queue := by
  have hno : ¬(p < 1050 ∧ (s.lane i).paceMargin = false) := by
    rintro ⟨hlt, hm⟩
    rcases hp with hp | hp
    · omega
    · exact absurd (hm.symm.trans hp) (by decide)
  rw [paceMeasured_running i p h, if_neg hno, modLane_lane_same]
  obtain ⟨F, G, hl⟩ := paced_keeps (s.lane i) s.now p
  rw [hl]

/-- A lane in its margin state shows in bit 0 of the STATUS_READ flags. -/
theorem statusFlags_margin {s : State} {i : LaneId} (h : (s.lane i).paceMargin = true) : s.statusFlags % 2 = 1 := by
  have hany : allLanes.any (fun i => (s.lane i).paceMargin) = true := List.any_eq_true.2 ⟨i, by cases i <;> decide, h⟩
  unfold State.statusFlags
  rw [hany, packBits]
  show (1 + 2 * _) % 2 = 1
  omega

/-- Settles O20: the filter, the pace limits of R46 and R47 and the end of the margin state, each at its own boundary. -/
theorem inputLevelsAndPace : Obligations.InputLevelsAndPace := by
  intro t i s
  refine ⟨fun k x _ hx => run_idle (safeInputChange_short hx), fun k x hk hx => ?_, fun p hp => ?_, fun h1 h2 => ?_⟩
  · obtain ⟨hs, h⟩ := safeInputChange_passes (s := State.tick t s) (i := i) hk hx
    exact ⟨_, run_sameButLanes hs, h.1, h.2.1, h.2.2.1, h.2.2.2.1, h.2.2.2.2, rfl⟩
  · have hrun : (State.tick t s).control.phase = .running := hp
    obtain ⟨hs, ho⟩ := paceMeasured_frame (s := State.tick t s) i p hrun
    obtain ⟨Q, n, b, hq⟩ := paceMeasured_lane (s := State.tick t s) i p hrun
    obtain ⟨F, G, hk⟩ := paced_keeps (s.lane i) (max s.now t) p
    have hl : ((State.tick t s).paceMeasured i p).lane i = { (s.lane i).paced (max s.now t) p with
      queue := Q
      almLost := n
      almLostPending := b } := hq
    have hmargin : p < 1050 → (((State.tick t s).paceMeasured i p).lane i).paceMargin = true := fun hlow => by
      rw [hl, hk]; simp [hlow]
    refine ⟨_, run_sameButLanes (f := fun u => u.paceMeasured i p) hs, ?_, ?_, ?_, ?_, ?_, ?_, ?_, ?_, ?_, ho, rfl⟩ <;> simp only [lane_of_lanes]
    · rw [hl, hk]
    · rw [hl, hk]
    · intro hlow h1 hm hf
      rw [hl]
      exact paced_second_low hlow h1 hm hf
    · intro hgood
      refine ⟨?_, ?_⟩
      · rw [hl, hk]; exact if_neg (by omega)
      · rw [hl]; exact paced_good hgood
    · intro hlow
      rw [hl, hk]; exact if_pos hlow
    · exact fun hlow => ⟨hmargin hlow, statusFlags_margin (i := i) (hmargin hlow)⟩
    · intro hhigh
      rw [hl, hk]
      simp [Nat.not_lt.2 hhigh]
    · exact fun hlow hm hempty => paceMeasured_queue_entry (s := State.tick t s) i p hrun hlow hm hempty
    · exact fun hcase => paceMeasured_queue_kept (s := State.tick t s) i p hrun hcase
  · refine ⟨_, run_sameButLanes (f := fun u => u.paceClear i) (modLane_sameButLanes _ i _), ?_, fun j hj => modLane_lane_other _ _ hj, rfl⟩
    rw [lane_of_lanes]
    exact (modLane_lane_same (State.tick t s) i _).trans (if_pos ⟨h1, h2⟩)

end Sys2Proof.Machine
end

section
/-! # The Almanac writers (R510 to R519, R527 to R532)

What an append does to the ring, to a lane's stash and queue, and to the exchange RAM in safe-off; then `AlmanacAppendsAndCloses`. -/

namespace Sys2Proof.Machine

/-! ## The ring -/

/-- A repeat of an open record counts on it (R518). -/
theorem append_counts {a : Almanac} {q : Queued} {now : Nat} {recs : List Record} (hq : q.repeats = true)
    (h : countSame a.records q now = some recs) : a.append q now = { a with records := recs } := by
  unfold Almanac.append
  rw [if_pos hq, h]

/-- What is no repeat of an open record. -/
theorem append_new {a : Almanac} {q : Queued} {now : Nat} (h : q.repeats = false ∨ countSame a.records q now = none) :
    a.append q now = if a.isFull q.cls then a.drop q now else { a with dropping := a.dropping.filter (fun c => c != q.cls) }.put q now := by
  have hnone : (if q.repeats then countSame a.records q now else none) = none := by
    rcases h with h | h
    · rw [h]; rfl
    · rw [h, ite_self]
  unfold Almanac.append
  rw [hnone]

theorem put_keeps (a : Almanac) (q : Queued) (now : Nat) :
    a.put q now = { a with
      next := a.next + q.payloads.length
      records := (a.put q now).records } := rfl

/-- Record `k` of a queue entry (R513). -/
theorem mem_records {q : Queued} {n now k : Nat} {timeUnset stashed : Bool} (hk : k < q.payloads.length) :
    ∃ r ∈ q.records n now timeUnset stashed, r.seq = n + k ∧ r.code = q.code ∧ r.cls = q.cls ∧ r.session = q.session ∧ r.hostId = q.hostId ∧
      r.wall = q.wall ∧ r.payload = q.payloads.getD k 0 ∧ r.safety = q.safety ∧ r.writer = q.writer := by
  have hmem : (q.payloads.getD k 0, k) ∈ q.payloads.zipIdx :=
    List.mem_zipIdx_iff_getElem?.2 (by rw [List.getElem?_eq_getElem hk, List.getD_eq_getElem _ _ hk])
  exact ⟨_, List.mem_reverse.2 (List.mem_map.2 ⟨_, hmem, rfl⟩), rfl, rfl, rfl, rfl, rfl, rfl, rfl, rfl, rfl⟩

theorem records_length (q : Queued) (n now : Nat) (timeUnset stashed : Bool) :
    (q.records n now timeUnset stashed).length = q.payloads.length := by
  simp [Queued.records]

/-- The new records that are not too old for the ring already stand in it (R510). -/
theorem put_holds {a : Almanac} {q : Queued} {now k : Nat} (hk : k < q.payloads.length) (h : (a.put q now).oldest ≤ a.next + k) :
    ∃ r ∈ (a.put q now).records, r.seq = a.next + k ∧ r.code = q.code ∧ r.cls = q.cls ∧ r.session = q.session ∧ r.hostId = q.hostId ∧
      r.wall = q.wall ∧ r.payload = q.payloads.getD k 0 ∧ r.safety = q.safety ∧ r.writer = q.writer := by
  obtain ⟨r, hr, hseq, hrest⟩ := mem_records (n := a.next) (now := now) (timeUnset := !a.timeSet) (stashed := false) hk
  refine ⟨r, List.mem_filter.2 ⟨List.mem_append_left _ hr, decide_eq_true ?_⟩, hseq, hrest⟩
  rw [hseq]
  exact h

/-- A drop counts its records on the class, which is then among those that drop (R529). -/
theorem drop_counts (a : Almanac) (q : Queued) (now : Nat) :
    (((a.drop q now).dropped.find? (fun d => d.1 == q.cls)).map (·.2)).getD 0 =
        ((a.dropped.find? (fun d => d.1 == q.cls)).map (·.2)).getD 0 + q.payloads.length ∧ q.cls ∈ (a.drop q now).dropping := by
  have hfind : ∀ n : Nat, ((a.dropped.filter (fun d => d.1 != q.cls)) ++ [(q.cls, n)]).find? (fun d => d.1 == q.cls) = some (q.cls, n) := by
    intro n
    have hnone : (a.dropped.filter (fun d => d.1 != q.cls)).find? (fun d => d.1 == q.cls) = none := by
      rw [List.find?_eq_none]
      intro d hd
      simpa using (List.mem_filter.1 hd).2
    rw [List.find?_append, hnone, Option.none_or, List.find?_singleton, beq_self_eq_true, if_pos rfl]
  unfold Almanac.drop
  simp only []
  split
  · next hc =>
    have hmem : q.cls ∈ a.dropping := List.contains_iff_mem.1 hc
    split
    · exact ⟨by simp only [hfind, Option.map_some, Option.getD_some], hmem⟩
    · exact ⟨by simp only [hfind, Option.map_some, Option.getD_some], hmem⟩
  · rw [put_keeps]
    exact ⟨by simp only [hfind, Option.map_some, Option.getD_some], List.mem_append_right _ (List.mem_singleton_self _)⟩

/-! ## The stash of a lane -/

theorem stashPut_keeps (l : Lane) (r : Record) : ∃ S n, l.stashPut r = { l with stash := S, stashLost := n } := by
  unfold Lane.stashPut
  split
  · exact ⟨_, l.stashLost, rfl⟩
  · simp only []
    split
    · exact ⟨_, _, rfl⟩
    · exact ⟨_, _, rfl⟩

theorem stashPuts_keep (rs : List Record) (l : Lane) : ∃ S n, rs.foldl (fun x r => x.stashPut r) l = { l with stash := S, stashLost := n } := by
  induction rs generalizing l with
  | nil => exact ⟨l.stash, l.stashLost, rfl⟩
  | cons r rs ih =>
    obtain ⟨S, n, h⟩ := stashPut_keeps l r
    obtain ⟨S', n', h'⟩ := ih (l.stashPut r)
    rw [List.foldl_cons, h', h]
    exact ⟨S', n', rfl⟩

/-- With room for all of them the records enter the stash, the newest in front (R531). -/
theorem stashPuts_fit {rs : List Record} {l : Lane} (h : l.stash.length + rs.length ≤ 128) :
    rs.foldl (fun x r => x.stashPut r) l = { l with stash := rs.reverse ++ l.stash } := by
  induction rs generalizing l with
  | nil => rfl
  | cons r rs ih =>
    rw [List.length_cons] at h
    have hput : l.stashPut r = { l with stash := r :: l.stash } := if_pos (by omega)
    rw [List.foldl_cons, hput, ih (by rw [List.length_cons]; omega), List.reverse_cons, List.append_assoc]
    rfl

theorem noteLoss_keeps (l : Lane) (w wall now : Nat) (b : Bool) :
    ∃ S n k, l.noteLoss w wall now b = { l with stash := S, stashNext := n, stashLost := k } := by
  unfold Lane.noteLoss
  split
  · obtain ⟨S, n, h⟩ := stashPuts_keep ((almanacEntry w wall 3 0).records l.stashNext now b false) { l with stashNext := l.stashNext + 1 }
    simp only [h]
    exact ⟨_, _, _, rfl⟩
  · exact ⟨l.stash, l.stashNext, l.stashLost, rfl⟩

theorem stashAppend_keeps (l : Lane) (i : LaneId) (q : Queued) (now : Nat) (b : Bool) :
    ∃ S n k, l.stashAppend i q now b = { l with stash := S, stashNext := n, stashLost := k } := by
  unfold Lane.stashAppend
  split
  · exact ⟨_, l.stashNext, l.stashLost, rfl⟩
  · simp only []
    obtain ⟨S, n, h⟩ := stashPuts_keep (q.records l.stashNext now b false).reverse
      { l with stash := if q.repeats then closeOldest l.stash q.writer else l.stash, stashNext := l.stashNext + q.payloads.length }
    rw [h]
    obtain ⟨S', n', k', h'⟩ := noteLoss_keeps
      { l with stash := S, stashNext := l.stashNext + q.payloads.length, stashLost := n } (i.index + 1) q.wall now b
    exact ⟨S', n', k', h'⟩

/-- A record that repeats none enters a stash with room for it, which has lost nothing. -/
theorem stashAppend_fits {l : Lane} {q : Queued} (i : LaneId) (now : Nat) (b : Bool) (hq : q.repeats = false)
    (hroom : l.stash.length + q.payloads.length ≤ 128) (hlost : l.stashLost = 0) :
    l.stashAppend i q now b = { l with
      stash := q.records l.stashNext now b false ++ l.stash
      stashNext := l.stashNext + q.payloads.length } := by
  unfold Lane.stashAppend
  simp only [hq, Bool.false_eq_true, if_false]
  rw [stashPuts_fit (by simpa [records_length] using hroom), List.reverse_reverse]
  exact if_neg (fun h => h.1 hlost)

/-! ## The queue of a lane -/

/-- The lane once its writer has noted what its queue lost (R517). -/
def Lane.notesLoss (l : Lane) (i : LaneId) (wall : Nat) : Lane :=
  if l.almLostPending then ({ l with almLostPending := false } : Lane).enqueue (almanacEntry (i.index + 1) wall 2 0) else l

theorem notesLoss_keeps (l : Lane) (i : LaneId) (wall : Nat) : ∃ Q n b, l.notesLoss i wall = { l with
    queue := Q
    almLost := n
    almLostPending := b } := by
  unfold Lane.notesLoss
  split
  · exact enqueue_keeps { l with almLostPending := false } _
  · exact ⟨_, _, _, rfl⟩

/-- A lane put back as it was changes nothing. -/
theorem setLane_self (s : State) (i : LaneId) : s.setLane i (s.lane i) = s := by
  have h : s.lanes.put i (s.lanes.get i) = s.lanes := by cases i <;> rfl
  unfold State.setLane State.lane
  rw [h]

theorem modLane_modLane (s : State) (i : LaneId) (f g : Lane → Lane) : (s.modLane i f).modLane i g = s.modLane i (fun l => g (f l)) := by
  cases i <;> rfl

/-- A lane keeps its wall time where its offset stays. -/
theorem laneWall_modLane (s : State) (i : LaneId) (f : Lane → Lane) (h : (f (s.lane i)).offset = (s.lane i).offset) :
    (s.modLane i f).laneWall i = s.laneWall i := by
  unfold State.laneWall
  rw [modLane_lane_same, h]
  rfl

theorem resaveStash_running {s : State} (i : LaneId) (h : s.control.phase = .running) : s.resaveStash i = s :=
  if_neg (by rw [h]; decide)

/-- The stash of a lane goes to flash in the shut-down. -/
theorem resaveStash_eq (s : State) (i : LaneId) :
    s.resaveStash i = s.modLane i (fun l => if s.control.phase = .off ∨ s.control.phase = .dusk then { l with stashFlash := l.stash } else l) := by
  unfold State.resaveStash State.modLane
  split
  · rfl
  · rw [setLane_self]

theorem noteQueueLoss_eq (s : State) (i : LaneId) : s.noteQueueLoss i = s.modLane i (fun l => l.notesLoss i (s.laneWall i)) := by
  unfold State.noteQueueLoss State.modLane Lane.notesLoss
  simp only []
  split
  · rfl
  · rw [setLane_self]

/-! ## The exchange RAM in safe-off -/

theorem readout_keeps (s : State) : s.readout = { s with
    xram := s.readout.xram
    images := s.readout.images
    ki40 := s.readout.ki40 } := by
  unfold State.readout
  split <;> rfl

@[simp] theorem readout_lane (s : State) (i : LaneId) : s.readout.lane i = s.lane i := by rw [readout_keeps]; rfl

theorem readout_lanes (s : State) : s.readout.lanes = s.lanes := by rw [readout_keeps]

@[simp] theorem readout_almanac (s : State) : s.readout.almanac = s.almanac := by rw [readout_keeps]

@[simp] theorem readout_readable (s : State) : s.readout.readable = s.readable := by rw [readout_keeps]; rfl

theorem readout_idle {s : State} (h : s.control.phase ≠ .safeOff ∨ s.xram.filled = false) : s.readout = s :=
  if_neg (fun hc => h.elim (fun h => h hc.1) (fun h => absurd (h.symm.trans hc.2) (by decide)))

/-- In safe-off the newest 32,640 records stand from offset 0 of the exchange RAM (log entry 123). -/
theorem readout_byte {s : State} (hp : s.control.phase = .safeOff) (hf : s.xram.filled = true) (hm : Mem.wf s.xram.mem = true) (b : Nat) :
    let bytes := ((s.readable.drop (s.readable.length - 32640)).map Record.bytes).flatten
    s.readout.xramByte b = if b < bytes.length then bytes.getD b 0 else s.xramByte b := by
  intro bytes
  have h : s.readout = s.xramStore 0 bytes := if_pos ⟨hp, hf⟩
  rw [h]
  have hread := Mem.read_store 0 b bytes hm
  simpa [State.xramByte, State.xramStore, Xram.put] using hread

/-! ## An append -/

theorem almanacAppend_idle {s : State} {i : LaneId} {fault : AppendFault} (h : (s.lane i).queue = [] ∨ s.writerRuns = false ∨ (s.lane i).held = true) :
    s.almanacAppend i fault = s := by
  unfold State.almanacAppend
  split
  · rfl
  · next q rest hq =>
    rcases h with h | h | h
    · rw [hq] at h; exact absurd h (by simp)
    · rw [h]; rfl
    · rw [h, Bool.or_true]; rfl

section
variable {s : State} {i : LaneId} {q : Queued} {rest : List Queued} (hq : (s.lane i).queue = q :: rest) (hw : s.writerRuns = true)
  (hh : (s.lane i).held = false)
include hq hw hh

/-- An append that fails leaves the record queued. -/
theorem almanacAppend_fails {fault : AppendFault} (hs : s.almanac.stashMode = false) (hf : fault ≠ .none) :
    s.almanacAppend i fault = { s with almanac := { s.almanac with failed := true } } := by
  unfold State.almanacAppend
  rw [hq]
  simp only [hw, hh, hs, Bool.not_true, Bool.or_false, Bool.false_eq_true, if_false]

/-- An append to the ring. -/
theorem almanacAppend_ring (hs : s.almanac.stashMode = false) :
    s.almanacAppend i .none =
      (({ s with almanac := s.almanac.append q s.now } : State).modLane i (fun l => Lane.notesLoss { l with queue := rest } i (s.laneWall i))).readout := by
  unfold State.almanacAppend
  rw [hq]
  simp only [hw, hh, hs, Bool.not_true, Bool.or_false, Bool.false_eq_true, if_false]
  rw [noteQueueLoss_eq]
  cases i <;> rfl

/-- An append to the stash of the lane. -/
theorem almanacAppend_stash (fault : AppendFault) (hs : s.almanac.stashMode = true) :
    ∃ f : Lane → Lane, s.almanacAppend i fault = (s.modLane i f).readout ∧ (s.control.phase = .running →
      f (s.lane i) = ((Lane.stashAppend { s.lane i with queue := rest } i q s.now (!s.almanac.timeSet)).notesLoss i (s.laneWall i))) := by
  let saved := fun l : Lane => if s.control.phase = .off ∨ s.control.phase = .dusk then { l with stashFlash := l.stash } else l
  let stashed := fun l : Lane => Lane.stashAppend { l with queue := rest } i q s.now (!s.almanac.timeSet)
  have hsaved : (s.modLane i stashed).resaveStash i = s.modLane i (fun l => saved (stashed l)) :=
    (resaveStash_eq _ i).trans (modLane_modLane s i stashed saved)
  have hoffset : (saved (stashed (s.lane i))).offset = (s.lane i).offset := by
    obtain ⟨S, n, k, h⟩ := stashAppend_keeps { s.lane i with queue := rest } i q s.now (!s.almanac.timeSet)
    have h' : stashed (s.lane i) = _ := h
    simp only [saved, h']
    split <;> rfl
  refine ⟨fun l => (saved (stashed l)).notesLoss i (s.laneWall i), ?_, fun hrun => ?_⟩
  · unfold State.almanacAppend
    rw [hq]
    simp only [hw, hh, hs, Bool.not_true, Bool.or_false, Bool.false_eq_true, if_false, if_true]
    rw [show ((s.modLane i (fun l => { l with queue := rest })).modLane i (fun l => l.stashAppend i q s.now (!s.almanac.timeSet))) = s.modLane i stashed
      from modLane_modLane s i _ _, hsaved, noteQueueLoss_eq, laneWall_modLane s i (fun l => saved (stashed l)) hoffset, modLane_modLane]
  · show (saved (stashed (s.lane i))).notesLoss i (s.laneWall i) = _
    rw [show saved (stashed (s.lane i)) = stashed (s.lane i) from if_neg (by rw [hrun]; decide)]
end

/-! ## Closing -/

/-- A record of a number without a same event for 1 s, closed (R519); a loss count stays open (R532). -/
theorem openRecordClose_ring {s : State} (seq : Nat) (h : s.almanac.stashMode = false) :
    s.openRecordClose seq = { s with almanac := { s.almanac with records := closeAfter s.almanac.records seq s.now } } :=
  if_neg (by rw [h]; decide)

theorem openRecordClose_stash {s : State} (seq : Nat) (h : s.almanac.stashMode = true) :
    s.openRecordClose seq = s.mapLanes (fun l => { l with stash := closeAfter l.stash seq s.now }) := if_pos h

/-- The state after a command whose effect leaves the queue of commands and the clock alone. -/
theorem run_next {s v : State} {t : Nat} {f : State → State} (hf : f (s.tick t) = v) (hn : v.now = max s.now t) (hp : v.pending = s.pending) :
    run t f s = .next v := by
  rw [run_eq, hf, ← hn, ← hp]
  rfl

/-- What a state holds that has appended and then, in safe-off, written the newest records to the exchange RAM. -/
theorem appended_readout {s v : State} (hv : v = { s with lanes := v.lanes, almanac := v.almanac }) :
    v.readout = { s with
      lanes := v.lanes
      almanac := v.almanac
      xram := v.readout.xram
      images := v.readout.images
      ki40 := v.readout.ki40 } ∧
    ((s.control.phase ≠ .safeOff ∨ s.xram.filled = false) → v.readout.xram = s.xram ∧ v.readout.images = s.images ∧ v.readout.ki40 = s.ki40) ∧
    (s.control.phase = .safeOff → s.xram.filled = true → Mem.wf s.xram.mem = true →
      let bytes := ((v.readout.readable.drop (v.readout.readable.length - 32640)).map Record.bytes).flatten
      ∀ b, v.readout.xramByte b = if b < bytes.length then bytes.getD b 0 else s.xramByte b) := by
  have hphase : v.control.phase = s.control.phase := by rw [hv]
  have hxram : v.xram = s.xram := by rw [hv]
  refine ⟨(readout_keeps v).trans (by rw [hv]), fun h => ?_, fun hp hf hm => ?_⟩
  · rw [readout_idle (by rwa [hphase, hxram])]
    rw [hv]
    exact ⟨rfl, rfl, rfl⟩
  · rw [readout_readable]
    intro bytes b
    have hbyte : v.xramByte b = s.xramByte b := by unfold State.xramByte; rw [hxram]
    rw [readout_byte (by rwa [hphase]) (by rwa [hxram]) (by rwa [hxram]), hbyte]

/-- An append that does not fail: what it leaves in the Almanac and in its lane, before the exchange RAM is written. -/
theorem almanacAppend_done {s : State} {i : LaneId} {fault : AppendFault} {q : Queued} {rest : List Queued} (hq : (s.lane i).queue = q :: rest)
    (hw : s.writerRuns = true) (hh : (s.lane i).held = false) (h : s.almanac.stashMode = true ∨ fault = .none) :
    ∃ v : State, s.almanacAppend i fault = v.readout ∧ v = { s with lanes := v.lanes, almanac := v.almanac } ∧ (∀ j, j ≠ i → v.lane j = s.lane j) ∧
      (s.almanac.stashMode = false → v.almanac = s.almanac.append q s.now ∧
        v.lane i = Lane.notesLoss { s.lane i with queue := rest } i (s.laneWall i)) ∧
      (s.almanac.stashMode = true → v.almanac = s.almanac ∧ (s.control.phase = .running →
        v.lane i = (Lane.stashAppend { s.lane i with queue := rest } i q s.now (!s.almanac.timeSet)).notesLoss i (s.laneWall i))) := by
  by_cases hs : s.almanac.stashMode = true
  · obtain ⟨f, hf, hi⟩ := almanacAppend_stash hq hw hh fault hs
    refine ⟨s.modLane i f, hf, rfl, fun j hj => modLane_lane_other s f hj, fun hn => absurd (hn.symm.trans hs) (by decide), fun _ => ⟨rfl, fun hrun => ?_⟩⟩
    rw [modLane_lane_same, hi hrun]
  · have hs' : s.almanac.stashMode = false := by simpa using hs
    obtain rfl : fault = .none := h.resolve_left hs
    exact ⟨_, almanacAppend_ring hq hw hh hs', rfl, fun j hj => modLane_lane_other _ _ hj, fun _ => ⟨rfl, modLane_lane_same _ i _⟩, fun hn => absurd hn hs⟩

/-- The lane of an append to its stash, with what its writer notes: the rest of the queue and the stash change. -/
theorem notesLoss_stashAppend (l : Lane) (i : LaneId) (q : Queued) (now wall : Nat) (b : Bool) :
    let u := (l.stashAppend i q now b).notesLoss i wall
    u = Lane.notesLoss { l with stash := u.stash, stashNext := u.stashNext, stashLost := u.stashLost } i wall ∧
      u.stash = (l.stashAppend i q now b).stash ∧ u.stashNext = (l.stashAppend i q now b).stashNext ∧
      u.stashLost = (l.stashAppend i q now b).stashLost := by
  obtain ⟨S, n, k, h⟩ := stashAppend_keeps l i q now b
  rw [h]
  obtain ⟨Q, m, c, h'⟩ := notesLoss_keeps { l with stash := S, stashNext := n, stashLost := k } i wall
  intro u
  have hu : u = { l with
      stash := S
      stashNext := n
      stashLost := k
      queue := Q
      almLost := m
      almLostPending := c } := h'
  refine ⟨?_, by rw [hu], by rw [hu], by rw [hu]⟩
  rw [show u.stash = S by rw [hu], show u.stashNext = n by rw [hu], show u.stashLost = k by rw [hu]]

/-- Settles O47: an append by cases of the Almanac's mode and of its failure, then the closing of a record. -/
theorem almanacAppendsAndCloses : Obligations.AlmanacAppendsAndCloses := by
  intro t i fault s
  refine ⟨fun h => run_idle (f := fun u => u.almanacAppend i fault) (almanacAppend_idle (s := State.tick t s) h),
    fun q rest hq hw hh => ⟨fun hs hf => ?_, fun hcase => ?_⟩, fun seq => ?_⟩
  · exact run_next (f := fun u => u.almanacAppend i fault) (almanacAppend_fails (s := State.tick t s) hq hw hh hs hf) rfl rfl
  · obtain ⟨v, happ, hv, hother, hring, hstash⟩ := almanacAppend_done (s := State.tick t s) hq hw hh hcase
    obtain ⟨hkeeps, hidle, hbytes⟩ := appended_readout hv
    refine ⟨v.readout, run_next (f := fun u => u.almanacAppend i fault) happ (by rw [hkeeps]; rfl) (by rw [hkeeps]; rfl),
      fun j hj => (readout_lane v j).trans (hother j hj), ?_, hidle, hbytes, fun hs _ => ?_, fun hs hrun => ?_⟩
    · rw [readout_lanes, readout_almanac]
      exact hkeeps
    · obtain ⟨halm, hlane⟩ := hring hs
      rw [readout_lane, readout_almanac, show v.almanac = s.almanac.append q (max s.now t) from halm]
      refine ⟨hlane, fun recs hrep hsame => append_counts hrep hsame, fun hnew hfull => ?_, fun hnew hfull => ?_⟩
      · rw [append_new hnew, if_neg (by rw [hfull]; decide)]
        exact ⟨put_keeps _ _ _, fun k hk hold => put_holds (a := { s.almanac with dropping := s.almanac.dropping.filter (fun c => c != q.cls) }) hk hold⟩
      · rw [append_new hnew, if_pos hfull]
        exact drop_counts _ _ _
    · obtain ⟨halm, hlane⟩ := hstash hs
      obtain ⟨hsplit, hS, hN, hL⟩ := notesLoss_stashAppend { s.lane i with queue := rest } i q (max s.now t) (State.laneWall (State.tick t s) i) (!s.almanac.timeSet)
      rw [readout_lane, readout_almanac, hlane hrun]
      refine ⟨halm, hsplit, fun hrep hroom hlost => ?_⟩
      have hfits := stashAppend_fits (l := { s.lane i with queue := rest }) i (max s.now t) (!s.almanac.timeSet) hrep hroom hlost
      exact ⟨hS.trans (congrArg Lane.stash hfits), hN.trans (congrArg Lane.stashNext hfits), (hL.trans (congrArg Lane.stashLost hfits)).trans hlost⟩
  · rcases Bool.eq_false_or_eq_true s.almanac.stashMode with hs | hs
    · exact ⟨_, run_next (f := fun u => u.openRecordClose seq) (openRecordClose_stash (s := State.tick t s) seq hs) rfl rfl,
        fun h => absurd (hs.symm.trans h) (by decide), fun _ => ⟨rfl, fun j => mapLanes_lane _ _ j⟩⟩
    · exact ⟨_, run_next (f := fun u => u.openRecordClose seq) (openRecordClose_ring (s := State.tick t s) seq hs) rfl rfl,
        fun _ => rfl, fun h => absurd (hs.symm.trans h) (by decide)⟩

end Sys2Proof.Machine
end

section
/-! # Host commands that wait for a commit (R385, R394, R395, R399, R402, R655)

A permissive command whose acceptance stores it in a field of the module: the second copy decides it. -/

namespace Sys2Proof.Machine

/-! ## Acceptance -/

/-- Where no refusal applies the decision stands (R364). -/
theorem firstOf_go {l : List (Bool × Nat)} {s : State} {go : Acc} (h : ∀ r ∈ l, r.1 = false) : firstOf l s go = go := by
  have hnone : l.find? (fun r => r.1) = none := List.find?_eq_none.2 (fun r hr => by rw [h r hr]; decide)
  unfold firstOf
  rw [hnone]

theorem malformed_eq_false {c : Cmd} (hl : lengthOk c.opcode c.params = true) (hr : reservedOk c.opcode c.params = true) : c.malformed = false := by
  unfold Cmd.malformed
  rw [hl, hr]
  rfl

theorem accept_modeSet (s : State) {c : Cmd} (h : c.opcode = 0x0401) : s.accept c = s.acceptModeSet c := by unfold State.accept; rw [h]; rfl
theorem accept_profileSelect (s : State) {c : Cmd} (h : c.opcode = 0x0402) : s.accept c = s.acceptProfileSelect c := by unfold State.accept; rw [h]; rfl
theorem accept_powerStateSet (s : State) {c : Cmd} (h : c.opcode = 0x0501) : s.accept c = s.acceptPowerStateSet c := by unfold State.accept; rw [h]; rfl
theorem accept_duskRun (s : State) {c : Cmd} (h : c.opcode = 0x0502) : s.accept c = s.acceptDuskRun c := by unfold State.accept; rw [h]; rfl
theorem accept_timeSet (s : State) {c : Cmd} (h : c.opcode = 0x0604) : s.accept c = s.acceptTimeSet c := by unfold State.accept; rw [h]; rfl
theorem accept_keyListUpdate (s : State) {c : Cmd} (h : c.opcode = 0x0703) : s.accept c = s.acceptKeyListUpdate c := by unfold State.accept; rw [h]; rfl

theorem powerOf_code {n : Nat} {p : Power} (h : powerOf n = some p) : n = p.code := by
  unfold powerOf at h
  split at h <;> cases h <;> rfl

/-! ## What settling a record leaves -/

theorem settledAll_recs (s : State) (ks : List RecKey) : ∃ R, s.settledAll ks = { s with host := { s.host with recs := R } } := by
  unfold State.settledAll
  induction ks generalizing s with
  | nil => exact ⟨s.host.recs, rfl⟩
  | cons k ks ih =>
    obtain ⟨R, hR⟩ := ih (s.settled k)
    exact ⟨R, hR⟩

theorem dropWaitingMode_eq (s : State) : ∃ R, s.dropWaitingMode = { s with
    control := { s.control with
      pendingMode := none
      pendingBreaks := none
      pendingSteps := 0 }
    host := { s.host with
      recs := R
      awaiting := s.host.awaiting.filter (fun i => !i.cmd.isMode) }
    pair := s.pair.dropWaiting (fun i => i.cmd.isMode) } := by
  obtain ⟨R, hR⟩ := settledAll_recs s ((s.control.pendingMode.bind (·.2)).toList ++ ((s.waitingIntakes.filter (fun i => i.cmd.isMode)).map (·.key)))
  unfold State.dropWaitingMode
  simp only []
  rw [hR]
  exact ⟨R, rfl⟩

theorem dropWaitingPower_eq (s : State) : ∃ R, s.dropWaitingPower = { s with
    control := { s.control with
      pendingPower := none
      pendingTest := false
      pendingAgain := false }
    host := { s.host with
      recs := R
      awaiting := s.host.awaiting.filter (fun i => !i.cmd.isPower) }
    pair := s.pair.dropWaiting (fun i => i.cmd.isPower) } := by
  obtain ⟨R, hR⟩ := settledAll_recs s ((s.control.pendingPower.bind (·.2)).toList ++ ((s.waitingIntakes.filter (fun i => i.cmd.isPower)).map (·.key)))
  unfold State.dropWaitingPower
  simp only []
  rw [hR]
  exact ⟨R, rfl⟩

theorem dropWaitingMode_role (s : State) : s.dropWaitingMode.pair.role = s.pair.role := by
  obtain ⟨R, hR⟩ := dropWaitingMode_eq s
  rw [hR]
  rfl

theorem dropWaitingPower_role (s : State) : s.dropWaitingPower.pair.role = s.pair.role := by
  obtain ⟨R, hR⟩ := dropWaitingPower_eq s
  rw [hR]
  rfl

/-! ## A module of its own -/

theorem pairSteps_unpaired {s : State} (h : s.pair.role = .unpaired) : s.pairSteps = false := by
  unfold State.pairSteps; rw [h]; rfl

theorem standbyFalls_unpaired {s : State} (h : s.pair.role = .unpaired) (row : Nat) : s.standbyFalls row = s :=
  if_neg (fun hc => absurd (h.symm.trans hc.1) (by decide))

theorem standbyUnit_unpaired {s : State} (h : s.pair.role = .unpaired) : s.standbyUnit = false := by
  unfold State.standbyUnit; rw [h]; rfl

/-! ## What a heard copy leaves -/

/-- The state in which a second copy is decided: the copy is heard, and the lanes have counted its checks. -/
def State.withHeard (s : State) (t : Nat) (c : HostCopy) (R : List HostRec) (L : Lanes Lane) : State :=
  { s with now := max s.now t, host := { s.heardHost t c with recs := R }, lanes := L }

section
variable {s : State} {t : Nat} {c : HostCopy} {R : List HostRec} {L : Lanes Lane} (h : s.sameLanes (s.withHeard t c R L))
include h

theorem withHeard_anyFrozen : (s.withHeard t c R L).anyFrozen = s.anyFrozen := by
  have hstore : ∀ i, ((s.withHeard t c R L).lane i).store = (s.lane i).store := fun i => by rw [h i]
  unfold State.anyFrozen
  simp only [hstore]

theorem withHeard_leadEngine : (s.withHeard t c R L).leadLane.engine = s.leadLane.engine := by
  have hlead : (s.withHeard t c R L).lead = s.lead := lead_same (fun i => by rw [h i])
  unfold State.leadLane
  rw [hlead, h s.lead]

theorem withHeard_switchLocked (p : Power) : (s.withHeard t c R L).switchLocked p = s.switchLocked p := by
  unfold State.switchLocked
  rw [withHeard_leadEngine h]
  rfl

theorem withHeard_powerRefused (p : Power) : (s.withHeard t c R L).powerRefused p = s.powerRefused p := by
  unfold State.powerRefused State.powerAllowed
  rw [withHeard_switchLocked h]
  rfl

end

theorem withHeard_waitingIntakes (s : State) (t : Nat) (c : HostCopy) (R : List HostRec) (L : Lanes Lane) :
    (s.withHeard t c R L).waitingIntakes = s.waitingIntakes := by
  unfold State.waitingIntakes
  show _ ++ (s.heardHost t c).awaiting = _
  rw [heardHost_awaiting]
  rfl

theorem heardHost_taken (s : State) (t : Nat) (c : HostCopy) : (s.heardHost t c).taken = s.host.taken := by
  unfold State.heardHost; cases c.net <;> rfl

theorem heardHost_keys (s : State) (t : Nat) (c : HostCopy) : (s.heardHost t c).keys = s.host.keys := by
  unfold State.heardHost; cases c.net <;> rfl

theorem heardHost_lock (s : State) (t : Nat) (c : HostCopy) : (s.heardHost t c).lock = s.host.lock := by
  unfold State.heardHost; cases c.net <;> rfl

theorem withHeard_waitingCmds (s : State) (t : Nat) (c : HostCopy) (R : List HostRec) (L : Lanes Lane) :
    (s.withHeard t c R L).waitingCmds = s.waitingCmds := by
  unfold State.waitingCmds
  rw [withHeard_waitingIntakes]
  show ((s.heardHost t c).taken ++ _).map _ = _
  rw [heardHost_taken]

/-! ## The decision -/

/-- The change of the host interface that a command makes touches neither the records of commands, nor the sessions, nor the replies. -/
structure HostSide.Stores (f : HostSide → HostSide) : Prop where
  recs : ∀ h R Q, f { h with recs := R, replies := Q } = { f h with recs := R, replies := Q }
  sessions : ∀ h, (f h).sessions = h.sessions
  replies : ∀ h, (f h).replies = h.replies

/-- A permissive command whose acceptance turns the module into `b`, with the host interface changed by `f`: its second copy decides it, and
both networks are told. -/
theorem second_copy_stored {s b : State} {t op : Nat} {x : Session} {c : HostCopy} {row : OpRow} {data : Bytes} {f : HostSide → HostSide}
    (h : s.hostReady t) (g : s.secondCopy op x c) (hop : op ≠ 0x0001) (hop2 : op ≠ 0x0002) (hr : opOf op = some row) (hc : row.cls = .permissive)
    (hrec : recordsCommand op c.params = true) (hf : HostSide.Stores f) (hb : b.control.phase = .running) (hu : b.pair.role = .unpaired)
    (ha : b.almanac = s.almanac)
    (hacc : ∀ R L cmd, s.sameLanes (s.withHeard t c R L) → cmd.opcode = op → cmd.params = c.params → cmd.key = .session c.session c.seq →
      cmd.session = c.session → cmd.cls = x.cls → ∃ Q, (s.withHeard t c R L).accept cmd =
        { st := { b with now := max s.now t, host := { f (s.heardHost t c) with recs := Q }, lanes := L, pending := s.pending }
          status := stAccepted
          data := data
          snapshot := none }) :
    ∃ u, run t (fun v => v.hostArrive op c) s = .next u ∧ s.decided u t op c stAccepted data f laneKept [x.commandRecord op c] ∧
      u = { b with now := u.now, host := u.host, lanes := u.lanes, almanac := u.almanac, pending := s.pending } := by
  obtain ⟨p, cmd, w, r1, r2, hp, hl, k1, k2, k3, k4, k5, k6, k7, k8, k9, hrun, hw1, hw2, hn1, hn2, hq⟩ :=
    second_copy_accepted (st := stAccepted) (data := data) (next := fun p cmd => (p.accept cmd).st) h g hop hop2 hr hc (Or.inr rfl)
      (by
        intro p cmd hp hl c1 c2 c3 c4 c5 c6 c7 c8 c9
        obtain ⟨R, L, rfl⟩ : ∃ R L, p = s.withHeard t c R L := ⟨_, _, hp⟩
        obtain ⟨Q, hQ⟩ := hacc R L cmd hl c1 c2 c3 c4 c5
        rw [hQ]
        refine ⟨rfl, hb, ?_, ⟨x.heard c (s.stampOf c), ?_, rfl, rfl⟩, hu⟩
        · exact sameLanes_mode hl h.2.1
        · show (f (s.heardHost t c)).sessions.find? _ = _
          rw [hf.sessions]
          exact heardHost_session t g.1.1)
  obtain ⟨R, L, rfl⟩ : ∃ R L, p = s.withHeard t c R L := ⟨_, _, hp⟩
  obtain ⟨Q, hQ⟩ := hacc R L cmd hl k7 k2 k1 k3 k4
  rw [hQ] at hw1 hw2
  have hreplies : (f (s.heardHost t c)).replies = s.host.replies := (hf.replies _).trans (heardHost_replies s t c)
  have hhost : w.host = f { s.heardHost t c with recs := w.host.recs, replies := s.host.replies ++ [r1, r2] } := by
    rw [hf.recs, ← hreplies]
    exact congrArg State.host hw2
  have hclose : w.close (max s.now t) s.pending = w := by rw [hw2]; rfl
  rw [hclose] at hrun
  refine ⟨w, hrun, ⟨⟨r1, r2, ?_, hn1, hn2, hq⟩, ?_, ?_, by rw [hw2], ?_⟩, ?_⟩
  · rw [hhost, hf.replies]
  · unfold State.hostAfter
    have hrw : w.host.replies = s.host.replies ++ [r1, r2] := by rw [hhost, hf.replies]
    rw [hrw]
    exact hhost
  · exact sameLanes_trans hl hw1
  · rw [hw2, ← ha, if_pos hrec]
    rfl
  · have hkept : ∀ (w : State) n H K A, w = { b with now := n, host := H, lanes := K, almanac := A, pending := s.pending } →
        w = { b with now := w.now, host := w.host, lanes := w.lanes, almanac := w.almanac, pending := s.pending } := by
      rintro w n H K A rfl; rfl
    exact hkept w _ _ _ _ hw2

/-! ## The six commands -/

section
variable {s : State} {t : Nat} {x : Session} {c : HostCopy} {R : List HostRec} {L : Lanes Lane} {cmd : Cmd} (hm : cmd.malformed = false)
  (hp : cmd.params = c.params) (hk : cmd.key = .session c.session c.seq)
include hm hp hk

/-- MODE_SET: the mode waits for its commit (R655). -/
theorem acceptModeSet_waits {m : Mode} (hl : s.sameLanes (s.withHeard t c R L)) (hu : s.pair.role = .unpaired) (hx : cmd.cls = x.cls)
    (hmode : modeOf (rd8 c.params 0) = some m)
    (hhold : m = .hold → x.cls ≠ .operator ∧ s.sealClosed 15 = true) (hn : s.inNadir = false) (hok : s.modeParamsOk c.params = true)
    (href : s.modeRefused m (rd16 c.params 2) = false) :
    let cancels := s.modeWaits && m == s.control.mode
    ∃ Q, (s.withHeard t c R L).acceptModeSet cmd = { 
      st := { s with
        now := max s.now t
        host := { s.heardHost t c with recs := Q, awaiting := s.dropWaitingMode.host.awaiting }
        lanes := L
        pair := s.dropWaitingMode.pair
        control := { s.control with
          pendingMode := some (m, some (.session c.session c.seq))
          pendingSteps := if cancels then 0 else rd16 c.params 2
          pendingBreaks := if cancels then none else if bitAt (rd8 c.params 1) 0 then some (bpUsed c.params) else none } }
      status := stAccepted
      data := []
      snapshot := none } := by
  have hcur : (s.withHeard t c R L).currentMode = s.currentMode := by
    unfold State.currentMode
    rw [withHeard_waitingCmds]
    rfl
  have hwaits : (s.withHeard t c R L).modeWaits = s.modeWaits := by
    unfold State.modeWaits
    rw [withHeard_waitingCmds]
    rfl
  have hok' : (s.withHeard t c R L).modeParamsOk c.params = true := by
    rw [← hok]
    unfold State.modeParamsOk
    rw [hcur]
    rfl
  have href' : (s.withHeard t c R L).modeRefused m (rd16 c.params 2) = false := by
    rw [← href]
    unfold State.modeRefused
    rw [hcur, withHeard_anyFrozen hl]
    rfl
  have hisHold : rd8 c.params 0 = 2 → m = .hold := fun h => by
    rw [h] at hmode
    exact (Option.some.inj hmode).symm
  obtain ⟨Q, hQ⟩ := dropWaitingMode_eq (s.withHeard t c R L)
  obtain ⟨Q', hQ'⟩ := dropWaitingMode_eq s
  refine ⟨Q, ?_⟩
  unfold State.acceptModeSet
  simp only [hp, hx, hk, hmode, hwaits, Option.getD_some]
  rw [firstOf_go]
  · rw [if_neg (by rw [pairSteps_unpaired (s := s.withHeard t c R L) hu]; decide), hQ, hQ']
    simp only [State.acc, State.withHeard, heardHost_awaiting]
  · simp only [List.forall_mem_cons, List.not_mem_nil, false_implies, implies_true, and_true]
    refine ⟨?_, ?_, hn, by rw [hm, hok']; rfl, href'⟩
    · by_cases h2 : rd8 c.params 0 = 2
      · simp [(hhold (hisHold h2)).1]
      · simp [h2]
    · by_cases h2 : rd8 c.params 0 = 2
      · have hseal : (s.withHeard t c R L).sealClosed 15 = true := (hhold (hisHold h2)).2
        rw [hseal, Bool.not_true, Bool.and_false]
      · simp [h2]

/-- PROFILE_SELECT: the slot waits for an intake (R202, R385). -/
theorem acceptProfileSelect_waits (hu : s.pair.role = .unpaired) (hseal : s.sealClosed 13 = true) (hn : s.inNadir = false)
    (hslot : rd8 c.params 0 ≤ 3) (hroute : s.snap.routeLock = 0) (hpow : s.powered = true) (hother : rd8 c.params 0 ≠ s.images.runningSlot)
    (htaken : s.images.takenProfile = none) (harm : s.images.staging.any (fun g => g.state == .armed) = false)
    (hconst : s.constellationOpen = false) :
    ∃ Q, (s.withHeard t c R L).acceptProfileSelect cmd = {
      st := { s with
        now := max s.now t
        host := { s.heardHost t c with recs := Q }
        lanes := L
        images := { s.images with
          pendingProfile := some { target := rd8 c.params 0, fromPins := false, key := some (.session c.session c.seq) } } }
      status := stAccepted
      data := []
      snapshot := none } := by
  have hstate : (!s.powered || rd8 c.params 0 == s.images.runningSlot || s.images.takenProfile.isSome ||
      s.images.staging.any (fun g => g.state == .armed) || s.constellationOpen || s.standbyUnit) = false := by
    rw [hpow, htaken, harm, hconst, standbyUnit_unpaired hu]
    simp [hother]
  obtain ⟨ks, hgo⟩ : ∃ ks, (s.withHeard t c R L).acceptProfileSelect cmd = State.acc { (s.withHeard t c R L).settledAll ks with
      images := { ((s.withHeard t c R L).settledAll ks).images with
        pendingProfile := some { target := rd8 cmd.params 0, fromPins := false, key := some cmd.key } } } stAccepted := by
    refine ⟨_, firstOf_go ?_⟩
    simp only [List.forall_mem_cons, List.not_mem_nil, false_implies, implies_true, and_true, hp, hm, Bool.false_or]
    refine ⟨?_, hn, decide_eq_false (by omega), ?_, hstate⟩
    · show (!s.sealClosed 13) = false
      rw [hseal, Bool.not_true]
    · show (s.snap.routeLock != 0) = false
      simp [hroute]
  obtain ⟨Q, hQ⟩ := settledAll_recs (s.withHeard t c R L) ks
  rw [hgo, hQ, hp, hk]
  exact ⟨Q, rfl⟩

/-- POWER_STATE_SET: the power state waits for its commit (R394). -/
theorem acceptPowerStateSet_waits {p : Power} (hl : s.sameLanes (s.withHeard t c R L)) (hu : s.pair.role = .unpaired)
    (hpower : powerOf (rd8 c.params 0) = some p)
    (hrole : ¬(s.control.power = .idle ∧ p = .warm ∧ s.sealBank.role = 0xFF)) (hn : ¬(s.inNadir = true ∧ p = .live))
    (htest : bitAt (rd8 c.params 1) 0 = true → p = .off) (hlock : s.switchLocked p = false) (href : s.powerRefused p = false) :
    ∃ Q, (s.withHeard t c R L).acceptPowerStateSet cmd = {
      st := { s with
        now := max s.now t
        host := { s.heardHost t c with recs := Q, awaiting := s.dropWaitingPower.host.awaiting }
        lanes := L
        pair := s.dropWaitingPower.pair
        control := { s.control with
          pendingPower := some (p, some (.session c.session c.seq))
          pendingTest := bitAt (rd8 c.params 1) 0
          pendingAgain := false } }
      status := stAccepted
      data := []
      snapshot := none } := by
  have hcode : rd8 c.params 0 = p.code := powerOf_code hpower
  obtain ⟨Q, hQ⟩ := dropWaitingPower_eq (s.withHeard t c R L)
  obtain ⟨Q', hQ'⟩ := dropWaitingPower_eq s
  refine ⟨Q, ?_⟩
  unfold State.acceptPowerStateSet
  simp only [hp, hk, hpower, Option.getD_some]
  rw [firstOf_go]
  · rw [pairSteps_unpaired (s := (s.withHeard t c R L).dropWaitingPower) (by rw [hQ]; exact hu), Bool.false_and, Bool.false_and,
      if_neg Bool.false_ne_true, standbyFalls_unpaired (by rw [hQ]; exact hu), hQ, hQ']
    simp only [State.acc, State.withHeard, heardHost_awaiting]
  · simp only [List.forall_mem_cons, List.not_mem_nil, false_implies, implies_true, and_true, hm, Option.isNone_some, Bool.false_or]
    refine ⟨?_, ?_, ?_, (withHeard_switchLocked hl p).trans hlock, (withHeard_powerRefused hl p).trans href⟩
    · show (s.control.power == .idle && rd8 c.params 0 == 2 && s.sealBank.role == 0xFF) = false
      rw [hcode]
      cases p <;> simp_all [Power.code]
    · show (s.inNadir && rd8 c.params 0 == 3) = false
      rw [hcode]
      cases p <;> simp_all [Power.code]
    · rw [hcode]
      cases p <;> simp_all [Power.code]

omit hp in
/-- DUSK_RUN: the shut-down waits for its commit (R395). -/
theorem acceptDuskRun_waits (hidle : s.control.power = .idle) (hstop : s.control.mode = .stop) :
    ∃ Q, (s.withHeard t c R L).acceptDuskRun cmd = {
      st := { s with
        now := max s.now t
        host := { s.heardHost t c with recs := Q, awaiting := s.dropWaitingPower.host.awaiting }
        lanes := L
        pair := s.dropWaitingPower.pair
        control := { s.control with
          pendingPower := some (.off, some (.session c.session c.seq))
          pendingTest := true
          pendingAgain := true } }
      status := stAccepted
      data := []
      snapshot := none } := by
  obtain ⟨Q, hQ⟩ := dropWaitingPower_eq (s.withHeard t c R L)
  obtain ⟨Q', hQ'⟩ := dropWaitingPower_eq s
  refine ⟨Q, ?_⟩
  unfold State.acceptDuskRun
  rw [firstOf_go]
  · rw [hQ, hQ', hk]
    simp only [State.acc, State.withHeard, heardHost_awaiting]
  · have hstate : (s.control.power != .idle || s.control.mode != .stop) = false := by rw [hidle, hstop]; rfl
    simp only [List.forall_mem_cons, List.not_mem_nil, false_implies, implies_true, and_true, hm]
    exact ⟨trivial, hstate⟩

/-- TIME_SET: the new wall time waits for its commit (R399). -/
theorem acceptTimeSet_waits (hnew : rd64 c.params 0 ≠ 0) :
    ∃ Q, (s.withHeard t c R L).acceptTimeSet cmd = {
      st := { s with
        now := max s.now t
        host := { s.heardHost t c with recs := Q }
        lanes := L
        pendingWall := some (rd64 c.params 0, .session c.session c.seq) }
      status := stAccepted
      data := b64 (s.wallAt (max s.now t))
      snapshot := none } := by
  have hgo : ∃ ks, (s.withHeard t c R L).acceptTimeSet cmd = State.accData { (s.withHeard t c R L).settledAll ks with
      pendingWall := some (rd64 cmd.params 0, cmd.key) } stAccepted (b64 (s.wallAt (max s.now t))) := by
    unfold State.acceptTimeSet
    rw [firstOf_go]
    · cases (s.withHeard t c R L).pendingWall with
      | none => exact ⟨[], rfl⟩
      | some w => exact ⟨[w.2], rfl⟩
    · simp [hp, hm, hnew]
  obtain ⟨ks, hgo⟩ := hgo
  obtain ⟨Q, hQ⟩ := settledAll_recs (s.withHeard t c R L) ks
  rw [hgo, hQ, hp, hk]
  exact ⟨Q, rfl⟩

/-- KEY_LIST_UPDATE: the list waits for its commit (R402, R543). -/
theorem acceptKeyListUpdate_waits (hs : cmd.session = c.session) (hok : keyListOk c.params = true) (hlock : s.lockedOut c.session = false)
    (hpow : s.control.power = .idle ∨ s.control.power = .warm) (harm : s.images.staging.any (fun g => g.state == .armed) = false)
    (hsig : s.keySignatureOk c.params = true) :
    ∃ Q, (s.withHeard t c R L).acceptKeyListUpdate cmd = {
      st := { s with
        now := max s.now t
        host := { s.heardHost t c with
          recs := Q
          pendingKeys := some ({ version := rd32 c.params 0, keys := updateKeys c.params }, .session c.session c.seq) }
        lanes := L }
      status := stAccepted
      data := []
      snapshot := none } := by
  have hsig' : (s.withHeard t c R L).keySignatureOk c.params = true := by
    rw [← hsig]
    unfold State.keySignatureOk State.trustedKeys
    show (decide ((s.heardHost t c).keys.version < _) && (if s.startup.noKeys then [] else (s.heardHost t c).keys.keys).any _) = _
    rw [heardHost_keys]
  have hlock' : (s.withHeard t c R L).lockedOut c.session = false := by
    rw [← hlock]
    unfold State.lockedOut
    show (s.heardHost t c).lock.any _ = _
    rw [heardHost_lock]
  have hgo : ∃ ks, (s.withHeard t c R L).acceptKeyListUpdate cmd = State.acc { (s.withHeard t c R L).settledAll ks with
      host := { ((s.withHeard t c R L).settledAll ks).host with
        pendingKeys := some ({ version := rd32 cmd.params 0, keys := updateKeys cmd.params }, cmd.key) } } stAccepted := by
    unfold State.acceptKeyListUpdate
    rw [firstOf_go]
    · cases (s.withHeard t c R L).host.pendingKeys with
      | none => exact ⟨[], rfl⟩
      | some w => exact ⟨[w.2], rfl⟩
    · have hstate : (!(s.control.power == .idle || s.control.power == .warm) || s.images.staging.any (fun g => g.state == .armed)) = false := by
        rw [harm, Bool.or_false]
        rcases hpow with h | h <;> rw [h] <;> rfl
      simp only [List.forall_mem_cons, List.not_mem_nil, false_implies, implies_true, and_true, hp, hm, hs, hok, hlock', hsig', Bool.not_true, Bool.or_false]
      exact ⟨trivial, trivial, hstate⟩
  obtain ⟨ks, hgo⟩ := hgo
  obtain ⟨Q, hQ⟩ := settledAll_recs (s.withHeard t c R L) ks
  rw [hgo, hQ, hp, hk]
  exact ⟨Q, rfl⟩

end

/-- A command with a good copy is well formed where the length of its parameters fits. -/
theorem malformed_of_secondCopy {s : State} {op : Nat} {x : Session} {c : HostCopy} {cmd : Cmd} (g : s.secondCopy op x c) (hop : cmd.opcode = op)
    (hp : cmd.params = c.params) (hl : lengthOk op c.params = true) : cmd.malformed = false := by
  obtain ⟨⟨-, -, -, -, -, -, -, -, -, -, -, -, hres, -⟩, -⟩ := g
  exact malformed_eq_false (by rw [hop, hp]; exact hl) (by rw [hop, hp]; exact hres)

theorem stores_id : HostSide.Stores id := ⟨fun _ _ _ => rfl, fun _ => rfl, fun _ => rfl⟩

theorem stores_awaiting (l : List Intake) : HostSide.Stores (fun h => { h with awaiting := l }) := ⟨fun _ _ _ => rfl, fun _ => rfl, fun _ => rfl⟩

theorem stores_keys (k : Option (KeyList × RecKey)) : HostSide.Stores (fun h => { h with pendingKeys := k }) :=
  ⟨fun _ _ _ => rfl, fun _ => rfl, fun _ => rfl⟩

/-- Settles O40: each command by what its acceptance stores. -/
theorem commandsThatWaitForACommit : Obligations.CommandsThatWaitForACommit := by
  intro t x c s h hu
  refine ⟨fun m g hlen hmode hhold hn hok href => ?_, fun g hlen hseal hn hslot hroute hpow hother htaken harm hconst => ?_,
    fun p g hlen hpower hrole hn htest hlock href => ?_, fun g hlen hidle hstop => ?_, fun g hlen hnew => ?_,
    fun g hlen hok hlock hpow harm hsig => ?_⟩
  · exact second_copy_stored (b := { s with
        pair := s.dropWaitingMode.pair
        control := { s.control with
          pendingMode := some (m, some (.session c.session c.seq))
          pendingSteps := if s.modeWaits && m == s.control.mode then 0 else rd16 c.params 2
          pendingBreaks := if s.modeWaits && m == s.control.mode then none else if bitAt (rd8 c.params 1) 0 then some (bpUsed c.params) else none } })
      h g (by decide) (by decide) rfl rfl rfl (stores_awaiting _) h.1 ((dropWaitingMode_role s).trans hu) rfl
      (fun R L cmd hl hop hp hk hs hx => by
        rw [accept_modeSet _ hop]
        exact acceptModeSet_waits (malformed_of_secondCopy g hop hp (by simp [lengthOk, hlen])) hp hk hl hu hx hmode hhold hn hok href)
  · exact second_copy_stored (b := { s with
        images := { s.images with
          pendingProfile := some { target := rd8 c.params 0, fromPins := false, key := some (.session c.session c.seq) } } })
      h g (by decide) (by decide) rfl rfl rfl stores_id h.1 hu rfl
      (fun R L cmd hl hop hp hk hs hx => by
        rw [accept_profileSelect _ hop]
        exact acceptProfileSelect_waits (malformed_of_secondCopy g hop hp (by simp [lengthOk, hlen])) hp hk hu hseal hn hslot hroute hpow hother
          htaken harm hconst)
  · exact second_copy_stored (b := { s with
        pair := s.dropWaitingPower.pair
        control := { s.control with
          pendingPower := some (p, some (.session c.session c.seq))
          pendingTest := bitAt (rd8 c.params 1) 0
          pendingAgain := false } })
      h g (by decide) (by decide) rfl rfl rfl (stores_awaiting _) h.1 ((dropWaitingPower_role s).trans hu) rfl
      (fun R L cmd hl hop hp hk hs hx => by
        rw [accept_powerStateSet _ hop]
        exact acceptPowerStateSet_waits (malformed_of_secondCopy g hop hp (by simp [lengthOk, hlen])) hp hk hl hu hpower hrole hn htest hlock href)
  · exact second_copy_stored (b := { s with
        pair := s.dropWaitingPower.pair
        control := { s.control with
          pendingPower := some (.off, some (.session c.session c.seq))
          pendingTest := true
          pendingAgain := true } })
      h g (by decide) (by decide) rfl rfl rfl (stores_awaiting _) h.1 ((dropWaitingPower_role s).trans hu) rfl
      (fun R L cmd hl hop hp hk hs hx => by
        rw [accept_duskRun _ hop]
        exact acceptDuskRun_waits (malformed_of_secondCopy g hop hp (by simp [lengthOk, hlen])) hk hidle hstop)
  · exact second_copy_stored (b := { s with pendingWall := some (rd64 c.params 0, .session c.session c.seq) })
      h g (by decide) (by decide) rfl rfl rfl stores_id h.1 hu rfl
      (fun R L cmd hl hop hp hk hs hx => by
        rw [accept_timeSet _ hop]
        exact acceptTimeSet_waits (malformed_of_secondCopy g hop hp (by simp [lengthOk, hlen])) hp hk hnew)
  · exact second_copy_stored (b := s) h g (by decide) (by decide) rfl rfl rfl (stores_keys _) h.1 hu rfl
      (fun R L cmd hl hop hp hk hs hx => by
        rw [accept_keyListUpdate _ hop]
        exact acceptKeyListUpdate_waits (malformed_of_secondCopy g hop hp (by simp [lengthOk, hlen])) hp hk hs hok hlock hpow harm hsig)

end Sys2Proof.Machine
end

section
/-! # The course of the module

What a commit is about (its snapshots and their numbers, the phase, the power state and what waits for a commit): most effects of a fault, of a
mode and of a commit leave it alone, whatever else they discard, answer and record. One lemma for each operation. -/

namespace Sys2Proof.Machine

/-- The part of the state that says which snapshot comes next and in what the module is. -/
def State.course (s : State) :
    List Snapshot × Nat × Phase × Power × Option (Power × Option RecKey) × Option (Mode × Option RecKey) × Option Nat :=
  (s.snapshots, s.nextNumber, s.control.phase, s.control.power, s.control.pendingPower, s.control.pendingMode, s.pair.switchAt)

/-- What two states of one course share, field by field. -/
theorem course_eq {s u : State} : u.course = s.course ↔ u.snapshots = s.snapshots ∧ u.nextNumber = s.nextNumber ∧
    u.control.phase = s.control.phase ∧ u.control.power = s.control.power ∧ u.control.pendingPower = s.control.pendingPower ∧
    u.control.pendingMode = s.control.pendingMode ∧ u.pair.switchAt = s.pair.switchAt := by
  simp [State.course]

theorem course_foldl {α : Type} (f : State → α → State) (hf : ∀ s x, (f s x).course = s.course) (l : List α) (s : State) :
    (l.foldl f s).course = s.course := by
  induction l generalizing s with
  | nil => rfl
  | cons x l ih => exact (ih (f s x)).trans (hf s x)

variable (s : State)

/-! ## Lanes, events and records -/

@[simp] theorem course_modLane (i : LaneId) (f : Lane → Lane) : (s.modLane i f).course = s.course := rfl
@[simp] theorem course_mapLanes (f : Lane → Lane) : (s.mapLanes f).course = s.course := rfl
@[simp] theorem course_mapVoting (f : Lane → Lane) : (s.mapVoting f).course = s.course := rfl
@[simp] theorem course_event (code : Nat) (o : Origin) (l : List (Nat × Nat × Nat)) : (s.event code o l).course = s.course := rfl
@[simp] theorem course_addEvents (l : List Queued) : (s.addEvents l).course = s.course := rfl
@[simp] theorem course_laneEvent (i : LaneId) (code : Nat) (l : List (Nat × Nat × Nat)) : (s.laneEvent i code l).course = s.course := rfl
@[simp] theorem course_settled (k : RecKey) : (s.settled k).course = s.course := rfl

@[simp] theorem course_settledAll (ks : List RecKey) : (s.settledAll ks).course = s.course :=
  course_foldl State.settled (fun _ _ => rfl) ks s

@[simp] theorem course_settledKey (k : Option RecKey) : (s.settledKey k).course = s.course := by cases k <;> rfl

@[simp] theorem course_modStaging (k : Nat) (f : Staging → Staging) : (s.modStaging k f).course = s.course := rfl

/-! ## Replies and discards -/

@[simp] theorem course_sendReply (r : Reply) : (s.sendReply r).course = s.course := by unfold State.sendReply; split <;> rfl

@[simp] theorem course_reply (r : Reply) : (s.reply r).course = s.course := by
  unfold State.reply State.replyWith
  split
  · rfl
  · split
    · rfl
    · simp only []
      split
      · exact course_sendReply s _
      · rfl

@[simp] theorem course_answerAt (t : Nat) (r : HostRec) (nets : List Net) (late repeated : Bool) (status snapshot : Nat) (data : Bytes) :
    (s.answerAt t r nets late repeated status snapshot data).course = s.course := by
  refine course_foldl _ (fun u n => ?_) nets s
  simp only []
  split
  · rfl
  · exact course_reply u _

@[simp] theorem course_discardKey (k : RecKey) : (s.discardKey k).course = s.course := by
  unfold State.discardKey
  split
  · rfl
  · simp only []
    split
    · exact course_answerAt s _ _ _ _ _ _ _ _
    · rfl

@[simp] theorem course_discardKeys (ks : List RecKey) : (s.discardKeys ks).course = s.course :=
  course_foldl State.discardKey (fun u k => course_discardKey u k) ks s

@[simp] theorem course_discardWork : s.discardWork.course = s.course := by
  unfold State.discardWork
  exact course_discardKeys s _

@[simp] theorem course_upsetDiscard : s.upsetDiscard.course = s.course := by
  have h := course_discardWork s
  unfold State.upsetDiscard
  generalize s.discardWork = u at h ⊢
  exact h

@[simp] theorem course_upsetStop (reason : Nat) : (s.upsetStop reason).course = s.course := by
  unfold State.upsetStop
  exact (course_discardKeys _ _).trans (course_discardWork s)

/-! ## Aborts -/

@[simp] theorem course_dropArm : s.dropArm.course = s.course := by
  unfold State.dropArm
  split
  · exact course_discardKey s _
  · rfl

@[simp] theorem course_abortArmed (cause : Nat) : (s.abortArmed cause).course = s.course := by
  have hfold : ∀ l : List Nat, (l.foldl (fun (u : State) k =>
      match u.images.staging[k]? with
      | some g =>
        if g.state = .armed then
          ({ u.settledKey g.abortKey with images := { u.images with
              staging := listSet u.images.staging k { g with state := .verified, armedAt := none, abortStamps := none, abortKey := none } } }).event 0x0306
            (if cause = 1 then u.originOf g.abortKey else Origin.internal) [(24, 1, cause), (25, 1, k)]
        else u
      | none => u) s).course = s.course := by
    refine fun l => course_foldl _ (fun u k => ?_) l s
    split
    · split
      · exact course_settledKey u _
      · rfl
    · rfl
  unfold State.abortArmed
  simp only []
  split
  · exact hfold _
  · exact hfold _

@[simp] theorem course_abortProfile : s.abortProfile.course = s.course := by
  unfold State.abortProfile
  split
  · exact course_discardKeys s _
  · rfl

@[simp] theorem course_abortChange (cause : Nat) : (s.abortChange cause).course = s.course := by
  unfold State.abortChange
  split
  · exact (course_upsetDiscard _).trans (course_abortArmed s cause)
  · rfl

/-! ## Sessions -/

@[simp] theorem course_dropLock (o : Origin) (kind : Nat) : (s.dropLock o kind).course = s.course := rfl

@[simp] theorem course_endSession (n kind : Nat) : (s.endSession n kind).course = s.course := by
  unfold State.endSession
  split
  · rfl
  · simp only []
    split <;> rfl

@[simp] theorem course_endAllSessions : s.endAllSessions.course = s.course := by
  unfold State.endAllSessions
  simp only []
  split <;> rfl

/-! ## Safe-off -/

@[simp] theorem course_openSupply : s.openSupply.course = s.course := rfl

/-- What dropping the pending power state and mode leaves of the course: the snapshots and the phase. -/
theorem dropPending_course : s.dropPending.snapshots = s.snapshots ∧ s.dropPending.control.phase = s.control.phase := by
  obtain ⟨hsnap, -, hphase, -⟩ :=
    course_eq.1 (course_discardKeys s ((s.control.pendingPower.bind (·.2)).toList ++ (s.control.pendingMode.bind (·.2)).toList))
  exact ⟨hsnap, hphase⟩

end Sys2Proof.Machine
end

section
/-! # Supply elements and safe-off (R38, R238, R239)

Who holds a supply element, what the safe state of the module is; then `SupplyElementAndSafeOff`. -/

namespace Sys2Proof.Machine

/-! ## Holders -/

/-- The other two lanes hold. -/
theorem holders_of_others {s : State} {i : LaneId} (h : ∀ j, j ≠ i → (s.lane j).holds = true) : 2 ≤ s.holders.length := by
  have hsub : allLanes.filter (fun j => j != i) ⊆ s.holders := fun j hj =>
    List.mem_filter.2 ⟨(List.mem_filter.1 hj).1, h j (by simpa using (List.mem_filter.1 hj).2)⟩
  have hnodup : (allLanes.filter (fun j => j != i)).Nodup := List.Nodup.filter _ (by decide)
  calc 2 = (allLanes.filter (fun j => j != i)).length := by cases i <;> rfl
    _ ≤ s.holders.length := (hnodup.subperm hsub).length_le

theorem one_other_lane (i j : LaneId) (h : j ≠ i) : (allLanes.filter (fun k => k != i && k != j)).length = 1 := by
  revert h
  cases i <;> cases j <;> decide

/-- Two lanes do not hold. -/
theorem holders_of_two_gone {s : State} {i j : LaneId} (hij : j ≠ i) (hi : (s.lane i).holds = false) (hj : (s.lane j).holds = false) :
    s.holders.length < 2 := by
  have hsub : s.holders ⊆ allLanes.filter (fun k => k != i && k != j) := by
    intro k hk
    obtain ⟨hmem, hold⟩ := List.mem_filter.1 hk
    have hki : k ≠ i := fun he => by rw [he, hi] at hold; cases hold
    have hkj : k ≠ j := fun he => by rw [he, hj] at hold; cases hold
    exact List.mem_filter.2 ⟨hmem, by simp [hki, hkj]⟩
  have hnodup : s.holders.Nodup := List.Nodup.filter _ (by decide)
  calc s.holders.length ≤ (allLanes.filter (fun k => k != i && k != j)).length := (hnodup.subperm hsub).length_le
    _ = 1 := one_other_lane i j hij
    _ < 2 := by decide

/-! ## The safe state -/

/-- No lane's supply element is closed: no terminal conducts. -/
theorem terminals_of_open {s : State} (h : ∀ i, (s.lane i).supplyClosed = false) : s.terminals = 0 := by
  have hoff : s.supplyOn = false := by simp [State.supplyOn, h]
  exact if_neg (by simp [hoff])

/-- A record of a lane's writer leaves the safety supply alone. -/
theorem laneEvents_safeIo (f : State → LaneId → List (Nat × Nat × Nat)) (l : List LaneId) (s : State) :
    (l.foldl (fun u i => u.laneEvent i 0x0405 (f u i)) s).safeIo = s.safeIo := by
  induction l generalizing s with
  | nil => rfl
  | cons i l ih => exact ih _

/-- The module that falls to safe-off, with all that it discards and ends (R239, Table 9.8), before its records. -/
def State.fallen (s : State) : State :=
  (((({ s.keepCount with control := { s.keepCount.control with phase := .safeOff } } : State).dropPending).dropArm.abortArmed 4).abortProfile).discardWork.endAllSessions.openSupply

/-- A lane of a module in safe-off. -/
def Lane.shutDown (l : Lane) : Lane := { l with
  mode := if l.mode = LaneMode.voting then LaneMode.isolated else l.mode
  elements := 0
  supplyClosed := false
  meridianToggles := false
  supervisionToggles := false
  program := l.program.abandon
  vote := { l.vote with decided := true } }

/-- Safe-off is the fall, one record of each lane, and the lanes shut down. -/
theorem safeOffFor_eq (s : State) (cause : Lane → Nat) : s.safeOffFor cause =
    (allLanes.foldl (fun u i => u.laneEvent i 0x0405 [(24, 1, i.index), (25, 1, cause (u.lane i))]) s.fallen).mapLanes Lane.shutDown := rfl

theorem fallen_state (s : State) :
    s.fallen.control.phase = .safeOff ∧ s.fallen.safeIo.supply = .isOpen ∧ s.fallen.snapshots = s.snapshots := by
  let s1 : State := { s.keepCount with control := { s.keepCount.control with phase := .safeOff } }
  have hcourse : s.fallen.course = s1.dropPending.course := by
    simp only [State.fallen, course_openSupply, course_endAllSessions, course_discardWork, course_abortProfile, course_abortArmed, course_dropArm, s1]
  obtain ⟨hsnap, -, hphase, -⟩ := course_eq.1 hcourse
  obtain ⟨hsnap1, hphase1⟩ := dropPending_course s1
  exact ⟨hphase.trans hphase1, rfl, hsnap.trans hsnap1⟩

theorem shutDown_lane (l : Lane) : l.shutDown.elements = 0 ∧ l.shutDown.supplyClosed = false ∧ l.shutDown.mode ≠ .voting := by
  refine ⟨rfl, rfl, ?_⟩
  unfold Lane.shutDown
  simp only []
  split
  · exact LaneMode.noConfusion
  · next h => exact h

/-- Safe-off: the phase, the open supply, every element open, every lane out of the vote, and the snapshots as they were (R239). -/
theorem safeOffFor_state (s : State) (cause : Lane → Nat) :
    (s.safeOffFor cause).control.phase = .safeOff ∧ (s.safeOffFor cause).safeIo.supply = .isOpen ∧ (s.safeOffFor cause).snapshots = s.snapshots ∧
      ∀ i, ((s.safeOffFor cause).lane i).elements = 0 ∧ ((s.safeOffFor cause).lane i).supplyClosed = false ∧
        ((s.safeOffFor cause).lane i).mode ≠ .voting := by
  rw [safeOffFor_eq]
  obtain ⟨hphase, hsupply, hsnap⟩ := fallen_state s
  generalize s.fallen = v at hphase hsupply hsnap ⊢
  obtain ⟨hsnap', -, hphase', -⟩ := course_eq.1
    (course_foldl (fun u i => u.laneEvent i 0x0405 [(24, 1, i.index), (25, 1, cause (u.lane i))]) (fun u i => course_laneEvent u i _ _) allLanes v)
  refine ⟨hphase'.trans hphase, ?_, hsnap'.trans hsnap, fun i => ?_⟩
  · exact (congrArg SafeIo.supply (laneEvents_safeIo (fun u i => [(24, 1, i.index), (25, 1, cause (u.lane i))]) allLanes v)).trans hsupply
  · rw [mapLanes_lane]
    exact shutDown_lane _

/-! ## The drop of a supply element -/

/-- The lane whose supply element opened because its supervision signal stopped. -/
def Lane.unsupervised (l : Lane) : Lane := { l with
  supplyClosed := false
  meridianToggles := l.meridianToggles && !(DynSignal.supervision == .meridian)
  supervisionToggles := l.supervisionToggles && !(DynSignal.supervision == .supervision) }

theorem elementDrop_supervision {s : State} (i : LaneId) (hrun : s.control.phase = .running) :
    s.elementDrop i .supervision = (s.modLane i Lane.unsupervised).checkSafeOff := if_pos ⟨hrun, rfl⟩

theorem unsupervised_holds (l : Lane) : l.unsupervised.holds = false := by simp [Lane.unsupervised, Lane.holds]

/-- Two lanes that hold keep the module on (R239). -/
theorem checkSafeOff_goes_on {s : State} (h : 2 ≤ s.holders.length) : s.checkSafeOff = s := if_neg (fun hs => by omega)

theorem checkSafeOff_falls {s : State} (hrun : s.control.phase = .running) (hdeg : s.control.degradation ≠ .oneLane)
    (h : s.holders.length < 2) : s.checkSafeOff = s.safeOffFor Lane.safeOffCause := if_pos ⟨hrun, hdeg, h⟩

/-- Settles O28: the lane's own element opens whatever the others do; the holders are then counted, two of them leave the module as it is
and fewer are safe-off. -/
theorem supplyElementAndSafeOff : Obligations.SupplyElementAndSafeOff := by
  unfold Obligations.SupplyElementAndSafeOff
  intro t i s hrun
  have hdrop : exec (.supplyElementDrop t i .supervision) s = run t (fun u => u.elementDrop i .supervision) s := rfl
  have hrun' : (s.tick t).control.phase = .running := hrun
  have hself : ((s.tick t).modLane i Lane.unsupervised).lane i = (s.lane i).unsupervised := modLane_lane_same _ i _
  have hother : ∀ j, j ≠ i → ((s.tick t).modLane i Lane.unsupervised).lane j = s.lane j := fun j hj => modLane_lane_other _ _ hj
  refine ⟨fun hothers => ?_, fun j hj hgone hdeg => ?_⟩
  · have hholds : 2 ≤ ((s.tick t).modLane i Lane.unsupervised).holders.length :=
      holders_of_others (fun k hk => by rw [hother k hk]; simp [Lane.holds, hothers k hk])
    have heq : (s.tick t).elementDrop i .supervision = (s.tick t).modLane i Lane.unsupervised :=
      by rw [elementDrop_supervision i hrun', checkSafeOff_goes_on hholds]
    rw [hdrop, run_sameButLanes (f := fun u => u.elementDrop i .supervision) (by rw [heq]; exact modLane_sameButLanes _ i _)]
    refine ⟨_, rfl, ?_, ?_, fun k hk => ?_, rfl⟩
    · rw [lane_of_lanes, heq, hself]; rfl
    · rw [lane_of_lanes, heq, hself]; simp [Lane.unsupervised]
    · rw [lane_of_lanes, heq, hother k hk]
  · have hfew : ((s.tick t).modLane i Lane.unsupervised).holders.length < 2 :=
      holders_of_two_gone hj (by rw [hself]; exact unsupervised_holds _) (by rw [hother j hj]; simp [Lane.holds, hgone])
    have heq : (s.tick t).elementDrop i .supervision = ((s.tick t).modLane i Lane.unsupervised).safeOffFor Lane.safeOffCause :=
      by rw [elementDrop_supervision i hrun', checkSafeOff_falls (s := (s.tick t).modLane i Lane.unsupervised) hrun hdeg hfew]
    obtain ⟨hphase, hsupply, hsnap, hlanes⟩ := safeOffFor_state ((s.tick t).modLane i Lane.unsupervised) Lane.safeOffCause
    rw [hdrop, run_eq]
    simp only [heq]
    generalize ((s.tick t).modLane i Lane.unsupervised).safeOffFor Lane.safeOffCause = u at *
    exact ⟨_, rfl, hphase, hsupply, terminals_of_open (fun k => (hlanes k).2.1), hlanes, hsnap⟩

end Sys2Proof.Machine
end

section
/-! # The course of a module at a commit

The parts of a first commit that leave the course of the module alone: one lemma for each, and those that wait for nothing here. -/

namespace Sys2Proof.Machine

variable (s : State)

/-! ## What a commit takes in -/

@[simp] theorem course_closeT1 (i : LaneId) : (s.closeT1 i).course = s.course := by
  unfold State.closeT1
  split
  · rfl
  · exact course_settledAll s _

@[simp] theorem course_putMode (m : Mode) (cause : Nat) (o : Origin) : (s.putMode m cause o).course = s.course := rfl

@[simp] theorem course_toStop (cause : Nat) (o : Origin) : (s.toStop cause o).course = s.course := by
  have h := (course_upsetStop (s.putMode .stop cause o) 8).trans (course_putMode s .stop cause o)
  unfold State.toStop
  generalize (s.putMode .stop cause o).upsetStop 8 = u at h ⊢
  exact h

@[simp] theorem course_commitSealStop : s.commitSealStop.course = s.course := by
  unfold State.commitSealStop
  simp only []
  split
  · exact course_toStop _ _ _
  · rfl

@[simp] theorem course_commitPins : s.commitPins.course = s.course := by
  unfold State.commitPins
  split <;> rfl

theorem commitPower_none (t : Nat) (h : s.control.pendingPower = none) : s.commitPower t = s := by
  unfold State.commitPower
  rw [h]

theorem commitMode_none (t : Nat) (h : s.control.pendingMode = none) : s.commitMode t = s := by
  unfold State.commitMode
  rw [h]

@[simp] theorem course_commitArm (t : Nat) : (s.commitArm t).course = s.course := by
  unfold State.commitArm
  split
  · simp only []
    split
    · exact course_dropArm s
    · rfl
  · rfl

@[simp] theorem course_commitStep : s.commitStep.course = s.course := by
  unfold State.commitStep
  split
  · simp only []
    split <;> rfl
  · rfl

@[simp] theorem course_commitWall (t : Nat) : (s.commitWall t).course = s.course := by
  unfold State.commitWall
  split <;> rfl

@[simp] theorem course_dropUntrusted (keys : List Bytes) : (s.dropUntrusted keys).course = s.course := by
  refine course_foldl _ (fun u k => ?_) _ s
  simp only []
  split <;> rfl

@[simp] theorem course_commitKeys : s.commitKeys.course = s.course := by
  unfold State.commitKeys
  split
  · exact course_dropUntrusted _ _
  · rfl

@[simp] theorem course_commitSessions : s.commitSessions.course = s.course := rfl

@[simp] theorem course_pinRequest : s.pinRequest.course = s.course := by
  unfold State.pinRequest
  split
  · rfl
  · simp only []
    split
    · split
      · rfl
      · exact course_discardKeys s _
    · rfl

/-! ## What a commit leaves behind -/

@[simp] theorem course_shadowsFollow (n : Nat) : (s.shadowsFollow n).course = s.course := rfl

@[simp] theorem course_keepRings : s.keepRings.course = s.course := by
  unfold State.keepRings
  split <;> rfl

@[simp] theorem course_requote (old : State) (n : Nat) : (s.requote old n).course = s.course := rfl

@[simp] theorem course_commitQuotes : s.commitQuotes.course = s.course := rfl

@[simp] theorem course_carryForces (p : Snapshot) (exec : Bool) (t : Nat) : (s.carryForces p exec t).course = s.course := rfl

@[simp] theorem course_commitStash : s.commitStash.course = s.course := by
  unfold State.commitStash
  split <;> rfl

@[simp] theorem course_captureCycle : s.captureCycle.course = s.course := by
  unfold State.captureCycle
  split <;> rfl

@[simp] theorem course_flushEvents (wall : Nat) : (s.flushEvents wall).course = s.course := by
  unfold State.flushEvents
  simp only []
  exact course_foldl _ (fun u i => course_modLane u i _) _ _

@[simp] theorem course_laneCommit (i : LaneId) (b : Bool) : (s.laneCommit i b).course = s.course := rfl

end Sys2Proof.Machine
end

section
/-! # The vote that agrees (R42, R211, R226)

A first commit adds one snapshot, and a later one adds none; three equal vectors are an agreed vote; then `AgreedVoteCommitsOneSnapshot`. -/

namespace Sys2Proof.Machine

/-! ## The first commit -/

theorem course_endSessions (l : List Nat) (kind : Nat) (s : State) : (l.foldl (fun (u : State) n => u.endSession n kind) s).course = s.course :=
  course_foldl (fun (u : State) n => u.endSession n kind) (fun u n => course_endSession u n kind) l s

@[simp] theorem course_commitSeals (s : State) : s.commitSeals.course = s.course := by
  unfold State.commitSeals
  split
  · rfl
  · extract_lets old changed opens bank s1 s2 s3 control s4 images
    have h1 : s1.course = s.course := rfl
    have h2 : s2.course = s1.course := by
      simp only [s2]
      split
      · exact course_abortChange s1 6
      · rfl
    have h3 : s3.course = s2.course := by
      simp only [s3]
      split
      · exact course_endSessions _ 3 s2
      · rfl
    have h4 : s4.course = s3.course := by
      simp only [s4, control]
      generalize s3 = v
      split <;> rfl
    rw [← h1, ← h2, ← h3, ← h4]
    simp only [images]
    generalize s4 = v
    split
    · split
      · split <;> rfl
      · rfl
    · rfl

/-- What a commit takes in before the power state and the mode. -/
theorem course_sealsTaken (s : State) (i : LaneId) (l : List Queued) :
    (((((s.closeT1 i).addEvents l).commitSealStop).commitSeals).commitPins).course = s.course := by
  simp only [course_commitPins, course_commitSeals, course_commitSealStop, course_addEvents, course_closeT1]

/-- What it takes in after them. -/
theorem course_restTaken (s : State) (t : Nat) :
    ((((((s.commitArm t).commitStep).commitWall t).commitKeys).commitSessions).pinRequest).course = s.course := by
  simp only [course_pinRequest, course_commitSessions, course_commitKeys, course_commitWall, course_commitStep, course_commitArm]

theorem hasImage_of_course {s u : State} (h : u.course = s.course) : u.hasImage = s.hasImage := by
  obtain ⟨-, -, hphase, hpower, -⟩ := course_eq.1 h
  unfold State.hasImage
  rw [hphase, hpower]

theorem tellStaged_without_image {s : State} (h : s.hasImage = false) (ask : Bool) : s.tellStaged ask = s := by
  unfold State.tellStaged State.inPair
  rw [h]
  rfl

/-- The first commit of an agreed vote, between two Change Points, in a module without an image in which no power state, mode or
switchover waits: one snapshot more, of the vote's instant and words. -/
theorem firstCommit_adds {s : State} {i : LaneId} (v : Vector) (himage : s.hasImage = false) (hpower : s.control.pendingPower = none)
    (hmode : s.control.pendingMode = none) (hswitch : s.pair.switchAt = none) (hcp : (s.lane i).vote.instant % 10000000 ≠ 0) :
    ∃ p, (s.firstCommit i v [] none).snapshots = (p :: s.snapshots).take 2048 ∧ (s.firstCommit i v [] none).nextNumber = s.nextNumber + 1 ∧
      p.number = s.nextNumber ∧ p.instant = (s.lane i).vote.instant ∧ p.mini = false ∧ p.state = v.state ∧ p.elemLock = v.elemLock ∧
      p.routeLock = v.routeLock ∧ p.safeOut = 0 := by
  unfold State.firstCommit
  extract_lets t isCP m box passes aborts s1 s2 clean s2s s3 s4 s5 s6 held outs p before wrote s6b s7 s8 s9 exec s9f s10 tooMany s11 control s12 s12b s13 almanac
  have h2s : s2s.course = s.course := course_sealsTaken s i box.events
  obtain ⟨-, -, -, -, hpower', hmode', -⟩ := course_eq.1 h2s
  have h3 : s3 = s2s.commitArm t := by
    simp only [s3, clean]
    rw [commitPower_none s2s t (hpower'.trans hpower), commitMode_none s2s t (hmode'.trans hmode)]
    rfl
  have h4 : s4.course = s.course := by
    simp only [s4]
    rw [h3, course_restTaken, h2s]
  have h5 : s5 = s4 := if_neg (by rw [hasImage_of_course h4, himage]; exact Bool.false_ne_true)
  have h6 : s6.course = s.course := by
    obtain ⟨-, -, -, -, -, -, hswitch'⟩ := course_eq.1 h4
    have h : s6 = s5 := if_neg (by rw [h5, hswitch', hswitch]; exact Bool.false_ne_true)
    rw [h, h5, h4]
  clear_value s6
  obtain ⟨hsnap, hnumber, -⟩ := course_eq.1 h6
  have hsnap7 : s7.snapshots = (p :: s6.snapshots).take 2048 := rfl
  have hnumber7 : s7.nextNumber = s6.nextNumber + 1 := rfl
  have himage7 : s7.hasImage = false := by
    have h6b : s6b.course = s6.course := by simp only [s6b, course_keepRings, course_shadowsFollow]
    have h : s7.hasImage = s6b.hasImage := rfl
    rw [h, hasImage_of_course h6b, hasImage_of_course h6, himage]
  have hwords : p.number = s6.nextNumber ∧ p.instant = t ∧ p.mini = false ∧ p.state = v.state ∧ p.elemLock = v.elemLock ∧ p.routeLock = v.routeLock ∧
      p.safeOut = outs.1 := ⟨rfl, rfl, rfl, rfl, rfl, rfl, rfl⟩
  have houts : outs.1 = 0 := by
    simp only [outs]
    rw [himage]
    rfl
  clear_value s7 p
  have h8 : s8.course = s7.course := (course_commitQuotes _).trans (course_requote s7 s _)
  have h9 : s9 = s8 := if_neg (fun h => hcp (by simpa [isCP, ms] using h.1))
  have hexec : exec = false := by
    simp only [exec, State.executes]
    rw [h9, hasImage_of_course h8, himage7]
    rfl
  have h9f : s9f.course = s7.course := by
    simp only [s9f, course_carryForces]
    rw [h9, h8]
  have h10 : s10 = s9f := by
    simp only [s10]
    rw [hexec, hasImage_of_course h9f, himage7]
    simp
  have h11 : s11 = s10 := by
    simp only [s11, tooMany]
    rw [hexec]
    rfl
  have h12 : s12.course = s7.course := by
    have hcontrol : s12.course = s11.course := course_eq.2 ⟨rfl, rfl, rfl, rfl, rfl, rfl, rfl⟩
    rw [hcontrol, h11, h10, h9f]
  have h12b : s12b = s12 := by
    simp only [s12b]
    rw [tellStaged_without_image ((hasImage_of_course h12).trans himage7), ite_self]
  have h13 : s13.course = s7.course := by
    simp only [s13, course_captureCycle, course_commitStash]
    rw [h12b, h12]
  obtain ⟨hsnap13, hnumber13, -⟩ := course_eq.1 ((course_flushEvents
    ({ s13 with almanac := { almanac with events := almanac.events.map (stampLow p.number) } } : State) p.wall).trans h13)
  obtain ⟨hpnumber, hpinstant, hpmini, hpstate, hpelem, hproute, hpout⟩ := hwords
  exact ⟨p, by rw [hsnap13, hsnap7, hsnap], by rw [hnumber13, hnumber7, hnumber], hpnumber.trans hnumber, hpinstant, hpmini, hpstate, hpelem, hproute,
    hpout.trans houts⟩

/-! ## Three equal vectors -/

theorem maj3_same {n : Nat} (x : BitVec n) : maj3 x x x = x := by simp [maj3]

theorem majPayloads_same (p : List (Nat × BitVec 8192)) : majPayloads p p p = p := by
  induction p with
  | nil => rfl
  | cons x p ih => rw [majPayloads, maj3_same, ih]

/-- The majority of a vector and itself from two other lanes (R211). -/
theorem majVector_same (a : Vector) (j k : LaneId) : majVector a { a with lane := j } { a with lane := k } = a := by
  simp [majVector, majNumber, maj3_same, majPayloads_same]

theorem straddleOnly_same (a : Vector) (stray : List Nat) (l : LaneId) : straddleOnly [] stray { a with lane := l } a = true := by
  simp [straddleOnly, changedElems, sameRest, diffGroups]

theorem medianTime_same (x : Word) : medianTime x x x = x := by simp [medianTime, timeDiff, median3]

/-- No fault in a lane whose vector and time are those of the others. -/
theorem voteFault_same (a : Vector) (j k l : LaneId) :
    voteFault true a.laneTime { a with lane := j } { a with lane := k } { a with lane := l } = none := by
  simp [voteFault, armOdd, timeOff, timeDiff]

/-- Equal vectors in full operation commit the vector, and exclude nobody. -/
theorem decideThree_same (prev : Snapshot) (strays : LaneId → List Nat) (i j k : LaneId) (a : Vector) :
    decideThree [] prev strays i j k a { a with lane := j } { a with lane := k } = .commit a [] false := by
  have hself : a = { a with lane := a.lane } := rfl
  have hok : straddleOnly [] (strays i) a a = true := straddleOnly_same a (strays i) a.lane
  unfold decideThree
  simp only [majVector_same, medianTime_same, straddleOnly_same, hok]
  rw [show voteFault true a.laneTime a { a with lane := j } { a with lane := k } = none from voteFault_same a a.lane j k,
    show voteFault true a.laneTime { a with lane := j } a { a with lane := k } = none from voteFault_same a j a.lane k,
    show voteFault true a.laneTime { a with lane := k } a { a with lane := j } = none from voteFault_same a k a.lane j]
  simp [countsStraddle]

/-! ## The lane that commits -/

/-- What a lane's own vector and the two equal ones make of its vote in full operation. -/
theorem ballot_agreed {s : State} {i j k : LaneId} {a : Vector} (hothers : i.others = [j, k]) (himage : s.hasImage = false)
    (hvoting : ∀ l, (s.lane l).mode = .voting ∧ (s.lane l).expel = none) (hown : (s.lane i).vote.own = some a)
    (hj : (s.lane i).vote.rx.get j = .vector { a with lane := j }) (hk : (s.lane i).vote.rx.get k = .vector { a with lane := k })
    (hfull : (if s.joins i then s.control.voted else s.control.degradation) = .full)
    (hrow : (if s.joins i then s.control.votedDue else s.control.nadirDue) = none) : s.ballot i = .commit a [] false := by
  have hheard : ∀ l, s.heard i l = (s.lane i).vote.rx.get l := by
    intro l
    unfold State.heard
    rw [(hvoting l).1, (hvoting l).2]
  unfold State.ballot
  simp only [himage, hfull, hrow, hothers, hown, hheard, hj, hk, (hvoting i).2, decideFull]
  rw [if_neg (by decide), if_neg (by decide)]
  exact decideThree_same _ _ i j k a

theorem settleVote_commit {s : State} {i : LaneId} {v : Vector} (howes : (s.lane i).vote.owesIsolation = false)
    (h : s.ballot i = .commit v [] false) : s.settleVote i = s.commitLane i v [] none false := by
  unfold State.settleVote
  rw [howes, h]
  rfl

/-- A voting lane that holds the vectors of both others settles its vote. -/
theorem voteCommit_settles {s : State} {i j k : LaneId} {x y : Vector} (hothers : i.others = [j, k]) (hrun : s.control.phase = .running)
    (hmode : (s.lane i).mode = .voting) (hopen : (s.lane i).vote.decided = false) (hmini : (s.lane i).vote.miniOwn = .nothing)
    (hj : (s.lane i).vote.rx.get j = .vector x) (hk : (s.lane i).vote.rx.get k = .vector y) : s.voteCommit i = s.settleVote i := by
  have hdeciding : s.deciding i = true := by simp [State.deciding, Lane.toDecide, hrun, hmode, hopen, hmini]
  have hholds : s.holdsAll i = true := by
    refine List.all_eq_true.2 (fun l hl => ?_)
    have hmem : l ∈ [j, k] := hothers ▸ (List.mem_filter.1 hl).1
    rcases List.mem_pair.1 hmem with rfl | rfl
    · simp [hj]
    · simp [hk]
  exact if_pos (by rw [hdeciding, hholds]; rfl)

/-- The first lane of a vote commits first, and then the vote is its own. -/
theorem commitLane_first {s : State} {i : LaneId} (v : Vector) (h : s.lastCycle.instant ≠ (s.lane i).vote.instant ∨ s.snapshots = []) :
    (s.commitLane i v [] none false).course =
      (({ s with control := { s.control with voted := s.control.degradation, votedDue := s.control.nadirDue } } : State).firstCommit i v [] none).course := by
  unfold State.commitLane
  extract_lets n control s1
  have h1 : s1 = ({ s with control := { s.control with voted := s.control.degradation, votedDue := s.control.nadirDue } } : State).firstCommit i v [] none :=
    if_neg (fun hs => h.elim (fun hne => hne hs.1) hs.2)
  rw [← h1]
  split
  · exact course_laneCommit s1 i false
  · rfl

/-- A later lane of the vote commits the snapshot that stands. -/
theorem commitLane_later {s : State} {i : LaneId} (v : Vector) (ht : s.lastCycle.instant = (s.lane i).vote.instant) (hsnap : s.snapshots ≠ [])
    (hmode : (s.lane i).mode = .voting) : s.commitLane i v [] none false = s.laneCommit i false := by
  unfold State.commitLane
  extract_lets n control s1
  have h1 : s1 = s := (if_pos ⟨ht, hsnap⟩).trans (if_pos rfl)
  rw [h1, if_pos hmode]

/-- What a commit of the snapshot that stands makes of its lane, where no image executes. -/
theorem laneCommit_lane {s : State} {i : LaneId} (hexec : s.control.executing = false) :
    let l := (s.laneCommit i false).lane i
    l.vote.decided = true ∧ l.vote.committed = true ∧ l.lastNumber = s.lastCycle.number ∧ l.lastCommit = s.now ∧
      l.vote.sent = some ((s.lane i).verdict i (s.lane i).vote.rx true s.lastCycle.number) ∧ l.elements = s.lastCycle.safeOut &&& ~~~s.safeIo.pulse i := by
  have hlane : (s.laneCommit i false).lane i = (s.lane i).commit i s s.lastCycle false :=
    modLane_lane_same s i (fun l => l.commit i s s.lastCycle false)
  simp only [hlane, Lane.commit]
  rw [hexec]
  exact ⟨rfl, rfl, rfl, rfl, rfl, rfl⟩

theorem laneCommit_other {s : State} {i l : LaneId} (h : l ≠ i) : (s.laneCommit i false).lane l = s.lane l :=
  modLane_lane_other s (fun x => x.commit i s s.lastCycle false) h

/-- Settles O24: three equal vectors are the ballot of the commit of that vector; the lane that settles the vote first adds the snapshot, and one that
joins it takes the snapshot over. -/
theorem agreedVoteCommitsOneSnapshot : Obligations.AgreedVoteCommitsOneSnapshot := by
  unfold Obligations.AgreedVoteCommitsOneSnapshot
  intro t i j k a s hothers hrun hfull hdue himage hswitch hvoting howes hopen hmini hown hj hk
  have hexec : exec (.voteCommit t i) s = run t (fun u => u.voteCommit i) s := rfl
  have hsettle : (s.tick t).voteCommit i = (s.tick t).settleVote i :=
    voteCommit_settles (s := s.tick t) hothers hrun (hvoting i).1 hopen hmini hj hk
  rw [hexec, run_eq]
  simp only [hsettle]
  refine ⟨fun hfirst hcp hpower hmode => ?_, fun ht hsnap hidle hvoted hvotedDue => ?_⟩
  · have hjoins : (s.tick t).joins i = false := by
      have h : s.joins i = false := by
        rcases hfirst with h | h
        · simp [State.joins, h]
        · simp [State.joins, h]
      exact h
    have hballot : (s.tick t).ballot i = .commit a [] false :=
      ballot_agreed (s := s.tick t) hothers himage hvoting hown hj hk (by rw [hjoins]; exact hfull) (by rw [hjoins]; exact hdue)
    let w : State := { s.tick t with control := { s.control with voted := s.control.degradation, votedDue := s.control.nadirDue } }
    obtain ⟨p, hsnaps, hnumber, hp⟩ := firstCommit_adds (s := w) (i := i) a himage hpower hmode hswitch hcp
    have hcourse : ((s.tick t).settleVote i).course = (w.firstCommit i a [] none).course := by
      rw [settleVote_commit (s := s.tick t) howes hballot]
      exact commitLane_first (s := s.tick t) a hfirst
    obtain ⟨hsnaps', hnumber', -⟩ := course_eq.1 hcourse
    exact ⟨_, p, rfl, hsnaps'.trans hsnaps, hnumber'.trans hnumber, hp⟩
  · have hjoins : (s.tick t).joins i = true := by
      have h : s.joins i = true := by simp [State.joins, ht, hsnap]
      exact h
    have hballot : (s.tick t).ballot i = .commit a [] false :=
      ballot_agreed (s := s.tick t) hothers himage hvoting hown hj hk (by rw [hjoins]; exact hvoted) (by rw [hjoins]; exact hvotedDue)
    have heq : (s.tick t).settleVote i = (s.tick t).laneCommit i false := by
      rw [settleVote_commit (s := s.tick t) howes hballot]
      exact commitLane_later (s := s.tick t) a ht hsnap (hvoting i).1
    obtain ⟨hdecided, hcommitted, hlast, hwhen, hsent, helements⟩ := laneCommit_lane (s := s.tick t) (i := i) hidle
    rw [heq]
    exact ⟨_, rfl, rfl, rfl, hdecided, hcommitted, hlast, hwhen, ⟨_, hsent, rfl, rfl⟩, helements, fun l hl => laneCommit_other hl, rfl⟩

end Sys2Proof.Machine
end

section
/-! # The planned start (R18, R141, R209, R229)

What the steps before the new vote leave of the lanes, and what a lane begins the vote with; then `PlannedStartBeginsAVoteInEveryLane`. -/

namespace Sys2Proof.Machine

/-! ## The footing of a planned start -/

/-- What the steps before the new vote keep, but for lanes that isolate: the snapshots and the number of the next, the exchange RAM and the phase,
and each lane's time base, last number and mode. -/
def State.footing (s : State) : List Snapshot × Nat × Xram × Phase × (LaneId → Int × Nat × LaneMode) :=
  (s.snapshots, s.nextNumber, s.xram, s.control.phase, fun i => ((s.lane i).offset, (s.lane i).lastNumber, (s.lane i).mode))

/-- `u` stands where `s` did, with no lane more in the vote. -/
structure Thins (s u : State) : Prop where
  snapshots : u.snapshots = s.snapshots
  nextNumber : u.nextNumber = s.nextNumber
  xram : u.xram = s.xram
  phase : u.control.phase = s.control.phase
  offset : ∀ i, (u.lane i).offset = (s.lane i).offset
  lastNumber : ∀ i, (u.lane i).lastNumber = (s.lane i).lastNumber
  voting : ∀ i, (u.lane i).mode = .voting → (s.lane i).mode = .voting

theorem Thins.refl (s : State) : Thins s s := ⟨rfl, rfl, rfl, rfl, fun _ => rfl, fun _ => rfl, fun _ h => h⟩

theorem Thins.trans {s u v : State} (h : Thins s u) (h' : Thins u v) : Thins s v :=
  ⟨h'.snapshots.trans h.snapshots, h'.nextNumber.trans h.nextNumber, h'.xram.trans h.xram, h'.phase.trans h.phase,
    fun i => (h'.offset i).trans (h.offset i), fun i => (h'.lastNumber i).trans (h.lastNumber i), fun i hi => h.voting i (h'.voting i hi)⟩

theorem footing_lane {s u : State} (h : u.footing = s.footing) (i : LaneId) :
    (u.lane i).offset = (s.lane i).offset ∧ (u.lane i).lastNumber = (s.lane i).lastNumber ∧ (u.lane i).mode = (s.lane i).mode := by
  simp only [State.footing, Prod.mk.injEq] at h
  obtain ⟨-, -, -, -, hlanes⟩ := h
  simpa only [Prod.mk.injEq] using congrFun hlanes i

theorem thins_of_footing {s u : State} (h : u.footing = s.footing) : Thins s u := by
  have hlane := footing_lane h
  simp only [State.footing, Prod.mk.injEq] at h
  obtain ⟨hsnap, hnumber, hxram, hphase, -⟩ := h
  exact ⟨hsnap, hnumber, hxram, hphase, fun i => (hlane i).1, fun i => (hlane i).2.1, fun i hi => (hlane i).2.2.symm.trans hi⟩

theorem footing_foldl {α : Type} (f : State → α → State) (hf : ∀ s x, (f s x).footing = s.footing) (l : List α) (s : State) :
    (l.foldl f s).footing = s.footing := by
  induction l generalizing s with
  | nil => rfl
  | cons x l ih => exact (ih (f s x)).trans (hf s x)

theorem footing_modLane {f : Lane → Lane} (hf : ∀ l, (f l).offset = l.offset ∧ (f l).lastNumber = l.lastNumber ∧ (f l).mode = l.mode)
    (s : State) (i : LaneId) : (s.modLane i f).footing = s.footing := by
  have hlanes : ∀ j, (((s.modLane i f).lane j).offset, ((s.modLane i f).lane j).lastNumber, ((s.modLane i f).lane j).mode) =
      ((s.lane j).offset, (s.lane j).lastNumber, (s.lane j).mode) := by
    intro j
    by_cases hj : j = i
    · subst hj
      rw [modLane_lane_same]
      obtain ⟨ho, hn, hm⟩ := hf (s.lane j)
      rw [ho, hn, hm]
    · rw [modLane_lane_other s f hj]
  simp only [State.footing, hlanes]
  rfl

theorem footing_mapI {f : LaneId → Lane → Lane} (hf : ∀ i l, (f i l).offset = l.offset ∧ (f i l).lastNumber = l.lastNumber ∧ (f i l).mode = l.mode)
    (s : State) : ({ s with lanes := s.lanes.mapI f } : State).footing = s.footing := by
  have hlanes : ∀ j, ((f j (s.lane j)).offset, (f j (s.lane j)).lastNumber, (f j (s.lane j)).mode) =
      ((s.lane j).offset, (s.lane j).lastNumber, (s.lane j).mode) := by
    intro j
    obtain ⟨ho, hn, hm⟩ := hf j (s.lane j)
    rw [ho, hn, hm]
  have hget : ∀ j, ({ s with lanes := s.lanes.mapI f } : State).lane j = f j (s.lane j) := Lanes.get_mapI s.lanes f
  simp only [State.footing, hget, hlanes]

theorem footing_event (s : State) (code : Nat) (o : Origin) (l : List (Nat × Nat × Nat)) : (s.event code o l).footing = s.footing := rfl

theorem footing_laneEvent (s : State) (i : LaneId) (code : Nat) (l : List (Nat × Nat × Nat)) : (s.laneEvent i code l).footing = s.footing := by
  refine footing_modLane (fun x => ?_) s i
  obtain ⟨Q, n, b, h⟩ := enqueue_keeps x (queuedOf code (i.index + 1) (s.laneWall i) Origin.internal [payloadFields l])
  rw [h]
  exact ⟨rfl, rfl, rfl⟩

/-! ## The votes that are still open -/

theorem misses_keeps (js : List LaneId) (l : Lane) : ∃ M C, l.misses js = { l with
    vote := { l.vote with missed := M }
    counters := C } := by
  unfold Lane.misses
  induction js generalizing l with
  | nil => exact ⟨l.vote.missed, l.counters, rfl⟩
  | cons j js ih =>
    obtain ⟨M, C, h⟩ := ih { l with
      vote := { l.vote with missed := l.vote.missed.put j true }
      counters := { l.counters with missing := l.counters.missing.put j (inc (l.counters.missing.get j)) } }
    exact ⟨M, C, h⟩

theorem footing_countMissing (s : State) (i : LaneId) : (s.countMissing i).footing = s.footing := by
  refine footing_modLane (fun l => ?_) s i
  obtain ⟨M, C, h⟩ := misses_keeps ((s.awaited i).filter (fun j => l.vote.rx.get j == .nothing)) l
  rw [h]
  exact ⟨rfl, rfl, rfl⟩

theorem footing_ownIsolation (s : State) (i : LaneId) (missing : Bool) : (s.ownIsolation i missing).footing = s.footing := by
  unfold State.ownIsolation
  refine (footing_modLane ?_ _ i).trans (footing_laneEvent s i _ _)
  exact fun _ => ⟨rfl, rfl, rfl⟩

/-- Every voting lane has decided its vote. -/
def State.allDecided (s : State) : Prop := ∀ i, (s.lane i).mode = .voting → (s.lane i).vote.decided = true

theorem ownIsolation_allDecided {s : State} (h : s.allDecided) (i : LaneId) (missing : Bool) : (s.ownIsolation i missing).allDecided := by
  intro j hj
  by_cases hji : j = i
  · subst hji
    unfold State.ownIsolation
    rw [modLane_lane_same]
  · have hlane : (s.ownIsolation i missing).lane j = s.lane j := by
      unfold State.ownIsolation State.laneEvent
      rw [modLane_lane_other _ _ hji, modLane_lane_other _ _ hji]
    rw [hlane] at hj ⊢
    exact h j hj

theorem countMissing_allDecided {s : State} (h : s.allDecided) (i : LaneId) : (s.countMissing i).allDecided := by
  intro j hj
  have hlane : ((s.countMissing i).lane j).vote.decided = (s.lane j).vote.decided := by
    by_cases hji : j = i
    · subst hji
      obtain ⟨M, C, hm⟩ := misses_keeps ((s.awaited j).filter (fun k => (s.lane j).vote.rx.get k == .nothing)) (s.lane j)
      unfold State.countMissing
      rw [modLane_lane_same, hm]
    · unfold State.countMissing
      rw [modLane_lane_other _ _ hji]
  rw [hlane]
  exact h j ((footing_lane (footing_countMissing s i) j).2.2.symm.trans hj)

/-- A lane that has a vote to decide, though every voting lane has decided, owes its isolation (R231). -/
theorem owes_of_toDecide {s : State} (h : s.allDecided) {i : LaneId} (hi : (s.lane i).toDecide = true) : (s.lane i).vote.owesIsolation = true := by
  unfold Lane.toDecide at hi
  rw [Bool.and_eq_true, Bool.or_eq_true] at hi
  obtain ⟨hopen, hvoting | howes⟩ := hi
  · rw [h i (by simpa using hvoting)] at hopen
    cases hopen
  · exact howes

theorem settleVote_owes {s : State} {i : LaneId} (h : (s.lane i).vote.owesIsolation = true) :
    s.settleVote i = s.ownIsolation i (allLanes.any (fun j => (s.lane i).vote.missed.get j)) := by
  unfold State.settleVote
  rw [if_pos h]

/-- With every voting lane decided, the votes that end at the planned start are isolations that lanes owe. -/
theorem footing_finishVotes {s : State} (h : s.allDecided) : s.finishVotes.footing = s.footing := by
  unfold State.finishVotes
  generalize allLanes = l
  induction l generalizing s with
  | nil => rfl
  | cons i l ih =>
    rw [List.foldl_cons]
    split
    · next hi =>
      have howes : ((s.countMissing i).lane i).vote.owesIsolation = true := by
        obtain ⟨M, C, hm⟩ := misses_keeps ((s.awaited i).filter (fun k => (s.lane i).vote.rx.get k == .nothing)) (s.lane i)
        unfold State.countMissing
        rw [modLane_lane_same, hm]
        exact owes_of_toDecide h hi
      rw [settleVote_owes howes, ih (ownIsolation_allDecided (countMissing_allDecided h i) i _), footing_ownIsolation, footing_countMissing]
    · split
      · rw [ih (ownIsolation_allDecided h i false), footing_ownIsolation]
      · exact ih h

theorem footing_txHold (s : State) (i : LaneId) (port stream : Nat) : (s.txHold i port stream).footing = s.footing :=
  footing_modLane (f := fun l => { l with counters := { l.counters with txHold := inc l.counters.txHold } }) (fun _ => ⟨rfl, rfl, rfl⟩) s i

theorem footing_expireReplies (s : State) : s.expireReplies.footing = s.footing := by
  unfold State.expireReplies
  refine footing_foldl _ (fun s r => ?_) _ s
  have hdrop : ({ s.dropTx true r.session with host := { s.host with replies := dropFirst s.host.replies (fun q => q.session == r.session) } } : State).footing =
        s.footing := footing_mapI (f := fun _ l => { l with inputs := { l.inputs with txPending := dropFirst l.inputs.txPending (fun x => x.is true r.session) } })
      (fun _ _ => ⟨rfl, rfl, rfl⟩) s
  simp only []
  split
  · exact (footing_txHold _ _ _ _).trans hdrop
  · exact hdrop

/-! ## The steps before the vote -/

theorem footing_supplyTest (s : State) (x : SupplySense) : (s.supplyTest x).footing = s.footing := by
  unfold State.supplyTest
  split
  · rfl
  · split
    · refine footing_mapI (f := fun _ (l : Lane) => if l.mode = LaneMode.voting ∧ l.holds = true then { l with supplyClosed := true } else l)
        (fun _ l => ?_) s
      split <;> exact ⟨rfl, rfl, rfl⟩
    · rfl

theorem thins_modLane {f : Lane → Lane}
    (hf : ∀ l, (f l).offset = l.offset ∧ (f l).lastNumber = l.lastNumber ∧ ((f l).mode = .voting → l.mode = .voting)) (s : State) (i : LaneId) :
    Thins s (s.modLane i f) := by
  have hlane : ∀ j, ((s.modLane i f).lane j).offset = (s.lane j).offset ∧ ((s.modLane i f).lane j).lastNumber = (s.lane j).lastNumber ∧
      (((s.modLane i f).lane j).mode = .voting → (s.lane j).mode = .voting) := by
    intro j
    rw [modLane_lane]
    split
    · exact hf (s.lane j)
    · exact ⟨rfl, rfl, id⟩
  exact ⟨rfl, rfl, rfl, rfl, fun j => (hlane j).1, fun j => (hlane j).2.1, fun j => (hlane j).2.2⟩

theorem thins_isolate (s : State) (i : LaneId) (missing : Bool) : Thins s (s.isolate i missing) := by
  unfold State.isolate
  simp only []
  split
  · refine (thins_of_footing (footing_laneEvent s i _ _)).trans (thins_modLane ?_ _ i)
    exact fun _ => ⟨rfl, rfl, fun h => LaneMode.noConfusion h⟩
  · exact Thins.refl s

theorem thins_oddLane (s : State) (i : LaneId) (c : Cause) : Thins s (s.oddLane i c) := by
  have h : (s.modLane i (fun l => { l with localFault := some c, expel := some c })).footing = s.footing :=
    footing_modLane (f := fun l => { l with localFault := some c, expel := some c }) (fun _ => ⟨rfl, rfl, rfl⟩) s i
  exact (thins_of_footing h).trans (thins_isolate _ i false)

theorem thins_intakeCrcs (s : State) : Thins s s.intakeCrcs := by
  unfold State.intakeCrcs
  simp only []
  split
  · split
    · split
      · exact Thins.refl s
      · exact thins_oddLane s _ _
    · split
      · exact thins_oddLane s _ _
      · split
        · exact thins_oddLane s _ _
        · exact thins_of_footing rfl
  · split
    · exact thins_of_footing rfl
    · exact Thins.refl s
  · exact Thins.refl s

theorem footing_applyLinkRule (s : State) : s.applyLinkRule.footing = s.footing := by
  unfold State.applyLinkRule
  split
  · refine footing_foldl _ (fun u i => footing_modLane ?_ u i) s.linkRule s
    exact fun _ => ⟨rfl, rfl, rfl⟩
  · rfl

theorem thins_verdictsLack (s : State) : Thins s s.verdictsLack := by
  unfold State.verdictsLack
  split
  · simp only []
    split
    · next j _ _ _ =>
      have h := footing_modLane (f := fun l => { l with expel := some (l.expel.getD l.linkCause) }) (fun _ => ⟨rfl, rfl, rfl⟩) s j
      exact (thins_of_footing h).trans (thins_isolate _ j true)
    · exact Thins.refl s
  · exact Thins.refl s

theorem footing_countStep (s : State) : s.countStep.footing = s.footing := by
  unfold State.countStep
  simp only []
  split <;> rfl

/-- The steps from the test of the supply to the count of a step. -/
theorem thins_before_plan (s : State) (x : SupplySense) :
    Thins s (((if (s.supplyTest x).t1Started then (s.supplyTest x).intakeCrcs else s.supplyTest x).applyLinkRule).verdictsLack).countStep := by
  have h1 : Thins s (s.supplyTest x) := thins_of_footing (footing_supplyTest s x)
  have h2 : Thins s (if (s.supplyTest x).t1Started then (s.supplyTest x).intakeCrcs else s.supplyTest x) := by
    split
    · exact h1.trans (thins_intakeCrcs _)
    · exact h1
  exact ((h2.trans (thins_of_footing (footing_applyLinkRule _))).trans (thins_verdictsLack _)).trans (thins_of_footing (footing_countStep _))

/-! ## What a lane begins the vote with -/

/-- The plan of a lane: its time base, number and mode stay, and its own vector stands in the new vote unless it has a fault, which then has a notice. -/
theorem plan_begins (l : Lane) (s : State) (i : LaneId) (t : Nat) :
    (l.plan s i t).offset = l.offset ∧ (l.plan s i t).lastNumber = l.lastNumber ∧ (l.plan s i t).mode = l.mode ∧
      (l.plan s i t).vote.instant = t ∧ (l.plan s i t).vote.decided = false ∧
      ((l.plan s i t).vote.own = none ↔ (l.plan s i t).localFault ≠ none) ∧
      (l.plan s i t).vote.notice.map (fun n => n.cause) = (l.plan s i t).localFault.map some ∧
      ∀ v, (l.plan s i t).vote.own = some v →
        v.number = l.lastNumber + 1 ∧ v.laneTime = laneWord (Int.ofNat t + l.offset) ∧ v.lane = i ∧ v.mini = false := by
  unfold Lane.plan
  extract_lets m image late program prog streams dropped bad t1Ended inputs counters l1 a vector v sends
  have hown : (if sends then some v else none) = none ↔ l1.localFault ≠ none := by
    cases hf : l1.localFault <;> simp [sends, hf]
  have hnotice : (l1.noticeWord i).map (fun n => n.cause) = l1.localFault.map some := by
    unfold Lane.noticeWord
    rw [Option.map_map]
    rfl
  have hvector : v.number = l.lastNumber + 1 ∧ v.laneTime = laneWord (Int.ofNat t + l.offset) ∧ v.lane = i ∧ v.mini = false := by
    simp only [v, vector, a]
    split <;> exact ⟨rfl, rfl, rfl, rfl⟩
  refine ⟨rfl, rfl, rfl, rfl, rfl, hown, hnotice, fun w hw => ?_⟩
  have hw' : (if sends then some v else none) = some w := hw
  split at hw'
  · rw [← Option.some.inj hw']
    exact hvector
  · cases hw'

/-! ## The lane in SHADOW -/

/-- The comparison of lanes in SHADOW leaves every voting lane as it is and brings none into the vote. -/
structure Compares (s u : State) : Prop extends Thins s u where
  same : ∀ i, (u.lane i).mode = .voting → u.lane i = s.lane i

theorem Compares.refl (s : State) : Compares s s := ⟨Thins.refl s, fun _ _ => rfl⟩

theorem Compares.trans {s u v : State} (h : Compares s u) (h' : Compares u v) : Compares s v :=
  ⟨h.toThins.trans h'.toThins, fun i hi => (h'.same i hi).trans (h.same i (h'.voting i hi))⟩

theorem compares_shadowFails (s : State) (i : LaneId) (c : Cause) : Compares s (s.shadowFails i c) := by
  have hthins : Thins s (s.shadowFails i c) := by
    unfold State.shadowFails
    refine (thins_modLane ?_ s i).trans (thins_of_footing (footing_event _ _ _ _))
    exact fun _ => ⟨rfl, rfl, fun h => LaneMode.noConfusion h⟩
  refine ⟨hthins, fun j hj => ?_⟩
  by_cases hji : j = i
  · subst hji
    have hmode : ((s.shadowFails j c).lane j).mode = .excluded := by
      unfold State.shadowFails
      rw [event_lane, modLane_lane_same]
    rw [hmode] at hj
    cases hj
  · unfold State.shadowFails
    rw [event_lane, modLane_lane_other _ _ hji]

theorem compares_compareShadow (s : State) (t : Nat) : Compares s (s.compareShadow t) := by
  unfold State.compareShadow
  generalize allLanes = l
  induction l generalizing s with
  | nil => exact Compares.refl s
  | cons i l ih =>
    rw [List.foldl_cons]
    refine Compares.trans ?_ (ih _)
    simp only []
    split
    · split
      · exact compares_shadowFails s i _
      · next v w _ _ _ =>
        by_cases h : straddleOnly (if s.hasImage then groups s.img else []) ((s.lane i).stray t ++ s.leadLane.stray t) v w
        · rw [if_pos h]
          exact Compares.refl s
        · rw [if_neg h]
          exact compares_shadowFails s i _
      · exact Compares.refl s
    · exact Compares.refl s

/-! ## The planned start -/

/-- The lanes of a state, each with the plan of its new vote. -/
def State.planned (s : State) (t : Nat) : State :=
  { s with lanes := s.lanes.mapI (fun i (l : Lane) => if l.mode = LaneMode.voting ∨ l.mode = LaneMode.shadow then l.plan s i t else l) }

/-- The steps between the drift and the new vote. -/
def State.readied (s : State) (x : SupplySense) : State :=
  (((if (s.supplyTest x).t1Started then (s.supplyTest x).intakeCrcs else s.supplyTest x).applyLinkRule).verdictsLack).countStep

theorem plannedStart_eq {s : State} {t : Nat} {x : SupplySense} {d : Lanes Int} (hplanned : s.isPlanned t = true)
    (hrun : s.finishVotes.expireReplies.control.phase = .running) (hvoting : s.finishVotes.expireReplies.voting ≠ []) :
    s.plannedStart t x d = (((s.finishVotes.expireReplies.drift d).readied x).planned t).compareShadow t := by
  unfold State.plannedStart
  rw [if_neg (by rw [hplanned]; exact Bool.noConfusion)]
  exact if_neg (fun h => h.elim (fun hne => hne hrun) hvoting)

theorem planned_lane (s : State) (t : Nat) (i : LaneId) : (s.planned t).lane i =
    if (s.lane i).mode = .voting ∨ (s.lane i).mode = .shadow then (s.lane i).plan s i t else s.lane i := Lanes.get_mapI s.lanes _ i

theorem thins_planned (s : State) (t : Nat) : Thins s (s.planned t) := by
  have hlane : ∀ i, ((s.planned t).lane i).offset = (s.lane i).offset ∧ ((s.planned t).lane i).lastNumber = (s.lane i).lastNumber ∧
      ((s.planned t).lane i).mode = (s.lane i).mode := by
    intro i
    rw [planned_lane]
    split
    · obtain ⟨hoffset, hnumber, hmode, -⟩ := plan_begins (s.lane i) s i t
      exact ⟨hoffset, hnumber, hmode⟩
    · exact ⟨rfl, rfl, rfl⟩
  exact ⟨rfl, rfl, rfl, rfl, fun i => (hlane i).1, fun i => (hlane i).2.1, fun i hi => (hlane i).2.2.symm.trans hi⟩

/-- The offsets drift and are then taken from the median of the voting lanes (R18). -/
theorem drift_lane (s : State) (d : Lanes Int) : ∃ m : Int, (∀ i, ((s.drift d).lane i) = { s.lane i with offset := (s.lane i).offset + d.get i - m }) ∧
    ∀ i, s.voting = [i] → ((s.drift d).lane i).offset = 0 := by
  let w : State := { s with lanes := s.lanes.mapI (fun i (l : Lane) => { l with offset := l.offset + d.get i }) }
  have hw : ∀ i, w.lane i = { s.lane i with offset := (s.lane i).offset + d.get i } := Lanes.get_mapI s.lanes _
  have hdrift : ∀ i, (s.drift d).lane i = { w.lane i with offset := (w.lane i).offset - w.medianOffset } := Lanes.get_mapI w.lanes _
  refine ⟨w.medianOffset, fun i => by rw [hdrift, hw], fun i hi => ?_⟩
  have hvoting : w.voting = [i] := by
    rw [← hi]
    unfold State.voting
    simp only [hw]
  have hmedian : w.medianOffset = (w.lane i).offset := by
    unfold State.medianOffset
    rw [hvoting]
    rfl
  rw [hdrift, hmedian]
  exact Int.sub_self _

theorem isPlanned_of {s : State} {t : Nat} (hrun : s.control.phase = .running) (hvoting : s.voting ≠ []) (ht : t % s.period = 0)
    (h : ∀ i, (s.lane i).mode = .voting → (s.lane i).vote.instant < t) : s.isPlanned t = true := by
  have hall : s.voting.all (fun i => decide ((s.lane i).vote.instant < t)) = true :=
    List.all_eq_true.2 (fun i hi => decide_eq_true (h i (by simpa using (List.mem_filter.1 hi).2)))
  simp [State.isPlanned, hrun, ht, hall, hvoting]

/-- Settles O21: the votes that end leave every lane in place, the offsets drift against their median, the steps before the vote only take lanes out of it,
and each lane that still votes has the vote of its plan. -/
theorem plannedStartBeginsAVoteInEveryLane : Obligations.PlannedStartBeginsAVoteInEveryLane := by
  unfold Obligations.PlannedStartBeginsAVoteInEveryLane
  intro t x s hnow hrun hvoting ht hlanes
  have htick : max s.now t = t := max_eq_right hnow
  have hexec : exec (.plannedStart t x) s = run t (fun u => u.plannedStart t x.supply x.drift) s := rfl
  let v := (s.tick t).finishVotes.expireReplies
  have hfooting : v.footing = s.footing :=
    (footing_expireReplies _).trans (footing_finishVotes (s := s.tick t) (fun i hi => (hlanes i hi).2))
  have hthins := thins_of_footing hfooting
  have hvoters : v.voting = s.voting := by
    unfold State.voting
    simp only [(footing_lane hfooting _).2.2]
  have heq : (s.tick t).plannedStart t x.supply x.drift = (((v.drift x.drift).readied x.supply).planned t).compareShadow t :=
    plannedStart_eq (isPlanned_of (s := s.tick t) hrun hvoting ht (fun i hi => (hlanes i hi).1)) (hthins.phase.trans hrun) (by rw [hvoters]; exact hvoting)
  rw [hexec, run_eq]
  simp only [heq]
  clear_value v
  obtain ⟨m, hdrift, hsingle⟩ := drift_lane v x.drift
  have hready : Thins (v.drift x.drift) ((v.drift x.drift).readied x.supply) := thins_before_plan _ _
  generalize hr : (v.drift x.drift).readied x.supply = r at hready ⊢
  have hcompares := compares_compareShadow (r.planned t) t
  have hwhole : Thins (v.drift x.drift) ((r.planned t).compareShadow t) := (hready.trans (thins_planned r t)).trans hcompares.toThins
  have hvoted : ∀ i, (((r.planned t).compareShadow t).lane i).mode = .voting →
      (r.lane i).mode = .voting ∧ ((r.planned t).compareShadow t).lane i = (r.lane i).plan r i t := by
    intro i hi
    have hmode := (thins_planned r t).voting i (hcompares.voting i hi)
    exact ⟨hmode, (hcompares.same i hi).trans ((planned_lane r t i).trans (if_pos (Or.inl hmode)))⟩
  generalize (r.planned t).compareShadow t = w at hwhole hvoted ⊢
  refine ⟨_, rfl, htick, hwhole.snapshots.trans hthins.snapshots, hwhole.nextNumber.trans hthins.nextNumber, hwhole.xram.trans hthins.xram,
    ⟨m, fun i => ?_, fun i hi => ?_⟩, fun i hi => ?_⟩
  · rw [close_lane, hwhole.offset, hdrift, hthins.offset]
  · rw [close_lane, hwhole.offset, hsingle i (hvoters.trans hi)]
  · rw [close_lane] at hi ⊢
    obtain ⟨hmode, hplan⟩ := hvoted i hi
    obtain ⟨hoffset, -, -, hinstant, hdecided, hown, hnotice, hvector⟩ := plan_begins (r.lane i) r i t
    have hnumber : (r.lane i).lastNumber = (s.lane i).lastNumber := by rw [hready.lastNumber, hdrift, hthins.lastNumber]
    have hstarted : (s.lane i).mode = .voting := hthins.voting i (by simpa only [hdrift] using hready.voting i hmode)
    rw [hplan]
    refine ⟨hstarted, hinstant, hdecided, hown, hnotice, fun y hy => ?_⟩
    rw [hoffset, ← hnumber]
    exact hvector y hy

end Sys2Proof.Machine
end

section
/-! # Ports and received payloads (R275, R283, R315, R610)

The port that has counted, the telegram that the check units reject, and the payload that fills a stream's buffer: what each leaves alone. -/

namespace Sys2Proof.Machine

/-! ## Ports -/

/-- A port that has been put stands under its number. -/
theorem find_putPort (l : List Port) (p : Port) : (putPort l p).find? (fun q => q.number == p.number) = some p := by
  induction l with
  | nil => simp [putPort]
  | cons q l ih =>
    unfold putPort
    split
    · simp
    · split
      · simp
      · next hne =>
        rw [List.find?_cons_of_neg (by simpa using Ne.symm hne)]
        exact ih

theorem port_number (s : State) (n : Nat) : (s.port n).number = n := by
  unfold State.port
  cases h : s.ndezo.ports.find? (fun p => p.number == n) with
  | none => rfl
  | some p => simpa using List.find?_some h

theorem modPort_port (s : State) (n : Nat) {f : Port → Port} (hf : (f (s.port n)).number = n) : (s.modPort n f).port n = f (s.port n) := by
  have h := find_putPort s.ndezo.ports (f (s.port n))
  rw [hf] at h
  exact congrArg (fun x => Option.getD x (Port.fresh n)) h

/-- A count on a port counts there. -/
theorem countPort_counters (s : State) (n : Nat) (f : PortCounters → PortCounters) : ((s.countPort n f).port n).counters = f (s.port n).counters := by
  unfold State.countPort
  rw [modPort_port s n (port_number s n)]

theorem port_of_ndezo {s u : State} (h : u.ndezo = s.ndezo) (n : Nat) : u.port n = s.port n := by
  unfold State.port
  rw [h]

/-! ## The reception -/

/-- What the judgement of a telegram and the intake of a payload leave alone: the host interface, the snapshots and the ports, and each lane's
mode, time base and streams. -/
def State.reception (s : State) : HostSide × List Snapshot × Ndezo × (LaneId → LaneMode × Int × List RxStream) :=
  (s.host, s.snapshots, s.ndezo, fun i => ((s.lane i).mode, (s.lane i).offset, (s.lane i).inputs.streams))

theorem reception_eq {s u : State} (h : u.reception = s.reception) : u.host = s.host ∧ u.snapshots = s.snapshots ∧ u.ndezo = s.ndezo ∧
    ∀ i, (u.lane i).mode = (s.lane i).mode ∧ (u.lane i).offset = (s.lane i).offset ∧ (u.lane i).inputs.streams = (s.lane i).inputs.streams := by
  simp only [State.reception, Prod.mk.injEq] at h
  obtain ⟨hhost, hsnap, hndezo, hlanes⟩ := h
  exact ⟨hhost, hsnap, hndezo, fun i => by simpa only [Prod.mk.injEq] using congrFun hlanes i⟩

theorem reception_foldl {α : Type} (f : State → α → State) (hf : ∀ s x, (f s x).reception = s.reception) (l : List α) (s : State) :
    (l.foldl f s).reception = s.reception := by
  induction l generalizing s with
  | nil => rfl
  | cons x l ih => exact (ih (f s x)).trans (hf s x)

theorem reception_modLane {f : Lane → Lane} (hf : ∀ l, (f l).mode = l.mode ∧ (f l).offset = l.offset ∧ (f l).inputs.streams = l.inputs.streams)
    (s : State) (i : LaneId) : (s.modLane i f).reception = s.reception := by
  have hlanes : ∀ j, (((s.modLane i f).lane j).mode, ((s.modLane i f).lane j).offset, ((s.modLane i f).lane j).inputs.streams) =
      ((s.lane j).mode, (s.lane j).offset, (s.lane j).inputs.streams) := by
    intro j
    rw [modLane_lane]
    split
    · obtain ⟨hm, ho, hs⟩ := hf (s.lane j)
      rw [hm, ho, hs]
    · rfl
  simp only [State.reception, hlanes]
  rfl

theorem reception_event (s : State) (code : Nat) (o : Origin) (l : List (Nat × Nat × Nat)) : (s.event code o l).reception = s.reception := rfl

/-! ## A telegram that the check units reject -/

theorem judgeResults_rejects {l : List LaneId} (hl : l = [.A, .B, .C] ∨ l = [.A, .B] ∨ l = [.A, .C] ∨ l = [.B, .C]) {p q : Bool}
    (h : ¬(p = true ∧ q = true)) : (judgeResults (l.map (fun i => (i, rxFound l p q RxFault.healthy i)))).ok = false := by
  rcases hl with rfl | rfl | rfl | rfl
  all_goals
    revert p q
    decide

/-- A wrong check value in healthy check units rejects the telegram, and leaves the streams and the ports alone. -/
theorem checkTelegram_rejects (s : State) {l : List LaneId} (hl : l = [.A, .B, .C] ∨ l = [.A, .B] ∨ l = [.A, .C] ∨ l = [.B, .C])
    (hh : ∀ i ∈ l, (s.lane i).held = false) (host port unit stream : Nat) {p q : Bool} (h : ¬(p = true ∧ q = true)) :
    (s.checkTelegram l host port unit stream p q RxFault.healthy).2 = false ∧
      (s.checkTelegram l host port unit stream p q RxFault.healthy).1.reception = s.reception := by
  have ha : s.absent l RxFault.healthy = [] := by
    unfold State.absent
    split
    · rfl
    · rw [List.filter_eq_nil_iff]
      intro i hi
      simp [RxFault.healthy, silent_none (hh i hi)]
  have hf : l.filter (fun i => !s.silentLane i) = l := List.filter_eq_self.2 (fun i hi => by rw [silent_none (hh i hi)]; rfl)
  unfold State.checkTelegram
  rw [ha, hf]
  simp only []
  rw [if_neg (by rw [judgeResults_rejects hl h]; exact Bool.false_ne_true)]
  refine ⟨rfl, (reception_event _ _ _ _).trans ?_⟩
  rw [reception_foldl _ (fun u i => ?_), reception_foldl _ (fun u r => ?_)]
  · refine reception_modLane ?_ u r.1
    exact fun _ => ⟨rfl, rfl, rfl⟩
  · refine reception_modLane ?_ u i
    exact fun _ => ⟨rfl, rfl, rfl⟩

/-! ## The payload that fills a buffer -/

theorem reception_pendAll (s : State) (i : LaneId) (fs : List Force) : (s.modLane i (fun l => l.pendAll s.now fs)).reception = s.reception := by
  refine reception_modLane (fun l => ?_) s i
  obtain ⟨F, hF⟩ := pendAll_keeps l s.now fs
  rw [hF]
  exact ⟨rfl, rfl, rfl⟩

theorem reception_reevaluate (s : State) (i : LaneId) (new : List (Nat × Nat)) : (s.reevaluate i new).reception = s.reception := by
  unfold State.reevaluate
  simp only []
  split
  · rfl
  · exact reception_pendAll s i _

theorem reception_payloadIn (s : State) (i : LaneId) (id : Nat) (new : BitVec 8192) (stamp : Nat) :
    (s.payloadIn i id new stamp).reception = s.reception := by
  unfold State.payloadIn
  extract_lets m x old ch s1 s2 mapped seen
  have h1 : s1.reception = s.reception := by
    refine reception_modLane (fun l => ?_) s i
    obtain ⟨F, hF⟩ := pendAll_keeps ({ l with inputs := { l.inputs with
      elemStamp := ch.foldl (fun (a : List (Nat × Nat)) (e : Nat × Nat) => assocSet a e.1 stamp) l.inputs.elemStamp } }) s.now (remoteDrops m id old new)
    rw [hF]
    exact ⟨rfl, rfl, rfl⟩
  have h2 : s2.reception = s.reception := (reception_reevaluate s1 i ch).trans h1
  clear_value s2
  split
  · exact h2
  · exact h2

/-- The voting lanes in order, the lanes in SHADOW after the first. -/
theorem followers_voting {s : State} {a : LaneId} {rest : List LaneId} (h : s.voting = a :: rest) :
    s.voting.flatMap s.followers = a :: (allLanes.filter (fun j => (s.lane j).mode == .shadow) ++ rest) := by
  have hlowest : s.lowest = some a := by
    unfold State.lowest
    rw [h]
    rfl
  have hnodup : (a :: rest).Nodup := h ▸ List.Nodup.filter _ (by decide)
  have hrest : ∀ j ∈ rest, s.followers j = [j] := by
    intro j hj
    unfold State.followers
    rw [if_neg]
    intro hlow
    rw [hlowest] at hlow
    exact (List.nodup_cons.1 hnodup).1 (Option.some.inj hlow ▸ hj)
  have ha : s.followers a = a :: allLanes.filter (fun j => (s.lane j).mode == .shadow) := if_pos hlowest
  rw [h, List.flatMap_cons, ha, List.flatMap_congr hrest, List.flatMap_singleton']
  rfl

theorem mem_voting {s : State} {i : LaneId} : i ∈ s.voting ↔ (s.lane i).mode = .voting := by
  have hmem : i ∈ allLanes := by cases i <;> decide
  simp [State.voting, hmem]

/-- The lanes that take an accepted payload: each one once, and every voting lane among them. -/
theorem followers_once (s : State) : (s.voting.flatMap s.followers).Nodup ∧ ∀ i ∈ s.voting, i ∈ s.voting.flatMap s.followers := by
  cases h : s.voting with
  | nil => exact ⟨List.nodup_nil, fun i hi => hi⟩
  | cons a rest =>
    have hnodup : (a :: rest).Nodup := h ▸ List.Nodup.filter _ (by decide)
    have hvoting : ∀ i ∈ a :: rest, (s.lane i).mode = .voting := fun i hi => mem_voting.1 (h ▸ hi)
    have hshadow : ∀ i ∈ allLanes.filter (fun j => (s.lane j).mode == .shadow), (s.lane i).mode = .shadow :=
      fun i hi => by simpa using (List.mem_filter.1 hi).2
    have hapart : ∀ i ∈ allLanes.filter (fun j => (s.lane j).mode == .shadow), i ∉ a :: rest := by
      intro i hi hmem
      have hmode := (hshadow i hi).symm.trans (hvoting i hmem)
      cases hmode
    obtain ⟨ha, hrest⟩ := List.nodup_cons.1 hnodup
    rw [← h, followers_voting h]
    refine ⟨List.nodup_cons.2 ⟨?_, List.Nodup.append (List.Nodup.filter _ (by decide)) hrest ?_⟩, fun i hi => ?_⟩
    · rw [List.mem_append]
      exact fun hmem => hmem.elim (fun hs => hapart a hs (List.mem_cons_self ..)) ha
    · exact fun i hs hr => hapart i hs (List.mem_cons_of_mem a hr)
    · rw [h] at hi
      rcases List.mem_cons.1 hi with rfl | hr
      · exact List.mem_cons_self ..
      · exact List.mem_cons_of_mem a (List.mem_append_right _ hr)

end Sys2Proof.Machine
end

section
/-! # Poll rounds, answers and ARP (R328, R607 to R610)

The commands of field polling one by one; then `PollRoundsAnswersAndArp`. -/

namespace Sys2Proof.Machine

/-! ## Poll rounds -/

theorem startRound_starts {s : State} (hpolls : s.polls = true) (ht : s.now % 20000000 = 0) : s.startRound = { s with
    ki40 := { s.ki40 with
      round := s.now / 20000000
      roundStart := s.now
      pollDone := s.ki40.pollDone || s.ki40.polled
      polled := true } } := if_pos ⟨hpolls, ht⟩

theorem startRound_keeps {s : State} (h : s.polls = false ∨ s.now % 20000000 ≠ 0) : s.startRound = s :=
  if_neg (fun hs => h.elim (fun hno => by rw [hno] at hs; exact Bool.false_ne_true hs.1) (fun hne => hne hs.2))

theorem pollFresh_iff (s : State) (port : Nat) : s.pollFresh port = true ↔
    s.snapshots ≠ [] ∧ s.pollInstant port ≤ (s.pollSnapshot (s.pollInstant port)).commitAt + 2 * s.t0 := by
  simp [State.pollFresh]

/-- Who transmits at a port rests on the phase, the start and the lanes' modes. -/
theorem sender_same {s u : State} (hcontrol : u.control = s.control) (hstart : u.startup = s.startup)
    (hmode : ∀ i, (u.lane i).mode = (s.lane i).mode) (port : Nat) : u.sender port = s.sender port := by
  have hvoting : u.voting = s.voting := voting_same hmode
  have hunexcluded : u.unexcluded = s.unexcluded := by
    unfold State.unexcluded
    simp only [hmode]
  have hanswering : u.answering = s.answering := by
    unfold State.answering
    rw [hcontrol, hstart, hvoting, hunexcluded]
  unfold State.sender
  simp only [hanswering, hcontrol, hmode]

theorem sendVia_eq (s : State) (port : Nat) (x : Tx) : s.sendVia port x = { s with sent := s.sent ++ if (s.sender port).isSome then [x] else [] } := by
  unfold State.sendVia
  split
  · rfl
  · rw [List.append_nil]

/-- A POLL is due: the module polls, the port is a field port, and P of a round has come with fresh values. -/
def State.pollDue (s : State) (port : Nat) : Prop :=
  s.polls = true ∧ port < 16 ∧ s.ki40.polled = true ∧ s.control.degradation ≠ .oneLane ∧ s.pollFresh port = true ∧ s.pollInstant port ≤ s.now ∧
    s.now < s.ki40.roundStart + pollPeriod

/-- The streams' buffers of a port, with the answer of this round still to come. -/
def State.awaitsAnswer (s : State) (port : Nat) : State :=
  { s.mapLanes (fun l => l.modStream (inId port) (fun y => { y with accepted := false, isClosed := false, aged := false })) with
    ki40 := { s.ki40 with pollAt := assocSet s.ki40.pollAt port (s.pollInstant port) } }

theorem awaitsAnswer_lane (s : State) (port : Nat) (i : LaneId) : (s.awaitsAnswer port).lane i =
    (s.lane i).modStream (inId port) (fun y => { y with accepted := false, isClosed := false, aged := false }) :=
  mapLanes_lane s (fun l => l.modStream (inId port) (fun y => { y with accepted := false, isClosed := false, aged := false })) i

theorem sendPoll_due {s : State} {port : Nat} {x : Stream} (hx : outStream s.img (outId port) = some x) (h : s.pollDue port) :
    s.sendPoll port =
      let snap := s.pollSnapshot (s.pollInstant port)
      let data := s.pollPayload snap port
      let head := pollHead 0x31 x.peer (s.ki40.round % 65536) (s.pollLive snap) s.node (payloadBytes data 32)
      { s.awaitsAnswer port with
        sent := s.sent ++ if (s.sender port).isSome then
          [.poll port (s.ki40.round % 65536) (s.pollLive snap) data (crcC head) (crcT head)] else [] } := by
  obtain ⟨hpolls, hport, hpolled, hlane, hfresh, hp, hround⟩ := h
  have hsender : (s.awaitsAnswer port).sender port = s.sender port :=
    sender_same (s := s) (u := s.awaitsAnswer port) rfl rfl (fun i => by rw [awaitsAnswer_lane]; rfl) port
  unfold State.sendPoll
  rw [hx]
  simp only []
  rw [if_pos (by simp [hpolls, hport, hpolled, hlane, hfresh, hp, hround])]
  refine (sendVia_eq (s.awaitsAnswer port) port _).trans ?_
  rw [hsender]
  rfl

theorem sendPoll_not_due {s : State} {port : Nat} (h : ¬ s.pollDue port) : s.sendPoll port = s := by
  unfold State.sendPoll
  simp only []
  split
  · rfl
  · refine if_neg (fun hdue => h ?_)
    simp only [Bool.and_eq_true, decide_eq_true_eq, bne_iff_ne, ne_eq] at hdue
    obtain ⟨⟨⟨⟨⟨⟨hpolls, hport⟩, hpolled⟩, hlane⟩, hfresh⟩, hp⟩, hround⟩ := hdue
    exact ⟨hpolls, hport, hpolled, hlane, hfresh, hp, hround⟩

/-- DATA of a POLL without restriction, and LIVE. -/
theorem pollPayload_free (s : State) {p : Snapshot} (port : Nat) (h : p.restricted = false) : s.pollPayload p port = assocD p.payloads (outId port) 0 := by
  unfold State.pollPayload
  rw [h]
  rfl

theorem pollLive_iff (s : State) (p : Snapshot) :
    s.pollLive p = true ↔ p.restricted = false ∧ s.safeIo.supply = .isClosed ∧ s.safeIo.closedAt ≤ p.commitAt := by
  simp [State.pollLive, and_assoc]

/-! ## Answers -/

/-- One lane takes the payload of an answer. -/
def State.fills (u : State) (id : Nat) (data : BitVec 8192) (time : LaneId → Nat) (j : LaneId) : State :=
  (u.payloadIn j id data (time j)).modLane j (fun l => l.modStream id (fun x => x.fill data (time j)))

theorem fillAnswer_eq (s : State) (port : Nat) (f : AnswerFrame) : s.fillAnswer port f =
    (s.voting.flatMap s.followers).foldl (fun u j => u.fills (inId port) (payloadOf (slice f.data 0 32)) s.laneTime j) s := rfl

theorem fills_state (u : State) (id : Nat) (data : BitVec 8192) (time : LaneId → Nat) (j : LaneId) :
    (u.fills id data time j).host = u.host ∧ (u.fills id data time j).snapshots = u.snapshots ∧ (u.fills id data time j).ndezo = u.ndezo ∧
      ((u.fills id data time j).lane j).inputs.streams = (u.lane j).inputs.streams.map (fun y => if y.id = id then y.fill data (time j) else y) ∧
      ∀ i, i ≠ j → ((u.fills id data time j).lane i).inputs.streams = (u.lane i).inputs.streams := by
  obtain ⟨hhost, hsnap, hndezo, hlanes⟩ := reception_eq (reception_payloadIn u j id data (time j))
  unfold State.fills
  generalize u.payloadIn j id data (time j) = v at hhost hsnap hndezo hlanes ⊢
  refine ⟨hhost, hsnap, hndezo, ?_, fun i hi => ?_⟩
  · rw [modLane_lane_same, ← (hlanes j).2.2]
    rfl
  · rw [modLane_lane_other _ _ hi, (hlanes i).2.2]

/-- Lanes that take a payload one after the other, each once. -/
theorem fills_once (id : Nat) (data : BitVec 8192) (time : LaneId → Nat) (l : List LaneId) (hl : l.Nodup) (s : State) :
    let u := l.foldl (fun u j => u.fills id data time j) s
    u.host = s.host ∧ u.snapshots = s.snapshots ∧ u.ndezo = s.ndezo ∧
      (∀ i ∈ l, (u.lane i).inputs.streams = (s.lane i).inputs.streams.map (fun y => if y.id = id then y.fill data (time i) else y)) ∧
      ∀ i, i ∉ l → (u.lane i).inputs.streams = (s.lane i).inputs.streams := by
  induction l generalizing s with
  | nil => exact ⟨rfl, rfl, rfl, fun i hi => absurd hi List.not_mem_nil, fun i _ => rfl⟩
  | cons j l ih =>
    obtain ⟨hj, hl'⟩ := List.nodup_cons.1 hl
    obtain ⟨hhost, hsnap, hndezo, hsame, hother⟩ := fills_state s id data time j
    obtain ⟨ihhost, ihsnap, ihndezo, ihin, ihout⟩ := ih hl' (s.fills id data time j)
    rw [List.foldl_cons]
    refine ⟨ihhost.trans hhost, ihsnap.trans hsnap, ihndezo.trans hndezo, fun i hi => ?_, fun i hi => ?_⟩
    · rcases List.mem_cons.1 hi with rfl | hi'
      · exact (ihout i hj).trans hsame
      · have hij : i ≠ j := fun h => hj (h ▸ hi')
        exact (ihin i hi').trans (by rw [hother i hij])
    · obtain ⟨hij, hi'⟩ := not_or.1 (fun h => hi (List.mem_cons.2 h))
      exact (ihout i hi').trans (hother i hij)

/-- An answer in its window with the header of its POLL (Table 17.6). -/
structure State.AnswerGood (s : State) (port : Nat) (x : Stream) (f : AnswerFrame) : Prop where
  stream : inStream s.img (inId port) = some x
  polled : (assoc s.ki40.pollAt port).isSome = true
  late : 20000 ≤ f.offset
  early : f.offset < 900000
  length : f.lengthOk = true
  fcs : f.fcsOk = true
  type : f.type = 0x32
  peer : f.oc = x.peer
  number : f.pollNo = s.ki40.round % 65536
  station : f.station = s.node

theorem checkAnswer_passes {s : State} {port : Nat} {x : Stream} {f : AnswerFrame} (h : s.AnswerGood port x f) : s.checkAnswer port f = .passes := by
  have hpolled : ¬ (assoc s.ki40.pollAt port).isNone = true := by
    rw [Option.isNone_iff_eq_none, ← Option.not_isSome_iff_eq_none, not_not]
    exact h.polled
  unfold State.checkAnswer
  rw [if_neg hpolled, if_neg (not_lt.2 h.late), if_neg (not_le.2 h.early), if_neg (by simp [h.length]), if_neg (by simp [h.fcs])]
  exact if_pos ⟨h.type, by rw [h.stream, h.peer]; rfl, h.number, h.station⟩

/-- The state in which an answer is judged: its port has counted nothing yet. -/
theorem takeAnswer_judges {s : State} {port : Nat} {x : Stream} {f : AnswerFrame} (hpolls : s.polls = true) (hport : port < 16)
    (h : s.AnswerGood port x f) : s.takeAnswer port f = (s.countPort port id).judgeAnswer port f := by
  have hjudged : (s.polls && decide (port < 16) && (inStream s.img (inId port)).isSome) = true := by
    rw [hpolls, h.stream]
    simp [hport]
  unfold State.takeAnswer
  rw [if_pos hjudged]
  simp only [checkAnswer_passes h]
  rfl

/-- What the check units judge in an answer. -/
def answerHead (f : AnswerFrame) : Bytes := pollHead f.type f.oc f.pollNo f.live f.station f.data

/-- An answer with right check values, the first of its round, fills the buffer in every voting lane and counts as received. -/
theorem judgeAnswer_fills {s : State} {port : Nat} {f : AnswerFrame} (hvoting : 2 ≤ s.voting.length) (hrx : f.rx = RxFault.healthy)
    (hheld : ∀ i ∈ s.unexcluded, (s.lane i).held = false) (hc : f.crcC = crcC (answerHead f)) (ht : f.crcT = crcT (answerHead f))
    (hfirst : s.leadLane.inputs.streams.any (fun y => y.id == inId port && y.accepted) = false) :
    let u := s.judgeAnswer port f
    (∀ i ∈ s.voting, (u.lane i).inputs.streams = (s.lane i).inputs.streams.map (fun y =>
      if y.id = inId port then y.fill (payloadOf (slice f.data 0 32)) (s.laneTime i) else y)) ∧
      (u.port port).counters = { (s.port port).counters with rxOk := inc (s.port port).counters.rxOk } ∧ u.snapshots = s.snapshots ∧ u.host = s.host := by
  obtain ⟨L, hcheck, hlanes⟩ := checkTelegram_healthy s s.unexcluded (unexcluded_two hvoting) hheld 0 port (inId port) (inId port)
  let v : State := State.countPort { s with lanes := L } port (fun c => { c with rxOk := inc c.rxOk })
  have hlane : ∀ i, v.lane i = { s.lane i with inputs := { (s.lane i).inputs with checkUnits := (L.get i).inputs.checkUnits } } := hlanes
  have hjudge : s.judgeAnswer port f = v.fillAnswer port f := by
    unfold State.judgeAnswer
    extract_lets h r rejected counted
    have hr : r = ({ s with lanes := L }, true) := by
      simp only [r]
      rw [hrx, show (f.crcC == crcC h) = true from beq_iff_eq.2 hc, show (f.crcT == crcT h) = true from beq_iff_eq.2 ht, hcheck]
    have hcounted : counted = v := by
      simp only [counted, v]
      rw [hr]
    rw [hr, hcounted]
    simp only [hfirst, Bool.true_eq_false, Bool.false_eq_true, if_false]
  have hvoters : v.voting = s.voting := voting_same (fun i => by rw [hlane])
  obtain ⟨honce, hall⟩ := followers_once v
  obtain ⟨hhost, hsnap, hndezo, hin, -⟩ := fills_once (inId port) (payloadOf (slice f.data 0 32)) v.laneTime _ honce v
  have hv : v.snapshots = s.snapshots ∧ v.host = s.host := ⟨rfl, rfl⟩
  rw [hjudge, fillAnswer_eq]
  refine ⟨fun i hi => ?_, ?_, hsnap.trans hv.1, hhost.trans hv.2⟩
  · rw [hin i (hall i (hvoters ▸ hi))]
    have htime : v.laneTime i = s.laneTime i := by
      unfold State.laneTime
      rw [hlane]
      rfl
    rw [htime, hlane]
  · rw [port_of_ndezo hndezo]
    exact countPort_counters { s with lanes := L } port _

/-- An answer with a wrong check value counts in the port and in the stream of every voting lane. -/
theorem judgeAnswer_rejects {s : State} {port : Nat} {f : AnswerFrame} (hvoting : 2 ≤ s.voting.length) (hrx : f.rx = RxFault.healthy)
    (hheld : ∀ i ∈ s.unexcluded, (s.lane i).held = false) (h : ¬(f.crcC = crcC (answerHead f) ∧ f.crcT = crcT (answerHead f))) :
    let u := s.judgeAnswer port f
    (u.port port).counters = { (s.port port).counters with check := inc (s.port port).counters.check } ∧
      (∀ i ∈ s.voting, (u.lane i).inputs.streams = (s.lane i).inputs.streams.map (fun y => if y.id = inId port then { y with check := inc y.check } else y)) ∧
      u.snapshots = s.snapshots ∧ u.host = s.host := by
  have hwrong : ¬((f.crcC == crcC (answerHead f)) = true ∧ (f.crcT == crcT (answerHead f)) = true) := by simpa only [beq_iff_eq] using h
  obtain ⟨hfail, hreception⟩ := checkTelegram_rejects s (unexcluded_two hvoting) hheld 0 port (inId port) (inId port) hwrong
  generalize hr : s.checkTelegram s.unexcluded 0 port (inId port) (inId port) (f.crcC == crcC (answerHead f)) (f.crcT == crcT (answerHead f))
    RxFault.healthy = r at hfail hreception
  let v := r.1.countPort port (fun c => { c with check := inc c.check })
  have hjudge : s.judgeAnswer port f = v.mapVoting (fun l => l.modStream (inId port) (fun x => { x with check := inc x.check })) := by
    unfold State.judgeAnswer
    extract_lets h judged rejected counted
    have hjudged : judged = r := by
      simp only [judged]
      rw [hrx]
      exact hr
    have hrejected : rejected = v := by
      simp only [rejected, v]
      rw [hjudged]
    rw [hjudged, hrejected]
    exact if_pos hfail
  obtain ⟨hhost, hsnap, hndezo, hlanes⟩ := reception_eq hreception
  rw [hjudge]
  refine ⟨?_, fun i hi => ?_, hsnap, hhost⟩
  · have hport : v.port port = (v.mapVoting (fun l => l.modStream (inId port) (fun x => { x with check := inc x.check }))).port port := rfl
    rw [← hport]
    have hcount := countPort_counters r.1 port (fun c => { c with check := inc c.check })
    rw [port_of_ndezo hndezo] at hcount
    exact hcount
  · have hmode : (v.lane i).mode = .voting := (hlanes i).1.trans (mem_voting.1 hi)
    rw [mapVoting_lane, if_pos hmode]
    have hstreams : (v.lane i).inputs.streams = (s.lane i).inputs.streams := (hlanes i).2.2
    rw [← hstreams]
    rfl

/-! ## The end of the answer window -/

/-- A stream at the end of its window, with no telegram of it in hand. -/
theorem closeSlot_streams {l : Lane} (h : l.inputs.rxPending = []) (id : Nat) : (l.closeSlot id).inputs.streams = l.inputs.streams.map (fun y =>
    if y.id = id then { y with
      isClosed := true
      aged := y.aged || !(y.isClosed || y.accepted)
      age := if y.isClosed || y.accepted || y.aged then y.age else min 31 (y.age + 1) } else y) := by
  have hclose : (l.closeSlot id).inputs.streams =
      l.inputs.streams.map (fun y => if y.id = id then (if y.isClosed then y else { y.missCycle with isClosed := true }) else y) := by
    unfold Lane.closeSlot
    rw [h]
    rfl
  rw [hclose]
  refine List.map_congr_left (fun y _ => ?_)
  split
  · cases hc : y.isClosed with
    | true =>
      obtain ⟨id', ready, previous, age, prevAge, read, latchAge, maxAge, subst, never, returned, dropouts, accepted, isClosed, aged, check, split⟩ := y
      simp only at hc
      simp [hc]
    | false => cases ha : y.accepted <;> cases hg : y.aged <;> simp [RxStream.missCycle, RxStream.older, ha, hg]
  · rfl

theorem closeAnswer_due {s : State} {port p : Nat} (hp : assoc s.ki40.pollAt port = some p) (hpolls : s.polls = true) (hnow : p + 900000 ≤ s.now) :
    s.closeAnswer port = { s.mapLanes (fun l => l.closeSlot (inId port)) with ki40 := { s.ki40 with pollAt := assocErase s.ki40.pollAt port } } := by
  unfold State.closeAnswer
  rw [hp]
  exact if_pos ⟨hpolls, hnow⟩

theorem closeAnswer_early {s : State} {port p : Nat} (hp : assoc s.ki40.pollAt port = some p) (hnow : s.now < p + 900000) : s.closeAnswer port = s := by
  unfold State.closeAnswer
  rw [hp]
  exact if_neg (fun h => by omega)

/-! ## ARP -/

/-- `s` with `k` frames more for the LED of the service port (R654), where `port` is that. -/
def State.seen (s : State) (port k : Nat) : State :=
  { s with host := { s.host with svcFrames := if port = 62 then s.host.svcFrames + k else s.host.svcFrames } }

theorem seen_frame {s : State} (hrun : s.control.phase = .running) (port : Nat) :
    (if port = 62 ∧ s.phyPowered = true then s.svcFrame else s) = s.seen port 1 := by
  have hpowered : s.phyPowered = true := by
    unfold State.phyPowered
    rw [hrun]
  unfold State.seen
  by_cases hport : port = 62
  · rw [if_pos ⟨hport, hpowered⟩, if_pos hport]
    rfl
  · rw [if_neg (fun h => hport h.1), if_neg hport]

theorem arpRequest_answers {s : State} {port ip : Nat} (mac : Nat) (hrun : s.control.phase = .running) (hspeaks : s.portSpeaks port = true)
    (hip : s.hostAddress port = some ip) : s.arpRequest port ip mac = { s.seen port 2 with
      sent := s.sent ++ if port = 62 ∨ (s.sender port).isSome = true then [.arp port ip mac] else [] } := by
  have hanswers : s.answers = true := by
    unfold State.answers
    rw [hrun]
  unfold State.arpRequest
  simp only [seen_frame hrun, hanswers, hspeaks, hip]
  rw [if_pos (by simp)]
  by_cases hport : port = 62
  · simp only [hport]
    rfl
  · simp only [hport, false_or]
    refine (sendVia_eq (s.seen port 1) port _).trans ?_
    rw [sender_same (s := s) (u := s.seen port 1) rfl rfl (fun _ => rfl)]
    simp [State.seen, hport]

theorem arpRequest_other {s : State} {port ip : Nat} (mac : Nat) (hrun : s.control.phase = .running) (hip : s.hostAddress port ≠ some ip) :
    s.arpRequest port ip mac = s.seen port 1 := by
  unfold State.arpRequest
  simp only [seen_frame hrun]
  exact if_neg (by simp [hip])

/-! ## The obligation -/

/-- A POLL that is due leaves with the values of its snapshot, and its stream awaits the answer. -/
theorem poll_leaves {t port : Nat} {s : State} {x : Stream} (hx : outStream s.img (outId port) = some x) (h : (s.tick t).pollDue port) :
    ∃ u no live data, exec (.poll t port) s = .next u ∧ no = s.ki40.round % 65536 ∧
      (let h := pollHead 0x31 x.peer no live s.node (payloadBytes data 32)
       u.sent = s.sent ++ if (s.sender port).isSome then [.poll port no live data (crcC h) (crcT h)] else []) ∧
      (∀ q, s.snapshots.find? (fun y => decide (y.commitAt + 20000 ≤ s.pollInstant port)) = some q →
        (q.restricted = false → data = assocD q.payloads (outId port) 0) ∧
        (live = true ↔ q.restricted = false ∧ s.safeIo.supply = .isClosed ∧ s.safeIo.closedAt ≤ q.commitAt)) ∧
      (∀ i, u.lane i = (s.lane i).modStream (inId port) (fun y => { y with accepted := false, isClosed := false, aged := false })) ∧
      u = { s with
        now := max s.now t
        lanes := u.lanes
        sent := u.sent
        ki40 := { s.ki40 with pollAt := assocSet s.ki40.pollAt port (s.pollInstant port) } } := by
  let snap := s.pollSnapshot (s.pollInstant port)
  have hexec : exec (.poll t port) s = run t (fun u => u.sendPoll port) s := rfl
  refine ⟨_, s.ki40.round % 65536, s.pollLive snap, s.pollPayload snap port, hexec.trans (run_next (sendPoll_due (s := s.tick t) hx h) rfl rfl), rfl, rfl,
    fun q hq => ?_, fun i => awaitsAnswer_lane (s.tick t) port i, rfl⟩
  have hsnap : snap = q := congrArg (fun y => Option.getD y Snapshot.none) hq
  rw [hsnap]
  exact ⟨fun hfree => pollPayload_free s port hfree, pollLive_iff s q⟩

/-- Settles O56, command by command: each is one of the facts above at the instant of the command. -/
theorem pollRoundsAnswersAndArp : Obligations.PollRoundsAnswersAndArp := by
  unfold Obligations.PollRoundsAnswersAndArp
  intro t port s now quiet
  refine ⟨fun hpolls ht => ?_, fun h => ?_, ?_, fun h => ?_, pollFresh_iff s port, ?_, ?_, ?_⟩
  · exact run_next (f := State.startRound) (startRound_starts (s := s.tick t) hpolls ht) rfl rfl
  · exact run_idle (f := State.startRound) (startRound_keeps (s := s.tick t) h)
  · intro p x hx hpolls hport hpolled hlane hp hround hfresh
    exact poll_leaves hx ⟨hpolls, hport, hpolled, hlane, hfresh, hp, hround⟩
  · refine run_idle (f := fun u => u.sendPoll port) (sendPoll_not_due (fun hdue => ?_))
    obtain ⟨hpolls, hport, -, hlane, hfresh, hp, -⟩ := hdue
    rcases h with hno | hno | hno | hno | hno
    · exact Bool.false_ne_true (hno.symm.trans hpolls)
    · exact absurd hport (not_lt.2 hno)
    · exact hlane hno
    · exact absurd hp (not_le.2 hno)
    · exact Bool.false_ne_true (hno.symm.trans hfresh)
  · intro f x hpolls hport hx hpolled hvoting hlate hearly hlength hfcs htype hpeer hnumber hstation hrx hheld h pass
    have hgood : (s.tick t).AnswerGood port x f := ⟨hx, hpolled, hlate, hearly, hlength, hfcs, htype, hpeer, hnumber, hstation⟩
    have htake : (s.tick t).takeAnswer port f = ((s.tick t).countPort port id).judgeAnswer port f := takeAnswer_judges (s := s.tick t) hpolls hport hgood
    have hexec : exec (.answer t port f) s = run t (fun u => u.takeAnswer port f) s := rfl
    have hcounters : (((s.tick t).countPort port id).port port).counters = (s.port port).counters := countPort_counters (s.tick t) port id
    rw [hexec, run_eq]
    simp only [htake]
    refine ⟨fun hpass hfirst => ?_, fun hpass => ?_⟩
    · obtain ⟨hstreams, hport', hsnap, hhost⟩ := judgeAnswer_fills (s := (s.tick t).countPort port id) hvoting hrx hheld hpass.1 hpass.2 hfirst
      rw [hcounters] at hport'
      exact ⟨_, rfl, hstreams, hport', hsnap, hhost⟩
    · obtain ⟨hport', hstreams, hsnap, hhost⟩ := judgeAnswer_rejects (s := (s.tick t).countPort port id) hvoting hrx hheld hpass
      rw [hcounters] at hport'
      exact ⟨_, rfl, hport', hstreams, hsnap, hhost⟩
  · intro p hp hpolls hpending
    refine ⟨fun hnow => ?_, fun hnow => ?_⟩
    · refine ⟨_, run_next (f := fun u => u.closeAnswer port) (closeAnswer_due (s := s.tick t) hp hpolls hnow) rfl rfl, fun i => ?_, rfl⟩
      exact (congrArg (fun l : Lane => l.inputs.streams) (mapLanes_lane s (fun l => l.closeSlot (inId port)) i)).trans (closeSlot_streams (hpending i) (inId port))
    · exact run_idle (f := fun u => u.closeAnswer port) (closeAnswer_early (s := s.tick t) hp hnow)
  · intro ip mac hrun seen
    refine ⟨fun hspeaks hip => ?_, fun hip => ?_⟩
    · exact run_next (f := fun u => u.arpRequest port ip mac) (arpRequest_answers (s := s.tick t) mac hrun hspeaks hip) rfl rfl
    · exact run_next (f := fun u => u.arpRequest port ip mac) (arpRequest_other (s := s.tick t) mac hrun hip) rfl rfl

end Sys2Proof.Machine
end

section
/-! # Verification, admission and copies (R84 to R89, R180 to R186, R197, R387, R469, R503) -/

namespace Sys2Proof.Machine

/-! ## The image loaders (R469) -/

/-- No word is covered in part by a write of whole words, so none is read and no wrong parity is met. -/
theorem store_write_whole (x : Store) (m : Memory) {addr len : Nat} (ha : addr % 4 = 0) (hl : len % 4 = 0) :
    x.write m addr len = some (x.writeWords m (addr / 4) (len / 4)) := by
  have hfirst : (addr + 3) / 4 = addr / 4 := by omega
  have hcount : (addr + len) / 4 - addr / 4 = len / 4 := by omega
  unfold Store.write
  rw [hfirst, hcount]
  refine if_neg (fun hpart => ?_)
  obtain ⟨w, -, hw⟩ := List.any_eq_true.1 hpart
  simp only [Bool.and_eq_true, Bool.not_eq_true', decide_eq_true_eq, Bool.and_eq_false_iff, decide_eq_false_iff_not] at hw
  omega

theorem loaderWrite_whole (s : State) {addr len : Nat} (ha : addr % 4 = 0) (hl : len % 4 = 0) (i : LaneId) :
    s.loaderWrite addr len i = s.modLane i (fun l => { l with store := l.store.writeWords .tableStore (addr / 4) (len / 4) }) := by
  unfold State.loaderWrite
  rw [store_write_whole _ _ ha hl]
  rfl

theorem sameButLanes_foldl {α : Type} (f : State → α → State) (hf : ∀ s x, SameButLanes s (f s x)) (l : List α) (s : State) :
    SameButLanes s (l.foldl f s) := by
  induction l generalizing s with
  | nil => rfl
  | cons x l ih => exact (hf s x).trans (ih (f s x))

/-- A region that the loaders write holds its new contents, and nothing else but the lanes changes. -/
theorem setRegion_frame (s : State) (r : Nat) (m : Mem) (off len : Nat) :
    s.setRegion r m off len = { s with
      lanes := (s.setRegion r m off len).lanes
      images := { s.images with regions := s.images.regions.set r m } } :=
  sameButLanes_foldl _ (fun u i => loaderWrite_sameButLanes u _ _ i) allLanes _

/-- Each lane's loader has written the whole words of a region. -/
theorem setRegion_lane (s : State) (r : Nat) (m : Mem) {off len : Nat} (ho : off % 4 = 0) (hl : len % 4 = 0) (i : LaneId) :
    (s.setRegion r m off len).lane i = loaderWrote r off len i (s.lane i) := by
  have hbase : (regionBase r + off) % 4 = 0 := by unfold regionBase; omega
  unfold State.setRegion
  simp only [loaderWrite_whole _ hbase hl]
  cases i <;> rfl

theorem footing_loaderWrite (s : State) (addr len : Nat) (i : LaneId) : (s.loaderWrite addr len i).footing = s.footing := by
  unfold State.loaderWrite
  split
  · next x _ => exact footing_modLane (f := fun l => { l with store := x }) (fun _ => ⟨rfl, rfl, rfl⟩) s i
  · exact (footing_laneEvent _ i _ _).trans
      (footing_modLane (f := fun l => { l with localFault := some (l.localFault.getD .memory) }) (fun _ => ⟨rfl, rfl, rfl⟩) s i)

theorem footing_setRegion (s : State) (r : Nat) (m : Mem) (off len : Nat) : (s.setRegion r m off len).footing = s.footing :=
  footing_foldl _ (fun u i => footing_loaderWrite u _ _ i) allLanes _

/-! ## Staging slots -/

/-- A slot that differs from an empty one stands in the list of slots. -/
theorem staging_lt {s : State} {k : Nat} (h : s.stagingAt k ≠ Staging.empty) : k < s.images.staging.length := by
  by_contra hk
  exact h (List.getD_eq_default _ _ (Nat.le_of_not_lt hk))

theorem modStaging_at_same {s : State} {k : Nat} (f : Staging → Staging) (hk : k < s.images.staging.length) :
    (s.modStaging k f).stagingAt k = f (s.stagingAt k) := by
  simp [State.modStaging, State.stagingAt, listMod, List.getD_eq_getElem?_getD, hk]

theorem modStaging_at_other (s : State) {j k : Nat} (f : Staging → Staging) (hj : j ≠ k) : (s.modStaging k f).stagingAt j = s.stagingAt j := by
  simp [State.modStaging, State.stagingAt, listMod, List.getD_eq_getElem?_getD, List.getElem?_modify_ne, hj.symm]

/-! ## The lane that is odd (R84, Table 6.4) -/

theorem all_voting {s : State} (h : s.voting.length = 3) (i : LaneId) : (s.lane i).mode = .voting := by
  have hall : s.voting = allLanes := by
    unfold State.voting at *
    exact List.filter_eq_self.2 (List.length_filter_eq_length_iff.1 h)
  exact mem_voting.1 (hall ▸ by cases i <;> decide)

/-- The odd lane's fault, record and isolation. -/
theorem oddLane_oddOut {s : State} {i : LaneId} (hi : (s.lane i).mode = .voting) :
    Lane.oddOut s s.now i (s.lane i) ((s.oddLane i .admission).lane i) := by
  have hvoting : ((s.modLane i (fun l => { l with localFault := some .admission, expel := some .admission })).lane i).mode = .voting := by
    rw [modLane_lane_same]
    exact hi
  unfold State.oddLane State.isolate
  rw [if_pos hvoting]
  simp only [modLane_lane_same, laneEvent_lane_same]
  rw [laneWall_modLane s i _ rfl]
  exact ⟨rfl, rfl, rfl⟩

theorem oddLane_lane_other (s : State) {i j : LaneId} (c : Cause) (h : j ≠ i) : (s.oddLane i c).lane j = s.lane j :=
  (isolate_lane_other _ false h).trans (modLane_lane_other s _ h)

theorem chargeOdd_sameButLanes (s : State) (o : Agreement) : SameButLanes s (s.chargeOdd o) := by
  unfold State.chargeOdd
  cases o with
  | odd i =>
    dsimp only
    split
    · exact oddLane_sameButLanes s i .admission
    · rfl
  | _ => rfl

/-- The lane that differs from two others, if any, has isolated itself; the others are as they were. -/
theorem chargeOdd_charged (s : State) (o : Agreement) : s.charged s.now o laneKept (s.chargeOdd o) := by
  intro i
  refine ⟨fun ⟨ho, hthree⟩ => ?_, fun hno => ?_⟩
  · subst ho
    rw [show s.chargeOdd (.odd i) = s.oddLane i .admission from if_pos hthree]
    exact oddLane_oddOut (all_voting hthree i)
  · unfold State.chargeOdd
    cases o with
    | odd k =>
      dsimp only
      split
      · next hthree => exact oddLane_lane_other s .admission (fun hik => hno ⟨congrArg Agreement.odd hik.symm, hthree⟩)
      · rfl
    | _ => rfl

/-- A charge in a state whose lanes have done what `wrote` says since `s`. -/
theorem charged_of_footing {s v u : State} {o : Agreement} {wrote : LaneId → Lane → Lane} (hfoot : v.footing = s.footing)
    (hwall : v.wallOffset = s.wallOffset) (hlanes : ∀ i, v.lane i = wrote i (s.lane i)) (h : v.charged v.now o laneKept u) :
    s.charged v.now o wrote u := by
  intro i
  have hmodes : ∀ j, (v.lane j).mode = (s.lane j).mode := fun j => (footing_lane hfoot j).2.2
  have hlaneWall : ({ s with now := v.now } : State).laneWall i = v.laneWall i := by
    unfold State.laneWall
    rw [hwall, (footing_lane hfoot i).1]
    rfl
  have hsnap : s.snap = v.snap := congrArg (fun l : List Snapshot => l.headD Snapshot.none) (thins_of_footing hfoot).snapshots.symm
  obtain ⟨hodd, hkept⟩ := h i
  rw [voting_same hmodes] at hodd hkept
  unfold laneKept at hodd hkept
  rw [hlanes i] at hodd hkept
  refine ⟨fun ho => ?_, hkept⟩
  unfold Lane.oddOut at hodd ⊢
  rw [hlaneWall, hsnap]
  exact hodd ho

/-- Where no two lanes agree, no lane has two others that agree against it. -/
theorem chargeOdd_of_none {s v : State} {o : Agreement} (hfoot : v.footing = s.footing) (h : s.twoAgree o = false) : v.chargeOdd o = v := by
  unfold State.chargeOdd
  cases o with
  | odd i =>
    refine if_neg (fun hthree => ?_)
    have hvoting : s.voting = allLanes := by
      unfold State.voting
      exact List.filter_eq_self.2 (fun j _ => decide_eq_true ((footing_lane hfoot j).2.2.symm.trans (all_voting hthree j)))
    unfold State.twoAgree at h
    rw [hvoting] at h
    cases i <;> cases h
  | _ => rfl

/-! ## A frame to the peer -/

theorem sendPair_frame (s : State) (link : PairLink) (kind : Nat) (payload : Bytes) : s.sendPair link kind payload = { s with
    sent := (s.sendPair link kind payload).sent
    pair := (s.sendPair link kind payload).pair } := by
  unfold State.sendPair
  cases link with
  | sl0 => dsimp only; split <;> rfl
  | sl1 => dsimp only; split <;> rfl
  | domain => rfl

theorem tellStaged_frame (s : State) (ask : Bool) : s.tellStaged ask = { s with
    sent := (s.tellStaged ask).sent
    pair := (s.tellStaged ask).pair } := by
  unfold State.tellStaged
  split
  · unfold State.sendBoth
    rw [sendPair_frame _ .sl1, sendPair_frame s .sl0]
  · rfl

theorem tellStaged_alone {s : State} (h : s.inPair = false) (ask : Bool) : s.tellStaged ask = s := if_neg (by simp [h])

/-! ## The end of a verification (R180 to R186) -/

/-- An admitted image has a length of whole words that its region holds (check 2). -/
theorem admission_length {m : Mem} {loaded : Nat} {keys : List Bytes} {part : Part} {ki40 slot0 : Bool} (h : admission m loaded keys part ki40 slot0 = 0) :
    4096 ≤ imgLen m ∧ imgLen m ≤ 67108864 ∧ imgLen m % 64 = 0 := by
  have hcheck : check2 m loaded = true := by
    by_contra hno
    unfold admission at h
    split at h
    · cases h
    · rw [if_pos (by simp [hno])] at h
      cases h
  simp only [check2, Bool.and_eq_true, decide_eq_true_eq, beq_iff_eq] at hcheck
  obtain ⟨⟨⟨hlow, hhigh⟩, hwords⟩, -⟩ := hcheck
  exact ⟨hlow, hhigh, hwords⟩

theorem verifyCheck_length {s : State} {k : Nat} (h : s.verifyCheck k = 0) :
    4096 ≤ imgLen (s.images.stagingMem k) ∧ imgLen (s.images.stagingMem k) ≤ 67108864 ∧ imgLen (s.images.stagingMem k) % 64 = 0 := by
  refine admission_length (loaded := (s.stagingAt k).high) (keys := s.trustedKeys) (part := s.identity.part) (ki40 := s.sealBank.ki40) (slot0 := false) ?_
  by_contra hno
  unfold State.verifyCheck at h
  dsimp only at h
  rw [if_pos hno] at h
  exact hno h

/-- The VERIFY record of a staging slot (R198). -/
def verifyNote (k check image : Nat) : Queued :=
  queuedOf 0x0303 0 0 Origin.internal [payloadFields [(24, 1, k), (25, 1, flag (check != 0)), (26, 1, check), (28, 4, image)]]

/-- The ADMISSION record of a slot (R85). -/
def admissionNote (slot check image : Nat) : Queued :=
  queuedOf 0x0301 0 0 Origin.internal [payloadFields [(24, 1, slot), (25, 1, check), (28, 4, image)]]

/-- A staging slot whose image has passed every check. -/
def State.verifiedSlot (s : State) (k : Nat) (g : Staging) : Staging := { g with
  state := .verified
  check := 0
  report := some (s.buildReport k)
  load := !s.slotRuns g.target
  hash := imageHash (s.images.stagingMem k)
  keyId := sigBytes (s.images.stagingMem k) 8 8 }

/-- `s` with the image of a staging slot cut to its length and in flash (R87). -/
def State.keepsImage (s : State) (k : Nat) : State :=
  let m := s.images.stagingMem k
  let kept := Mem.window m 0 (imgLen m)
  State.setRegion { s with images := { s.images with flash := s.images.flash.set (s.stagingRegion k) kept } } (s.stagingRegion k) kept
    (imgLen m) (67108864 - imgLen m)

/-- The verification of a staging slot that passes, before the peer is told. -/
def State.passesVerification (s : State) (k : Nat) : State := { s with
  lanes := (s.keepsImage k).lanes
  images := { (s.keepsImage k).images with staging := s.images.staging.modify k (s.verifiedSlot k) }
  almanac := { s.almanac with events := s.almanac.events ++ [verifyNote k 0 (imgId (s.images.stagingMem k))] } }

/-- A staging slot that has failed check `c`. -/
def Staging.failed (g : Staging) (c : Nat) : Staging := { g with
  state := .failed
  check := c
  report := none }

/-- The verification of a staging slot that fails check `c`. -/
def State.failsVerification (s : State) (k c : Nat) : State := { s with
  images := { s.images with
    staging := s.images.staging.modify k (·.failed c)
    lastCheck := c }
  almanac := { s.almanac with events := s.almanac.events ++ (verifyNote k c (imgId (s.images.stagingMem k)) ::
    if c ≤ 11 then [admissionNote (4 + k) c (imgId (s.images.stagingMem k))] else []) } }

theorem settleVerify_passes {s : State} {k : Nat} (h : s.verifyCheck k = 0) : s.settleVerify k true = (s.passesVerification k).tellStaged false := by
  have hcut : (s.images.stagingMem k).cutToImage = Mem.window (s.images.stagingMem k) 0 (imgLen (s.images.stagingMem k)) :=
    if_pos (verifyCheck_length h).1
  unfold State.settleVerify
  simp only [if_true, h, hcut]
  have hregion := setRegion_frame { s with images := { s.images with
      flash := s.images.flash.set (s.stagingRegion k) (Mem.window (s.images.stagingMem k) 0 (imgLen (s.images.stagingMem k))) } }
    (s.stagingRegion k) (Mem.window (s.images.stagingMem k) 0 (imgLen (s.images.stagingMem k)))
    (imgLen (s.images.stagingMem k)) (67108864 - imgLen (s.images.stagingMem k))
  unfold State.passesVerification State.keepsImage
  unfold listSet
  rw [hregion]
  rfl

theorem failsVerification_eq (s : State) (k c : Nat) :
    (let image := imgId (s.images.stagingMem k)
     let u := (State.modStaging { s with images := { s.images with lastCheck := c } } k (·.failed c)).event
        0x0303 Origin.internal [(24, 1, k), (25, 1, flag (c != 0)), (26, 1, c), (28, 4, image)]
     if c ≤ 11 then u.admissionEvent (4 + k) c image else u) = s.failsVerification k c := by
  unfold State.failsVerification
  split
  · simp only [State.admissionEvent, State.event, List.append_assoc]
    rfl
  · rfl

theorem settleVerify_fails {s : State} {k : Nat} (h : s.verifyCheck k ≠ 0) : s.settleVerify k true = s.failsVerification k (s.verifyCheck k) := by
  unfold State.settleVerify
  simp only [if_true, if_neg h]
  exact failsVerification_eq s k _

theorem freeCheck_bounds (s : State) : 1 ≤ s.freeCheck ∧ s.freeCheck ≤ 11 := by
  unfold State.freeCheck
  omega

theorem settleVerify_unagreed (s : State) (k : Nat) : s.settleVerify k false = s.drawn.failsVerification k s.freeCheck := by
  have hfree : s.freeCheck ≠ 0 := by have := freeCheck_bounds s; omega
  unfold State.settleVerify
  simp only [if_neg hfree, Bool.false_eq_true, if_false]
  exact failsVerification_eq s.drawn k _

theorem keepsImage_frame (s : State) (k : Nat) : s.keepsImage k = { s with
    lanes := (s.keepsImage k).lanes
    images := { s.images with
      flash := s.images.flash.set (s.stagingRegion k) (Mem.window (s.images.stagingMem k) 0 (imgLen (s.images.stagingMem k)))
      regions := s.images.regions.set (s.stagingRegion k) (Mem.window (s.images.stagingMem k) 0 (imgLen (s.images.stagingMem k))) } } := by
  unfold State.keepsImage
  exact setRegion_frame _ _ _ _ _

theorem keepsImage_lane {s : State} {k : Nat} (h : s.verifyCheck k = 0) (i : LaneId) : (s.keepsImage k).lane i =
    loaderWrote (s.stagingRegion k) (imgLen (s.images.stagingMem k)) (67108864 - imgLen (s.images.stagingMem k)) i (s.lane i) := by
  obtain ⟨-, hhigh, hwords⟩ := verifyCheck_length h
  exact setRegion_lane _ _ _ (by omega) (by omega) i

theorem footing_keepsImage (s : State) (k : Nat) : (s.keepsImage k).footing = s.footing := footing_setRegion _ _ _ _ _

theorem passesVerification_frame (s : State) (k : Nat) : s.passesVerification k = { s with
    lanes := (s.keepsImage k).lanes
    images := { s.images with
      flash := s.images.flash.set (s.stagingRegion k) (Mem.window (s.images.stagingMem k) 0 (imgLen (s.images.stagingMem k)))
      regions := s.images.regions.set (s.stagingRegion k) (Mem.window (s.images.stagingMem k) 0 (imgLen (s.images.stagingMem k)))
      staging := s.images.staging.modify k (s.verifiedSlot k) }
    almanac := { s.almanac with events := s.almanac.events ++ [verifyNote k 0 (imgId (s.images.stagingMem k))] } } := by
  unfold State.passesVerification
  rw [keepsImage_frame]

theorem footing_passesVerification (s : State) (k : Nat) : (s.passesVerification k).footing = s.footing := by
  have h := footing_keepsImage s k
  rw [keepsImage_frame] at h
  exact h

/-- What every verification that two lanes agree on leaves (R180): the other slots, and all that a verification does not touch. -/
structure State.VerificationEnds (s u : State) (k check : Nat) : Prop where
  others : ∀ j, j ≠ k → u.stagingAt j = s.stagingAt j
  alone : s.inPair = false → u.sent = s.sent ∧ u.pair = s.pair
  frame : u = { s with
    lanes := u.lanes
    almanac := u.almanac
    sent := u.sent
    pair := u.pair
    images := { s.images with
      staging := u.images.staging
      regions := u.images.regions
      flash := u.images.flash
      lastCheck := if check = 0 then s.images.lastCheck else check } }

theorem verifying_lt {s : State} {k : Nat} (h : (s.stagingAt k).state = .verifying) : k < s.images.staging.length :=
  staging_lt (fun he => by rw [he] at h; cases h)

theorem verifyComplete_verifying {s : State} {k : Nat} (o : Agreement) (hk : k ≤ 1) (h : (s.stagingAt k).state = .verifying) :
    s.verifyComplete k o = (s.settleVerify k (s.twoAgree o)).chargeOdd o := if_pos ⟨hk, h⟩

section
variable {s : State} {k : Nat} {o : Agreement} (hk : k ≤ 1) (hv : (s.stagingAt k).state = .verifying)
include hk hv

/-- A verification that two lanes agree on and that passes: the image is in flash, its slot VERIFIED (R87, R180). -/
theorem verifyComplete_passes (hagree : s.twoAgree o = true) (hcheck : s.verifyCheck k = 0) :
    let m := s.images.stagingMem k
    let kept := Mem.window m 0 (imgLen m)
    let u := s.verifyComplete k o
    s.charged s.now o (loaderWrote (s.stagingRegion k) (imgLen m) (67108864 - imgLen m)) u ∧ u.stagingAt k = s.verifiedSlot k (s.stagingAt k) ∧
      u.images.flash = s.images.flash.set (s.stagingRegion k) kept ∧ u.images.regions = s.images.regions.set (s.stagingRegion k) kept ∧
      u.almanac = { s.almanac with events := s.almanac.events ++ [verifyNote k 0 (imgId m)] } ∧ s.VerificationEnds u k 0 := by
  intro m kept u
  let p := s.passesVerification k
  let v := p.tellStaged false
  have hu : u = v.chargeOdd o := by
    show s.verifyComplete k o = _
    rw [verifyComplete_verifying o hk hv, hagree, settleVerify_passes hcheck]
  have hvp : v = { p with sent := v.sent, pair := v.pair } := tellStaged_frame p false
  have hup : u = { p with lanes := u.lanes, sent := v.sent, pair := v.pair } := by
    have hlanes : SameButLanes v u := hu ▸ chargeOdd_sameButLanes v o
    unfold SameButLanes at hlanes
    rw [hvp] at hlanes
    exact hlanes
  have hp : p = _ := passesVerification_frame s k
  have hslots : ∀ j, u.stagingAt j = (s.modStaging k (s.verifiedSlot k)).stagingAt j := fun j => by rw [hup, hp]; rfl
  refine ⟨?_, (hslots k).trans (modStaging_at_same _ (verifying_lt hv)), ?_, ?_, ?_,
    fun j hj => (hslots j).trans (modStaging_at_other s _ hj), fun halone => ?_, ?_⟩
  · have hfoot : v.footing = s.footing := by rw [hvp]; exact footing_passesVerification s k
    have hlanes : ∀ i, v.lane i = (s.keepsImage k).lane i := fun i => by rw [hvp]; rfl
    have hnow : v.now = s.now := by rw [hvp, hp]
    rw [← hnow, hu]
    exact charged_of_footing hfoot (by rw [hvp, hp]) (fun i => (hlanes i).trans (keepsImage_lane hcheck i)) (chargeOdd_charged v o)
  · rw [hup, hp]
  · rw [hup, hp]
  · rw [hup, hp]
  · have hvp : v = p := tellStaged_alone (by rw [hp]; exact halone) false
    rw [hup, hvp, hp]
    exact ⟨rfl, rfl⟩
  · rw [hup, hp]
    rfl

/-- A verification that two lanes agree on and that fails a check (R180, R183). -/
theorem verifyComplete_fails (hagree : s.twoAgree o = true) (hcheck : s.verifyCheck k ≠ 0) :
    let c := s.verifyCheck k
    let image := imgId (s.images.stagingMem k)
    let u := s.verifyComplete k o
    s.charged s.now o laneKept u ∧ u.stagingAt k = (s.stagingAt k).failed c ∧ u.images.flash = s.images.flash ∧ u.images.regions = s.images.regions ∧
      u.almanac = { s.almanac with events := s.almanac.events ++ (verifyNote k c image :: if c ≤ 11 then [admissionNote (4 + k) c image] else []) } ∧
      s.VerificationEnds u k c := by
  intro c image u
  let v := s.failsVerification k c
  have hu : u = v.chargeOdd o := by
    show s.verifyComplete k o = _
    rw [verifyComplete_verifying o hk hv, hagree, settleVerify_fails hcheck]
  have huv : u = { v with lanes := u.lanes } := hu ▸ chargeOdd_sameButLanes v o
  have hslots : ∀ j, u.stagingAt j = (s.modStaging k (·.failed c)).stagingAt j := fun j => by rw [huv]; rfl
  refine ⟨?_, (hslots k).trans (modStaging_at_same _ (verifying_lt hv)), ?_, ?_, ?_,
    fun j hj => (hslots j).trans (modStaging_at_other s _ hj), fun _ => ?_, ?_⟩
  · rw [hu]
    exact charged_of_footing (v := v) rfl rfl (fun _ => rfl) (chargeOdd_charged v o)
  · rw [huv]; rfl
  · rw [huv]; rfl
  · rw [huv]; rfl
  · rw [huv]; exact ⟨rfl, rfl⟩
  · rw [if_neg hcheck, huv]
    rfl

/-- A verification that no two lanes agree on: the slot fails a free check, and no lane is charged (log entry 129). -/
theorem verifyComplete_unagreed (hno : s.twoAgree o = false) : s.verifyComplete k o = s.drawn.failsVerification k s.freeCheck := by
  rw [verifyComplete_verifying o hk hv, hno, settleVerify_unagreed]
  exact chargeOdd_of_none (s := s) rfl hno

end

/-! ## The end of an admission (R84, R85, R89, R548) -/

/-- The admission of the profile slot `k`, which holds `p`, ends with check `c`; 0 where the image is admitted. -/
def State.admits (s : State) (k : Nat) (p : Profile) (c : Nat) : State := { s with
  images := { s.images with
    profiles := s.images.profiles.set k { p with
      status := if c = 0 then .valid else .invalid
      hash := imageHash (s.images.profileMem k) }
    lastCheck := if c = 0 then s.images.lastCheck else c }
  almanac := { s.almanac with events := s.almanac.events ++ if c = 0 then [] else [admissionNote k c (imgId (s.images.profileMem k))] } }

theorem modify_eq_set {α : Type} {l : List α} {k : Nat} {x : α} (h : l[k]? = some x) (f : α → α) : l.modify k f = l.set k (f x) := by
  rw [List.modify_eq_set_getElem?, h]
  rfl

theorem settleAdmission_eq {s : State} {k : Nat} {p : Profile} (hp : s.images.profiles[k]? = some p) (agreed : Bool) : s.settleAdmission k agreed =
    (if agreed then s else s.drawn).admits k p (if agreed then s.slotCheck k else s.freeCheck) := by
  have himages : (if agreed then s else s.drawn).images = s.images := by cases agreed <;> rfl
  have hset : ∀ f : Profile → Profile, listMod s.images.profiles k f = s.images.profiles.set k (f p) := modify_eq_set hp
  unfold State.settleAdmission State.admits
  simp only [himages, hset]
  by_cases hc : (if agreed then s.slotCheck k else s.freeCheck) = 0
  · simp only [if_pos hc, List.append_nil]
  · simp only [if_neg hc]
    rfl

/-- Whose turn the slot `k` has: the lanes take the selected profile first (R89). -/
def State.admissionTurn (s : State) (k : Nat) : Prop := k = s.selectedSlot ∨ s.verifying s.selectedSlot = false

theorem verifying_of {s : State} {k : Nat} {p : Profile} (hp : s.images.profiles[k]? = some p) (hv : p.status = .verifying) : s.verifying k = true := by
  simp [State.verifying, hp, hv]

theorem admissionComplete_turn {s : State} {k : Nat} (o : Agreement) (hv : s.verifying k = true) (h : s.admissionTurn k) :
    s.admissionComplete k o = (s.settleAdmission k (s.twoAgree o)).chargeOdd o := by
  refine if_pos ?_
  rw [hv, Bool.true_and, Bool.or_eq_true, beq_iff_eq, Bool.not_eq_true']
  exact h

theorem admissionComplete_waits {s : State} {k : Nat} (o : Agreement) (h : ¬ s.admissionTurn k) : s.admissionComplete k o = s := by
  refine if_neg (fun hturn => h ?_)
  rw [Bool.and_eq_true, Bool.or_eq_true, beq_iff_eq, Bool.not_eq_true'] at hturn
  exact hturn.2

section
variable {s : State} {k : Nat} {p : Profile} {o : Agreement} (hp : s.images.profiles[k]? = some p) (hv : p.status = .verifying) (hturn : s.admissionTurn k)
include hp hv hturn

/-- An admission that two lanes agree on: it ends by the first check that fails, and the lane that is odd isolates itself. -/
theorem admissionComplete_agreed (hagree : s.twoAgree o = true) : let u := s.admissionComplete k o
    s.charged s.now o laneKept u ∧ SameButLanes (s.admits k p (s.slotCheck k)) u := by
  intro u
  have hu : u = (s.admits k p (s.slotCheck k)).chargeOdd o := by
    show s.admissionComplete k o = _
    rw [admissionComplete_turn o (verifying_of hp hv) hturn, hagree, settleAdmission_eq hp]
    rfl
  rw [hu]
  exact ⟨charged_of_footing (v := s.admits k p (s.slotCheck k)) rfl rfl (fun _ => rfl) (chargeOdd_charged _ o), chargeOdd_sameButLanes _ o⟩

theorem admissionComplete_unagreed (hno : s.twoAgree o = false) : s.admissionComplete k o = s.drawn.admits k p s.freeCheck := by
  rw [admissionComplete_turn o (verifying_of hp hv) hturn, hno, settleAdmission_eq hp]
  exact chargeOdd_of_none (s := s) rfl hno

end

/-! ## The slot map (R197) -/

theorem slotMapWrite_idle {s : State} (i : LaneId) (h : s.images.mapPending = false) : s.slotMapWrite i = s := if_neg (by simp [h])

/-- A lane that has written the new slot map. -/
def State.mapNoted (s : State) (i : LaneId) : State := s.modLane i (fun l => { l with mapWritten := true })

/-- Is the lane the last that had to write it? -/
theorem mapNoted_all (s : State) (i : LaneId) :
    ((s.mapNoted i).lanes.a.mapWritten && (s.mapNoted i).lanes.b.mapWritten && (s.mapNoted i).lanes.c.mapWritten) = true ↔
      ∀ j, j ≠ i → (s.lane j).mapWritten = true := by
  have hall : (∀ j, j ≠ i → (s.lane j).mapWritten = true) ↔ ∀ j, ((s.mapNoted i).lane j).mapWritten = true := by
    refine forall_congr' (fun j => ?_)
    unfold State.mapNoted
    rw [modLane_lane]
    by_cases hj : j = i <;> simp [hj]
  rw [hall, Bool.and_eq_true, Bool.and_eq_true]
  exact ⟨fun ⟨⟨ha, hb⟩, hc⟩ j => by cases j <;> assumption, fun hj => ⟨⟨hj .A, hj .B⟩, hj .C⟩⟩

theorem slotMapWrite_last {s : State} {i : LaneId} (h : s.images.mapPending = true) (hlast : ∀ j, j ≠ i → (s.lane j).mapWritten = true) :
    s.slotMapWrite i = { s.mapNoted i with images := { s.images with
      mapPending := false
      oldMap := none } } :=
  (if_pos h).trans (if_pos ((mapNoted_all s i).2 hlast))

theorem slotMapWrite_more {s : State} {i : LaneId} (h : s.images.mapPending = true) (hmore : ¬ ∀ j, j ≠ i → (s.lane j).mapWritten = true) :
    s.slotMapWrite i = s.mapNoted i :=
  (if_pos h).trans (if_neg (fun hall => hmore ((mapNoted_all s i).1 hall)))

/-! ## The copy from the exchange RAM (R387, R503) -/

theorem copiedBytes_untouched {s : State} {g : CopyRun} (h : g.touched = []) : s.copiedBytes g = Mem.bytes s.xram.mem g.xram g.length := by
  simp [State.copiedBytes, h, List.zipIdx_map_fst]

theorem releaseGuard_frame (s : State) (g : CopyRun) : s.releaseGuard g = { s with xram := (s.releaseGuard g).xram } := by
  unfold State.releaseGuard
  split
  · split
    · dsimp only; split <;> rfl
    · rfl
  · rfl

/-- The guard that a copy releases depends on the exchange RAM and on which lanes vote. -/
theorem releaseGuard_xram {s u : State} (g : CopyRun) (h : u.footing = s.footing) : (u.releaseGuard g).xram = (s.releaseGuard g).xram := by
  have hlowest : u.lowest = s.lowest := by
    unfold State.lowest
    rw [voting_same (fun i => (footing_lane h i).2.2)]
  have hxram : u.xram = s.xram := (thins_of_footing h).xram
  unfold State.releaseGuard
  rw [hlowest]
  split
  · split
    · dsimp only
      rw [hxram]
      split
      · rfl
      · exact hxram
    · exact hxram
  · exact hxram

/-- A copy that holds its guard, or has given it up, runs. -/
theorem stageCopy_runs {s : State} {k : Nat} {g : CopyRun} (hcopy : (s.stagingAt k).copy = some g) (hg : g.guarded = true ∨ g.abandoned = true) :
    s.stageCopy k = s.stageCopied k g := by
  have hunguard : s.unguard g = (s, g) := if_neg (by rcases hg with h | h <;> simp [h])
  have hguard : s.guardFor g = some (s, g) := if_pos hg
  unfold State.stageCopy
  rw [hcopy]
  dsimp only
  rw [hunguard]
  dsimp only
  rw [hguard]

theorem stageCopy_none {s : State} {k : Nat} (h : (s.stagingAt k).copy = none) : s.stageCopy k = s := by
  unfold State.stageCopy
  rw [h]

/-- The contents of the slot's region after a copy. -/
def State.copiedRegion (s : State) (k : Nat) (g : CopyRun) : Mem := Mem.store (s.images.stagingMem k) g.offset (s.copiedBytes g)

/-- A slot whose copy has ended: it is open again. -/
def Staging.reopened (x : Staging) (g : CopyRun) : Staging := { x with
  state := .isOpen
  copy := none
  high := max x.high (g.offset + g.length) }

/-- `s` with the bytes of a copy in its region. -/
def State.storesCopy (s : State) (k : Nat) (g : CopyRun) : State :=
  State.setRegion { s with freeCtr := s.freeCtr + g.length } (s.stagingRegion k) (s.copiedRegion k g) g.offset g.length

/-- A copy stores its bytes, opens its slot again and releases its guard. -/
theorem stageCopied_eq (s : State) (k : Nat) (g : CopyRun) : ∃ R, s.stageCopied k g = { s with
    lanes := (s.storesCopy k g).lanes
    host := { s.host with recs := R }
    xram := (s.releaseGuard g).xram
    freeCtr := s.freeCtr + g.length
    images := { s.images with
      staging := (s.modStaging k (fun x => x.reopened g)).images.staging
      regions := s.images.regions.set (s.stagingRegion k) (s.copiedRegion k g) } } := by
  let v := (s.storesCopy k g).modStaging k (fun x => x.reopened g)
  have hv : v = { s with
      lanes := (s.storesCopy k g).lanes
      freeCtr := s.freeCtr + g.length
      images := { s.images with
        staging := (s.modStaging k (fun x => x.reopened g)).images.staging
        regions := s.images.regions.set (s.stagingRegion k) (s.copiedRegion k g) } } := by
    show (s.storesCopy k g).modStaging k (fun x => x.reopened g) = _
    unfold State.storesCopy
    rw [setRegion_frame]
    rfl
  have hfoot : v.footing = s.footing := footing_setRegion { s with freeCtr := s.freeCtr + g.length } _ _ _ _
  obtain ⟨R, hR⟩ := settledAll_recs (v.releaseGuard g) g.key.toList
  have hcopied : s.stageCopied k g = (v.releaseGuard g).settledAll g.key.toList := rfl
  refine ⟨R, ?_⟩
  rw [hcopied, hR, releaseGuard_frame v g, releaseGuard_xram g hfoot, hv]

theorem storesCopy_lane (s : State) {k : Nat} {g : CopyRun} (ho : g.offset % 4 = 0) (hl : g.length % 4 = 0) (i : LaneId) :
    (s.storesCopy k g).lane i = loaderWrote (s.stagingRegion k) g.offset g.length i (s.lane i) := setRegion_lane _ _ _ ho hl i

/-! ## A guard that is given up (R503, R508) -/

/-- The record of a guard given up. -/
def State.unguardedNote (s : State) : Queued := queuedOf 0x0909 0 0 Origin.internal [payloadFields [(24, 1, 0), (25, 1, s.lead.index), (26, 1, 0)]]

/-- Has a copy waited 5 ms for the guard? -/
def State.overdue (s : State) (g : CopyRun) : Bool := !g.guarded && !g.abandoned && decide (g.since + 5000000 ≤ s.now)

/-- A copy as it goes on: without the guard once that is overdue. -/
def State.goesOn (s : State) (g : CopyRun) : CopyRun := if s.overdue g then { g with abandoned := true } else g

/-- `s` with `n` records of guards given up. -/
def State.notesUnguarded (s : State) (n : Nat) : State :=
  { s with almanac := { s.almanac with events := s.almanac.events ++ List.replicate n s.unguardedNote } }

theorem unguard_eq (s : State) (g : CopyRun) : s.unguard g = (s.notesUnguarded (flag (s.overdue g)), s.goesOn g) := by
  unfold State.goesOn
  cases h : s.overdue g with
  | true => exact if_pos h
  | false =>
    refine (if_neg (fun hdue => Bool.false_ne_true (h.symm.trans hdue))).trans ?_
    simp [State.notesUnguarded, flag]

/-- What XRAM_UNGUARDED does to the copy of a staging slot. -/
def State.givesUpSlot (s : State) (k : Nat) : State :=
  match (s.stagingAt k).copy with
  | some g => (s.unguard g).1.modStaging k (fun x => { x with copy := some (s.unguard g).2 })
  | none => s

theorem givesUpSlot_none {s : State} {k : Nat} (h : (s.stagingAt k).copy = none) : s.givesUpSlot k = s := by
  unfold State.givesUpSlot
  rw [h]

theorem givesUpSlot_some {s : State} {k : Nat} {g : CopyRun} (h : (s.stagingAt k).copy = some g) :
    s.givesUpSlot k = (s.notesUnguarded (flag (s.overdue g))).modStaging k (fun x => { x with copy := some (s.goesOn g) }) := by
  unfold State.givesUpSlot
  rw [h]
  dsimp only
  rw [unguard_eq]

theorem notesUnguarded_zero (s : State) : s.notesUnguarded 0 = s := by simp [State.notesUnguarded]

theorem notesUnguarded_add (s : State) (m n : Nat) : (s.notesUnguarded m).notesUnguarded n = s.notesUnguarded (m + n) := by
  unfold State.notesUnguarded
  simp only [List.replicate_add, List.append_assoc]
  rfl

theorem givesUpSlot_frame (s : State) (k : Nat) : ∃ S, s.givesUpSlot k = { s.notesUnguarded (flag ((s.stagingAt k).copy.any s.overdue)) with
    images := { s.images with staging := S } } := by
  cases h : (s.stagingAt k).copy with
  | none => exact ⟨s.images.staging, (givesUpSlot_none h).trans (notesUnguarded_zero s).symm⟩
  | some g => exact ⟨_, givesUpSlot_some h⟩

theorem givesUpSlot_same (s : State) (k : Nat) :
    (s.givesUpSlot k).stagingAt k = { s.stagingAt k with copy := (s.stagingAt k).copy.map s.goesOn } := by
  cases h : (s.stagingAt k).copy with
  | none =>
    rw [givesUpSlot_none h, Option.map_none, ← h]
  | some g =>
    have hk : k < s.images.staging.length := staging_lt (fun he => by rw [he] at h; cases h)
    rw [givesUpSlot_some h]
    exact modStaging_at_same (s := s.notesUnguarded _) _ hk

theorem givesUpSlot_other (s : State) {j k : Nat} (hj : j ≠ k) : (s.givesUpSlot k).stagingAt j = s.stagingAt j := by
  cases h : (s.stagingAt k).copy with
  | none => rw [givesUpSlot_none h]
  | some g =>
    rw [givesUpSlot_some h]
    exact modStaging_at_other (s.notesUnguarded _) _ hj

/-- How many copies give up the guard. -/
def State.overdueCount (s : State) : Nat :=
  ((List.range 2).filter (fun k => (s.stagingAt k).copy.any s.overdue)).length + flag (s.ki40.loadCopy.any s.overdue)

/-- Both staging slots after XRAM_UNGUARDED: each that was overdue goes on without the guard. -/
theorem givesUpSlots_eq (s : State) : let v := (s.givesUpSlot 0).givesUpSlot 1
    (∃ S, v = { s.notesUnguarded ((List.range 2).filter (fun k => (s.stagingAt k).copy.any s.overdue)).length with
      images := { s.images with staging := S } }) ∧
    ∀ k, k ≤ 1 → v.stagingAt k = { s.stagingAt k with copy := (s.stagingAt k).copy.map s.goesOn } := by
  intro v
  obtain ⟨S, h0⟩ := givesUpSlot_frame s 0
  obtain ⟨S', h1⟩ := givesUpSlot_frame (s.givesUpSlot 0) 1
  have hother : (s.givesUpSlot 0).stagingAt 1 = s.stagingAt 1 := givesUpSlot_other s (by decide)
  have hdue : (s.givesUpSlot 0).overdue = s.overdue := by rw [h0]; rfl
  have hgoes : (s.givesUpSlot 0).goesOn = s.goesOn := by rw [h0]; rfl
  have hcount : ((List.range 2).filter (fun k => (s.stagingAt k).copy.any s.overdue)).length =
      flag ((s.stagingAt 0).copy.any s.overdue) + flag ((s.stagingAt 1).copy.any s.overdue) := by
    rw [show List.range 2 = [0, 1] from rfl]
    cases h : (s.stagingAt 0).copy.any s.overdue <;> cases h' : (s.stagingAt 1).copy.any s.overdue <;> simp [h, h', flag]
  refine ⟨⟨S', ?_⟩, fun k hk => ?_⟩
  · rw [hother, hdue] at h1
    rw [hcount, ← notesUnguarded_add]
    exact h1.trans (by rw [h0]; rfl)
  · obtain rfl | rfl : k = 0 ∨ k = 1 := by omega
    · exact (givesUpSlot_other _ (by decide)).trans (givesUpSlot_same s 0)
    · exact (givesUpSlot_same _ 1).trans (by rw [hother, hgoes])

/-- XRAM_UNGUARDED: every copy that has waited 5 ms gives up the guard, with a record each. -/
theorem giveUpGuards_eq (s : State) : (∃ S, s.giveUpGuards = { s.notesUnguarded s.overdueCount with
      ki40 := { s.ki40 with loadCopy := s.ki40.loadCopy.map s.goesOn }
      images := { s.images with staging := S } }) ∧
    ∀ k, k ≤ 1 → s.giveUpGuards.stagingAt k = { s.stagingAt k with copy := (s.stagingAt k).copy.map s.goesOn } := by
  let v := (s.givesUpSlot 0).givesUpSlot 1
  obtain ⟨⟨S, hv⟩, hslots⟩ : (∃ S, v = _) ∧ _ := givesUpSlots_eq s
  have hload : v.ki40.loadCopy = s.ki40.loadCopy := by rw [hv]; rfl
  have hgive : s.giveUpGuards = match v.ki40.loadCopy with
    | some g => { (v.unguard g).1 with ki40 := { v.ki40 with loadCopy := some (v.unguard g).2 } }
    | none => v := rfl
  unfold State.overdueCount
  rw [hload] at hgive
  cases h : s.ki40.loadCopy with
  | none =>
    rw [h] at hgive
    rw [show s.giveUpGuards = v from hgive, Option.map_none, Option.any_none, ← h]
    exact ⟨⟨S, hv⟩, hslots⟩
  | some g =>
    have hdue : v.overdue g = s.overdue g := by rw [hv]; rfl
    have hgoes : v.goesOn g = s.goesOn g := by rw [hv]; rfl
    rw [h] at hgive
    dsimp only at hgive
    rw [unguard_eq, hdue, hgoes] at hgive
    rw [hgive, ← notesUnguarded_add]
    exact ⟨⟨S, by rw [hv]; rfl⟩, hslots⟩

/-! ## The obligation -/

/-- Settles O49, command by command: each is one of the facts above at the instant of the command. Choices of the model that it rests on are log
entries 45 (the whole region of a profile slot counts as loaded), 129 (a free check where no two lanes agree) and 147 (an ADMISSION record for the
checks up to 11 only). -/
theorem verificationAdmissionAndCopies : Obligations.VerificationAdmissionAndCopies := by
  unfold Obligations.VerificationAdmissionAndCopies
  intro t s now verifyNote' admissionNote'
  refine ⟨?_, ?_, ?_, ?_, ?_, ?_, ?_⟩
  · intro k o hk hv hagree m check kept region
    refine ⟨(s.tick t).verifyComplete k o, ?_⟩
    have hexec : exec (.verifyComplete t k o) s = run t (fun u => u.verifyComplete k o) s := rfl
    by_cases hcheck : check = 0
    · obtain ⟨hcharged, hslot, hflash, hregions, halmanac, hothers, halone, hframe⟩ := verifyComplete_passes (s := s.tick t) hk hv hagree hcheck
      refine ⟨hexec.trans (run_next rfl (by rw [hframe]; rfl) (by rw [hframe]; rfl)), fun _ => ⟨hcharged, hslot, hflash, hregions, halmanac⟩,
        fun hno => absurd hcheck hno, hothers, halone, ?_⟩
      rw [if_pos hcheck]
      exact hframe
    · obtain ⟨hcharged, hslot, hflash, hregions, halmanac, hothers, halone, hframe⟩ := verifyComplete_fails (s := s.tick t) hk hv hagree hcheck
      refine ⟨hexec.trans (run_next rfl (by rw [hframe]; rfl) (by rw [hframe]; rfl)), fun hno => absurd hno hcheck,
        fun _ => ⟨hcharged, hslot, hflash, hregions, halmanac⟩, hothers, halone, ?_⟩
      exact hframe
  · intro k o hk hv hno
    obtain ⟨hlow, hhigh⟩ := freeCheck_bounds (s.tick t)
    have hend := verifyComplete_unagreed (s := s.tick t) hk hv hno
    refine ⟨_, (s.tick t).freeCheck, run_next (f := fun u => u.verifyComplete k o) hend rfl rfl, hlow, hhigh,
      modStaging_at_same _ (verifying_lt hv), fun j hj => modStaging_at_other s _ hj, ?_, rfl⟩
    unfold State.failsVerification
    rw [if_pos hhigh]
    rfl
  · intro k o p hp hv m check first ends
    refine ⟨fun hfirst hagree => ?_, fun hfirst hno => ?_, fun hwaits => ?_⟩
    · obtain ⟨hcharged, hlanes⟩ := admissionComplete_agreed (s := s.tick t) (o := o) hp hv hfirst hagree
      refine ⟨(s.tick t).admissionComplete k o, run_next (f := fun u => u.admissionComplete k o) rfl (by rw [hlanes]; rfl) (by rw [hlanes]; rfl),
        hcharged, by rw [hlanes]; rfl, ?_⟩
      show _ = _
      rw [hlanes]
      rfl
    · obtain ⟨hlow, hhigh⟩ := freeCheck_bounds (s.tick t)
      have hend := admissionComplete_unagreed (s := s.tick t) (o := o) hp hv hfirst hno
      exact ⟨_, (s.tick t).freeCheck, run_next (f := fun u => u.admissionComplete k o) hend rfl rfl, rfl, hlow, hhigh, rfl⟩
    · exact run_idle (f := fun u => u.admissionComplete k o) (admissionComplete_waits (s := s.tick t) o hwaits)
  · intro i
    refine ⟨fun hpending => ?_, fun hidle => run_idle (f := fun u => u.slotMapWrite i) (slotMapWrite_idle (s := s.tick t) i hidle)⟩
    have hsame := modLane_lane_same s i (fun l => { l with mapWritten := true })
    have hother : ∀ j, j ≠ i → _ := fun j hj => modLane_lane_other s (fun l => { l with mapWritten := true }) hj
    by_cases hlast : ∀ j, j ≠ i → (s.lane j).mapWritten = true
    · exact ⟨_, run_next (f := fun u => u.slotMapWrite i) (slotMapWrite_last (s := s.tick t) hpending hlast) rfl rfl, hsame, hother, fun _ => rfl,
        fun hmore => absurd hlast hmore⟩
    · exact ⟨_, run_next (f := fun u => u.slotMapWrite i) (slotMapWrite_more (s := s.tick t) hpending hlast) rfl rfl, hsame, hother,
        fun hall => absurd hall hlast, fun _ => rfl⟩
  · intro k g hcopy hg
    obtain ⟨R, hR⟩ := stageCopied_eq (s.tick t) k g
    have hend := (stageCopy_runs (s := s.tick t) hcopy hg).trans hR
    have hk : k < s.images.staging.length := staging_lt (fun he => by rw [he] at hcopy; cases hcopy)
    have hxram : ((s.tick t).releaseGuard g).xram = (s.releaseGuard g).xram := releaseGuard_xram g rfl
    refine ⟨_, run_next (f := fun u => u.stageCopy k) hend rfl rfl, modStaging_at_same _ hk, fun j hj => modStaging_at_other s _ hj, rfl,
      copiedBytes_untouched, fun ho hl i => storesCopy_lane (s.tick t) ho hl i, ?_⟩
    rw [hxram]
    rfl
  · intro k hnone
    exact run_idle (f := fun u => u.stageCopy k) (stageCopy_none (s := s.tick t) hnone)
  · obtain ⟨⟨S, hS⟩, hslots⟩ := giveUpGuards_eq (s.tick t)
    refine ⟨(s.tick t).giveUpGuards, run_next (f := State.giveUpGuards) rfl (by rw [hS]; rfl) (by rw [hS]; rfl), hslots,
      by rw [hS]; rfl, fun n hn => ?_, by rw [hS]; rfl⟩
    subst hn
    rw [hS]
    rfl

end Sys2Proof.Machine
end

section
/-! # The beginning of a start (R115, R227, R571) -/

namespace Sys2Proof.Machine

/-- Where lanes A and B hold one checkpoint, it is that of the majority (R227). -/
theorem checkpointMajority_of_AB {s : State} (h : (s.lane .A).checkpoint = (s.lane .B).checkpoint) :
    s.checkpointMajority = (s.lane .A).checkpoint := if_pos (Or.inl h)

theorem cold_lane (s : State) (i : LaneId) : s.cold.lane i = (s.lane i).cold := Lanes.get_mapI s.lanes _ i

/-- A lane whose Dusk record is judged: the record is erased (R580, R581). -/
theorem judgeDusk_lane (s : State) (i : LaneId) : s.judgeDusk.lane i = { s.lane i with
    dusk := none
    bistNeeded := (s.judgeDusk.lane i).bistNeeded
    startPassed := (s.judgeDusk.lane i).startPassed } := by cases i <;> rfl

/-- The record of a change that the slot map lost changes the Almanac only. -/
theorem lostEvent_frame (s : State) (g : Images) : s.lostEvent g = { s with almanac := (s.lostEvent g).almanac } := by
  unfold State.lostEvent
  split <;> rfl

/-- The state at the beginning of a start. -/
def State.begun (s : State) : State := { s.cold with startup := { s.cold.startup with begun := s.now } }

/-- A start begins from the cold state, with the Dusk records judged. -/
theorem beginStart_frame (s : State) : s.beginStart = { s.begun.judgeDusk with almanac := s.beginStart.almanac } :=
  lostEvent_frame s.begun.judgeDusk s.images

theorem beginStart_lane (s : State) (i : LaneId) : s.beginStart.lane i = { (s.lane i).cold with
    dusk := none
    bistNeeded := (s.begun.judgeDusk.lane i).bistNeeded
    startPassed := (s.begun.judgeDusk.lane i).startPassed } := by
  have hlane : s.begun.lane i = (s.lane i).cold := cold_lane s i
  rw [beginStart_frame, ← hlane]
  exact judgeDusk_lane s.begun i

/-- The start is due: 100 ms after the release, with the supply in range (R571). -/
def State.startDue (s : State) : Bool := s.control.phase == .release && !s.sealBank.below && decide (s.sealBank.releaseSince + 100 * ms ≤ s.now)

theorem startDue_iff {s : State} (hphase : s.control.phase = .release) (hbelow : s.sealBank.below = false) :
    s.startDue = true ↔ s.sealBank.releaseSince + 100000000 ≤ s.now := by
  simp only [State.startDue, hphase, hbelow, beq_self_eq_true, Bool.not_false, Bool.and_self, Bool.true_and, decide_eq_true_eq]
  rfl

theorem exec_start (t : Nat) (s : State) : exec (.start t) s = run t (fun u => if u.startDue then u.beginStart else u) s := rfl

/-- Settles O8: the instant of s0 on both sides, and the state that a start leaves there. -/
theorem startBeginsFromTheRelease : Obligations.StartBeginsFromTheRelease := by
  unfold Obligations.StartBeginsFromTheRelease
  intro t s hphase hbelow
  have hdue := startDue_iff (s := s.tick t) hphase hbelow
  rw [exec_start]
  refine ⟨fun hpast hcheckpoint => ?_, fun hearly => run_idle (if_neg (fun h => ?_))⟩
  · have hmajority : (s.tick t).checkpointMajority = (s.lane .A).checkpoint := checkpointMajority_of_AB (s := s.tick t) hcheckpoint
    have hframe := beginStart_frame (s.tick t)
    have hlane := beginStart_lane (s.tick t)
    rw [run_eq, if_pos (hdue.2 hpast)]
    generalize (s.tick t).beginStart = u at hframe hlane
    refine ⟨_, rfl, ?_⟩
    simp only [close_lane, hlane]
    rw [hframe]
    exact ⟨rfl, rfl, congrArg (· + 2 ^ 20) hmajority, rfl, rfl, rfl, rfl, rfl, rfl, rfl, fun i => ⟨rfl, trivial, rfl, rfl, rfl, rfl⟩⟩
  · exact absurd (hdue.1 h) (Nat.not_le.2 hearly)

end Sys2Proof.Machine
end

section
/-! # Timers that run out in a T1 body (R96, R99, R112, R119, R120, R122, R124, R652)

The entries and the point calls of a route engine after the operations of a body; then the body in progress of a lane. -/

namespace Sys2Proof.Machine

/-! ## Entries of the route table -/

theorem assoc_cons {α : Type} (p : Nat × α) (l : List (Nat × α)) (q : Nat) : assoc (p :: l) q = if q = p.1 then some p.2 else assoc l q := by
  unfold assoc
  rw [List.find?_cons]
  by_cases h : q = p.1
  · simp [h]
  · have hne : (p.1 == q) = false := by simpa using Ne.symm h
    rw [hne, if_neg h]

theorem assoc_assocSet {α : Type} (l : List (Nat × α)) (k q : Nat) (v : α) : assoc (assocSet l k v) q = if q = k then some v else assoc l q := by
  induction l with
  | nil => exact assoc_cons (k, v) [] q
  | cons p l ih =>
    unfold assocSet
    split
    · exact assoc_cons (k, v) (p :: l) q
    · split
      · next heq =>
        rw [assoc_cons, assoc_cons]
        subst heq
        by_cases h : q = p.1 <;> simp [h]
      · next hne =>
        rw [assoc_cons, assoc_cons, ih]
        by_cases h : q = p.1
        · have hk : q ≠ k := fun hq => hne (hq.symm.trans h)
          rw [if_pos h, if_pos h, if_neg hk]
        · rw [if_neg h, if_neg h]

theorem assoc_assocErase {α : Type} (l : List (Nat × α)) (k q : Nat) : assoc (assocErase l k) q = if q = k then none else assoc l q := by
  induction l with
  | nil => simp [assocErase, assoc]
  | cons p l ih =>
    unfold assocErase at ih ⊢
    by_cases hp : p.1 = k
    · rw [List.filter_cons_of_neg (by simp [hp]), ih, assoc_cons]
      by_cases h : q = k <;> simp [h, hp]
    · rw [List.filter_cons_of_pos (by simp [hp]), assoc_cons, assoc_cons, ih]
      by_cases h : q = p.1
      · have hk : q ≠ k := fun hq => hp (h.symm.trans hq)
        rw [if_pos h, if_pos h, if_neg hk]
      · rw [if_neg h, if_neg h]

theorem entry_putEntry (e : Engine) (r q : Nat) (x : RouteEntry) : (e.putEntry r x).entry q = if q = r then x else e.entry q := by
  unfold Engine.entry assocD
  by_cases hx : x = RouteEntry.idle
  · have hroutes : (e.putEntry r x).routes = assocErase e.routes r := if_pos hx
    rw [hroutes, assoc_assocErase]
    split
    · exact hx.symm
    · rfl
  · have hroutes : (e.putEntry r x).routes = assocSet e.routes r x := if_neg hx
    rw [hroutes, assoc_assocSet]
    split <;> rfl

/-! ## A route that returns to IDLE -/

theorem setState_entry (w : Work) (r q : Nat) (x : RouteEntry) : (w.setState r x).eng.entry q = if q = r then x else w.eng.entry q := by
  rw [← entry_putEntry]
  unfold Work.setState
  simp only []
  split <;> rfl

theorem setState_calls (w : Work) (r : Nat) (x : RouteEntry) : (w.setState r x).eng.calls = w.eng.calls := by
  unfold Work.setState
  simp only []
  split <;> rfl

/-- A signal that leaves the stop set changes no route and no point call. -/
theorem stopLeave_keeps (w : Work) (sig cause : Nat) (o : Origin) :
    (w.stopLeave sig cause o).eng.routes = w.eng.routes ∧ (w.stopLeave sig cause o).eng.calls = w.eng.calls := by
  unfold Work.stopLeave
  split <;> exact ⟨rfl, rfl⟩

/-- Point calls that end one after the other: the others stay, and the routes. -/
theorem endCalls_eng (l : List PointCall) (stage : Nat) (w : Work) :
    (l.foldl (fun u c => u.endCall c stage) w).eng = { w.eng with calls := w.eng.calls.filter (fun d => !l.contains d) } := by
  induction l generalizing w with
  | nil => simp
  | cons c l ih =>
    have hcall : (w.endCall c stage).eng = { w.eng with calls := w.eng.calls.filter (· != c) } := rfl
    rw [List.foldl_cons, ih, hcall]
    simp only [List.filter_filter]
    congr 1
    refine List.filter_congr (fun d _ => ?_)
    by_cases hd : d = c <;> simp [hd]

/-- A route returns to IDLE with a reason, no other route changes, and its point calls end (Table 3.4). -/
theorem toIdle_leaves (w : Work) (m : Mem) (r reason stage : Nat) :
    (∀ q, (w.toIdle m r reason stage).eng.entry q = if q = r then { RouteEntry.idle with reason := reason } else w.eng.entry q) ∧
      ∀ c ∈ (w.toIdle m r reason stage).eng.calls, c.route ≠ r := by
  let ended := (w.eng.calls.filter (fun c => c.route == r)).foldl (fun u c => u.endCall c stage) w
  let noted : Work := { ended with rejects := if 2 ≤ reason ∧ reason ≤ 7 then ended.rejects ++ [reason] else ended.rejects }
  let idle := noted.setState r { RouteEntry.idle with reason := reason }
  have heng : noted.eng = { w.eng with calls := w.eng.calls.filter (fun d => !(w.eng.calls.filter (fun c => c.route == r)).contains d) } :=
    endCalls_eng _ _ _
  have hsame : (w.toIdle m r reason stage).eng.routes = idle.eng.routes ∧ (w.toIdle m r reason stage).eng.calls = idle.eng.calls := by
    unfold Work.toIdle
    simp only []
    split
    · split
      · exact stopLeave_keeps _ _ _ _
      · exact ⟨rfl, rfl⟩
    · exact ⟨rfl, rfl⟩
  obtain ⟨hroutes, hcalls⟩ := hsame
  refine ⟨fun q => ?_, fun c hc hroute => ?_⟩
  · have hentry : (w.toIdle m r reason stage).eng.entry q = idle.eng.entry q := by
      unfold Engine.entry
      rw [hroutes]
    rw [hentry, setState_entry, heng]
    rfl
  · rw [hcalls, setState_calls, heng] at hc
    obtain ⟨hmem, hgone⟩ := List.mem_filter.1 hc
    simp [hmem, hroute] at hgone

/-! ## The body in progress -/

/-- A voting lane with a T1 body in progress that no row has changed yet, and that took no command in. -/
structure Lane.FreshBody (l : Lane) : Prop where
  mode : l.mode = .voting
  body : ∃ n, (Task.t1, n) ∈ l.program.bodies
  working : l.program.working = none
  intake : l.program.intake = []

/-- A fresh body works on a copy of the lane's route engine. -/
theorem inBody_fresh {l : Lane} (h : l.FreshBody) (f : Work → Work) : l.inBody f = { l with
    program := { l.program with working := some ((f (Work.start l.engine)).eng, (f (Work.start l.engine)).events) }
    counters := l.counters.ofWork (f (Work.start l.engine)) } := by
  obtain ⟨n, hn⟩ := h.body
  have hbody : l.program.bodies.any (fun b => b.1 == Task.t1) = true := List.any_eq_true.2 ⟨_, hn, rfl⟩
  unfold Lane.inBody
  rw [if_pos hbody, h.working]
  rfl

theorem bodyEngine_fresh {l : Lane} (h : l.FreshBody) : l.bodyEngine = l.engine := by
  unfold Lane.bodyEngine
  rw [h.working]
  rfl

theorem timerDue_fresh {l : Lane} (h : l.FreshBody) {r : Nat} {k : TimerKind} {st : RouteState} (hs : (l.engine.entry r).state = st)
    (hk : (l.engine.entry r).timerKind = k) (ht : (l.engine.entry r).timer ≤ 1) : l.timerDue r k st = true := by
  unfold Lane.timerDue Lane.cancels
  rw [bodyEngine_fresh h, h.intake]
  simp [hs, hk, ht]

/-- A row that acts in the bodies in progress, where it is due in a lane with a fresh body: the body's own copy of the route engine has changed,
and no committed one. -/
theorem run_inBody {s : State} {t : Nat} {i : LaneId} {g : State → State} {due : Lane → Bool} {f : Work → Work} (h : (s.lane i).FreshBody)
    (hdue : due (s.lane i) = true) (hg : g (s.tick t) = (s.tick t).bodies due f) :
    ∃ u evs, run t g s = .next u ∧ (u.lane i).program.working = some ((f (Work.start (s.lane i).engine)).eng, evs) ∧
      (u.lane i).engine = (s.lane i).engine ∧ u = { s with now := u.now, lanes := u.lanes } := by
  have hlane : (g (s.tick t)).lane i = (s.lane i).inBody f := by
    rw [hg]
    unfold State.bodies
    rw [mapVoting_lane, tick_lane, if_pos h.mode, if_pos hdue]
  have hframe : SameButLanes (s.tick t) (g (s.tick t)) := by rw [hg]; rfl
  refine ⟨_, (f (Work.start (s.lane i).engine)).events, run_sameButLanes hframe, ?_, ?_, rfl⟩
  · rw [lane_of_lanes, hlane, inBody_fresh h]
  · rw [lane_of_lanes, hlane, inBody_fresh h]

/-- Where no lane has the row due, nothing happens. -/
theorem bodies_idle {s : State} {due : Lane → Bool} {f : Work → Work} (h : ∀ i, due (s.lane i) = false) : s.bodies due f = s := by
  have hlanes : (s.bodies due f).lanes = s.lanes := Lanes.ext_get (fun i => by
    have hlane := mapVoting_lane s (fun l => if due l then l.inBody f else l) i
    rw [h i, if_neg Bool.false_ne_true, ite_self] at hlane
    exact hlane)
  have hframe : s.bodies due f = { s with lanes := (s.bodies due f).lanes } := rfl
  rw [hframe, hlanes]

/-- A timer whose end returns its route to IDLE. -/
theorem run_toIdle {s : State} {t r reason stage : Nat} {i : LaneId} {m : Mem} {g : State → State} {due : Lane → Bool} (h : (s.lane i).FreshBody)
    (hdue : due (s.lane i) = true) (hg : g (s.tick t) = (s.tick t).bodies due (fun w => w.toIdle m r reason stage)) :
    ∃ u, run t g s = .next u ∧ ∃ e evs, (u.lane i).program.working = some (e, evs) ∧ (u.lane i).engine = (s.lane i).engine ∧
      e.entry r = { RouteEntry.idle with reason := reason } ∧ (∀ q, q ≠ r → e.entry q = (s.lane i).engine.entry q) ∧
      (∀ c ∈ e.calls, c.route ≠ r) ∧ u = { s with now := u.now, lanes := u.lanes } := by
  obtain ⟨u, evs, hrun, hworking, hengine, hframe⟩ := run_inBody h hdue hg
  obtain ⟨hentry, hcalls⟩ := toIdle_leaves (Work.start (s.lane i).engine) m r reason stage
  exact ⟨u, hrun, _, evs, hworking, hengine, (hentry r).trans (if_pos rfl), fun q hq => (hentry q).trans (if_neg hq), hcalls, hframe⟩

/-- Settles O19: each timer by what its end does to the body's copy of the route engine. That it acts in the T1 body in progress is the model's
choice (log entry 63). -/
theorem routeTimersAndSectionResetsRunOut : Obligations.RouteTimersAndSectionResetsRunOut := by
  unfold Obligations.RouteTimersAndSectionResetsRunOut
  refine ⟨?_, ?_, ?_⟩
  · intro t r n i s hmode hbody hworking hintake x idleWith htimer
    have h : (s.lane i).FreshBody := ⟨hmode, ⟨n, hbody⟩, hworking, hintake⟩
    refine ⟨fun hstate hkind => ?_, fun hstate hkind hentered => ?_, fun hstate hkind => ?_⟩
    · exact run_toIdle (g := fun u => u.detectTimeout (.route r)) h (timerDue_fresh h hstate hkind htimer) rfl
    · have hdue : ((s.lane i).timerDue r .approach .approachLocked && !(s.tick t).entered (s.lane i) r) = true := by
        rw [timerDue_fresh h hstate hkind htimer, hentered]
        rfl
      exact run_toIdle (g := fun u => u.approachTimeout r) h
        (due := fun l => l.timerDue r .approach .approachLocked && !(s.tick t).entered l r) hdue rfl
    · exact run_toIdle (g := fun u => u.emergTimeout r) h (timerDue_fresh h hstate hkind htimer) rfl
  · intro t r s hentered
    refine run_idle (f := fun u => u.approachTimeout r) (bodies_idle (fun i => ?_))
    show ((s.lane i).timerDue r .approach .approachLocked && !(s.tick t).entered (s.lane i) r) = false
    rw [hentered i, Bool.not_true, Bool.and_false]
  · intro t n i s hmode hbody hworking hintake
    have h : (s.lane i).FreshBody := ⟨hmode, ⟨n, hbody⟩, hworking, hintake⟩
    refine ⟨?_, fun el left hmem hleft => ?_⟩
    · intro r x hstate hkind htimer
      obtain ⟨u, evs, hrun, hwork, hengine, hframe⟩ :=
        run_inBody (t := t) (g := fun u => u.overlapTimeout r) h (timerDue_fresh h hstate hkind htimer) rfl
      exact ⟨u, _, evs, hrun, hwork, (entry_putEntry _ r r _).trans (if_pos rfl), fun q hq => (entry_putEntry _ r q _).trans (if_neg hq), hengine,
        hframe⟩
    · let due := fun (q : ResetRun) => q.element == el && decide (q.left ≤ 1)
      have hdue : (s.lane i).bodyEngine.resets.any due = true := by
        rw [bodyEngine_fresh h]
        exact List.any_eq_true.2 ⟨_, hmem, by simp [due, hleft]⟩
      obtain ⟨u, evs, hrun, hwork, hengine, hframe⟩ := run_inBody (t := t) (g := fun u => u.resetEnd el) h
        (due := fun l => l.bodyEngine.resets.any due) hdue rfl
      refine ⟨u, _, evs, hrun, hwork, fun q hq hel => ?_, fun q hq hel => ?_, rfl, hengine, hframe⟩
      · have hkept := (List.mem_filter.1 hq).2
        simpa [due, hel] using hkept
      · exact List.mem_filter.2 ⟨hq, by simp [hel]⟩

end Sys2Proof.Machine
end

section
/-! # Task bodies (R98, R130, R131, R145, R146, R162 to R165, R171, R172)

What the function blocks of a body leave alone, and what a body that completes does to its lane and, in HOLD, to the run of steps. -/

namespace Sys2Proof.Machine

/-! ## Function blocks -/

/-- What of a lane's program side the function blocks do not touch: the bodies in progress, the output images and the TE runs. -/
def Program.schedule (p : Program) : List (Task × Nat) × List TaskOut × List TeRun × List (Nat × List (Nat × Nat)) :=
  (p.bodies, p.done, p.teQueue, p.tePubs)

theorem schedule_eq {p q : Program} : q.schedule = p.schedule ↔
    q.bodies = p.bodies ∧ q.done = p.done ∧ q.teQueue = p.teQueue ∧ q.tePubs = p.tePubs := by
  simp [Program.schedule]

theorem schedule_foldl {α : Type} {f : Program → α → Program} (hf : ∀ p x, (f p x).schedule = p.schedule) (l : List α) (p : Program) :
    (l.foldl f p).schedule = p.schedule := by
  induction l generalizing p with
  | nil => rfl
  | cons x l ih => exact (ih (f p x)).trans (hf p x)

theorem schedule_fbExec (p : Program) (m : Mem) (task : Task) (x : FbExec) : (p.fbExec m task x).schedule = p.schedule := by
  unfold Program.fbExec
  split
  · rfl
  · next i _ =>
    refine (schedule_foldl (fun q y => ?_) _ _).trans (schedule_foldl (fun q k => ?_) _ (p.writeData i x.writes))
    · split <;> rfl
    · rfl

theorem schedule_runBlocks (p : Program) (m : Mem) (task : Task) (b : BodyRun) : (p.runBlocks m task b).schedule = p.schedule :=
  schedule_foldl (fun q x => schedule_fbExec q m task x) _ p

/-! ## A lane with a body complete -/

/-- A TE run that completes (R163, R172). -/
theorem bodyDone_te {l : Lane} {r : TeRun} {rest : List TeRun} (hq : l.program.teQueue = r :: rest) (s : State) (m : Mem) (p : Snapshot) (b : BodyRun) :
    let v := l.bodyDone s m .te p b
    v.program.teQueue = rest ∧ v.program.tePubs = appendPubs l.program.tePubs r.ended b.pubs ∧
      v.counters = { l.counters with teRuns := l.counters.teRuns + 1 } ∧ v.program.done = l.program.done ∧ v.engine = l.engine := by
  obtain ⟨-, hdone, hqueue, hpubs⟩ := schedule_eq.1 (schedule_runBlocks l.program m .te b)
  simp only [Lane.bodyDone, Program.teDone, hqueue, hq, hdone, hpubs]
  exact ⟨trivial, trivial, rfl, trivial, trivial⟩

/-- TB has no output image (R162). -/
theorem bodyDone_tb (l : Lane) (s : State) (m : Mem) (p : Snapshot) (b : BodyRun) :
    l.bodyDone s m .tb p b = { l with program := l.program.runBlocks m .tb b } := by
  obtain ⟨hbodies, -⟩ := schedule_eq.1 (schedule_runBlocks l.program m .tb b)
  simp only [Lane.bodyDone]
  rw [← hbodies]

/-! ## The rest of the module -/

/-- The breakpoints that the blocks of a body meet (R165). -/
def State.breaks (s : State) (k : Task) (b : BodyRun) : List Nat := breaksMet s.control.breakpoints (calledBlocks s.img k b)

/-- `s` with the body of a task complete in a lane. -/
def State.completes (s : State) (i : LaneId) (k : Task) (b : BodyRun) : State :=
  s.setLane i ((s.lane i).bodyDone s s.img k (s.snapNo (s.bodySnapshot (s.lane i) k)) b)

/-- The record of a breakpoint met in a lane (0x0203). -/
def State.breakNote (s : State) (i : LaneId) (n : Nat) : Queued :=
  queuedOf 0x0203 0 0 Origin.internal [payloadFields [(24, 4, n), (28, 4, (s.lane i).program.logical.a / s.t0)]]

theorem foldl_event_eq {α : Type} (code : Nat) (o : Origin) (f : α → List (Nat × Nat × Nat)) (l : List α) (s : State) :
    l.foldl (fun u k => u.event code o (f k)) s = s.addEvents (l.map (fun k => queuedOf code 0 0 o [payloadFields (f k)])) := by
  induction l generalizing s with
  | nil => simp [State.addEvents]
  | cons k l ih =>
    rw [List.foldl_cons, ih]
    simp [State.addEvents]

section
variable {s : State} {i : LaneId} {k : Task} {b : BodyRun}

/-- Nothing completes where no body of the task is ready. -/
theorem taskBody_idle (h : s.bodyReady (s.lane i) k = false) : s.taskBody i k b = s :=
  if_neg (fun hready => Bool.false_ne_true (h.symm.trans hready.2))

variable (hmode : (s.lane i).mode = .voting) (hready : s.bodyReady (s.lane i) k = true)
include hmode hready

/-- Without a breakpoint that counts, a body that completes changes its lane only. -/
theorem taskBody_quiet (h : s.control.mode ≠ .hold ∨ s.breaks k b = [] ∨ i ≠ s.lead) : s.taskBody i k b = s.completes i k b := by
  unfold State.taskBody
  rw [if_pos ⟨hmode, hready⟩]
  simp only []
  split
  · next n rest hhold hmet => exact if_neg (fun hlead => h.elim (fun hno => hno hhold) (fun h => h.elim (fun hno => by
      rw [State.breaks, hmet] at hno; cases hno) (fun hno => hno hlead)))
  · rfl

/-- A breakpoint met in HOLD: its record, and the run of steps ends (R165). -/
theorem taskBody_breaks (hhold : s.control.mode = .hold) (hlead : i = s.lead) (hmet : s.breaks k b ≠ []) :
    s.taskBody i k b = { (s.completes i k b).addEvents ((s.breaks k b).map (s.breakNote i)) with
      control := { s.control with stepBroken := true } } := by
  unfold State.taskBody
  rw [if_pos ⟨hmode, hready⟩, hhold]
  simp only []
  split
  · rw [if_pos hlead, foldl_event_eq]
    rfl
  · next hno =>
    obtain ⟨n, rest, hcons⟩ := List.exists_cons_of_ne_nil hmet
    exact absurd hcons (hno n rest rfl)

/-- Whatever it meets, a body that completes changes no other lane, and its own as `Lane.bodyDone` says. -/
theorem taskBody_lanes : (s.taskBody i k b).lanes = (s.completes i k b).lanes := by
  by_cases h : s.control.mode ≠ .hold ∨ s.breaks k b = [] ∨ i ≠ s.lead
  · rw [taskBody_quiet hmode hready h]
  · obtain ⟨hhold, hmet, hlead⟩ : s.control.mode = .hold ∧ s.breaks k b ≠ [] ∧ i = s.lead := by
      simpa only [not_or, not_not] using h
    rw [taskBody_breaks hmode hready hhold hlead hmet]
    rfl

end

/-- TASK_BODY_COMPLETE where a body of the task is ready in a voting lane. -/
theorem exec_taskBody_ready {s : State} {i : LaneId} {k : Task} (t : Nat) (b : BodyRun) (hmode : (s.lane i).mode = .voting)
    (hready : s.bodyReady (s.lane i) k = true) :
    ∃ u, exec (.taskBodyComplete t i k b) s = .next u ∧ (∀ j, j ≠ i → u.lane j = s.lane j) ∧
      u.lane i = (s.lane i).bodyDone s s.img k (s.snapNo (s.bodySnapshot (s.lane i) k)) b ∧
      ((s.control.mode ≠ .hold ∨ s.breaks k b = [] ∨ i ≠ s.lead) → u = { s with now := max s.now t, lanes := u.lanes }) := by
  have hlanes := taskBody_lanes (s := s.tick t) (b := b) hmode hready
  have hlane : ∀ j, ((s.tick t).taskBody i k b).lane j = ((s.tick t).completes i k b).lane j := fun j => congrArg (fun l => Lanes.get l j) hlanes
  refine ⟨_, run_eq s t (fun u => u.taskBody i k b), fun j hj => ?_, ?_, fun hquiet => ?_⟩
  · rw [close_lane, hlane]
    exact setLane_lane_other _ _ hj
  · rw [close_lane, hlane]
    exact setLane_lane_same _ _ _
  · rw [taskBody_quiet (s := s.tick t) hmode hready hquiet]
    rfl

theorem bodyReady_tb {s : State} {l : Lane} : s.bodyReady l .tb = true ↔
    s.hasImage = true ∧ s.control.executing = true ∧ s.control.degradation.isNadir = false := by
  simp [State.bodyReady, and_assoc]

theorem bodyReady_te {s : State} {l : Lane} : s.bodyReady l .te = true ↔ s.bodyReady l .tb = true ∧ l.program.teQueue ≠ [] := by
  simp [State.bodyReady]

/-- Settles O48, task by task. What the program code does stands in the operand (log entry 3). -/
theorem taskBodiesCompleteInTheirLane : Obligations.TaskBodiesCompleteInTheirLane := by
  unfold Obligations.TaskBodiesCompleteInTheirLane
  intro t i b s hmode l start prog met quiet others runs
  have hidle : ∀ k, s.bodyReady l k = false → exec (.taskBodyComplete t i k b) s = .next (State.tick t s) := fun k hno =>
    run_idle (f := fun u => u.taskBody i k b) (taskBody_idle (s := s.tick t) hno)
  have hstopped : ¬runs → s.bodyReady l .tb = false := fun hno => Bool.eq_false_iff.2 (fun h => hno (bodyReady_tb.1 h))
  have hnotTe : (s.bodyReady l .tb = false ∨ l.program.teQueue = []) → s.bodyReady l .te = false := fun hno =>
    Bool.eq_false_iff.2 (fun h => by
      obtain ⟨htb, hne⟩ := bodyReady_te.1 h
      exact hno.elim (fun hfalse => Bool.false_ne_true (hfalse.symm.trans htb)) hne)
  refine ⟨fun hbody => exec_taskBody_ready (k := .t0) t b hmode hbody, fun hbody => exec_taskBody_ready (k := .t1) t b hmode hbody,
    fun hbody => exec_taskBody_ready (k := .t2) t b hmode hbody, fun r rest hqueue hruns => ?_, fun hruns => ?_, fun k htb hte hno => ?_,
    fun hno => ⟨hidle .tb (hstopped hno), hidle .te (hnotTe (Or.inl (hstopped hno)))⟩, fun hempty => hidle .te (hnotTe (Or.inr hempty)),
    fun k hready hhold hlead hmet => ?_⟩
  · have hready : s.bodyReady l .te = true := bodyReady_te.2 ⟨bodyReady_tb.2 hruns, by rw [hqueue]; exact List.cons_ne_nil _ _⟩
    obtain ⟨u, hexec, hothers, hlane, hquiet⟩ := exec_taskBody_ready t b hmode hready
    obtain ⟨hrest, hpubs, hcount, hdone, hengine⟩ := bodyDone_te hqueue s s.img (s.snapNo (s.bodySnapshot l .te)) b
    rw [← hlane] at hrest hpubs hcount hdone hengine
    exact ⟨u, hexec, hothers, hrest, hpubs, hcount, hdone, hengine, hquiet⟩
  · obtain ⟨u, hexec, hothers, hlane, hquiet⟩ := exec_taskBody_ready t b hmode (bodyReady_tb.2 hruns)
    exact ⟨u, hexec, hothers, hlane.trans (bodyDone_tb l s s.img _ b), hquiet⟩
  · refine hidle k ?_
    cases k with
    | t0 | t1 | t2 => exact hno
    | te => exact absurd rfl hte
    | tb => exact absurd rfl htb
  · exact ⟨_, run_next (f := fun u => u.taskBody i k b) (taskBody_breaks (s := s.tick t) hmode hready hhold hlead hmet) rfl rfl, rfl, rfl⟩

end Sys2Proof.Machine
end

section
/-! # Permissive commands for the route engine (R97, R101, R114, R119, R120, R124, R374 to R377, R391, Table 3.3)

What the acceptance of a command reads does not change with its copy; then the acceptance checks command by command. -/

namespace Sys2Proof.Machine

/-! ## What the acceptance of a command reads -/

/-- `p` is `s` as far as the acceptance of a route command reads it. -/
structure State.ReadsAs (s p : State) : Prop where
  control : p.control = s.control
  images : p.images = s.images
  snapshots : p.snapshots = s.snapshots
  pair : p.pair = s.pair
  engine : p.leadLane.engine = s.leadLane.engine
  awaiting : p.host.awaiting = s.host.awaiting
  taken : p.host.taken = s.host.taken
  lock : p.host.lock = s.host.lock

/-- A state reads alike where no more than the clock, the lanes' check counts and the other parts of the host interface have changed. -/
theorem readsAs_of {s p : State} {n : Nat} {H : HostSide} {L : Lanes Lane} (hp : p = { s with now := n, host := H, lanes := L })
    (hl : s.sameLanes p) (ha : H.awaiting = s.host.awaiting) (ht : H.taken = s.host.taken) (hk : H.lock = s.host.lock) : s.ReadsAs p := by
  have hengine : p.leadLane.engine = s.leadLane.engine := by
    have hlead : p.lead = s.lead := lead_same (fun i => by rw [hl i])
    unfold State.leadLane
    rw [hlead, hl s.lead]
  subst hp
  exact ⟨rfl, rfl, rfl, rfl, hengine, ha, ht, hk⟩

namespace State.ReadsAs

variable {s p : State} (h : s.ReadsAs p)
include h

theorem img : p.img = s.img := by unfold State.img; rw [h.images]
theorem snap : p.snap = s.snap := by unfold State.snap; rw [h.snapshots]
theorem powered : p.powered = s.powered := by unfold State.powered; rw [h.control]
theorem inNadir : p.inNadir = s.inNadir := by unfold State.inNadir; rw [h.control]
theorem standbyUnit : p.standbyUnit = s.standbyUnit := by unfold State.standbyUnit; rw [h.pair]
theorem gate : p.gate = s.gate := by unfold State.gate; rw [h.inNadir, h.powered, h.control, h.standbyUnit]
theorem lockedOut (n : Nat) : p.lockedOut n = s.lockedOut n := by unfold State.lockedOut; rw [h.lock]
theorem holdsLock (n : Nat) : p.holdsLock n = s.holdsLock n := by unfold State.holdsLock; rw [h.lock]
theorem stagingAt (k : Nat) : p.stagingAt k = s.stagingAt k := by unfold State.stagingAt; rw [h.images]
theorem programmed (e ty : Nat) : p.programmed e ty = s.programmed e ty := by unfold State.programmed; rw [h.img]

theorem slotMem (k : Nat) : p.slotMem k = s.slotMem k := by
  unfold State.slotMem State.slotImage
  rw [h.images]

theorem changing (routes : Bool) (n : Nat) : p.changing routes n = s.changing routes n := by
  unfold State.changing
  simp only [h.stagingAt, h.slotMem, h.images]

theorem waitingRoutes : p.waitingRoutes = s.waitingRoutes := by unfold State.waitingRoutes; rw [h.awaiting, h.pair]

theorem waitingCmds : p.waitingCmds = s.waitingCmds := by
  unfold State.waitingCmds State.waitingIntakes
  rw [h.awaiting, h.taken, h.pair]

theorem blockAhead : p.blockAhead = s.blockAhead := by
  unfold State.blockAhead
  rw [h.waitingCmds, h.engine, h.img]

theorem routeLoad : p.routeLoad = s.routeLoad := by
  unfold State.routeLoad
  rw [h.engine, h.waitingRoutes, h.taken]

theorem movingPoints (e : Engine) : p.movingPoints e = s.movingPoints e := by
  unfold State.movingPoints
  rw [h.awaiting, h.pair]

theorem cancelForce (r : Nat) : p.cancelForce r = s.cancelForce r := by
  unfold State.cancelForce
  rw [h.img, h.engine]

end State.ReadsAs

/-! ## Acceptance -/

theorem accept_routeSet (s : State) {c : Cmd} (h : c.opcode = 0x0101) : s.accept c = s.acceptRouteSet c := by unfold State.accept; rw [h]; rfl
theorem accept_routeReleaseTimed (s : State) {c : Cmd} (h : c.opcode = 0x0103) : s.accept c = s.acceptRouteReleaseTimed c := by
  unfold State.accept; rw [h]; rfl
theorem accept_pointMove (s : State) {c : Cmd} (h : c.opcode = 0x0201) : s.accept c = s.acceptPointMove c := by unfold State.accept; rw [h]; rfl
theorem accept_pointUnblock (s : State) {c : Cmd} (h : c.opcode = 0x0203) : s.accept c = s.acceptPointUnblock c := by unfold State.accept; rw [h]; rfl
theorem accept_sectionReset (s : State) {c : Cmd} (h : c.opcode = 0x0204) : s.accept c = s.acceptSectionReset c := by unfold State.accept; rw [h]; rfl
theorem accept_paramWrite (s : State) {c : Cmd} (h : c.opcode = 0x0408) : s.accept c = s.acceptParamWrite c := by unfold State.accept; rw [h]; rfl

/-- A command with a good copy is well formed where the length of its parameters fits. -/
theorem malformed_of_goodCopy {s : State} {op : Nat} {x : Session} {c : HostCopy} {cmd : Cmd} (g : s.goodCopy op x c) (hop : cmd.opcode = op)
    (hp : cmd.params = c.params) (hl : lengthOk op c.params = true) : cmd.malformed = false := by
  obtain ⟨-, -, -, -, -, -, -, -, -, -, -, -, hres, -⟩ := g
  exact malformed_eq_false (by rw [hop, hp]; exact hl) (by rw [hop, hp]; exact hres)

/-- Checks 2 and 3 of Table 3.3 hold in RUN, in WARM or LIVE, outside Nadir and in a module of its own. -/
theorem gate_passes {s : State} (hn : s.inNadir = false) (hpow : s.powered = true) (hrun : s.control.mode = .run) (hu : s.pair.role = .unpaired) :
    ∀ r ∈ s.gate, r.1 = false := by
  have hmode : (s.control.mode != .run) = false := by rw [hrun]; rfl
  simp only [State.gate, List.forall_mem_cons, List.not_mem_nil, false_implies, implies_true, and_true]
  exact ⟨hn, by rw [hpow, hmode, standbyUnit_unpaired hu]; rfl⟩

/-- Refusals of which none applies: those of the gate, then those of the opcode. -/
theorem firstOf_gate {s : State} {l : List (Bool × Nat)} {go : Acc} (hg : ∀ r ∈ s.gate, r.1 = false) (hl : ∀ r ∈ l, r.1 = false) :
    firstOf (s.gate ++ l) s go = go :=
  firstOf_go (fun r hr => (List.mem_append.1 hr).elim (hg r) (hl r))

/-- No entry of a list is bad where each passes. -/
theorem firstBad_none {l : List (Nat × Word)} {bad : Nat → (Nat × Word) → Bool} (h : ∀ k, ∀ q ∈ l, bad k q = false) : firstBad l bad = none := by
  have hfind : l.zipIdx.find? (fun x => bad x.2 x.1) = none := List.find?_eq_none.2 (fun x hx => by
    rw [h x.2 x.1 (List.fst_mem_of_mem_zipIdx hx)]
    exact Bool.false_ne_true)
  unfold firstBad
  rw [hfind]
  rfl

section
variable {s : State} {cmd : Cmd} (hm : cmd.malformed = false)
include hm

/-- ROUTE_SET of an idle route (Table 3.3). -/
theorem acceptRouteSet_awaits {r : Nat} (hr : paramRoute cmd.params = r) (hg : ∀ q ∈ s.gate, q.1 = false) (hdef : (routeDef s.img r).isSome = true)
    (hchange : s.changing true r = false) (hprofile : s.images.takenProfile = none) (hidle : (s.leadLane.engine.entry r).state = .idle)
    (hwait : r ∉ s.waitingRoutes) (hload : s.routeLoad < 1024) (hfree : s.snap.elemLock &&& reqConflict s.img r = 0) :
    s.acceptRouteSet cmd = (s.await cmd (.routeSet r)).acc stAccepted := by
  unfold State.acceptRouteSet
  rw [hr]
  refine firstOf_gate hg ?_
  simp [hm, hchange, hprofile, hidle, hwait, hfree, RouteState.isActive, Option.isNone_eq_false_iff.2 hdef]
  omega

/-- ROUTE_RELEASE_TIMED of a route that permits it (R120). -/
theorem acceptRouteReleaseTimed_awaits {r : Nat} (hr : paramRoute cmd.params = r) (hg : ∀ q ∈ s.gate, q.1 = false)
    (hdef : (routeDef s.img r).map (·.emergRel) = some true) (hchange : s.changing true r = false)
    (hstate : let n := (s.leadLane.engine.entry r).state
      n = .locked ∨ n = .cleared ∨ n = .approachLocked ∨ n = .occupied) :
    s.acceptRouteReleaseTimed cmd = (s.await cmd (.routeRelease r)).acc stAccepted := by
  have hsome : (routeDef s.img r).isSome = true := by
    obtain ⟨x, hx, -⟩ := Option.map_eq_some_iff.1 hdef
    exact Option.isSome_iff_exists.2 ⟨x, hx⟩
  unfold State.acceptRouteReleaseTimed
  rw [hr]
  refine firstOf_gate hg ?_
  rcases hstate with h | h | h | h <;> simp [hm, hchange, hdef, h, Option.isNone_eq_false_iff.2 hsome]

/-- POINT_MOVE of a free point (R113). -/
theorem acceptPointMove_awaits {e pos : Nat} (he : paramElem cmd.params = e) (hpos : rd8 cmd.params 2 = pos) (hg : ∀ q ∈ s.gate, q.1 = false)
    (hprog : s.programmed e tyPoint = true) (hend : pos = 1 ∨ pos = 2) (hchange : s.changing false e = false) (hfree : s.snap.elemLocked e = false)
    (hblock : getBit s.blockAhead e = false) (hres : getBit (s.leadLane.engine.reservation s.img) e = false)
    (hstill : e ∉ s.movingPoints s.leadLane.engine) : s.acceptPointMove cmd = (s.await cmd (.pointMove e pos)).acc stAccepted := by
  unfold State.acceptPointMove
  rw [he, hpos]
  refine firstOf_gate hg ?_
  rcases hend with h | h <;> simp [hm, hprog, hchange, hfree, hblock, hres, hstill, h]

/-- POINT_UNBLOCK of a range with a blocked end (R377). -/
theorem acceptPointUnblock_awaits {first last n : Nat} (hfirst : bitsAt (rd16 cmd.params 0) 0 13 = first)
    (hlast : bitsAt (rd16 cmd.params 2) 0 13 = last)
    (hcount : ((List.range (last + 1 - first)).filter (fun k => getBit s.blockAhead (first + k))).length = n) (hn : s.inNadir = false)
    (hpow : s.powered = true) (hu : s.pair.role = .unpaired) (hle : first ≤ last) (hsome : n ≠ 0) :
    s.acceptPointUnblock cmd = (s.await cmd (.pointUnblock first last)).accData stAccepted (b16 n ++ b16 0) := by
  unfold State.acceptPointUnblock
  rw [hfirst, hlast]
  dsimp only
  rw [hcount]
  refine firstOf_go ?_
  simp [hm, hn, hpow, standbyUnit_unpaired hu, hsome]
  omega

/-- SECTION_RESET of an occupied or disturbed section that no route locks (R124). -/
theorem acceptSectionReset_awaits {e : Nat} (he : paramElem cmd.params = e) (hg : ∀ q ∈ s.gate, q.1 = false) (hchange : s.changing false e = false)
    (htype : (elemAt s.img e).etype = tySection) (hread : s.snap.nibble e = 0 ∨ s.snap.nibble e = 2) (hfree : s.snap.elemLocked e = false)
    (hout : (elemAt s.img e).permFirst ≠ 0xFFFF) : s.acceptSectionReset cmd = (s.await cmd (.sectionReset e)).acc stAccepted := by
  unfold State.acceptSectionReset
  rw [he]
  refine firstOf_gate hg ?_
  rcases hread with h | h <;> simp [hm, hchange, htype, hfree, hout, h]

/-- PARAM_WRITE of 1 to 64 parameters that the session may write (R391). -/
theorem acceptParamWrite_awaits {cls : OriginClass} (hcls : cmd.cls = cls) (hlow : 1 ≤ rd8 cmd.params 0) (hhigh : rd8 cmd.params 0 ≤ 64)
    (hclass : ∀ q ∈ paramEntries cmd.params, classLacks s.img cls q.1 = false)
    (hbad : firstBad (paramEntries cmd.params) (paramBad s.img (paramEntries cmd.params)) = none) (hn : s.inNadir = false)
    (hlock : s.host.lock = none) (hpow : s.powered = true) (hu : s.pair.role = .unpaired) :
    s.acceptParamWrite cmd = (s.await cmd (.params (paramEntries cmd.params))).acc stAccepted := by
  have hlen : (paramEntries cmd.params).length = rd8 cmd.params 0 := by simp [paramEntries]
  have hne : (paramEntries cmd.params).isEmpty = false := by
    rw [List.isEmpty_eq_false_iff, ← List.length_pos_iff, hlen]
    exact hlow
  have hshape : (cmd.malformed || (paramEntries cmd.params).isEmpty || decide (64 < (paramEntries cmd.params).length)) = false := by
    rw [hm, hne, hlen]
    simpa using hhigh
  have hlockedOut : s.lockedOut cmd.session = false := by
    unfold State.lockedOut
    rw [hlock]
    rfl
  unfold State.acceptParamWrite
  simp only [hshape, hcls, firstBad_none (fun _ => hclass), hbad, hn, Bool.false_eq_true, if_false]
  refine firstOf_go ?_
  simp [hlockedOut, hpow, standbyUnit_unpaired hu]

end

/-- A permissive command whose acceptance, in every state that reads like this one, only lets it await intake. -/
theorem second_copy_takenUp {s : State} {t op : Nat} {x : Session} {c : HostCopy} {row : OpRow} {e : EngineCmd} {data : Bytes}
    (h : s.hostReady t) (hu : s.pair.role = .unpaired) (g : s.secondCopy op x c) (hop : op ≠ 0x0001) (hop2 : op ≠ 0x0002) (hr : opOf op = some row)
    (hc : row.cls = .permissive) (hrec : recordsCommand op c.params = true) (hlen : lengthOk op c.params = true)
    (ha : ∀ p cmd, s.ReadsAs p → cmd.malformed = false → cmd.opcode = op → cmd.params = c.params → cmd.cls = x.cls →
      p.accept cmd = (p.await cmd e).accData stAccepted data) :
    ∃ u, run t (fun v => v.hostArrive op c) s = .next u ∧ s.takenUp u t op x c e data :=
  second_copy_awaits h g hop hop2 hr hc hrec hu (fun p cmd hp hl hopc hpar hcls =>
    ha p cmd (readsAs_of hp hl (heardHost_awaiting s t c) (heardHost_taken s t c) (heardHost_lock s t c))
      (malformed_of_goodCopy g.1 hopc hpar hlen) hopc hpar hcls)

/-- Settles O37, command by command: each is accepted by its own checks, which the heard copy has not changed. -/
theorem permissiveRouteCommandsAwaitIntake : Obligations.PermissiveRouteCommandsAwaitIntake := by
  unfold Obligations.PermissiveRouteCommandsAwaitIntake
  intro t x c s h hu hn hpow r e en
  have hgate : ∀ {p : State}, s.ReadsAs p → s.control.mode = .run → ∀ q ∈ p.gate, q.1 = false := fun hp hrun => by
    rw [hp.gate]
    exact gate_passes hn hpow hrun hu
  refine ⟨fun g hrun hchange hprofile hlen hdef hidle hwait hload hfree => ?_, fun g hrun hchange hlen hdef hstate => ?_,
    fun g hrun hchange hlen hprog hend hfree hblock hres hstill => ?_, fun g hlen => ?_, fun g hrun hchange hlen htype hread hfree hout => ?_,
    fun g hlock => ?_⟩
  · refine second_copy_takenUp h hu g (by decide) (by decide) rfl rfl rfl (by simp [lengthOk, hlen]) (fun p cmd hp hm hop hpar _ => ?_)
    rw [accept_routeSet p hop]
    exact acceptRouteSet_awaits hm (by rw [hpar]) (hgate hp hrun) (by rw [hp.img]; exact hdef) (by rw [hp.changing]; exact hchange)
      (by rw [hp.images]; exact hprofile) (by rw [hp.engine]; exact hidle) (by rw [hp.waitingRoutes]; exact hwait) (by rw [hp.routeLoad]; exact hload)
      (by rw [hp.snap, hp.img]; exact hfree)
  · refine second_copy_takenUp h hu g (by decide) (by decide) rfl rfl rfl (by simp [lengthOk, hlen]) (fun p cmd hp hm hop hpar _ => ?_)
    rw [accept_routeReleaseTimed p hop]
    exact acceptRouteReleaseTimed_awaits hm (by rw [hpar]) (hgate hp hrun) (by rw [hp.img]; exact hdef) (by rw [hp.changing]; exact hchange)
      (by rw [hp.engine]; exact hstate)
  · refine second_copy_takenUp h hu g (by decide) (by decide) rfl rfl rfl (by simp [lengthOk, hlen]) (fun p cmd hp hm hop hpar _ => ?_)
    rw [accept_pointMove p hop]
    exact acceptPointMove_awaits hm (by rw [hpar]) (by rw [hpar]) (hgate hp hrun) (by rw [hp.programmed]; exact hprog) hend
      (by rw [hp.changing]; exact hchange) (by rw [hp.snap]; exact hfree) (by rw [hp.blockAhead]; exact hblock)
      (by rw [hp.engine, hp.img]; exact hres) (by rw [hp.movingPoints, hp.engine]; exact hstill)
  · intro first last n hle hsome
    refine second_copy_takenUp h hu g (by decide) (by decide) rfl rfl rfl (by simp [lengthOk, hlen]) (fun p cmd hp hm hop hpar _ => ?_)
    rw [accept_pointUnblock p hop]
    exact acceptPointUnblock_awaits hm (by rw [hpar]) (by rw [hpar]) (by rw [hp.blockAhead]) (by rw [hp.inNadir]; exact hn)
      (by rw [hp.powered]; exact hpow) (by rw [hp.pair]; exact hu) hle hsome
  · refine second_copy_takenUp h hu g (by decide) (by decide) rfl rfl rfl (by simp [lengthOk, hlen]) (fun p cmd hp hm hop hpar _ => ?_)
    rw [accept_sectionReset p hop]
    exact acceptSectionReset_awaits hm (by rw [hpar]) (hgate hp hrun) (by rw [hp.changing]; exact hchange) (by rw [hp.img]; exact htype)
      (by rw [hp.snap]; exact hread) (by rw [hp.snap]; exact hfree) (by rw [hp.img]; exact hout)
  · intro l hlen hlow hhigh hclass hbad
    have hfits : lengthOk 0x0408 c.params = true := by
      simp [lengthOk, hlen]
      omega
    refine second_copy_takenUp h hu g (by decide) (by decide) rfl rfl rfl hfits (fun p cmd hp hm hop hpar hcls => ?_)
    have hl : paramEntries cmd.params = l := by rw [hpar]
    rw [accept_paramWrite p hop, ← hl]
    exact acceptParamWrite_awaits hm hcls (by rw [hpar]; exact hlow) (by rw [hpar]; exact hhigh) (by rw [hl, hp.img]; exact hclass)
      (by rw [hl, hp.img]; exact hbad) (by rw [hp.inNadir]; exact hn) (by rw [hp.lock]; exact hlock) (by rw [hp.powered]; exact hpow)
      (by rw [hp.pair]; exact hu)

end Sys2Proof.Machine
end

section
/-! # Restrictive commands (R119, R125, R338, R339, R341, R342, R346, R350, R360, R373, R375, R390, Tables 3.8, 3.9, 9.8)

The first copy of a command whose acceptance stores it, or ends its session; then the acceptance checks command by command. -/

namespace Sys2Proof.Machine

/-! ## Acceptance -/

theorem accept_sessionClose (s : State) {c : Cmd} (h : c.opcode = 0x0002) : s.accept c = s.acceptSessionClose c := by unfold State.accept; rw [h]; rfl
theorem accept_lockRelease (s : State) {c : Cmd} (h : c.opcode = 0x0005) : s.accept c = s.acceptLockRelease c := by unfold State.accept; rw [h]; rfl
theorem accept_routeCancel (s : State) {c : Cmd} (h : c.opcode = 0x0102) : s.accept c = s.acceptRouteCancel c := by unfold State.accept; rw [h]; rfl
theorem accept_signalStop (s : State) {c : Cmd} (h : c.opcode = 0x0105) : s.accept c = s.acceptSignalStop c := by unfold State.accept; rw [h]; rfl
theorem accept_allStop (s : State) {c : Cmd} (h : c.opcode = 0x0106) : s.accept c = s.acceptAllStop c := by unfold State.accept; rw [h]; rfl
theorem accept_pointBlock (s : State) {c : Cmd} (h : c.opcode = 0x0202) : s.accept c = s.acceptPointBlock c := by unfold State.accept; rw [h]; rfl
theorem accept_changeAbort (s : State) {c : Cmd} (h : c.opcode = 0x0407) : s.accept c = s.acceptChangeAbort c := by unfold State.accept; rw [h]; rfl

section
variable {s : State} {cmd : Cmd} (hm : cmd.malformed = false) (hu : s.pair.role = .unpaired)
include hm hu

/-- ROUTE_CANCEL of a route that is active or waits, and is neither OCCUPIED nor in EMERG_TIMING (Table 3.8). -/
theorem acceptRouteCancel_cancels {r : Nat} (hr : paramRoute cmd.params = r) (hdef : (routeDef s.img r).isSome = true)
    (hactive : (s.leadLane.engine.entry r).state ≠ .idle ∨ r ∈ s.waitingRoutes) (hocc : (s.leadLane.engine.entry r).state ≠ .occupied)
    (hemerg : (s.leadLane.engine.entry r).state ≠ .emergTiming) :
    s.acceptRouteCancel cmd =
      (((s.removeRouteSet r).await cmd (.routeCancel r (s.waitingRoutes.contains r))).commandForce (s.cancelForce r)).acc stAccepted := by
  unfold State.acceptRouteCancel
  rw [hr]
  refine firstOf_go ?_
  rcases hactive with h | h <;> simp [hm, Option.isNone_eq_false_iff.2 hdef, standbyUnit_unpaired hu, h, hocc, hemerg]

/-- SIGNAL_STOP of a signal that the program commands (R375). -/
theorem acceptSignalStop_forces {e : Nat} (he : paramElem cmd.params = e) (hprog : s.programmed e tySignal = true) (hpow : s.powered = true) :
    s.acceptSignalStop cmd = ((s.await cmd (.signalStop e)).commandForce [e]).acc stAccepted := by
  unfold State.acceptSignalStop
  rw [he]
  refine firstOf_go ?_
  simp [hm, hprog, hpow, standbyUnit_unpaired hu]

/-- ALL_STOP (R375). -/
theorem acceptAllStop_forces (hpow : s.powered = true) :
    s.acceptAllStop cmd = ((s.await cmd .allStop).commandForce (bitList (typeMask s.img tySignal))).acc stAccepted := by
  unfold State.acceptAllStop
  refine firstOf_go ?_
  simp [hm, hpow, standbyUnit_unpaired hu]

/-- POINT_BLOCK of a point that the program commands (R114). -/
theorem acceptPointBlock_forces {e : Nat} (he : paramElem cmd.params = e) (hprog : s.programmed e tyPoint = true) (hpow : s.powered = true) :
    s.acceptPointBlock cmd = ((s.await cmd (.pointBlock e)).commandForce [e]).acc stAccepted := by
  unfold State.acceptPointBlock
  rw [he]
  refine firstOf_go ?_
  simp [hm, hprog, hpow, standbyUnit_unpaired hu]

/-- CHANGE_ABORT of an armed change (R390). -/
theorem acceptChangeAbort_calls {k : Nat} (hk : rd8 cmd.params 0 = k) (hlow : k ≤ 1) (harmed : (s.stagingAt k).state = .armed) :
    s.acceptChangeAbort cmd = (s.modStaging k (fun g => { g with abortStamps := some cmd.stamps, abortKey := some cmd.key })).acc stAccepted := by
  have hself : ∀ u : State, u.pair.role = .unpaired → u.tellAbort k = u := fun u hu => if_neg (by rw [hu]; decide)
  unfold State.acceptChangeAbort
  rw [hk]
  dsimp only
  rw [hself (s.modStaging k _) hu]
  refine firstOf_go ?_
  simp [hm, harmed]
  omega

end

/-- LOCK_RELEASE of the session that holds the lock (R373). -/
theorem acceptLockRelease_drops {s : State} {cmd : Cmd} (hlen : lengthOk cmd.opcode cmd.params = true) (hlock : s.holdsLock cmd.session = true) :
    s.acceptLockRelease cmd = (s.dropLock cmd.origin 2).acc stOk := by
  unfold State.acceptLockRelease
  refine firstOf_go ?_
  simp [hlen, hlock]

/-- SESSION_CLOSE is accepted as it is: the session ends after the reply (R350). -/
theorem acceptSessionClose_ok {s : State} {cmd : Cmd} (hlen : lengthOk cmd.opcode cmd.params = true) : s.acceptSessionClose cmd = s.acc stOk := by
  unfold State.acceptSessionClose
  refine firstOf_go ?_
  simp [hlen]

/-! ## What the effects change -/

/-- A slot after the release of the lock (Table 9.8). -/
theorem dropOpenSlots_at (s : State) (j : Nat) :
    s.dropOpenSlots.stagingAt j = if (s.stagingAt j).state = .isOpen ∨ (s.stagingAt j).state = .writing then Staging.empty else s.stagingAt j := by
  unfold State.stagingAt State.dropOpenSlots
  simp only [List.getD_eq_getElem?_getD, List.getElem?_map]
  cases s.images.staging[j]? with
  | none => rfl
  | some g => rfl

/-- The ROUTE_SETs of a route that await intake are removed; in a module of its own no others wait (R119). -/
theorem removeRouteSet_eq {s : State} {r : Nat} (h : s.pair.deferred = []) : ∃ R, s.removeRouteSet r = { s with host := { s.host with
    recs := R
    awaiting := s.host.awaiting.filter (fun i => i.cmd != EngineCmd.routeSet r) } } := by
  have hpair : ∀ (p : Pair) (F : Nat × List Intake → Nat × List Intake), p.deferred = [] → { p with deferred := p.deferred.map F } = p := by
    intro p F hp
    rw [hp, List.map_nil, ← hp]
  obtain ⟨R, hR⟩ := settledAll_recs s
    (((s.host.awaiting ++ (s.pair.deferred.map (·.2)).flatten).filter (fun i => i.cmd == EngineCmd.routeSet r)).map (·.key))
  refine ⟨R, ?_⟩
  unfold State.removeRouteSet
  simp only []
  rw [hR, hpair _ _ h]
  rfl

/-! ## The command of a copy -/

/-- The command that the acceptance of a copy in the session `x` judges. -/
structure Cmd.OfCopy (cmd : Cmd) (op : Nat) (x : Session) (c : HostCopy) : Prop where
  opcode : cmd.opcode = op
  key : cmd.key = .session c.session c.seq
  params : cmd.params = c.params
  session : cmd.session = c.session
  cls : cmd.cls = x.cls
  hostId : cmd.hostId = x.hostId
  originId : cmd.originId = c.originId
  content : cmd.content = none
  stamps : cmd.stamps = c.stamps

theorem await_ofCopy {cmd : Cmd} {op : Nat} {x : Session} {c : HostCopy} (h : cmd.OfCopy op x c) (p : State) (e : EngineCmd) :
    p.await cmd e = { p with host := p.host.awaits (x.intake op c e) } := by
  unfold State.await
  rw [h.key, h.content, h.cls, h.session, h.hostId, h.originId, h.opcode, h.stamps]
  rfl

theorem number_of_sessionOf {s : State} {n : Nat} {x : Session} (h : s.sessionOf n = some x) : x.number = n := by
  simpa using List.find?_some h

theorem origin_ofCopy {cmd : Cmd} {op : Nat} {x : Session} {c : HostCopy} (h : cmd.OfCopy op x c) (hx : x.number = c.session) :
    cmd.origin = Origin.ofSession x := by
  unfold Cmd.origin Origin.ofSession
  rw [h.cls, h.session, h.hostId, hx]

/-! ## The first copy -/

/-- The state in which a first copy is decided: the copy is heard, its record is open, and H is raised (R342). -/
def State.raisedBy (s p : State) (t : Nat) (x : Session) (c : HostCopy) : Prop :=
  p = { s with now := max s.now t, host := { (s.heardHost t c).raised x c with recs := p.host.recs }, lanes := p.lanes } ∧ s.sameLanes p

theorem readsAs_of_raisedBy {s p : State} {t : Nat} {x : Session} {c : HostCopy} (h : s.raisedBy p t x c) : s.ReadsAs p :=
  readsAs_of h.1 h.2 (heardHost_awaiting s t c) (heardHost_taken s t c) (heardHost_lock s t c)

/-- A restrictive command whose acceptance turns the module into `b`, with the host interface changed by `f` and the lanes by `k`: its first copy
decides it, and both networks are told. -/
theorem first_restrictive_stored {s b : State} {t op st : Nat} {x : Session} {c : HostCopy} {row : OpRow} {f : HostSide → HostSide}
    {k : LaneId → Lane → Lane} {evs : List Queued} (h : s.hostReady t) (g : s.firstRestrictive op x c) (hop : op ≠ 0x0001) (hop2 : op ≠ 0x0002)
    (hr : opOf op = some row) (hc : row.cls = .restrictive) (hst : st = stOk ∨ st = stAccepted) (hrec : recordsCommand op c.params = true)
    (hf : HostSide.Stores f) (hk : ∀ i l, (k i l).mode = l.mode) (hb : b.control.phase = .running) (hu : b.pair.role = .unpaired)
    (ha : b.almanac = { s.almanac with events := s.almanac.events ++ evs })
    (hacc : ∀ p cmd, s.raisedBy p t x c → cmd.OfCopy op x c → ∃ Q K,
      p.accept cmd = {
        st := { b with now := max s.now t, host := { f ((s.heardHost t c).raised x c) with recs := Q }, lanes := K, pending := s.pending }
        status := st
        data := []
        snapshot := none } ∧
      ∀ i, K.get i = { k i (s.lane i) with inputs := (p.lane i).inputs }) :
    ∃ u, run t (fun v => v.hostArrive op c) s = .next u ∧
      s.decided u t op c st [] (fun y => f (y.raised x c)) k (evs ++ [x.commandRecord op c]) ∧
      u = { b with now := u.now, host := u.host, lanes := u.lanes, almanac := u.almanac, pending := s.pending } := by
  obtain ⟨p, cmd, w, r1, r2, hp, hl, k1, k2, k3, k4, k5, k6, k7, k8, k9, hrun, hw1, hw2, hn1, hn2, hq⟩ :=
    first_restrictive_accepted (st := st) (data := []) (next := fun p cmd => (p.accept cmd).st) h g hop hop2 hr hc hst
      (by
        intro p cmd hp hl c1 c2 c3 c4 c5 c6 c7 c8 c9
        obtain ⟨Q, K, hQ, hK⟩ := hacc p cmd ⟨hp, hl⟩ ⟨c1, c3, c2, c4, c5, c6, c7, c8, c9⟩
        have hmode : ∀ i, ((p.accept cmd).st.lane i).mode = (s.lane i).mode := fun i => by
          rw [hQ]
          exact (congrArg Lane.mode (hK i)).trans (hk i _)
        refine ⟨by rw [hQ], by rw [hQ]; exact hb, by rw [voting_same hmode]; exact h.2.1,
          ⟨{ x.heard c (s.stampOf c) with high := max c.seq x.high }, ?_, rfl, rfl⟩, by rw [hQ]; exact hu⟩
        · rw [hQ]
          show (f ((s.heardHost t c).raised x c)).sessions.find? _ = _
          rw [hf.sessions]
          exact raised_session (heardHost_session t g.1.1))
  obtain ⟨Q, K, hQ, hK⟩ := hacc p cmd ⟨hp, hl⟩ ⟨k7, k1, k2, k3, k4, k5, k6, k8, k9⟩
  have hlanes : s.lanesAfter w k := addsTo_lanes hl (fun i => by rw [hQ]; exact hK i) hw1
  rw [hQ] at hw2
  have hreplies : (f ((s.heardHost t c).raised x c)).replies = s.host.replies := (hf.replies _).trans (heardHost_replies s t c)
  have hhost : w.host = f { (s.heardHost t c).raised x c with recs := w.host.recs, replies := s.host.replies ++ [r1, r2] } := by
    rw [hf.recs, ← hreplies]
    exact congrArg State.host hw2
  have hclose : w.close (max s.now t) s.pending = w := by rw [hw2]; rfl
  rw [hclose] at hrun
  have hrw : w.host.replies = s.host.replies ++ [r1, r2] := by rw [hhost, hf.replies]
  refine ⟨w, hrun, ⟨⟨r1, r2, hrw, hn1, hn2, hq⟩, ?_, hlanes, by rw [hw2], ?_⟩, ?_⟩
  · unfold State.hostAfter
    rw [hrw]
    exact hhost
  · rw [hw2, ha, if_pos hrec, ← List.append_assoc]
    rfl
  · have hkept : ∀ (w : State) n H K A, w = { b with now := n, host := H, lanes := K, almanac := A, pending := s.pending } →
        w = { b with now := w.now, host := w.host, lanes := w.lanes, almanac := w.almanac, pending := s.pending } := by
      rintro w n H K A rfl; rfl
    exact hkept w _ _ _ _ hw2

/-- The session of the copy, once that is heard and H is raised. -/
theorem sessionOf_raisedBy {s p : State} {t : Nat} {x : Session} {c : HostCopy} (h : s.raisedBy p t x c) (hx : s.sessionOf c.session = some x) :
    p.sessionOf c.session = some { x.heard c (s.stampOf c) with high := max c.seq x.high } := by
  have hsame : p.host.sessions = ((s.heardHost t c).raised x c).sessions := by rw [h.1]
  unfold State.sessionOf
  rw [hsame]
  exact raised_session (heardHost_session t hx)

/-- A session that knows the path of the other network knows it once a copy is heard. -/
theorem heard_otherPath {x : Session} {c : HostCopy} {n : Nat} (hnet : c.net ≠ .service)
    (h : (if c.net = .x then x.pathY else x.pathX).isSome = true) :
    (if c.net = .x then (x.heard c n).pathY else (x.heard c n).pathX).isSome = true := by
  cases hc : c.net with
  | x => simpa only [Session.heard, hc, if_true, reduceCtorEq, if_false] using h
  | y => simpa only [Session.heard, hc, if_true, reduceCtorEq, if_false] using h
  | service => exact absurd hc hnet

/-- The command that a decision judges has the origin of the copy's session. -/
theorem cmdOf_origin {p : State} {op : Nat} {c : HostCopy} {r : HostRec} {y : Session} (h : p.sessionOf c.session = some y)
    (hy : y.number = c.session) : (p.cmdOf op c r none).origin = Origin.ofSession y := by
  unfold State.cmdOf Cmd.origin Origin.ofSession
  rw [← hy] at h
  simp only [← hy, h]
  rfl

/-- The lanes of a command that changes none. -/
theorem laneKept_of_raisedBy {s p : State} {t : Nat} {x : Session} {c : HostCopy} (h : s.raisedBy p t x c) (i : LaneId) :
    p.lanes.get i = { laneKept i (s.lane i) with inputs := (p.lane i).inputs } := sameLanes_inputs h.2 i

/-! ## The close of a session -/

/-- A state with more replies to send, and other lanes. -/
def State.told (s : State) (rs : List Reply) (L : Lanes Lane) : State := { s with host := { s.host with replies := s.host.replies ++ rs }, lanes := L }

/-- A decision leaves on both networks: two replies, and in each lane the telegrams that wait for check values. -/
theorem sendDecision_tells {v : State} {op : Nat} {c : HostCopy} {r : HostRec} {st snap : Nat} {d : Bytes} {y : Session} (hop : op ≠ 0x0001)
    (h1 : v.control.phase = .running) (h2 : 2 ≤ v.voting.length) (hy : v.sessionOf c.session = some y) (hn : c.net ≠ .service)
    (hp : (if c.net = .x then y.pathY else y.pathX).isSome = true) :
    ∃ (r1 r2 : Reply) (L : Lanes Lane), v.sendDecision op c r [.x, .y] st snap d = v.told [r1, r2] L ∧
      v.sameLanes (v.told [r1, r2] L) ∧ r1.net = .x ∧ r2.net = .y ∧
      ∀ q : Reply, q = r1 ∨ q = r2 → q.ki40 = false ∧ q.repeated = false ∧ q.late = false ∧ q.session = c.session ∧ q.seq = c.seq ∧ q.opcode = op ∧
        q.originId = c.originId ∧ q.status = st ∧ q.data = d ∧ q.path.isSome = true := by
  have hpath : ∀ n : Net, n = .x ∨ n = .y → (if n = c.net then some c.path else (none : Option ReturnPath)).isSome = true ∨
      (if n = .y then y.pathY else y.pathX).isSome = true := by
    intro n hn'
    by_cases he : n = c.net
    · exact Or.inl (by simp [he])
    · refine Or.inr ?_
      rcases hn' with rfl | rfl <;> cases hnet : c.net <;> simp_all
  obtain ⟨r1, hsome1, hr1, L1, hreply1, hlanes1⟩ :=
    reply_adds (v.copyReply op c .x (if Net.x = c.net then some c.path else none) false st snap d) y h1 h2 hy (hpath .x (Or.inl rfl))
  let v1 : State := v.told [r1] L1
  rw [hreply1] at hlanes1
  obtain ⟨r2, hsome2, hr2, L2, hreply2, hlanes2⟩ := reply_adds (s := v1)
    (v1.copyReply op c .y (if Net.y = c.net then some c.path else none) false st snap d) y h1 (sameLanes_mode hlanes1 h2) hy
    (hpath .y (Or.inr rfl))
  have hsend : v.sendDecision op c r [.x, .y] st snap d =
      v1.reply (v1.copyReply op c .y (if Net.y = c.net then some c.path else none) false st snap d) := by
    unfold State.sendDecision
    simp only [List.foldl_cons, List.foldl_nil, if_neg hop]
    rw [hreply1]
    rfl
  have htold : v1.reply (v1.copyReply op c .y (if Net.y = c.net then some c.path else none) false st snap d) = v.told [r1, r2] L2 := by
    rw [hreply2]
    simp only [v1, State.told, List.append_assoc, List.cons_append, List.nil_append]
  rw [htold] at hsend hlanes2
  refine ⟨r1, r2, L2, hsend, sameLanes_trans hlanes1 hlanes2, ?_, ?_, ?_⟩
  · rw [hr1]; rfl
  · rw [hr2]; rfl
  · rintro q (rfl | rfl)
    · rw [hr1]; exact ⟨rfl, rfl, rfl, rfl, rfl, rfl, rfl, rfl, rfl, hsome1⟩
    · rw [hr2]; exact ⟨rfl, rfl, rfl, rfl, rfl, rfl, rfl, rfl, rfl, hsome2⟩

/-- A session without the lock that ends (R350). -/
theorem endSession_eq {s : State} {n kind : Nat} {x : Session} (h : s.sessionOf n = some x) (hlock : s.holdsLock n = false) :
    s.endSession n kind = State.event { s with host := { s.host with
        sessions := s.host.sessions.filter (fun y => y.number != n)
        recs := s.host.recs.filter (fun r => r.key.session? != some n) } }
      0x0601 (if kind = 1 then Origin.ofSession x else Origin.internal) [(24, 1, kind)] := by
  unfold State.endSession
  rw [h]
  simp only [hlock, Bool.false_eq_true, if_false]

/-- Without the session of the copy, the sessions are as they were before H was raised. -/
theorem raised_sessions_filter (h : HostSide) (x : Session) (c : HostCopy) :
    (h.raised x c).sessions.filter (fun y => y.number != c.session) = h.sessions.filter (fun y => y.number != c.session) := by
  unfold HostSide.raised
  induction h.sessions with
  | nil => rfl
  | cons y l ih =>
    by_cases hy : y.number = c.session <;> simpa [List.filter_cons, hy] using ih

theorem sessionOf_filtered (s : State) (n : Nat) (H : List Session) (h : s.host.sessions = H.filter (fun y => y.number != n)) :
    s.sessionOf n = none := by
  unfold State.sessionOf
  rw [h, List.find?_eq_none]
  intro y hy
  simpa using (List.mem_filter.1 hy).2

/-- What an accepted SESSION_CLOSE does after its reply, in a module of its own: the session ends, and the two records are made. -/
theorem afterAccept_close {s : State} {c : HostCopy} {cmd : Cmd} {x : Session} {d : Bytes} (hu : s.pair.role = .unpaired)
    (h : s.sessionOf c.session = some x) (hlock : s.holdsLock c.session = false) :
    s.afterAccept 0x0002 c cmd d = { s with
      host := { s.host with
        sessions := s.host.sessions.filter (fun y => y.number != c.session)
        recs := s.host.recs.filter (fun r => r.key.session? != some c.session) }
      almanac := { s.almanac with events := s.almanac.events ++
        [queuedOf 0x0601 0 0 (Origin.ofSession x) [payloadFields [(24, 1, 1)]],
          queuedOf 0x0606 0 0 cmd.origin [payloadFields [(24, 2, 0x0002), (26, 2, rd16 c.params 0), (28, 4, c.originId)]]] } } := by
  have htold : s.tellPeer 3 cmd = s := if_neg (by rw [hu]; decide)
  have hrestrictive : isRestrictive 0x0002 = true := rfl
  have hrecorded : recordsCommand 0x0002 c.params = true := rfl
  unfold State.afterAccept
  simp only [hrestrictive, hrecorded, if_true, htold, endSession_eq h hlock]
  simp only [State.event, List.append_assoc, List.cons_append, List.nil_append]
  rfl

/-- SESSION_CLOSE without the lock: the first copy decides it; the session ends after the reply, with its record before that of the command. -/
theorem first_close_decided {s : State} {t : Nat} {x : Session} {c : HostCopy} (h : s.hostReady t) (hu : s.pair.role = .unpaired)
    (g : s.firstRestrictive 0x0002 x c) (hlen : c.params = []) (hlock : s.holdsLock c.session = false) :
    ∃ u, run t (fun v => v.hostArrive 0x0002 c) s = .next u ∧
      s.decided u t 0x0002 c stOk [] (fun h => { h with sessions := h.sessions.filter (fun y => y.number != c.session) }) laneKept
        [x.record 0x0601 [(24, 1, 1)], x.commandRecord 0x0002 c] ∧
      u = { s with now := u.now, host := u.host, lanes := u.lanes, almanac := u.almanac } := by
  obtain ⟨p, r, hp, hl, hrec, -, -, harrive⟩ := first_restrictive_decides h g (by decide) rfl rfl
  have hreads : s.ReadsAs p := readsAs_of_raisedBy ⟨hp, hl⟩
  have hsession := sessionOf_raisedBy ⟨hp, hl⟩ g.1.1
  have hnumber : x.number = c.session := number_of_sessionOf g.1.1
  have horigin : (p.cmdOf 0x0002 c r none).origin = Origin.ofSession x := (cmdOf_origin hsession hnumber).trans rfl
  have haccept : p.accept (p.cmdOf 0x0002 c r none) = p.acc stOk := by
    rw [accept_sessionClose p rfl]
    exact acceptSessionClose_ok (by show lengthOk 0x0002 c.params = true; rw [hlen]; rfl)
  let v := p.putDecision r.key 0x0002 { status := stOk, snapshot := p.replySnapshot, data := [], bytes := HostCopyHead 0x0002 c }
  have hrun : v.control.phase = .running := (congrArg Control.phase hreads.control).trans h.1
  obtain ⟨r1, r2, L, hsend, hlanes, hn1, hn2, hq⟩ := sendDecision_tells (v := v) (op := 0x0002) (r := r) (st := stOk) (snap := p.replySnapshot)
    (d := []) (by decide) hrun (sameLanes_mode hl h.2.1) hsession g.2.1 (heard_otherPath (n := s.stampOf c) g.2.1 g.2.2.1)
  have hdecide : p.decideCopy 0x0002 c none [.x, .y] = (v.told [r1, r2] L).afterAccept 0x0002 c (p.cmdOf 0x0002 c r none) [] := by
    have hkey : p.recOf (decideKey (copyKey 0x0002 c) none) = some r := hrec
    rw [← hsend]
    unfold State.decideCopy
    simp only [hkey, haccept]
    exact if_pos (Or.inl rfl)
  have hunpaired : v.pair.role = .unpaired := (congrArg Pair.role hreads.pair).trans hu
  have hfree : v.holdsLock c.session = false := (hreads.holdsLock _).trans hlock
  rw [afterAccept_close (s := v.told [r1, r2] L) hunpaired hsession hfree, horigin] at hdecide
  obtain ⟨R, hv⟩ : ∃ R, v = { s with now := max s.now t, host := { (s.heardHost t c).raised x c with recs := R }, lanes := p.lanes } := by
    refine ⟨v.host.recs, ?_⟩
    show ({ p with host := { p.host with recs := v.host.recs } } : State) = _
    generalize v.host.recs = R
    rw [hp]
  clear_value v
  subst hv
  obtain ⟨Q, hend⟩ : ∃ Q, (s.tick t).hostArrive 0x0002 c = { s with
      now := max s.now t
      host := { s.heardHost t c with
        sessions := (s.heardHost t c).sessions.filter (fun z => z.number != c.session)
        recs := Q
        replies := s.host.replies ++ [r1, r2] }
      lanes := L
      almanac := { s.almanac with events := s.almanac.events ++ [x.record 0x0601 [(24, 1, 1)], x.commandRecord 0x0002 c] } } := by
    rw [harrive, hdecide, ← heardHost_replies s t c, ← raised_sessions_filter (s.heardHost t c) x c]
    exact ⟨_, rfl⟩
  refine ⟨_, run_next (f := fun u => u.hostArrive 0x0002 c) hend rfl rfl, ⟨⟨r1, r2, rfl, hn1, hn2, hq⟩, rfl, ?_, rfl, rfl⟩, rfl⟩
  exact sameLanes_trans hl hlanes

/-! ## The commands -/

/-- Forces by command leave the mode of a lane. -/
theorem forcedBy_mode (s : State) (t : Nat) (es : List Nat) (i : LaneId) (l : Lane) : (s.forcedBy t es i l).mode = l.mode := by
  unfold State.forcedBy
  split
  · exact pendAll_mode _ _ _
  · rfl

/-- The host interface once a cancel of a route awaits intake, and no ROUTE_SET of it any more (R119). -/
def HostSide.cancels (r : Nat) (i : Intake) (h : HostSide) : HostSide :=
  ({ h with awaiting := h.awaiting.filter (fun j => j.cmd != EngineCmd.routeSet r) }).awaits i

/-- ROUTE_CANCEL: it awaits intake, and the entry signal of a cleared route is forced (R119, R219, log entry 91). -/
theorem acceptRouteCancel_stores {s p : State} {t r : Nat} {x : Session} {c : HostCopy} {cmd : Cmd} (hp : s.raisedBy p t x c)
    (hcmd : cmd.OfCopy 0x0102 x c) (hm : cmd.malformed = false) (hu : s.pair.role = .unpaired) (hr : paramRoute c.params = r)
    (hdef : (routeDef s.img r).isSome = true) (hdeferred : s.pair.deferred = [])
    (hactive : (s.leadLane.engine.entry r).state ≠ .idle ∨ r ∈ s.waitingRoutes) (hocc : (s.leadLane.engine.entry r).state ≠ .occupied)
    (hemerg : (s.leadLane.engine.entry r).state ≠ .emergTiming) :
    let f := HostSide.cancels r (x.intake 0x0102 c (.routeCancel r (s.waitingRoutes.contains r)))
    ∃ Q K, p.accept cmd = {
        st := { s with now := max s.now t, host := { f ((s.heardHost t c).raised x c) with recs := Q }, lanes := K, pending := s.pending }
        status := stAccepted
        data := []
        snapshot := none } ∧
      ∀ i, K.get i = { s.forcedBy t (s.cancelForce r) i (s.lane i) with inputs := (p.lane i).inputs } := by
  intro f
  have hreads := readsAs_of_raisedBy hp
  obtain ⟨Q, hQ⟩ := removeRouteSet_eq (s := p) (r := r) (by rw [hreads.pair]; exact hdeferred)
  let q : State := { s with now := max s.now t, host := { f ((s.heardHost t c).raised x c) with recs := Q }, lanes := p.lanes }
  have hq : (p.removeRouteSet r).await cmd (.routeCancel r (s.waitingRoutes.contains r)) = q := by
    rw [await_ofCopy hcmd, hQ]
    obtain ⟨hframe, -⟩ := hp
    generalize p.host.recs = R, p.lanes = K at hframe ⊢
    subst hframe
    rfl
  obtain ⟨hframe, hlanes⟩ := commandForce_lane (s := s) (p := q) (t := t) (es := s.cancelForce r) hp.2 rfl
  refine ⟨Q, (q.commandForce (s.cancelForce r)).lanes, ?_, hlanes⟩
  rw [accept_routeCancel p hcmd.opcode, acceptRouteCancel_cancels (r := r) hm (by rw [hreads.pair]; exact hu) (by rw [hcmd.params]; exact hr)
    (by rw [hreads.img]; exact hdef) (by rw [hreads.engine, hreads.waitingRoutes]; exact hactive) (by rw [hreads.engine]; exact hocc)
    (by rw [hreads.engine]; exact hemerg), hreads.waitingRoutes, hreads.cancelForce, hq, hframe]
  rfl

/-- LOCK_RELEASE: the lock is free, the open staging slots are empty, and the record is made (R373, Table 9.8). -/
theorem acceptLockRelease_stores {s p : State} {t : Nat} {x : Session} {c : HostCopy} {cmd : Cmd} (hp : s.raisedBy p t x c)
    (hcmd : cmd.OfCopy 0x0005 x c) (hx : x.number = c.session) (hlen : lengthOk 0x0005 c.params = true) (hlock : s.holdsLock c.session = true) :
    ∃ Q K, p.accept cmd = {
        st := { s with
          now := max s.now t
          host := { (s.heardHost t c).raised x c with lock := none, recs := Q }
          lanes := K
          images := s.dropOpenSlots.images
          almanac := { s.almanac with events := s.almanac.events ++ [x.record 0x0602 [(24, 1, 2)]] } }
        status := stOk
        data := []
        snapshot := none } ∧
      ∀ i, K.get i = { laneKept i (s.lane i) with inputs := (p.lane i).inputs } := by
  refine ⟨p.host.recs, p.lanes, ?_, laneKept_of_raisedBy hp⟩
  rw [accept_lockRelease p hcmd.opcode, acceptLockRelease_drops (by rw [hcmd.opcode, hcmd.params]; exact hlen)
    (by rw [hcmd.session, (readsAs_of_raisedBy hp).holdsLock]; exact hlock), origin_ofCopy hcmd hx]
  obtain ⟨hframe, -⟩ := hp
  generalize p.host.recs = R, p.lanes = K at hframe ⊢
  subst hframe
  rfl

/-- A staging slot whose change a command calls to abort (R390). -/
def Staging.calledOff (g : Staging) (c : HostCopy) : Staging :=
  { g with abortStamps := some c.stamps, abortKey := some (.session c.session c.seq) }

/-- CHANGE_ABORT: the slot notes the call. -/
theorem acceptChangeAbort_stores {s p : State} {t k : Nat} {x : Session} {c : HostCopy} {cmd : Cmd} (hp : s.raisedBy p t x c)
    (hcmd : cmd.OfCopy 0x0407 x c) (hm : cmd.malformed = false) (hu : s.pair.role = .unpaired) (hk : rd8 c.params 0 = k) (hlow : k ≤ 1)
    (harmed : (s.stagingAt k).state = .armed) :
    ∃ Q K, p.accept cmd = {
        st := { s.modStaging k (fun g => g.calledOff c) with
          now := max s.now t
          host := { (s.heardHost t c).raised x c with recs := Q }
          lanes := K }
        status := stAccepted
        data := []
        snapshot := none } ∧
      ∀ i, K.get i = { laneKept i (s.lane i) with inputs := (p.lane i).inputs } := by
  have hreads := readsAs_of_raisedBy hp
  refine ⟨p.host.recs, p.lanes, ?_, laneKept_of_raisedBy hp⟩
  rw [accept_changeAbort p hcmd.opcode, acceptChangeAbort_calls (k := k) hm (by rw [hreads.pair]; exact hu) (by rw [hcmd.params]; exact hk) hlow
    (by rw [hreads.stagingAt]; exact harmed), hcmd.stamps, hcmd.key]
  obtain ⟨hframe, -⟩ := hp
  generalize p.host.recs = R, p.lanes = K at hframe ⊢
  subst hframe
  rfl

/-- Settles O38, command by command. That ROUTE_CANCEL forces the entry signal only where its route is CLEARED, APPROACH_LOCKED or under a cancel
is the model's choice (R652, log entry 91). -/
theorem restrictiveCommandsAreDecidedAtTheFirstCopy : Obligations.RestrictiveCommandsAreDecidedAtTheFirstCopy := by
  unfold Obligations.RestrictiveCommandsAreDecidedAtTheFirstCopy
  intro t x c s h hu e r k cmd
  refine ⟨fun g hlen hdef hdeferred hactive hocc hemerg => ?_, fun g hlen hprog hpow => ?_, fun g hlen hpow => ?_, fun g hlen hprog hpow => ?_,
    fun g hlen hlock => ?_, fun g hlen hlock => ?_, fun g hlen hlow harmed => ?_⟩
  · have hforced : ∀ i (l : Lane), (s.forcedBy t (s.cancelForce r) i l).mode = l.mode := forcedBy_mode s t _
    exact first_restrictive_stored (b := s) (evs := [])
      (f := HostSide.cancels r (x.intake 0x0102 c (.routeCancel r (s.waitingRoutes.contains r)))) h g (by decide) (by decide) rfl rfl (Or.inr rfl) rfl
      ⟨fun _ _ _ => rfl, fun _ => rfl, fun _ => rfl⟩ hforced h.1 hu (by rw [List.append_nil])
      (fun p cmd hp hcmd => acceptRouteCancel_stores hp hcmd
        (malformed_of_goodCopy g.1 hcmd.opcode hcmd.params (by simp [lengthOk, hlen])) hu rfl hdef hdeferred hactive hocc hemerg)
  · refine first_restrictive_awaits h g (by decide) (by decide) rfl rfl rfl hu (fun p cmd hp hl hop hpar _ => ?_)
    have hreads := readsAs_of_raisedBy ⟨hp, hl⟩
    rw [accept_signalStop p hop]
    exact acceptSignalStop_forces (malformed_of_goodCopy g.1 hop hpar (by simp [lengthOk, hlen])) (by rw [hreads.pair]; exact hu) (by rw [hpar])
      (by rw [hreads.programmed]; exact hprog) (by rw [hreads.powered]; exact hpow)
  · refine first_restrictive_awaits h g (by decide) (by decide) rfl rfl rfl hu (fun p cmd hp hl hop hpar _ => ?_)
    have hreads := readsAs_of_raisedBy ⟨hp, hl⟩
    rw [accept_allStop p hop, ← hreads.img]
    exact acceptAllStop_forces (malformed_of_goodCopy g.1 hop hpar (by simp [lengthOk, hlen])) (by rw [hreads.pair]; exact hu)
      (by rw [hreads.powered]; exact hpow)
  · refine first_restrictive_awaits h g (by decide) (by decide) rfl rfl rfl hu (fun p cmd hp hl hop hpar _ => ?_)
    have hreads := readsAs_of_raisedBy ⟨hp, hl⟩
    rw [accept_pointBlock p hop]
    exact acceptPointBlock_forces (malformed_of_goodCopy g.1 hop hpar (by simp [lengthOk, hlen])) (by rw [hreads.pair]; exact hu) (by rw [hpar])
      (by rw [hreads.programmed]; exact hprog) (by rw [hreads.powered]; exact hpow)
  · let b : State := { s with
      images := s.dropOpenSlots.images
      almanac := { s.almanac with events := s.almanac.events ++ [x.record 0x0602 [(24, 1, 2)]] } }
    obtain ⟨u, hrun, hdecided, hframe⟩ := first_restrictive_stored (b := b) (f := fun y => { y with lock := none }) (k := laneKept) h g
      (by decide) (by decide) rfl rfl (Or.inl rfl) rfl ⟨fun _ _ _ => rfl, fun _ => rfl, fun _ => rfl⟩ (fun _ _ => rfl) h.1 hu rfl
      (fun p cmd hp hcmd => acceptLockRelease_stores hp hcmd (number_of_sessionOf g.1.1) (by simp [lengthOk, hlen]) hlock)
    refine ⟨u, hrun, hdecided, fun j => ?_, ?_⟩
    · rw [hframe]
      exact dropOpenSlots_at s j
    · rw [hframe]
      rfl
  · obtain ⟨u, hrun, hdecided, hframe⟩ := first_close_decided h hu g hlen hlock
    exact ⟨u, hrun, hdecided, sessionOf_filtered u c.session _ (congrArg HostSide.sessions hdecided.2.1), hframe⟩
  · obtain ⟨u, hrun, hdecided, hframe⟩ := first_restrictive_stored (b := s.modStaging k (fun q => q.calledOff c)) (f := id) (k := laneKept) (evs := []) h g
      (by decide) (by decide) rfl rfl (Or.inr rfl) rfl stores_id (fun _ _ => rfl) h.1 hu (by rw [List.append_nil]; rfl)
      (fun p cmd hp hcmd => acceptChangeAbort_stores hp hcmd (malformed_of_goodCopy g.1 hcmd.opcode hcmd.params (by simp [lengthOk, hlen])) hu rfl
        hlow harmed)
    have hk : k < s.images.staging.length := staging_lt (fun he => by rw [he] at harmed; cases harmed)
    refine ⟨u, hrun, hdecided, ?_, fun j hj => ?_, ?_⟩
    · rw [hframe]
      exact modStaging_at_same _ hk
    · rw [hframe]
      exact modStaging_at_other s _ hj
    · rw [hframe]
      rfl

end Sys2Proof.Machine
end

section
/-! # Staging commands (R178 to R180, R186, R187, R386 to R389, R469, R502, R503, Tables 5.1, 5.6, 10.11, 10.12)

A permissive command whose acceptance changes the module and its lanes; then the acceptance checks command by command. -/

namespace Sys2Proof.Machine

/-! ## The second copy -/

/-- An acceptance, in the lanes `L` that have counted the checks of the copy, that turns the module into `b` and the lanes into what `k` says. -/
def Acc.Settles (a : Acc) (s b : State) (t : Nat) (c : HostCopy) (L : Lanes Lane) (st : Nat) (data : Bytes) (k : LaneId → Lane → Lane) : Prop :=
  ∃ Q K, a = {
      st := { b with now := max s.now t, host := { s.heardHost t c with recs := Q }, lanes := K, pending := s.pending }
      status := st
      data := data
      snapshot := none } ∧
    ∀ i, K.get i = { k i (s.lane i) with inputs := (L.get i).inputs }

/-- A permissive command whose acceptance turns the module into `b` and the lanes into what `k` says: its second copy decides it, and both networks
are told. -/
theorem second_copy_settled {s b : State} {t op st : Nat} {x : Session} {c : HostCopy} {row : OpRow} {data : Bytes} {k : LaneId → Lane → Lane}
    {evs notes : List Queued} (h : s.hostReady t) (g : s.secondCopy op x c) (hop : op ≠ 0x0001) (hop2 : op ≠ 0x0002) (hr : opOf op = some row)
    (hc : row.cls = .permissive) (hst : st = stOk ∨ st = stAccepted) (hk : ∀ i l, (k i l).mode = l.mode) (hb : b.control.phase = .running)
    (hu : b.pair.role = .unpaired) (ha : b.almanac = { s.almanac with events := s.almanac.events ++ evs })
    (hnotes : evs ++ (if recordsCommand op c.params then [x.commandRecord op c] else []) = notes)
    (hacc : ∀ R L cmd, s.sameLanes (s.withHeard t c R L) → cmd.OfCopy op x c → ((s.withHeard t c R L).accept cmd).Settles s b t c L st data k) :
    ∃ u, run t (fun v => v.hostArrive op c) s = .next u ∧ s.decided u t op c st data id k notes ∧
      u = { b with now := u.now, host := u.host, lanes := u.lanes, almanac := u.almanac, pending := s.pending } := by
  obtain ⟨p, cmd, w, r1, r2, hp, hl, k1, k2, k3, k4, k5, k6, k7, k8, k9, hrun, hw1, hw2, hn1, hn2, hq⟩ :=
    second_copy_accepted (st := st) (data := data) (next := fun p cmd => (p.accept cmd).st) h g hop hop2 hr hc hst
      (by
        intro p cmd hp hl c1 c2 c3 c4 c5 c6 c7 c8 c9
        obtain ⟨R, L, rfl⟩ : ∃ R L, p = s.withHeard t c R L := ⟨_, _, hp⟩
        obtain ⟨Q, K, hQ, hK⟩ := hacc R L cmd hl ⟨c1, c3, c2, c4, c5, c6, c7, c8, c9⟩
        have hmode : ∀ i, (((s.withHeard t c R L).accept cmd).st.lane i).mode = (s.lane i).mode := fun i => by
          rw [hQ]
          exact (congrArg Lane.mode (hK i)).trans (hk i _)
        exact ⟨by rw [hQ], by rw [hQ]; exact hb, by rw [voting_same hmode]; exact h.2.1,
          ⟨x.heard c (s.stampOf c), by rw [hQ]; exact heardHost_session t g.1.1, rfl, rfl⟩, by rw [hQ]; exact hu⟩)
  obtain ⟨R, L, rfl⟩ : ∃ R L, p = s.withHeard t c R L := ⟨_, _, hp⟩
  obtain ⟨Q, K, hQ, hK⟩ := hacc R L cmd hl ⟨k7, k1, k2, k3, k4, k5, k6, k8, k9⟩
  have hlanes : s.lanesAfter w k := addsTo_lanes hl (fun i => by rw [hQ]; exact hK i) hw1
  rw [hQ] at hw2
  have hhost : w.host = { s.heardHost t c with recs := w.host.recs, replies := s.host.replies ++ [r1, r2] } := by
    rw [← heardHost_replies s t c]
    exact congrArg State.host hw2
  have hreplies : w.host.replies = s.host.replies ++ [r1, r2] := by rw [hhost]
  have hclose : w.close (max s.now t) s.pending = w := by rw [hw2]; rfl
  rw [hclose] at hrun
  refine ⟨w, hrun, ⟨⟨r1, r2, hreplies, hn1, hn2, hq⟩, ?_, hlanes, by rw [hw2], ?_⟩, ?_⟩
  · unfold State.hostAfter
    rw [hreplies]
    exact hhost
  · rw [hw2, ha, ← hnotes, ← List.append_assoc]
    rfl
  · have hkept : ∀ (w : State) n H K A, w = { b with now := n, host := H, lanes := K, almanac := A, pending := s.pending } →
        w = { b with now := w.now, host := w.host, lanes := w.lanes, almanac := w.almanac, pending := s.pending } := by
      rintro w n H K A rfl; rfl
    exact hkept w _ _ _ _ hw2

theorem accept_stageOpen (s : State) {c : Cmd} (h : c.opcode = 0x0403) : s.accept c = s.acceptStageOpen c := by unfold State.accept; rw [h]; rfl
theorem accept_stageWrite (s : State) {c : Cmd} (h : c.opcode = 0x0404) : s.accept c = s.acceptStageWrite c := by unfold State.accept; rw [h]; rfl
theorem accept_stageVerify (s : State) {c : Cmd} (h : c.opcode = 0x0405) : s.accept c = s.acceptStageVerify c := by unfold State.accept; rw [h]; rfl
theorem accept_changeArm (s : State) {c : Cmd} (h : c.opcode = 0x0406) : s.accept c = s.acceptChangeArm c := by unfold State.accept; rw [h]; rfl

/-- A command that makes no record leaves the Almanac. -/
theorem almanac_of_decided {s u : State} {t op st : Nat} {c : HostCopy} {data : Bytes} {f : HostSide → HostSide} {k : LaneId → Lane → Lane}
    (h : s.decided u t op c st data f k []) : u.almanac = s.almanac := by
  obtain ⟨-, -, -, -, halmanac⟩ := h
  rw [halmanac, List.append_nil]

/-! ## What the effects change -/

/-- A change of a slot replaces it in the list; one beyond the list changes nothing. -/
theorem modStaging_eq (s : State) (k : Nat) (f : Staging → Staging) : s.modStaging k f = { s with
    images := { s.images with staging := s.images.staging.set k (f (s.stagingAt k)) } } := by
  have hset : listMod s.images.staging k f = s.images.staging.set k (f (s.stagingAt k)) := by
    by_cases hk : k < s.images.staging.length
    · exact (modify_eq_set (List.getElem?_eq_getElem hk) f).trans (by simp [State.stagingAt, List.getD_eq_getElem?_getD, hk])
    · have hlong := Nat.le_of_not_lt hk
      rw [List.set_eq_of_length_le hlong]
      exact List.modify_eq_self hlong
  unfold State.modStaging
  rw [hset]

/-- A slot whose region the loaders have written. -/
theorem setRegion_modStaging (s : State) {r off len : Nat} (m : Mem) (k : Nat) (f : Staging → Staging) (ho : off % 4 = 0) (hl : len % 4 = 0) :
    ∃ K, (s.setRegion r m off len).modStaging k f = { s with
        lanes := K
        images := { s.images with
          regions := s.images.regions.set r m
          staging := s.images.staging.set k (f (s.stagingAt k)) } } ∧
      ∀ i, K.get i = loaderWrote r off len i (s.lane i) := by
  refine ⟨(s.setRegion r m off len).lanes, ?_, setRegion_lane s r m ho hl⟩
  rw [modStaging_eq, setRegion_frame]
  rfl

/-- A copy that ends without effect settles its record and releases its guard. -/
theorem dropCopy_eq (s : State) (k : Nat) : ∃ R, s.dropCopy k = { s with host := { s.host with recs := R }, xram := (s.dropCopy k).xram } := by
  unfold State.dropCopy
  split
  · next g _ =>
    obtain ⟨R, hR⟩ := settledAll_recs s g.key.toList
    rw [hR, releaseGuard_frame]
    exact ⟨R, rfl⟩
  · exact ⟨s.host.recs, rfl⟩

/-- The guard that the end of a copy releases depends on the copy, the exchange RAM and which lanes vote. -/
theorem dropCopy_xram {s u : State} (k : Nat) (hi : u.images = s.images) (h : u.footing = s.footing) : (u.dropCopy k).xram = (s.dropCopy k).xram := by
  have hslot : u.stagingAt k = s.stagingAt k := by unfold State.stagingAt; rw [hi]
  unfold State.dropCopy
  rw [hslot]
  split
  · next g _ =>
    refine releaseGuard_xram g ?_
    obtain ⟨R, hR⟩ := settledAll_recs u g.key.toList
    obtain ⟨Q, hQ⟩ := settledAll_recs s g.key.toList
    rw [hR, hQ]
    exact h
  · exact (thins_of_footing h).xram

theorem footing_withHeard {s : State} {t : Nat} {c : HostCopy} {R : List HostRec} {L : Lanes Lane} (h : s.sameLanes (s.withHeard t c R L)) :
    (s.withHeard t c R L).footing = s.footing := by
  simp only [State.footing, Prod.mk.injEq]
  exact ⟨rfl, rfl, rfl, rfl, funext (fun i => by rw [h i])⟩

/-- The lowest voting lane is the lead, where one votes. -/
theorem lowest_eq_lead {s : State} (h : 2 ≤ s.voting.length) : s.lowest = some s.lead := by
  unfold State.lead State.lowest
  cases hv : s.voting with
  | nil => rw [hv] at h; exact absurd h (by decide)
  | cons i l => rfl

/-- Lock word 0 is claimed for the lead where it is free (R502, R503). -/
theorem claimGuard_eq {s : State} {i : LaneId} (h : s.lowest = some i) : s.claimGuard =
    ({ s with xram := if s.xram.lockWord 0 = 0 then s.xram.put (lockWordAddr 0) (b32 (2 ^ i.index)) else s.xram },
      decide (s.xram.lockWord 0 = 0)) := by
  unfold State.claimGuard
  rw [h]
  by_cases hfree : s.xram.lockWord 0 = 0
  · simp only [if_pos hfree, decide_eq_true hfree]
  · simp only [if_neg hfree, decide_eq_false hfree]

/-! ## The checks of Table 5.6 -/

/-- A change that passes the arm checks is armed outside Nadir, with SEAL14 closed. -/
theorem armCheck_passes {s : State} {k : Nat} (h : s.armCheck k = (stAccepted, 0)) : s.inNadir = false ∧ s.sealClosed 14 = true := by
  unfold State.armCheck at h
  split at h
  · cases h
  · next hn =>
    split at h
    · cases h
    · next hs => exact ⟨Bool.eq_false_of_not_eq_true hn, Bool.eq_true_of_not_eq_false hs⟩

/-- The arm checks read no more than a route command does, the seals and the Constellation change. -/
theorem State.ReadsAs.armCheck {s p : State} (h : s.ReadsAs p) (hseal : p.sealBank = s.sealBank) (hndezo : p.ndezo = s.ndezo) (k : Nat) :
    p.armCheck k = s.armCheck k := by
  have hruns : ∀ n, p.slotRuns n = s.slotRuns n := fun n => by
    unfold State.slotRuns
    rw [h.control, h.images]
  have hstate : p.armState k = s.armState k := by
    unfold State.armState
    simp only [h.stagingAt, h.control, h.images, hruns]
  have hslot : ∀ n, p.slotImage n = s.slotImage n := fun n => by
    unfold State.slotImage
    rw [h.images]
  have hlocked : ∀ e, p.armLocked e k = s.armLocked e k := fun e => by
    unfold State.armLocked
    simp only [h.stagingAt, h.images, hruns, h.snap]
  have hactive : ∀ e, p.armActive e k = s.armActive e k := fun e => by
    unfold State.armActive
    simp only [h.stagingAt, h.images, hruns, h.waitingRoutes, h.movingPoints]
  unfold State.armCheck State.sealClosed State.constellationOpen
  simp only [h.stagingAt, h.control, h.pair, h.engine, hseal, hndezo, hstate, hslot, hlocked, hactive]

/-! ## Acceptance -/

/-- The parameters of an accepted STAGE_WRITE name whole words. -/
theorem stageWrite_whole {p : Bytes} (h : stageWriteOk p = true) : rd32 p 4 % 4 = 0 ∧ (rd8 p 1 = 0 → rd32 p 8 % 4 = 0) := by
  simp only [stageWriteOk, Bool.and_eq_true, beq_iff_eq] at h
  obtain ⟨⟨⟨-, hoff⟩, -⟩, hform⟩ := h
  refine ⟨hoff, fun h0 => ?_⟩
  rw [h0] at hform
  simp only [Bool.and_eq_true, beq_iff_eq] at hform
  obtain ⟨⟨-, hlen⟩, -⟩ := hform
  exact hlen

/-- `s` with the staging slot `k` opened for a target (Table 5.1). -/
def State.opensStaging (s : State) (x : Session) (k target : Nat) : State := { s with
  xram := (s.dropCopy k).xram
  images := { s.images with
    regions := s.images.regions.set (s.stagingRegion k) []
    staging := s.images.staging.set k { Staging.empty with state := .isOpen, target := target } }
  almanac := { s.almanac with events := s.almanac.events ++ [x.record 0x0302 [(24, 1, k), (25, 1, target)]] } }

/-- `s` with the `len` bytes `b` at an offset of the region of the staging slot `k` (R386). -/
def State.writesStaging (s : State) (k off len : Nat) (b : Bytes) : State := { s with
  images := { s.images with
    regions := s.images.regions.set (s.stagingRegion k) (Mem.store (s.images.stagingMem k) off b)
    staging := s.images.staging.set k { s.stagingAt k with high := max (s.stagingAt k).high (off + len) } } }

/-- The copy that a STAGE_WRITE names (R387). -/
def State.stagingCopy (s : State) (t : Nat) (c : HostCopy) : CopyRun :=
  { offset := rd32 c.params 4, length := rd32 c.params 8, xram := rd32 c.params 12, since := max s.now t, guarded := decide (s.xram.lockWord 0 = 0),
    abandoned := false, key := some (.session c.session c.seq), touched := [] }

/-- `s` with a copy from the exchange RAM into the staging slot `k` begun, and lock word 0 claimed where it is free (R387, R503). -/
def State.copiesStaging (s : State) (k : Nat) (g : CopyRun) : State := { s with
  xram := if s.xram.lockWord 0 = 0 then s.xram.put (lockWordAddr 0) (b32 (2 ^ s.lead.index)) else s.xram
  images := { s.images with staging := s.images.staging.set k { s.stagingAt k with state := .writing, copy := some g } } }

/-- `s` with the verification of the staging slot `k` begun (Table 5.1). -/
def State.verifiesStaging (s : State) (k : Nat) : State := { s with
  images := { s.images with staging := s.images.staging.set k { s.stagingAt k with state := .verifying, report := none } } }

/-- `s` with an arm of the staging slot `k` that waits for its commit (R389). -/
def State.armsStaging (s : State) (k : Nat) (key : RecKey) : State := { s with images := { s.images with pendingArm := some (k, key) } }

section
variable {s : State} {t : Nat} {x : Session} {c : HostCopy} {R : List HostRec} {L : Lanes Lane} {cmd : Cmd}

theorem withHeard_stagingAt (s : State) (t : Nat) (c : HostCopy) (R : List HostRec) (L : Lanes Lane) (k : Nat) :
    (s.withHeard t c R L).stagingAt k = s.stagingAt k := rfl

theorem withHeard_holdsLock (s : State) (t : Nat) (c : HostCopy) (R : List HostRec) (L : Lanes Lane) (n : Nat) :
    (s.withHeard t c R L).holdsLock n = s.holdsLock n := by
  unfold State.holdsLock
  show (s.heardHost t c).lock.any _ = _
  rw [heardHost_lock]

variable (hl : s.sameLanes (s.withHeard t c R L)) (hlock : s.holdsLock c.session = true) (hm : cmd.malformed = false)
include hl hlock hm

/-- STAGE_OPEN: the region is empty and the slot open (Table 5.1). -/
theorem acceptStageOpen_settles {k : Nat} (hk : rd8 c.params 0 = k) (hcmd : cmd.OfCopy 0x0403 x c) (hx : x.number = c.session)
    (hseal : s.sealClosed 14 = true) (hlow : k ≤ 1) (htarget : rd8 c.params 1 ≤ 3) (harmed : (s.stagingAt k).state ≠ .armed) :
    ((s.withHeard t c R L).acceptStageOpen cmd).Settles s (s.opensStaging x k (rd8 c.params 1)) t c L stOk []
      (loaderWrote (s.stagingRegion k) 0 67108864) := by
  obtain ⟨Q, hQ⟩ := dropCopy_eq (s.withHeard t c R L) k
  rw [dropCopy_xram (s := s) (u := s.withHeard t c R L) k rfl (footing_withHeard hl)] at hQ
  obtain ⟨K, hK, hlanes⟩ := setRegion_modStaging ((s.withHeard t c R L).dropCopy k) (r := s.stagingRegion k) (off := 0) (len := 67108864) [] k
    (fun _ => { Staging.empty with state := .isOpen, target := rd8 c.params 1 }) rfl rfl
  rw [hQ] at hK hlanes
  refine ⟨Q, K, ?_, fun i => (hlanes i).trans (congrArg (loaderWrote _ _ _ i) (sameLanes_inputs hl i))⟩
  unfold State.acceptStageOpen
  simp only [hcmd.params, hcmd.session, origin_ofCopy hcmd hx, hk]
  refine (firstOf_go ?_).trans ?_
  · simp only [List.forall_mem_cons, List.not_mem_nil, false_implies, implies_true, and_true]
    refine ⟨?_, ?_, ?_, beq_false_of_ne harmed⟩
    · show (!s.sealClosed 14) = false
      rw [hseal, Bool.not_true]
    · rw [hm, decide_eq_false (by omega), decide_eq_false (by omega)]
      rfl
    · rw [withHeard_holdsLock, hlock]
      rfl
  · rw [hQ]
    exact congrArg (fun u : State => (u.event 0x0302 (Origin.ofSession x) [(24, 1, k), (25, 1, rd8 c.params 1)]).acc stOk) hK

/-- STAGE_WRITE from the telegram: its bytes stand in the region (R386). -/
theorem acceptStageWrite_writes {k off len : Nat} (hk : rd8 c.params 0 = k) (hoff : rd32 c.params 4 = off) (hlen : rd32 c.params 8 = len)
    (hcmd : cmd.OfCopy 0x0404 x c) (hok : stageWriteOk c.params = true) (hopen : (s.stagingAt k).state = .isOpen) (hform : rd8 c.params 1 = 0) :
    ((s.withHeard t c R L).acceptStageWrite cmd).Settles s (s.writesStaging k off len (slice c.params 16 len)) t c L stOk
      (b32 (max (s.stagingAt k).high (off + len))) (loaderWrote (s.stagingRegion k) off len) := by
  obtain ⟨hwhole, hwords⟩ := stageWrite_whole hok
  rw [hoff] at hwhole
  rw [hlen] at hwords
  obtain ⟨K, hK, hlanes⟩ := setRegion_modStaging (s.withHeard t c R L) (r := s.stagingRegion k)
    (Mem.store (s.images.stagingMem k) off (slice c.params 16 len)) k (fun g => { g with high := max (s.stagingAt k).high (off + len) }) hwhole
    (hwords hform)
  refine ⟨R, K, ?_, fun i => (hlanes i).trans (congrArg (loaderWrote _ _ _ i) (sameLanes_inputs hl i))⟩
  unfold State.acceptStageWrite
  simp only [hcmd.params, hcmd.session, hk, hoff, hlen, withHeard_stagingAt]
  refine (firstOf_go ?_).trans ?_
  · simp [hm, hok, withHeard_holdsLock, hlock, hopen]
  · rw [if_pos hform]
    exact congrArg (fun u : State => u.accData stOk (b32 (max (s.stagingAt k).high (off + len)))) hK

/-- STAGE_WRITE from the exchange RAM: the copy starts, under lock word 0 where that is free (R387, R503). -/
theorem acceptStageWrite_copies {k : Nat} (hk : rd8 c.params 0 = k) (hcmd : cmd.OfCopy 0x0404 x c) (hvoting : 2 ≤ s.voting.length)
    (hok : stageWriteOk c.params = true) (hopen : (s.stagingAt k).state = .isOpen) (hform : rd8 c.params 1 ≠ 0) :
    ((s.withHeard t c R L).acceptStageWrite cmd).Settles s (s.copiesStaging k (s.stagingCopy t c)) t c L stAccepted (b32 (s.stagingAt k).high)
      laneKept := by
  have hlowest : (s.withHeard t c R L).lowest = some s.lead := by
    rw [lowest_eq_lead (sameLanes_mode hl hvoting), lead_same (s := s) (fun i => by rw [hl i])]
  refine ⟨R, L, ?_, sameLanes_inputs hl⟩
  unfold State.acceptStageWrite
  simp only [hcmd.params, hcmd.session, hcmd.key, hk, withHeard_stagingAt]
  refine (firstOf_go ?_).trans ?_
  · simp [hm, hok, withHeard_holdsLock, hlock, hopen]
  · rw [if_neg hform, claimGuard_eq hlowest, modStaging_eq]
    rfl

/-- STAGE_VERIFY in form 0: the checks run (R388). -/
theorem acceptStageVerify_starts {k : Nat} (hk : rd8 c.params 0 = k) (hcmd : cmd.OfCopy 0x0405 x c) (hform : rd8 c.params 1 = 0)
    (hpage : rd32 c.params 4 = 0) (hlow : k ≤ 1) (hopen : (s.stagingAt k).state = .isOpen) :
    ((s.withHeard t c R L).acceptStageVerify cmd).Settles s (s.verifiesStaging k) t c L stAccepted [] laneKept := by
  refine ⟨R, L, ?_, sameLanes_inputs hl⟩
  unfold State.acceptStageVerify
  simp only [hcmd.params, hcmd.session, hk, hform, hpage, withHeard_stagingAt]
  refine (firstOf_go ?_).trans ?_
  · simp [hm, withHeard_holdsLock, hlock, hopen]
    omega
  · rw [if_pos trivial, modStaging_eq]
    rfl

/-- STAGE_VERIFY in form 1: a page of the report (R186, R388). -/
theorem acceptStageVerify_reports {k : Nat} (hk : rd8 c.params 0 = k) (hcmd : cmd.OfCopy 0x0405 x c) (hform : rd8 c.params 1 = 1)
    (hpage : rd32 c.params 4 = 0 ∨ 40 * rd32 c.params 4 < (((s.stagingAt k).report.map (·.entries)).getD []).length) (hlow : k ≤ 1)
    (hstate : let x := (s.stagingAt k).state
      x = .verifying ∨ x = .verified ∨ x = .failed ∨ x = .armed) :
    ((s.withHeard t c R L).acceptStageVerify cmd).Settles s s t c L stOk (s.verifyReply k (rd32 c.params 4)) laneKept := by
  refine ⟨R, L, ?_, sameLanes_inputs hl⟩
  unfold State.acceptStageVerify
  simp only [hcmd.params, hcmd.session, hk, hform, withHeard_stagingAt]
  refine (firstOf_go ?_).trans (if_neg (by decide))
  simp only [List.forall_mem_cons, List.not_mem_nil, false_implies, implies_true, and_true, withHeard_holdsLock, hlock, hm]
  refine ⟨?_, rfl, ?_⟩
  · rcases hpage with h | h
    · simp [h]
      omega
    · simp
      omega
  · rcases hstate with h | h | h | h <;> rw [h] <;> rfl

/-- CHANGE_ARM: the arm waits for its commit (R187, R389). -/
theorem acceptChangeArm_waits {k : Nat} (hk : rd8 c.params 0 = k) (hcmd : cmd.OfCopy 0x0406 x c) (hu : s.pair.role = .unpaired) (hlow : k ≤ 1)
    (harm : s.images.pendingArm = none) (hcheck : s.armCheck k = (stAccepted, 0)) :
    ((s.withHeard t c R L).acceptChangeArm cmd).Settles s (s.armsStaging k (.session c.session c.seq)) t c L stAccepted (b32 0) laneKept := by
  obtain ⟨hnadir, hseal⟩ := armCheck_passes hcheck
  have hreads : s.ReadsAs (s.withHeard t c R L) := readsAs_of rfl hl (heardHost_awaiting s t c) (heardHost_taken s t c) (heardHost_lock s t c)
  have hcheck' : (s.withHeard t c R L).armCheck k = (stAccepted, 0) := (hreads.armCheck rfl rfl k).trans hcheck
  have hdecision : (s.withHeard t c R L).armDecision cmd = (stAccepted, 0) := by
    unfold State.armDecision
    rw [hcmd.params, hcmd.session, withHeard_holdsLock, hreads.inNadir, hreads.standbyUnit, hreads.images, hlock, hnadir, hm, harm,
      standbyUnit_unpaired hu, show (s.withHeard t c R L).sealClosed 14 = true from hseal]
    simp [hk, hcheck']
    omega
  have hself : ∀ u : State, u.pair.role = .unpaired → u.tellArm k = u := fun u hu => if_neg (by rw [hu]; decide)
  refine ⟨R, L, ?_, sameLanes_inputs hl⟩
  unfold State.acceptChangeArm
  simp only [hdecision, hcmd.params, hcmd.key, hk, if_true]
  exact congrArg (fun u : State => u.accData stAccepted (b32 0)) (hself _ hu)

end

/-- Settles O41, command by command: each is accepted by its own checks, which the heard copy has not changed. -/
theorem stagingCommands : Obligations.StagingCommands := by
  unfold Obligations.StagingCommands
  intro t x c s h hu hlock k g key cmd
  have ⟨hphase, hvoting, _⟩ := h
  have hwell : ∀ {op : Nat} {cmd : Cmd}, s.secondCopy op x c → cmd.OfCopy op x c → lengthOk op c.params = true → cmd.malformed = false :=
    fun hcopy hcmd hlen => malformed_of_secondCopy hcopy hcmd.opcode hcmd.params hlen
  refine ⟨fun hcopy hlen hseal hlow htarget harmed => ?_, fun hcopy hlen hok hopen => ?_, fun hcopy hlen hform hpage hlow hopen => ?_,
    fun hcopy hlen hform hpage hlow hstate => ?_, fun hcopy hlen hlow harm hcheck => ?_⟩
  · refine second_copy_settled (b := s.opensStaging x k (rd8 c.params 1)) h hcopy (by decide) (by decide) rfl rfl (Or.inl rfl) (fun _ _ => rfl)
      hphase hu rfl rfl (fun R L cmd hl hcmd => ?_)
    rw [accept_stageOpen _ hcmd.opcode]
    exact acceptStageOpen_settles hl hlock (hwell hcopy hcmd (by simp [lengthOk, hlen])) rfl hcmd (number_of_sessionOf hcopy.1.1) hseal hlow htarget
      harmed
  · intro off len
    by_cases hform : rd8 c.params 1 = 0
    · obtain ⟨u, hrun, hdecided, hframe⟩ := second_copy_settled (b := s.writesStaging k off len (slice c.params 16 len)) (evs := [])
        (data := b32 (max g.high (off + len))) (k := loaderWrote (s.stagingRegion k) off len) h hcopy (by decide) (by decide) rfl rfl (Or.inl rfl)
        (fun _ _ => rfl) hphase hu (by rw [List.append_nil]; rfl) rfl (fun R L cmd hl hcmd => by
          rw [accept_stageWrite _ hcmd.opcode]
          exact acceptStageWrite_writes hl hlock (hwell hcopy hcmd hlen) rfl rfl rfl hcmd hok hopen hform)
      exact ⟨u, hrun, fun _ => ⟨hdecided, hframe.trans (by rw [almanac_of_decided hdecided]; rfl)⟩,
        fun h1 => absurd (hform.symm.trans h1) (by decide)⟩
    · obtain ⟨u, hrun, hdecided, hframe⟩ := second_copy_settled (b := s.copiesStaging k (s.stagingCopy t c)) (evs := []) (k := laneKept) h hcopy
        (by decide) (by decide) rfl rfl (Or.inr rfl) (fun _ _ => rfl) hphase hu (by rw [List.append_nil]; rfl) rfl (fun R L cmd hl hcmd => by
          rw [accept_stageWrite _ hcmd.opcode]
          exact acceptStageWrite_copies hl hlock (hwell hcopy hcmd hlen) rfl hcmd hvoting hok hopen hform)
      exact ⟨u, hrun, fun h0 => absurd h0 hform, fun _ => ⟨hdecided, hframe.trans (by rw [almanac_of_decided hdecided]; rfl)⟩⟩
  · refine second_copy_settled (b := s.verifiesStaging k) (evs := []) (k := laneKept) h hcopy (by decide) (by decide) rfl rfl (Or.inr rfl)
      (fun _ _ => rfl) hphase hu (by rw [List.append_nil]; rfl) (by simp [recordsCommand, hform]; rfl) (fun R L cmd hl hcmd => ?_)
    rw [accept_stageVerify _ hcmd.opcode]
    exact acceptStageVerify_starts hl hlock (hwell hcopy hcmd (by simp [lengthOk, hlen])) rfl hcmd hform hpage hlow hopen
  · obtain ⟨u, hrun, hdecided, hframe⟩ := second_copy_settled (b := s) (evs := []) (notes := []) (k := laneKept) h hcopy (by decide) (by decide)
      rfl rfl (Or.inl rfl) (fun _ _ => rfl) hphase hu (by rw [List.append_nil]) (by simp [recordsCommand, hform]) (fun R L cmd hl hcmd => by
        rw [accept_stageVerify _ hcmd.opcode]
        exact acceptStageVerify_reports hl hlock (hwell hcopy hcmd (by simp [lengthOk, hlen])) rfl hcmd hform hpage hlow hstate)
    exact ⟨u, hrun, hdecided, hframe.trans (by rw [almanac_of_decided hdecided])⟩
  · refine second_copy_settled (b := s.armsStaging k key) (evs := []) (k := laneKept) h hcopy (by decide) (by decide) rfl rfl (Or.inr rfl)
      (fun _ _ => rfl) hphase hu (by rw [List.append_nil]; rfl) rfl (fun R L cmd hl hcmd => ?_)
    rw [accept_changeArm _ hcmd.opcode]
    exact acceptChangeArm_waits hl hlock (hwell hcopy hcmd (by simp [lengthOk, hlen])) rfl hcmd hu hlow harm hcheck

end Sys2Proof.Machine
end

section
/-! # Frames of the peer (R201, R447 to R449, R452 to R455, R459, R466, Tables 12.2, 12.4)

An accepted frame leaves the module as it was but for its clock, the check counts of its lanes and its pair controller; then each frame by what it
brings. -/

namespace Sys2Proof.Machine

/-! ## Acceptance (R447) -/

/-- The module once it has accepted a frame: the lanes `L` have counted its checks, and the pair controller is `p`. -/
def State.hears (s : State) (t : Nat) (L : Lanes Lane) (p : Pair) : State := { s with now := max s.now t, lanes := L, pair := p }

/-- Outside a pair, and in KI-40 mode, no frame is heard. -/
theorem acceptPair_alone {s : State} (h : s.inPair = false ∨ s.sealBank.ki40 = true) (link : PairLink) (f : PairFrame) :
    s.acceptPair link f = (s, false) :=
  if_pos (by rcases h with h | h <;> simp [h])

/-- A good frame is accepted: its path has been heard. -/
theorem acceptPair_accepts {s : State} {link : PairLink} {f : PairFrame} (h : s.goodPairFrame link f) :
    ∃ L, s.acceptPair link f = ({ s with lanes := L, pair := s.pair.heard link f.seq s.now }, true) ∧
      ∀ i, L.get i = { s.lane i with inputs := { (s.lane i).inputs with checkUnits := (L.get i).inputs.checkUnits } } := by
  obtain ⟨hpair, hki40, hvoting, hrx, hp, hq, hseq, hsender, hheld⟩ := h
  obtain ⟨L, hcheck, hlanes⟩ := checkTelegram_healthy s s.unexcluded (unexcluded_two hvoting) hheld 0 (pairPort link) (s.pairFold link f).stream
    (s.pairFold link f).stream
  refine ⟨L, ?_, hlanes⟩
  unfold State.acceptPair
  rw [if_neg (by simp [hpair, hki40])]
  simp only [hp, hq, hrx, beq_self_eq_true, hcheck, hseq, hsender, Bool.and_self, if_true]

/-- A good frame as the module hears it at its instant. -/
theorem acceptPair_good {s : State} {link : PairLink} {f : PairFrame} (t : Nat) (h : s.goodPairFrame link f) :
    ∃ L, (∀ p, s.sameLanes (s.hears t L p)) ∧ (State.tick t s).acceptPair link f = (s.hears t L (s.heardPair t link f), true) := by
  obtain ⟨L, haccept, hlanes⟩ := acceptPair_accepts (s := State.tick t s) h
  refine ⟨L, fun p i => ?_, haccept⟩
  show L.get i = _
  rw [show (s.hears t L p).lane i = L.get i from rfl, hlanes i]
  rfl

section
variable (p : Pair) (link : PairLink) (seq now : Nat)

@[simp] theorem heard_role : (p.heard link seq now).role = p.role := by cases link <;> rfl
@[simp] theorem heard_standby : (p.heard link seq now).standby = p.standby := by cases link <;> rfl
@[simp] theorem heard_epoch : (p.heard link seq now).epoch = p.epoch := by cases link <;> rfl
@[simp] theorem heard_txSeq0 : (p.heard link seq now).txSeq0 = p.txSeq0 := by cases link <;> rfl
@[simp] theorem heard_txSeq1 : (p.heard link seq now).txSeq1 = p.txSeq1 := by cases link <;> rfl
@[simp] theorem heard_beat : (p.heard link seq now).beat = p.beat := by cases link <;> rfl
@[simp] theorem heard_differs : (p.heard link seq now).differs = p.differs := by cases link <;> rfl
@[simp] theorem heard_lastCompared : (p.heard link seq now).lastCompared = p.lastCompared := by cases link <;> rfl
@[simp] theorem heard_outputDiffs : (p.heard link seq now).outputDiffs = p.outputDiffs := by cases link <;> rfl
@[simp] theorem heard_caughtUp : (p.heard link seq now).caughtUp = p.caughtUp := by cases link <;> rfl

end

/-! ## The state of a standby (Table 12.4) -/

/-- The pair controller of a standby that leaves its state for NOT_READY. -/
def Pair.fallen (p : Pair) : Pair := { p with
  standby := .notReady
  copyPoint := none
  copyBytes := []
  copyNext := 0
  copyHash := none
  copyDone := false
  caughtUp := false
  matchSince := none
  differs := 0
  differSince := none
  intakeParts := [] }

theorem pairEvent_notReady {s : State} (hrole : s.pair.role = .standby) (hstandby : s.pair.standby = .notReady) (row : Nat) :
    s.pairEvent row = { s with almanac := { s.almanac with events := s.almanac.events ++ [pairRecord 2 0 row] } } := by
  unfold State.pairEvent
  rw [hrole, hstandby]
  rfl

theorem notReady_eq {s : State} (h : s.pair.role = .standby) (row : Nat) : s.notReady row = { s with
    pair := s.pair.fallen
    almanac := { s.almanac with events := s.almanac.events ++ [pairRecord 2 0 row] } } :=
  pairEvent_notReady (s := { s with pair := s.pair.fallen }) h rfl row

theorem copyFails_eq {s : State} (h : s.pair.role = .standby) (reason : Nat) : s.copyFails reason = { s with
    pair := s.pair.fallen
    almanac := { s.almanac with events := s.almanac.events ++
      [pairRecord 2 0 3, queuedOf 0x0805 0 0 Origin.internal [payloadFields [(24, 1, 2), (25, 1, reason)]]] } } := by
  unfold State.copyFails
  rw [notReady_eq h]
  simp only [State.event, List.append_assoc]
  rfl

/-! ## Heartbeats (R448, R455) -/

/-- The pair controller after what a heartbeat brings. -/
def Pair.beats (p : Pair) (b : Beat) : Pair := { p with
  beat := some b
  heardRole := some b.role
  heardEpoch := max p.heardEpoch b.epoch
  pairAlarm := false
  peerStandby := if b.role = 2 ∧ p.silent1 = false then standbyOf b.state else .notReady
  intakeAck := if p.role = .active then b.intakeAck else p.intakeAck
  switchAck := if p.role = .active then b.switchAck else p.switchAck
  epoch := if p.role = .standby ∧ b.role = 1 then b.epoch else p.epoch }

/-- The pair controller after a digest that agrees. -/
def Pair.agrees (p : Pair) (b : Beat) (now : Nat) : Pair := { p with
  differs := if decide (p.lastCompared < b.digestTime) then 0 else p.differs
  lastCompared := max p.lastCompared b.digestTime
  matchSince := some (p.matchSince.getD now) }

/-- The pair controller after a digest that differs in a snapshot not compared before. -/
def Pair.disagrees (p : Pair) (b : Beat) : Pair := { p with
  outputDiffs := inc p.outputDiffs
  differs := p.differs + 1
  lastCompared := max p.lastCompared b.digestTime
  matchSince := none }

/-- The record of a digest that differs. -/
def digestNote (b : Beat) : Queued := queuedOf 0x0804 0 0 Origin.internal [payloadFields [(24, 8, b.digestTime)]]

/-- `s` after a digest that differs in a snapshot not compared before. -/
def State.disagrees (s : State) (b : Beat) : State := { s with
  pair := s.pair.disagrees b
  almanac := { s.almanac with events := s.almanac.events ++ [digestNote b] } }

theorem compareDigest_same {s : State} {b : Beat} (h : s.digestAt b.digestTime = some b.digest) :
    s.compareDigest b = { s with pair := s.pair.agrees b s.now } := by
  unfold State.compareDigest
  rw [h]
  exact if_pos rfl

/-- What a difference does to a standby (R465, Table 12.4): the copy fails in its comparison, and READY ends with the third. -/
def State.settlesDifference (s : State) : State :=
  if s.pair.standby = .copying ∧ s.pair.caughtUp = true then s.copyFails 4
  else if s.pair.standby = .ready ∧ 3 ≤ s.pair.differs then s.notReady 4 else s

theorem settlesDifference_fails {s : State} (h : s.pair.standby = .copying ∧ s.pair.caughtUp = true) :
    s.settlesDifference = s.copyFails 4 := if_pos h

theorem settlesDifference_third {s : State} (hready : s.pair.standby = .ready) (h : 3 ≤ s.pair.differs) : s.settlesDifference = s.notReady 4 :=
  (if_neg (fun hc => absurd (hready.symm.trans hc.1) (by decide))).trans (if_pos ⟨hready, h⟩)

theorem settlesDifference_keeps {s : State} (hstep : ¬(s.pair.standby = .copying ∧ s.pair.caughtUp = true))
    (h : ¬(s.pair.standby = .ready ∧ 3 ≤ s.pair.differs)) : s.settlesDifference = s :=
  (if_neg hstep).trans (if_neg h)

theorem compareDigest_differs {s : State} {b : Beat} {d : Word} (h : s.digestAt b.digestTime = some d) (hne : d ≠ b.digest)
    (hfresh : s.pair.lastCompared < b.digestTime) : s.compareDigest b = (s.disagrees b).settlesDifference := by
  unfold State.compareDigest
  rw [h]
  simp only [if_neg hne, decide_eq_true hfresh, if_true]
  rfl

theorem compareStates_notReady {s : State} (h : s.pair.standby ≠ .ready) (old : Option Beat) (b : Beat) : s.compareStates old b = s := if_pos h

/-- The active unit is without a fault, not in HOLD, and in the state of this unit. -/
def State.inStateOf (s : State) (b : Beat) : Prop :=
  b.degradation = 0 ∧ bitsAt b.modes 2 2 ≠ 2 ∧ b.imageId = imgId s.img ∧ b.modes = s.modesByte

/-- The running slot in MODES (Table 12.2). -/
theorem slot_of_modes {s : State} {n : Nat} (hn : n < 256) (h : n = s.modesByte) : bitsAt n 4 4 = s.images.runningSlot := by
  have hpower : s.control.power.code < 4 := by cases s.control.power <;> decide
  have hmode : s.control.mode.code < 4 := by cases s.control.mode <;> decide
  unfold State.modesByte at h
  unfold bitsAt
  rw [Nat.shiftRight_eq_div_pow]
  omega

theorem compareStates_agrees {s : State} (h : s.pair.standby = .ready) (old : Option Beat) {b : Beat} (hb : b.modes < 256) (hsame : s.inStateOf b) :
    s.compareStates old b = { s with pair := { s.pair with differSince := none } } := by
  obtain ⟨hfault, hhold, himage, hmodes⟩ := hsame
  have halone : s.switchedAlone b = false := by
    unfold State.switchedAlone
    rw [himage, slot_of_modes hb hmodes]
    simp
  unfold State.compareStates
  rw [if_neg (not_not.2 h)]
  refine (if_neg ?_).trans (if_pos ⟨himage, hmodes⟩)
  simp [hfault, hhold, halone]

/-- Row 6 of Table 12.4: the active unit falls into a fault, or enters HOLD. -/
theorem compareStates_falls {s : State} (h : s.pair.standby = .ready) {o b : Beat}
    (hfall : o.degradation = 0 ∧ b.degradation ≠ 0 ∨ bitsAt o.modes 2 2 ≠ 2 ∧ bitsAt b.modes 2 2 = 2) :
    s.compareStates (some o) b = s.notReady 6 := by
  unfold State.compareStates
  rw [if_neg (not_not.2 h)]
  refine if_pos ?_
  rcases hfall with ⟨ho, hb⟩ | ⟨ho, hb⟩ <;> simp [ho, hb]

theorem beatOf_modes (b : Bytes) : (beatOf b).modes < 256 := (b.getD 3 0).isLt

/-- The module that hears a heartbeat whose digest differs, before a standby acts on that. -/
def State.hearsDifference (s : State) (t : Nat) (link : PairLink) (f : PairFrame) (L : Lanes Lane) : State :=
  (s.hears t L ((s.heardPair t link f).beats (beatOf f.payload))).disagrees (beatOf f.payload)

section
variable (s : State) (t : Nat) (link : PairLink) (f : PairFrame) (L : Lanes Lane)

@[simp] theorem hearsDifference_role : (s.hearsDifference t link f L).pair.role = s.pair.role := heard_role ..
@[simp] theorem hearsDifference_standby : (s.hearsDifference t link f L).pair.standby = s.pair.standby := heard_standby ..
@[simp] theorem hearsDifference_caughtUp : (s.hearsDifference t link f L).pair.caughtUp = s.pair.caughtUp := heard_caughtUp ..
@[simp] theorem hearsDifference_differs : (s.hearsDifference t link f L).pair.differs = s.pair.differs + 1 := congrArg (· + 1) (heard_differs ..)
@[simp] theorem hearsDifference_outputDiffs : (s.hearsDifference t link f L).pair.outputDiffs = s.pair.outputDiffs + 1 :=
  congrArg inc (heard_outputDiffs ..)

/-- The record of the difference comes first. -/
theorem hearsDifference_records (qs : List Queued) :
    ({ (s.hearsDifference t link f L).almanac with events := (s.hearsDifference t link f L).almanac.events ++ qs } : Almanac) =
      { s.almanac with events := s.almanac.events ++ digestNote (beatOf f.payload) :: qs } :=
  congrArg (fun e => ({ s.almanac with events := e } : Almanac)) (List.append_assoc s.almanac.events [digestNote (beatOf f.payload)] qs)

end

section
variable {s : State} {link : PairLink} {f : PairFrame} {t : Nat} (h : s.goodPairFrame link f)
include h

/-- A good heartbeat brings its fields. -/
theorem heartbeat_hears (hother : s.pair.role ≠ .standby ∨ (beatOf f.payload).role ≠ 1) :
    ∃ L, (∀ p, s.sameLanes (s.hears t L p)) ∧
      (State.tick t s).heartbeat link f = s.hears t L ((s.heardPair t link f).beats (beatOf f.payload)) := by
  obtain ⟨L, hlanes, haccept⟩ := acceptPair_good t h
  have hrole : (s.heardPair t link f).role = s.pair.role := heard_role ..
  refine ⟨L, hlanes, ?_⟩
  unfold State.heartbeat
  rw [haccept]
  refine (if_neg (by simp)).trans (if_neg (fun hboth => ?_))
  obtain ⟨hstandby, hactive⟩ := hboth
  exact hother.elim (fun hno => hno (hrole.symm.trans hstandby)) (fun hno => hno hactive)

variable (hrole : s.pair.role = .standby) (hactive : (beatOf f.payload).role = 1)
include hrole hactive

/-- A standby that hears the active unit compares digests, then states. -/
theorem heartbeat_compares :
    let b := beatOf f.payload
    ∃ L, (∀ p, s.sameLanes (s.hears t L p)) ∧ (State.tick t s).heartbeat link f =
      ((s.hears t L ((s.heardPair t link f).beats b)).compareDigest b).compareStates s.pair.beat b := by
  intro b
  obtain ⟨L, hlanes, haccept⟩ := acceptPair_good t h
  have hheard : (s.heardPair t link f).role = s.pair.role := heard_role ..
  have hbeat : (s.heardPair t link f).beat = s.pair.beat := heard_beat ..
  refine ⟨L, hlanes, ?_⟩
  unfold State.heartbeat
  rw [haccept, ← hbeat]
  exact (if_neg (by simp)).trans (if_pos ⟨hheard.trans hrole, hactive⟩)

theorem heartbeat_agrees (hdigest : s.digestAt (beatOf f.payload).digestTime = some (beatOf f.payload).digest) :
    let b := beatOf f.payload
    ∃ L, (∀ p, s.sameLanes (s.hears t L p)) ∧ (State.tick t s).heartbeat link f =
      (s.hears t L (((s.heardPair t link f).beats b).agrees b (max s.now t))).compareStates s.pair.beat b := by
  intro b
  obtain ⟨L, hlanes, hcompares⟩ := heartbeat_compares (t := t) h hrole hactive
  refine ⟨L, hlanes, hcompares.trans ?_⟩
  rw [compareDigest_same (s := s.hears t L _) hdigest]
  rfl

theorem heartbeat_differs {d : Word} (hdigest : s.digestAt (beatOf f.payload).digestTime = some d) (hne : d ≠ (beatOf f.payload).digest)
    (hfresh : s.pair.lastCompared < (beatOf f.payload).digestTime) :
    ∃ L, (∀ p, s.sameLanes (s.hears t L p)) ∧
      (State.tick t s).heartbeat link f = (s.hearsDifference t link f L).settlesDifference.compareStates s.pair.beat (beatOf f.payload) := by
  obtain ⟨L, hlanes, hcompares⟩ := heartbeat_compares (t := t) h hrole hactive
  have hlast : (s.heardPair t link f).lastCompared = s.pair.lastCompared := heard_lastCompared ..
  refine ⟨L, hlanes, hcompares.trans ?_⟩
  rw [compareDigest_differs (s := s.hears t L ((s.heardPair t link f).beats (beatOf f.payload))) hdigest hne (lt_of_eq_of_lt hlast hfresh)]
  rfl

end

/-! ## INTAKE, FORCE and SWITCH frames (R452 to R454, R466) -/

section
variable {s : State} {link : PairLink} {f : PairFrame} (t : Nat) (h : s.goodPairFrame link f)
include h

/-- A standby that copies or is READY holds the part of a list that it has not acknowledged. -/
theorem intakeFrame_good :
    let p := s.heardPair t link f
    let start := rd64 f.payload 0
    let off := rd32 f.payload 8
    let total := rd32 f.payload 12
    ∃ L, (∀ p, s.sameLanes (s.hears t L p)) ∧ (State.tick t s).intakeFrame link f = s.hears t L
      (if s.pair.role = .standby ∧ s.pair.standby ≠ .notReady ∧ s.pair.intakeAck < start then
        p.takePart start off total (slice f.payload 16 (min 1024 (total - off))) else p) := by
  intro p start off total
  obtain ⟨L, hlanes, haccept⟩ := acceptPair_good t h
  refine ⟨L, hlanes, ?_⟩
  unfold State.intakeFrame
  rw [haccept]
  have hcond : (true && s.pair.role == .standby && s.pair.standby != .notReady && decide (s.pair.intakeAck < start)) = true ↔
      s.pair.role = .standby ∧ s.pair.standby ≠ .notReady ∧ s.pair.intakeAck < start := by simp [and_assoc]
  by_cases hholds : s.pair.role = .standby ∧ s.pair.standby ≠ .notReady ∧ s.pair.intakeAck < start
  · rw [if_pos hholds]
    exact if_pos (hcond.2 hholds)
  · rw [if_neg hholds]
    exact if_neg (fun hc => hholds (hcond.1 hc))

/-- A READY standby prepares its epoch for a Change Point that it has not heard of. -/
theorem switchFrame_good :
    let p := s.heardPair t link f
    let c := rd64 f.payload 0
    ∃ L, (∀ p, s.sameLanes (s.hears t L p)) ∧ (State.tick t s).switchFrame link f = s.hears t L
      (if s.pair.role = .standby ∧ s.pair.standby = .ready ∧ s.pair.switchAt ≠ some c then
        { p with switchAt := some c, epochNext := some s.newEpoch, epochPending := true } else p) := by
  intro p c
  obtain ⟨L, hlanes, haccept⟩ := acceptPair_good t h
  refine ⟨L, hlanes, ?_⟩
  unfold State.switchFrame
  rw [haccept]
  have hcond : (true && s.pair.role == .standby && s.pair.standby == .ready && s.pair.switchAt != some c) = true ↔
      s.pair.role = .standby ∧ s.pair.standby = .ready ∧ s.pair.switchAt ≠ some c := by simp [and_assoc]
  by_cases hprepares : s.pair.role = .standby ∧ s.pair.standby = .ready ∧ s.pair.switchAt ≠ some c
  · rw [if_pos hprepares]
    exact if_pos (hcond.2 hprepares)
  · rw [if_neg hprepares]
    exact if_neg (fun hc => hprepares (hcond.1 hc))

/-- The stop fast path of a standby acts; that of another unit does not. -/
theorem forceFrame_good :
    ∃ u, (State.tick t s).forceFrame link f = u ∧ u.pair = s.heardPair t link f ∧
      s.lanesAfter u (if s.pair.role = .standby then s.forcedBy t (s.forcedElements (rd16 f.payload 0) (f.payload.drop 2)) else laneKept) ∧
      u = { s with now := max s.now t, lanes := u.lanes, pair := u.pair } := by
  obtain ⟨L, hlanes, haccept⟩ := acceptPair_good t h
  let p := s.heardPair t link f
  refine ⟨_, rfl, ?_⟩
  unfold State.forceFrame
  rw [haccept]
  by_cases hrole : s.pair.role = .standby
  · obtain ⟨hframe, hforced⟩ := commandForce_lane (s := { s with pair := p }) (p := s.hears t L p) (t := t)
      (es := s.forcedElements (rd16 f.payload 0) (f.payload.drop 2)) (hlanes p) rfl
    have hacts : (true && (State.tick t s).pair.role == .standby) = true := by simp [hrole]
    rw [if_pos hrole]
    dsimp only
    rw [if_pos hacts]
    refine ⟨congrArg State.pair hframe, addsTo_lanes (hlanes p) hforced (fun _ => rfl), ?_⟩
    have hkept : ∀ (w : State) K, w = { s.hears t L p with lanes := K } →
        w = { s with now := max s.now t, lanes := w.lanes, pair := w.pair } := by
      rintro w K rfl
      rfl
    exact hkept _ _ hframe
  · rw [if_neg hrole]
    dsimp only
    rw [if_neg (by simp [hrole])]
    exact ⟨rfl, hlanes p, rfl⟩

end

/-! ## CHANGE frames (R201, R454) -/

/-- What leaves on a standby link rests on the owner of its port, the unit and its image, the epoch and the SEQ of the direction. -/
theorem pairSent_same {s u : State} {link : PairLink} (hsender : u.sender (pairPort link) = s.sender (pairPort link)) (himg : u.img = s.img)
    (hnode : u.node = s.node) (hepoch : u.pair.epoch = s.pair.epoch)
    (hseq : (if link = .sl1 then u.pair.txSeq1 else u.pair.txSeq0) = if link = .sl1 then s.pair.txSeq1 else s.pair.txSeq0) (kind : Nat) (b : Bytes) :
    u.pairSent link kind b = s.pairSent link kind b ∧ u.pairSeq link = s.pairSeq link := by
  unfold State.pairSent State.pairSeq State.pairOut
  rw [hsender, himg, hnode, hepoch, hseq]
  exact ⟨rfl, rfl⟩

theorem sendPair_sl0 (s : State) (kind : Nat) (b : Bytes) : s.sendPair .sl0 kind b = { s with
    sent := s.sent ++ s.pairSent .sl0 kind b
    pair := { s.pair with txSeq0 := s.pairSeq .sl0 } } := by
  unfold State.sendPair State.pairSent State.pairSeq
  by_cases hsends : (s.sender 56).isSome = true
  · simp [pairPort, hsends]
  · simp [pairPort, hsends]

theorem sendPair_sl1 (s : State) (kind : Nat) (b : Bytes) : s.sendPair .sl1 kind b = { s with
    sent := s.sent ++ s.pairSent .sl1 kind b
    pair := { s.pair with txSeq1 := s.pairSeq .sl1 } } := by
  unfold State.sendPair State.pairSent State.pairSeq
  by_cases hsends : (s.sender 57).isSome = true
  · simp [pairPort, hsends]
  · simp [pairPort, hsends]

/-- A frame leaves on both standby links. -/
theorem sendBoth_eq (s : State) (kind : Nat) (b : Bytes) : s.sendBoth kind b = { s with
    sent := s.sent ++ s.pairSent .sl0 kind b ++ s.pairSent .sl1 kind b
    pair := s.pairToldBoth } := by
  let v : State := { s with sent := s.sent ++ s.pairSent .sl0 kind b, pair := { s.pair with txSeq0 := s.pairSeq .sl0 } }
  obtain ⟨hsent, hseq⟩ := pairSent_same (s := s) (u := v) (link := .sl1) (sender_same rfl rfl (fun _ => rfl) _) rfl rfl rfl rfl kind b
  unfold State.sendBoth
  rw [sendPair_sl0, sendPair_sl1 v, hsent, hseq]
  rfl

/-- A unit of a pair tells its staged images on both links. -/
theorem tellStaged_eq {s : State} (h : s.inPair = true) (ask : Bool) :
    let b := b16 0x0405 ++ b8 s.stagedImages.length ++ b8 (flag ask) ++ (s.stagedImages.map (fun x => b64 x.1 ++ b8 x.2)).flatten
    s.tellStaged ask = { s with sent := s.sent ++ s.pairSent .sl0 4 b ++ s.pairSent .sl1 4 b, pair := s.pairToldBoth } :=
  (if_pos h).trans (sendBoth_eq s 4 _)

/-- The slot found holds the image in its state. -/
theorem slotWith_some {s : State} {image target k : Nat} {st : StageState} (h : s.slotWith image target st = some k) :
    k < s.images.staging.length := List.mem_range.1 (List.mem_of_find?_eq_some h)

/-- May a unit arm a change for the Change Point `c` (R181, R201)? -/
def State.armsFor (s : State) (c : Nat) : Prop :=
  s.images.pendingArm = none ∧ s.images.staging.all (fun g => g.state != .armed) = true ∧ s.armPoint = c

/-- The arm of the active unit is noted; it arms at most one slot. -/
theorem armWith_frame (s : State) (image target c : Nat) : s.armWith image target c = { s with
    pair := { s.pair with changeDue := some (c, image, target) }
    images := (s.armWith image target c).images } := by
  unfold State.armWith
  split
  · split <;> rfl
  · rfl

theorem armWith_arms {s : State} {image target c k : Nat} (hslot : s.slotWith image target .verified = some k) (hfree : s.armsFor c) :
    (s.armWith image target c).images = { s.images with pendingArm := some (k, .session 0 0) } := by
  unfold State.armWith
  rw [hslot]
  exact congrArg State.images (if_pos hfree)

theorem armWith_keeps {s : State} {image target c : Nat} (h : s.slotWith image target .verified = none ∨ ¬s.armsFor c) :
    (s.armWith image target c).images = s.images := by
  unfold State.armWith
  split
  · next k hslot =>
    have hno : ¬s.armsFor c := h.resolve_left (by rw [hslot]; exact Option.some_ne_none k)
    exact (congrArg State.images (if_neg hno)).trans rfl
  · rfl

theorem abortWith_calls {s : State} {image target k : Nat} (hslot : s.slotWith image target .armed = some k) : s.abortWith image target =
    s.modStaging k (fun g => { g with abortStamps := some (s.lanes.mapI (fun i _ => s.laneTime i)) }) := by
  unfold State.abortWith
  rw [hslot]

section
variable {s : State} {L : Lanes Lane} {t : Nat} (hlanes : ∀ p, s.sameLanes (s.hears t L p)) (p : Pair)
include hlanes

theorem hears_armPoint : (s.hears t L p).armPoint = State.armPoint (State.tick t s) := by
  have hlead : (s.hears t L p).lead = (State.tick t s).lead := lead_same (fun i => by rw [hlanes p i]; rfl)
  have hvote : (s.hears t L p).leadLane.vote = (State.tick t s).leadLane.vote := by
    unfold State.leadLane
    rw [hlead, hlanes p (State.tick t s).lead]
    rfl
  unfold State.armPoint
  rw [hvote]
  rfl

theorem hears_laneTimes : (s.hears t L p).lanes.mapI (fun i _ => (s.hears t L p).laneTime i) =
    s.lanes.mapI (fun i _ => State.laneTime (State.tick t s) i) := by
  refine Lanes.ext_get (fun i => ?_)
  rw [Lanes.get_mapI, Lanes.get_mapI]
  unfold State.laneTime
  rw [hlanes p i]
  rfl

/-- What leaves on the standby links does not change with a frame that is heard. -/
theorem hears_pairSent (hepoch : p.epoch = s.pair.epoch) (h0 : p.txSeq0 = s.pair.txSeq0) (h1 : p.txSeq1 = s.pair.txSeq1) (link : PairLink)
    (kind : Nat) (b : Bytes) : (s.hears t L p).pairSent link kind b = s.pairSent link kind b ∧ (s.hears t L p).pairSeq link = s.pairSeq link :=
  pairSent_same (s := s) (u := s.hears t L p) (sender_same (s := s) (u := s.hears t L p) rfl rfl (fun i => by rw [hlanes p i]) _) rfl rfl hepoch (by
    show (if link = .sl1 then p.txSeq1 else p.txSeq0) = _
    rw [h0, h1]) kind b


end

/-! ## The frames of an accepted peer -/

section
variable {s : State} {link : PairLink} {f : PairFrame} {t : Nat} (h : s.goodPairFrame link f)
include h

/-- The peer's staged images. -/
theorem changeFrame_staged (hop : rd16 f.payload 0 = 0x0405) :
    ∃ L, (∀ p, s.sameLanes (s.hears t L p)) ∧
      let v := s.hears t L { s.heardPair t link f with peerStaged := readStaged f.payload }
      (State.tick t s).changeFrame link f = if rd8 f.payload 3 = 1 then v.tellStaged false else v := by
  obtain ⟨L, hlanes, haccept⟩ := acceptPair_good t h
  refine ⟨L, hlanes, ?_⟩
  unfold State.changeFrame
  rw [haccept]
  exact (if_neg (by simp)).trans (if_pos hop)

/-- A peer that asks gets the images staged here in turn. -/
theorem changeFrame_asked (hop : rd16 f.payload 0 = 0x0405) (hask : rd8 f.payload 3 = 1) :
    let told := b16 0x0405 ++ b8 s.stagedImages.length ++ b8 0 ++ (s.stagedImages.map (fun x => b64 x.1 ++ b8 x.2)).flatten
    ∃ L, (∀ p, s.sameLanes (s.hears t L p)) ∧ (State.tick t s).changeFrame link f =
      { s.hears t L { s.heardPair t link f with
          peerStaged := readStaged f.payload
          txSeq0 := s.pairSeq .sl0
          txSeq1 := s.pairSeq .sl1 } with
        sent := s.sent ++ s.pairSent .sl0 4 told ++ s.pairSent .sl1 4 told } := by
  intro told
  obtain ⟨L, hlanes, hchange⟩ := changeFrame_staged (t := t) h hop
  obtain ⟨hpair, -⟩ := h
  let p : Pair := { s.heardPair t link f with peerStaged := readStaged f.payload }
  have hrole : p.role = s.pair.role := heard_role ..
  have hin : (s.hears t L p).inPair = true := by
    show (s.hasImage && p.role != .unpaired) = true
    rw [hrole]
    exact hpair
  have hsent := fun link => hears_pairSent hlanes p (heard_epoch ..) (heard_txSeq0 ..) (heard_txSeq1 ..) link 4 told
  refine ⟨L, hlanes, hchange.trans ((if_pos hask).trans ((tellStaged_eq hin false).trans ?_))⟩
  show ({ s.hears t L p with
    sent := s.sent ++ (s.hears t L p).pairSent .sl0 4 told ++ (s.hears t L p).pairSent .sl1 4 told
    pair := { p with txSeq0 := (s.hears t L p).pairSeq .sl0, txSeq1 := (s.hears t L p).pairSeq .sl1 } } : State) = _
  rw [(hsent .sl0).1, (hsent .sl1).1, (hsent .sl0).2, (hsent .sl1).2]
  rfl

/-- A unit other than a standby acts on no arm and no abort. -/
theorem changeFrame_elsewhere (hop : rd16 f.payload 0 ≠ 0x0405) (hrole : s.pair.role ≠ .standby) :
    ∃ L, (∀ p, s.sameLanes (s.hears t L p)) ∧ (State.tick t s).changeFrame link f = s.hears t L (s.heardPair t link f) := by
  obtain ⟨L, hlanes, haccept⟩ := acceptPair_good t h
  refine ⟨L, hlanes, ?_⟩
  unfold State.changeFrame
  rw [haccept]
  exact (if_neg (by simp)).trans ((if_neg hop).trans (if_pos hrole))

/-- An arm that a standby has not heard of. -/
theorem changeFrame_arm (hop : rd16 f.payload 0 = 0x0406) (hrole : s.pair.role = .standby)
    (hnew : s.pair.changeDue ≠ some (rd64 f.payload 16, rd64 f.payload 8, rd8 f.payload 3)) :
    ∃ L, (∀ p, s.sameLanes (s.hears t L p)) ∧ (State.tick t s).changeFrame link f =
      (s.hears t L (s.heardPair t link f)).armWith (rd64 f.payload 8) (rd8 f.payload 3) (rd64 f.payload 16) := by
  obtain ⟨L, hlanes, haccept⟩ := acceptPair_good t h
  refine ⟨L, hlanes, ?_⟩
  unfold State.changeFrame
  rw [haccept]
  exact (if_neg (by simp)).trans ((if_neg (by rw [hop]; decide)).trans ((if_neg (not_not.2 hrole)).trans (if_pos ⟨hop, hnew⟩)))

/-- An abort at a standby. -/
theorem changeFrame_abort (hop : rd16 f.payload 0 = 0x0407) (hrole : s.pair.role = .standby) :
    ∃ L, (∀ p, s.sameLanes (s.hears t L p)) ∧ (State.tick t s).changeFrame link f =
      (s.hears t L (s.heardPair t link f)).abortWith (rd64 f.payload 8) (rd8 f.payload 3) := by
  obtain ⟨L, hlanes, haccept⟩ := acceptPair_good t h
  refine ⟨L, hlanes, ?_⟩
  unfold State.changeFrame
  rw [haccept]
  exact (if_neg (by simp)).trans ((if_neg (by rw [hop]; decide)).trans ((if_neg (not_not.2 hrole)).trans
    ((if_neg (fun hc => absurd (hop.symm.trans hc.1) (by decide))).trans (if_pos hop))))

end

/-! ## The obligation -/

/-- Settles O50, frame by frame: each is one of the facts above about a frame that passes R447. -/
theorem framesOfThePeer : Obligations.FramesOfThePeer := by
  unfold Obligations.FramesOfThePeer
  intro t link f s p kept
  refine ⟨fun halone => ?_, fun h => ?_⟩
  · have hnone := acceptPair_alone (s := State.tick t s) halone link f
    simp only [List.forall_mem_cons, List.not_mem_nil, false_implies, implies_true, and_true]
    refine ⟨run_idle (f := fun u => u.heartbeat link f) ?_, run_idle (f := fun u => u.intakeFrame link f) ?_,
      run_idle (f := fun u => u.forceFrame link f) ?_, run_idle (f := fun u => u.changeFrame link f) ?_,
      run_idle (f := fun u => u.switchFrame link f) ?_, run_idle (f := fun u => u.copyReq link f) ?_⟩
    all_goals simp [State.heartbeat, State.intakeFrame, State.forceFrame, State.changeFrame, State.switchFrame, State.copyReq, hnone]
  intro b fresh note same inStep q
  have hstandby : p.standby = s.pair.standby := heard_standby ..
  have hpaired : p.role = s.pair.role := heard_role ..
  refine ⟨fun hother => ?_, fun hrole hactive hdigest => ?_, fun d hrole hactive hdigest hne hfresh => ?_, ?_, ?_, ?_, ?_⟩
  · obtain ⟨L, hlanes, hbeat⟩ := heartbeat_hears (t := t) h hother
    exact ⟨_, run_next (f := fun u => u.heartbeat link f) hbeat rfl rfl, ⟨hlanes _, rfl⟩, by cases link <;> rfl⟩
  · intro matched
    obtain ⟨L, hlanes, hbeat⟩ := heartbeat_agrees (t := t) h hrole hactive hdigest
    have hmatched : (p.beats b).agrees b (max s.now t) = matched := by cases link <;> rfl
    rw [show (s.heardPair t link f).beats (beatOf f.payload) = p.beats b from rfl, hmatched] at hbeat
    refine ⟨fun hready => ?_, fun hready hsame => ?_, fun o hready ho hfall => ?_⟩
    · have hkeeps := hbeat.trans (compareStates_notReady (s := s.hears t L matched) (fun hr => hready (hstandby.symm.trans hr)) _ _)
      exact ⟨_, run_next (f := fun u => u.heartbeat link f) hkeeps rfl rfl, ⟨hlanes _, rfl⟩, rfl⟩
    · have hagrees := hbeat.trans (compareStates_agrees (s := s.hears t L matched) (hstandby.trans hready) _ (beatOf_modes _) hsame)
      exact ⟨_, run_next (f := fun u => u.heartbeat link f) hagrees rfl rfl, ⟨hlanes p, rfl⟩, rfl⟩
    · rw [ho] at hbeat
      have hfalls := hbeat.trans ((compareStates_falls (s := s.hears t L matched) (hstandby.trans hready) hfall).trans
        (notReady_eq (hpaired.trans hrole) 6))
      exact ⟨_, run_next (f := fun u => u.heartbeat link f) hfalls rfl rfl, rfl, heard_outputDiffs .., rfl, hlanes p, rfl⟩
  · intro counted
    obtain ⟨L, hlanes, hbeat⟩ := heartbeat_differs (t := t) h hrole hactive hdigest hne (of_decide_eq_true hfresh)
    let w := s.hearsDifference t link f L
    have hrecords := hearsDifference_records s t link f L
    have hdiffs : w.pair.outputDiffs = s.pair.outputDiffs + 1 := hearsDifference_outputDiffs ..
    refine ⟨fun hready hstep => ?_, fun hstep => ?_, fun hready hsame => ?_⟩
    · rw [settlesDifference_keeps (s := w) (by simpa [w, inStep] using hstep) (by simp [w, hready]),
        compareStates_notReady (s := w) (by simpa [w] using hready)] at hbeat
      exact ⟨_, run_next (f := fun u => u.heartbeat link f) hbeat rfl rfl, ⟨hdiffs, hlanes p, rfl⟩, hstandby, rfl, rfl⟩
    · rw [settlesDifference_fails (s := w) (by simpa [w, inStep] using hstep), compareStates_notReady (s := w.copyFails 4) (fun hr => by cases hr),
        copyFails_eq (s := w) ((hearsDifference_role ..).trans hrole)] at hbeat
      exact ⟨_, run_next (f := fun u => u.heartbeat link f) hbeat rfl rfl, ⟨hdiffs, hlanes p, rfl⟩, rfl, hrecords _⟩
    · by_cases hthird : 2 ≤ s.pair.differs
      · rw [settlesDifference_third (s := w) (hstandby.trans hready) (by simpa [w] using hthird),
          compareStates_notReady (s := w.notReady 4) (fun hr => by cases hr), notReady_eq (s := w) ((hearsDifference_role ..).trans hrole)] at hbeat
        exact ⟨_, run_next (f := fun u => u.heartbeat link f) hbeat rfl rfl, ⟨hdiffs, hlanes p, rfl⟩,
          fun hfew => absurd hthird (Nat.not_le.2 hfew), fun _ => ⟨rfl, hrecords _⟩⟩
      · rw [settlesDifference_keeps (s := w) (by simp [w, hready]) (by simpa [w, hready] using hthird),
          compareStates_agrees (s := w) (hstandby.trans hready) _ (beatOf_modes _) hsame] at hbeat
        exact ⟨_, run_next (f := fun u => u.heartbeat link f) hbeat rfl rfl, ⟨hdiffs, hlanes p, rfl⟩,
          fun _ => ⟨hstandby.trans hready, hearsDifference_differs .., rfl⟩, fun hmany => absurd hmany hthird⟩
  · obtain ⟨L, hlanes, hintake⟩ := intakeFrame_good t h
    exact ⟨_, run_next (f := fun u => u.intakeFrame link f) hintake rfl rfl, ⟨hlanes _, rfl⟩, rfl⟩
  · obtain ⟨u, hforce, hpair, hlanes, hframe⟩ := forceFrame_good t h
    exact ⟨u, run_next (f := fun u => u.forceFrame link f) hforce (by rw [hframe]) (by rw [hframe]), hpair, hlanes, hframe⟩
  · intro op target image point
    refine ⟨fun hop htarget => ?_, fun hop hask => ?_, fun hop hrole => ?_, fun hop hrole hnew => ?_, fun k hop hrole hslot => ?_⟩
    · obtain ⟨L, hlanes, hchange⟩ := changeFrame_staged (t := t) h hop
      exact ⟨_, run_next (f := fun u => u.changeFrame link f) (hchange.trans (if_neg htarget)) rfl rfl, ⟨hlanes _, rfl⟩, rfl⟩
    · obtain ⟨L, hlanes, hchange⟩ := changeFrame_asked (t := t) h hop hask
      exact ⟨_, run_next (f := fun u => u.changeFrame link f) hchange rfl rfl, hlanes p, rfl, rfl, rfl⟩
    · obtain ⟨L, hlanes, hchange⟩ := changeFrame_elsewhere (t := t) h hop hrole
      exact ⟨_, run_next (f := fun u => u.changeFrame link f) hchange rfl rfl, ⟨hlanes _, rfl⟩, rfl⟩
    · intro free
      obtain ⟨L, hlanes, hchange⟩ := changeFrame_arm (t := t) h hop hrole hnew
      have hfree : (s.hears t L p).armsFor point ↔ free := by
        unfold State.armsFor
        rw [hears_armPoint hlanes p]
        rfl
      have hkeep := armWith_keeps (s := s.hears t L p) (image := image) (target := target) (c := point)
      have harm := fun k => armWith_arms (s := s.hears t L p) (image := image) (target := target) (c := point) (k := k)
      rw [armWith_frame] at hchange
      exact ⟨_, run_next (f := fun u => u.changeFrame link f) hchange rfl rfl, hlanes p, rfl, fun k hslot hf => harm k hslot (hfree.2 hf),
        fun hno => hkeep (hno.imp id (fun hn hf => hn (hfree.1 hf))), rfl⟩
    · obtain ⟨L, hlanes, hchange⟩ := changeFrame_abort (t := t) h hop hrole
      have hk : k < s.images.staging.length := slotWith_some hslot
      rw [abortWith_calls (s := s.hears t L p) hslot, hears_laneTimes hlanes p] at hchange
      exact ⟨_, run_next (f := fun u => u.changeFrame link f) hchange rfl rfl, hlanes p, modStaging_at_same (s := s.hears t L p) _ hk,
        fun j hj => modStaging_at_other (s.hears t L p) _ hj, rfl⟩
  · obtain ⟨L, hlanes, hswitch⟩ := switchFrame_good t h
    exact ⟨_, run_next (f := fun u => u.switchFrame link f) hswitch rfl rfl, ⟨hlanes _, rfl⟩, rfl⟩

end Sys2Proof.Machine
end

section
/-! # The end of reduced operation (R37, R218, R233) -/

namespace Sys2Proof.Machine

/-- In a running module in reduced operation the time of R37 counts on from its last start. -/
theorem reducedTime_reduced {s : State} (hrun : s.control.phase = .running) (hred : s.control.degradation = .reduced) :
    s.reducedTime = s.control.reducedUsed + (s.now - s.control.reducedSince) := by
  have hcount : s.counting = true := by simp [State.counting, hrun, hred]
  unfold State.reducedTime
  rw [if_pos hcount]

/-- Settles O29: the limit and the warning at the time that reduced operation has lasted, and neither in full operation. Whole minutes are
rounded down (log entry 77). -/
theorem reducedOperationRunsOut : Obligations.ReducedOperationRunsOut := by
  unfold Obligations.ReducedOperationRunsOut
  intro t s hrun used
  have hlimit : exec (.reducedLimitExpiry t) s = run t State.reducedExpiry s := rfl
  have hwarn : exec (.reducedWarn t) s = run t State.reducedWarn s := rfl
  have htime : s.control.degradation = .reduced → (s.tick t).reducedTime = used := reducedTime_reduced (s := s.tick t) hrun
  rw [hlimit, hwarn]
  refine ⟨fun hred hend => ?_, fun hred hnew hnear => ?_, fun _ hwarned => ?_, fun hfull => ⟨?_, ?_⟩⟩
  · have hexpiry : (s.tick t).reducedExpiry = { s.tick t with control := { s.control with nadirDue := some 5 } } :=
      if_pos ⟨hred, by rw [htime hred]; exact hend⟩
    rw [run_eq, hexpiry]
    rfl
  · have hrecord : (s.tick t).reducedWarn = ({ s.tick t with control := { s.control with reducedWarned := true } } : State).event 0x0403
        Origin.internal [(24, 2, (s.reducedLimit - used) / (60 * 1000000000))] := by
      rw [← htime hred]
      exact if_pos ⟨hred, hnew, by rw [htime hred]; exact hnear⟩
    rw [run_eq, hrecord]
    exact ⟨_, _, rfl, rfl, rfl, rfl, rfl, rfl⟩
  · exact run_idle (if_neg (fun h => absurd (hwarned.symm.trans h.2.1) (by decide)))
  · exact run_idle (if_neg (fun h => absurd (hfull.symm.trans h.1) (by decide)))
  · exact run_idle (if_neg (fun h => absurd (hfull.symm.trans h.1) (by decide)))

end Sys2Proof.Machine
end

section
/-! # Reintegration and fuse repair (R244, R325, R586) -/

namespace Sys2Proof.Machine

/-- A record of a failed known-answer test is the only thing that its lane keeps of it. -/
theorem katRecord_keeps (s : State) (i : LaneId) (fail : Option Nat) :
    SameButLanes s (s.katRecord i fail) ∧ (∀ j, j ≠ i → (s.katRecord i fail).lane j = s.lane j) ∧
      ∃ Q n b, (s.katRecord i fail).lane i = { s.lane i with
        queue := Q
        almLost := n
        almLostPending := b } := by
  cases fail with
  | none => exact ⟨rfl, fun _ _ => rfl, _, _, _, rfl⟩
  | some n => exact ⟨rfl, fun j hj => laneEvent_lane_other s _ _ hj, by rw [State.katRecord, laneEvent_lane_same]; exact enqueue_keeps _ _⟩

/-- A stage of a reintegration: the lane's mode and a record. -/
theorem laneStage_lane_same (s : State) (o : Origin) (i : LaneId) (m : LaneMode) (c : Option Cause) :
    (s.laneStage o i m c).lane i = { s.lane i with mode := m } := by
  unfold State.laneStage
  rw [event_lane, modLane_lane_same]

theorem laneStage_lane_other (s : State) (o : Origin) {i j : LaneId} (m : LaneMode) (c : Option Cause) (h : j ≠ i) :
    (s.laneStage o i m c).lane j = s.lane j := by
  unfold State.laneStage
  rw [event_lane, modLane_lane_other _ _ h]

/-- The repairs that a fuse run makes permanent and those that stay soft are the repairs that there were. -/
theorem fused_perm (l : List Nat) (fused : List Nat) (n : Nat) :
    let soft := l.mergeSort (fun a b => decide (a ≤ b))
    (soft.drop n ++ (fused ++ soft.take n)).Perm (l ++ fused) := by
  intro soft
  calc (soft.drop n ++ (fused ++ soft.take n)).Perm (soft.drop n ++ (soft.take n ++ fused)) := List.perm_append_comm.append_left _
    _ = (soft.drop n ++ soft.take n) ++ fused := (List.append_assoc ..).symm
    List.Perm _ ((soft.take n ++ soft.drop n) ++ fused) := List.perm_append_comm.append_right _
    _ = soft ++ fused := by rw [List.take_append_drop]
    List.Perm _ (l ++ fused) := (List.mergeSort_perm l _).append_right _

/-- The stages by which a self-test ends (R244, R325). -/
theorem selfTestDone_passes {s : State} {i : LaneId} {r : SelfTestResult} (hmode : (s.lane i).mode = .restarting) (hrun : s.control.phase = .running)
    (hpass : r.pass = true) (hkat : r.katFail = none) : s.selfTestDone i r =
      (s.laneStage Origin.internal i LaneMode.copying none).modLane i (fun l => { l with
        startPassed := true
        localFault := none
        queue := []
        almLost := 0
        almLostPending := false }) :=
  (if_pos ⟨hmode, hrun⟩).trans (if_pos (by rw [hpass, hkat]; rfl))

theorem selfTestDone_fails {s : State} {i : LaneId} {r : SelfTestResult} (hmode : (s.lane i).mode = .restarting) (hrun : s.control.phase = .running)
    (hfail : r.pass = false ∨ r.katFail ≠ none) : s.selfTestDone i r =
      ((s.laneStage Origin.internal i LaneMode.excluded (some .selfTest)).modLane i (fun l => { l with
        cause := some .selfTest
        katFail := r.katFail })).katRecord i r.katFail := by
  have hno : ¬(r.pass && r.katFail.isNone) = true := by
    rcases hfail with h | h
    · simp [h]
    · simp [h]
  exact (if_pos ⟨hmode, hrun⟩).trans (if_neg hno)

/-- Settles O12: each stage by what it makes of its lane; the fuse run by the repairs that it permutes. -/
theorem reintegrationAndFuseRepair : Obligations.ReintegrationAndFuseRepair := by
  unfold Obligations.ReintegrationAndFuseRepair
  refine ⟨fun t i r s hrun => ⟨fun hmode => ⟨fun hpass hkat => ?_, fun hfail => ?_⟩, fun hmode => ⟨?_, ?_⟩⟩, fun t i s hfuse => ?_⟩
  · refine ⟨_, run_next (f := fun u => u.selfTestDone i r) (selfTestDone_passes (s := s.tick t) hmode hrun hpass hkat) rfl rfl, ?_, ?_, fun j hj => ?_, rfl⟩
    · rw [modLane_lane_same, laneStage_lane_same]
    · rw [modLane_lane_same]
    · rw [modLane_lane_other _ _ hj, laneStage_lane_other _ _ _ _ hj, tick_lane]
  · let v := ((s.tick t).laneStage Origin.internal i LaneMode.excluded (some .selfTest)).modLane i (fun l => { l with
      cause := some .selfTest
      katFail := r.katFail })
    obtain ⟨hframe, hother, Q, n, b, hlane⟩ := katRecord_keeps v i r.katFail
    have hself : v.lane i = { s.lane i with
        mode := .excluded
        cause := some .selfTest
        katFail := r.katFail } := by rw [modLane_lane_same, laneStage_lane_same, tick_lane]
    have hdone := selfTestDone_fails (s := s.tick t) hmode hrun hfail
    refine ⟨_, run_next (f := fun u => u.selfTestDone i r) hdone (by rw [hframe]; rfl) (by rw [hframe]; rfl), ?_, ?_, fun j hj => ?_, ?_⟩
    · rw [hlane, hself]
    · rw [hlane, hself]
    · rw [hother j hj, modLane_lane_other _ _ hj, laneStage_lane_other _ _ _ _ hj, tick_lane]
    · rw [hframe]; rfl
  · have hdone : (s.tick t).copyingComplete i true = _ := (if_pos ⟨hmode, hrun⟩).trans (if_pos rfl)
    refine ⟨_, run_next (f := fun u => u.copyingComplete i true) hdone rfl rfl, ?_, ?_, ?_, ?_, fun j hj => ?_, rfl⟩
    · rw [modLane_lane_same, laneStage_lane_same]
    · rw [modLane_lane_same]; rfl
    · rw [modLane_lane_same]; rfl
    · rw [modLane_lane_same]; rfl
    · rw [modLane_lane_other _ _ hj, laneStage_lane_other _ _ _ _ hj, tick_lane]
  · have hdone : (s.tick t).copyingComplete i false = (s.tick t).laneStage Origin.internal i LaneMode.excluded (s.lane i).cause :=
      (if_pos ⟨hmode, hrun⟩).trans (if_neg Bool.false_ne_true)
    refine ⟨_, run_next (f := fun u => u.copyingComplete i false) hdone rfl rfl, ?_, ?_, fun j hj => ?_, rfl⟩
    · rw [laneStage_lane_same]
    · rw [laneStage_lane_same, tick_lane]
    · rw [laneStage_lane_other _ _ _ _ hj, tick_lane]
  · have hdone : (s.tick t).fuseRepair i = _ := if_pos hfuse
    have hfusable : (s.lane i).fusable ≤ (s.lane i).softRepairs.length := Nat.min_le_left _ _
    refine ⟨_, run_next (f := fun u => u.fuseRepair i) hdone rfl rfl, ?_, ?_, ?_, fun j hj => ?_, rfl⟩
    · rw [event_lane, modLane_lane_same]
    · rw [event_lane, modLane_lane_same]
      simp [hfusable]
    · rw [event_lane, modLane_lane_same]
      exact fused_perm _ _ _
    · rw [event_lane, modLane_lane_other _ _ hj, tick_lane]

end Sys2Proof.Machine
end

section
/-! # Table 6.2 (R212, R213) -/

namespace Sys2Proof.Machine

/-! ## LANE_TIMEs -/

/-- How far a LANE_TIME lies from one `m` units after another, where that is within the reach of the field. -/
theorem timeDiff_after (x a : Word) (m : Int) (hlow : -2147483648 ≤ timeDiff x a - m) (hhigh : timeDiff x a - m < 2147483648) :
    timeDiff x (a + BitVec.ofInt 32 m) = timeDiff x a - m :=
  calc (x - (a + BitVec.ofInt 32 m)).toInt = (timeDiff x a - m).bmod (2 ^ 32) := by
        rw [← BitVec.sub_sub, BitVec.toInt_sub, BitVec.toInt_ofInt, Int.sub_bmod_bmod, timeDiff]
    _ = timeDiff x a - m := Int.bmod_eq_of_le (by omega) (by omega)

theorem timeDiff_self (x : Word) : timeDiff x x = 0 := by simp [timeDiff]

theorem timeOff_self (x : Word) : timeOff x x = false := by simp [timeOff, timeDiff_self]

/-- A LANE_TIME is as far after another as the difference of the two says. -/
theorem add_timeDiff (a y : Word) : a + BitVec.ofInt 32 (timeDiff y a) = y := by
  have hy : BitVec.ofInt 32 (timeDiff y a) = y - a := BitVec.ofInt_toInt
  rw [hy]
  ring

/-- The median of two equal LANE_TIMEs and any third is the two. -/
theorem medianTime_pair (a z : Word) : medianTime a a z = a := by
  have hmid : median3 0 (timeDiff a a) (timeDiff z a) = 0 := by
    rw [timeDiff_self]
    unfold median3
    omega
  unfold medianTime
  rw [hmid]
  simp

theorem medianTime_odd_first (a z : Word) : medianTime z a a = a := by
  have hmid : median3 0 (timeDiff a z) (timeDiff a z) = timeDiff a z := by
    unfold median3
    omega
  unfold medianTime
  rw [hmid, add_timeDiff]

/-- Of three LANE_TIMEs within 1 µs of each other none is off their median (R212). -/
theorem timeOff_close {a y z : Word} (hy : (timeDiff y a).natAbs ≤ 25) (hz : (timeDiff z a).natAbs ≤ 25) (hyz : (timeDiff z y).natAbs ≤ 25) :
    timeOff a (medianTime a y z) = false ∧ timeOff y (medianTime a y z) = false ∧ timeOff z (medianTime a y z) = false := by
  have hdiff : timeDiff z y = timeDiff z a - timeDiff y a := by
    have h := timeDiff_after z a (timeDiff y a) (by omega) (by omega)
    rwa [add_timeDiff] at h
  rw [hdiff] at hyz
  unfold timeOff medianTime median3
  simp only [decide_eq_false_iff_not, not_lt]
  refine ⟨?_, ?_, ?_⟩
  · rw [timeDiff_after a a _ (by rw [timeDiff_self]; omega) (by rw [timeDiff_self]; omega), timeDiff_self]
    omega
  · rw [timeDiff_after y a _ (by omega) (by omega)]
    omega
  · rw [timeDiff_after z a _ (by omega) (by omega)]
    omega

/-! ## Vectors that agree -/

theorem maj3_pair {n : Nat} (x y : BitVec n) : maj3 x x y = x := by
  ext k
  simp [maj3]
  cases x[k] <;> simp

theorem maj3_odd_first {n : Nat} (x y : BitVec n) : maj3 y x x = x := by
  ext k
  simp [maj3]
  cases x[k] <;> simp

/-- The majority of vectors that differ in their senders and times only. -/
theorem majVector_sameWords (a : Vector) (j k : LaneId) (y z : Word) :
    majVector a { a with lane := j, laneTime := y } { a with lane := k, laneTime := z } = a := by
  simp [majVector, majNumber, maj3_same, majPayloads_same]

/-- A vector with the voted words of another agrees with it (R213). -/
theorem straddleOnly_sameWords (gs : List Group) (stray : List Nat) (w : Vector) (l : LaneId) (y : Word) :
    straddleOnly gs stray { w with lane := l, laneTime := y } w = true := by
  simp [straddleOnly, changedElems, sameRest, diffGroups]

theorem straddleOnly_self (gs : List Group) (stray : List Nat) (a : Vector) : straddleOnly gs stray a a = true :=
  straddleOnly_sameWords gs stray a a.lane a.laneTime

/-- An element lock vector that differs is no straddle (R213). -/
theorem straddleOnly_oddLock (gs : List Group) (stray : List Nat) {w : Vector} {locks : BitVec 8192} (h : w.elemLock ≠ locks) :
    straddleOnly gs stray { w with elemLock := locks } w = false := by
  simp [straddleOnly, sameRest, Ne.symm h]

theorem settle_same (gs : List Group) (stray : List Nat) (prev : Snapshot) (a : Vector) : settle gs stray prev a a = some a := by
  simp [settle, changedElems, diffGroups, sameRest, restrictGroups]

theorem countsStraddle_same (gs : List Group) (a : Vector) : countsStraddle gs a a = false := by simp [countsStraddle]

/-! ## The faults of a vote -/

/-- A vector that agrees, in the outcome of its arm checks and in its time too, is no fault. -/
theorem voteFault_none {med : Word} {a b c : Vector} (hpass : a.armPass = b.armPass) (htime : timeOff a.laneTime med = false) :
    voteFault true med a b c = none := by
  simp [voteFault, armOdd, hpass, htime]

theorem voteFault_vote (med : Word) (a b c : Vector) : voteFault false med a b c = some .vote := rfl

/-- A vector that agrees but for its time is a fault with cause TIME (R212). -/
theorem voteFault_time {med : Word} {a b c : Vector} (hpass : a.armPass = b.armPass) (htime : timeOff a.laneTime med = true) :
    voteFault true med a b c = some .time := by
  simp [voteFault, armOdd, hpass, htime]

section
variable {gs : List Group} {prev : Snapshot} {strays : LaneId → List Nat} {i j k : LaneId} {a b c w : Vector} {med : Word} {x : Cause}
  (hmaj : majVector a b c = w) (hmed : medianTime a.laneTime b.laneTime c.laneTime = med)
include hmaj hmed

/-- No fault in any lane: the majority commits (Table 6.2, first row). -/
theorem decideThree_agreed (ha : voteFault (straddleOnly gs (strays i) a w) med a b c = none)
    (hb : voteFault (straddleOnly gs (strays j) b w) med b a c = none) (hc : voteFault (straddleOnly gs (strays k) c w) med c a b = none) :
    decideThree gs prev strays i j k a b c = .commit w [] (countsStraddle gs a w) := by
  unfold decideThree
  simp only [hmaj, hmed, ha, hb, hc]

/-- A fault in the third lane: the two others settle, and exclude it. -/
theorem decideThree_excludes {v : Vector} (ha : voteFault (straddleOnly gs (strays i) a w) med a b c = none)
    (hb : voteFault (straddleOnly gs (strays j) b w) med b a c = none) (hc : voteFault (straddleOnly gs (strays k) c w) med c a b = some x)
    (hsettle : settle gs (strays i ++ strays j) prev a b = some v) :
    decideThree gs prev strays i j k a b c = .commit v [(k, x)] (countsStraddle gs a b) := by
  unfold decideThree
  simp only [hmaj, hmed, ha, hb, hc, hsettle]

/-- A fault in the deciding lane alone: it isolates. -/
theorem decideThree_isolates (ha : voteFault (straddleOnly gs (strays i) a w) med a b c = some x)
    (hb : voteFault (straddleOnly gs (strays j) b w) med b a c = none) (hc : voteFault (straddleOnly gs (strays k) c w) med c a b = none) :
    decideThree gs prev strays i j k a b c = .isolate false := by
  unfold decideThree
  simp only [hmaj, hmed, ha, hb, hc]

end

/-! ## One lane that is odd -/

section
variable (gs : List Group) (prev : Snapshot) (strays : LaneId → List Nat) (i j k : LaneId) {a : Vector}

/-- The two lanes whose lock vectors agree exclude the third (Table 6.2). -/
theorem decideThree_oddLock_excludes {locks : BitVec 8192} (h : a.elemLock ≠ locks) :
    decideThree gs prev strays i j k a a { a with elemLock := locks } = .commit a [(k, .vote)] false := by
  have hmaj : majVector a a { a with elemLock := locks } = a := by simp [majVector, majNumber, maj3_pair, majPayloads_same]
  rw [← countsStraddle_same gs a]
  refine decideThree_excludes hmaj (medianTime_pair ..) ?_ ?_ ?_ (settle_same ..)
  · rw [straddleOnly_self]; exact voteFault_none rfl (timeOff_self _)
  · rw [straddleOnly_self]; exact voteFault_none rfl (timeOff_self _)
  · rw [straddleOnly_oddLock gs _ h]; rfl

/-- The odd lane itself isolates (Table 6.2). -/
theorem decideThree_oddLock_isolates {locks : BitVec 8192} (h : a.elemLock ≠ locks) :
    decideThree gs prev strays i j k { a with elemLock := locks } a a = .isolate false := by
  have hmaj : majVector { a with elemLock := locks } a a = a := by simp [majVector, majNumber, maj3_odd_first, majPayloads_same]
  refine decideThree_isolates (x := .vote) hmaj (medianTime_pair ..) ?_ ?_ ?_
  · rw [straddleOnly_oddLock gs _ h]; rfl
  · rw [straddleOnly_self]; exact voteFault_none rfl (timeOff_self _)
  · rw [straddleOnly_self]; exact voteFault_none rfl (timeOff_self _)

/-- The two lanes whose times agree exclude the third (R212). -/
theorem decideThree_oddTime_excludes {z : Word} (h : 25 < (timeDiff z a.laneTime).natAbs) :
    decideThree gs prev strays i j k a a { a with laneTime := z } = .commit a [(k, .time)] false := by
  rw [← countsStraddle_same gs a]
  refine decideThree_excludes (majVector_sameWords a a.lane a.lane a.laneTime z) (medianTime_pair ..) ?_ ?_ ?_ (settle_same ..)
  · rw [straddleOnly_self]; exact voteFault_none rfl (timeOff_self _)
  · rw [straddleOnly_self]; exact voteFault_none rfl (timeOff_self _)
  · rw [straddleOnly_sameWords gs _ a a.lane z]; exact voteFault_time rfl (decide_eq_true h)

/-- The lane whose time is off isolates (R212). -/
theorem decideThree_oddTime_isolates {z : Word} (h : 25 < (timeDiff z a.laneTime).natAbs) :
    decideThree gs prev strays i j k { a with laneTime := z } a a = .isolate false := by
  have hwords : ∀ l, straddleOnly gs (strays l) a { a with laneTime := z } = true :=
    fun l => straddleOnly_sameWords gs (strays l) { a with laneTime := z } a.lane a.laneTime
  refine decideThree_isolates (x := .time)
    (majVector_sameWords { a with laneTime := z } a.lane a.lane a.laneTime a.laneTime) (medianTime_odd_first ..) ?_ ?_ ?_
  · rw [straddleOnly_self]; exact voteFault_time rfl (decide_eq_true h)
  · rw [hwords]; exact voteFault_none rfl (timeOff_self _)
  · rw [hwords]; exact voteFault_none rfl (timeOff_self _)

end

/-- Settles O23: three vectors that agree have no fault in any lane; with one lane odd, in a lock vector or in its time, the fault is its alone. -/
theorem vectorsAreDecidedByTableSixTwo : Obligations.VectorsAreDecidedByTableSixTwo := by
  unfold Obligations.VectorsAreDecidedByTableSixTwo
  refine ⟨fun gs prev strays i j k a y z hy hz hyz => ?_, fun gs prev strays i j k a locks h => ?_, fun gs prev strays i j k a z h => ?_⟩
  · obtain ⟨ha, hb, hc⟩ := timeOff_close hy hz hyz
    rw [← countsStraddle_same gs a]
    refine decideThree_agreed (majVector_sameWords ..) rfl ?_ ?_ ?_
    · rw [straddleOnly_self]; exact voteFault_none rfl ha
    · rw [straddleOnly_sameWords]; exact voteFault_none rfl hb
    · rw [straddleOnly_sameWords]; exact voteFault_none rfl hc
  · exact ⟨decideThree_oddLock_excludes gs prev strays i j k h, decideThree_oddLock_excludes gs prev strays j i k h,
      decideThree_oddLock_isolates gs prev strays k i j h⟩
  · exact ⟨decideThree_oddTime_excludes gs prev strays i j k h, decideThree_oddTime_isolates gs prev strays k i j h⟩

end Sys2Proof.Machine
end

section
/-! # Messages on the cross-lane links (R206 to R210, R214, R217, R229) -/

namespace Sys2Proof.Machine

/-! ## Commands that change one lane -/

/-- `u` is `s` but for lane `i`. -/
def OnlyLane (s : State) (i : LaneId) (u : State) : Prop := SameButLanes s u ∧ ∀ j, j ≠ i → u.lane j = s.lane j

theorem OnlyLane.refl (s : State) (i : LaneId) : OnlyLane s i s := ⟨rfl, fun _ _ => rfl⟩

theorem OnlyLane.trans {s u v : State} {i : LaneId} (h : OnlyLane s i u) (g : OnlyLane u i v) : OnlyLane s i v :=
  ⟨h.1.trans g.1, fun j hj => (g.2 j hj).trans (h.2 j hj)⟩

theorem onlyLane_modLane (s : State) (i : LaneId) (f : Lane → Lane) : OnlyLane s i (s.modLane i f) :=
  ⟨modLane_sameButLanes s i f, fun _ hj => modLane_lane_other s f hj⟩

/-- The state after a command that changes one lane only. -/
theorem run_onlyLane {s : State} {t : Nat} {i : LaneId} {f : State → State} (h : OnlyLane (s.tick t) i (f (s.tick t))) :
    ∃ u, run t f s = .next u ∧ ((∀ j, j ≠ i → u.lane j = s.lane j) ∧ u = { s with now := max s.now t, lanes := u.lanes }) ∧
      u.lane i = (f (s.tick t)).lane i :=
  ⟨_, run_sameButLanes h.1, ⟨h.2, rfl⟩, rfl⟩

/-! ## Vectors and notices -/

/-- An invalid word or a gap: one more link error at the receiver (R207). -/
theorem linkError_lane_same (s : State) (dst src : LaneId) : (s.linkError dst src).lane dst =
    { s.lane dst with counters := { (s.lane dst).counters with
      linkErr := (s.lane dst).counters.linkErr.put src ((s.lane dst).counters.linkErr.get src + 1) } } := modLane_lane_same s dst _

theorem voteVector_onlyLane (s : State) (dst src : LaneId) (f : LinkFault) : OnlyLane s dst (s.voteVector dst src f) := by
  unfold State.voteVector
  split
  · exact onlyLane_modLane s dst _
  · split
    · exact onlyLane_modLane s dst _
    · exact OnlyLane.refl s dst
  · exact OnlyLane.refl s dst

theorem faultNotice_onlyLane (s : State) (dst src : LaneId) (f : LinkFault) : OnlyLane s dst (s.faultNotice dst src f) := by
  unfold State.faultNotice
  split
  · exact onlyLane_modLane s dst _
  · split
    · exact onlyLane_modLane s dst _
    · exact OnlyLane.refl s dst
  · exact OnlyLane.refl s dst

section
variable {s : State} {dst src : LaneId}

/-- A vector that arrives whole and in time, and names its sender (R209, R210). -/
theorem voteVector_whole {v : Vector} (hown : (s.lane src).vote.own = some v) : s.voteVector dst src .none =
    if s.takesVote dst src && v.lane == src then s.modLane dst (fun l => l.receive src (.vector v)) else s := by
  unfold State.voteVector
  rw [hown]

theorem voteVector_invalid (h : (s.lane src).vote.own ≠ none) : s.voteVector dst src .invalid = s.linkError dst src := by
  obtain ⟨v, hv⟩ := Option.ne_none_iff_exists'.1 h
  unfold State.voteVector
  rw [hv]

theorem voteVector_ignored {f : LinkFault} (h : f = .wrongLane ∨ (s.lane src).vote.own = none) : s.voteVector dst src f = s := by
  unfold State.voteVector
  rcases h with rfl | h
  · rfl
  · rw [h]
    cases f <;> rfl

/-- A fault notice that arrives whole (R229). -/
theorem faultNotice_whole {n : Verdict} (hnotice : (s.lane src).vote.notice = some n) : s.faultNotice dst src .none =
    if s.takesVote dst src then s.modLane dst (fun l => l.receive src (.notice (n.cause.getD .vote))) else s := by
  unfold State.faultNotice
  rw [hnotice]

theorem faultNotice_invalid (h : (s.lane src).vote.notice ≠ none) : s.faultNotice dst src .invalid = s.linkError dst src := by
  obtain ⟨v, hv⟩ := Option.ne_none_iff_exists'.1 h
  unfold State.faultNotice
  rw [hv]

theorem faultNotice_ignored {f : LinkFault} (h : f = .wrongLane ∨ (s.lane src).vote.notice = none) : s.faultNotice dst src f = s := by
  unfold State.faultNotice
  rcases h with rfl | h
  · rfl
  · rw [h]
    cases f <;> rfl

/-! ## Verdict words -/

theorem verdictWord_onlyLane (s : State) (dst src : LaneId) (f : LinkFault) : OnlyLane s dst (s.verdictWord dst src f) := by
  unfold State.verdictWord
  simp only []
  split
  · exact OnlyLane.refl s dst
  · exact onlyLane_modLane s dst _
  · split
    · exact OnlyLane.refl s dst
    · split
      · exact onlyLane_modLane s dst _
      · split
        · split
          · exact onlyLane_modLane s dst _
          · exact OnlyLane.refl s dst
        · exact OnlyLane.refl s dst
  · split
    · exact onlyLane_modLane s dst _
    · exact OnlyLane.refl s dst
  · exact OnlyLane.refl s dst

/-- A verdict of the cycle-end vote, in time where reduced operation bounds it (R217). -/
theorem verdictWord_cycle {v : Verdict} (hne : dst ≠ src) (hsent : (s.lane src).vote.sent = some v)
    (htime : s.control.degradation ≠ .reduced ∨ s.pastVerdict dst = false) (hnew : (s.lane dst).vote.verdicts.get src ≠ some v) :
    s.verdictWord dst src .none = s.modLane dst (fun l => { l with vote := { l.vote with verdicts := l.vote.verdicts.put src (some v) } }) := by
  have hlate : (s.control.degradation == .reduced && s.pastVerdict dst) = false := by
    rcases htime with h | h
    · simp [h]
    · simp [h]
  unfold State.verdictWord
  rw [hsent]
  exact (if_neg hne).trans (if_pos ⟨hnew, hlate⟩)

/-- The first verdict of a mini-vote of its sender stands as it came (R214). -/
theorem takeMini_first {b : VoteBox} {w : Verdict} (h : b.miniVerdicts.get src = none) :
    b.newMini src w = true ∧ b.takeMini src w = { b with miniVerdicts := b.miniVerdicts.put src (some w) } := by
  unfold VoteBox.newMini VoteBox.takeMini
  rw [h]
  exact ⟨rfl, rfl⟩

/-- A verdict that followed a mini-vote, where that of the cycle-end vote is absent or in hand (R208). -/
theorem verdictWord_mini {w : Verdict} (hne : dst ≠ src) (hsent : (s.lane src).vote.sent = none ∨ (s.lane dst).vote.verdicts.get src = (s.lane src).vote.sent)
    (hmini : (s.lane src).vote.miniSent = some w) (hnew : (s.lane dst).vote.newMini src w = true) :
    s.verdictWord dst src .none = s.modLane dst (fun l => { l with vote := l.vote.takeMini src w }) := by
  unfold State.verdictWord
  rw [hmini]
  cases hs : (s.lane src).vote.sent with
  | none => exact if_pos ⟨hne, hnew⟩
  | some v =>
    have hheld : ¬((s.lane dst).vote.verdicts.get src ≠ some v ∧ (s.control.degradation == .reduced && s.pastVerdict dst) = false) :=
      fun h => hsent.elim (fun he => by rw [hs] at he; cases he) (fun he => h.1 (he.trans hs))
    exact (if_neg hne).trans ((if_neg hheld).trans (if_pos hnew))

theorem verdictWord_invalid (h : (s.lane src).vote.sent ≠ none ∨ (s.lane src).vote.miniSent ≠ none) :
    s.verdictWord dst src .invalid = s.linkError dst src := by
  unfold State.verdictWord
  cases hs : (s.lane src).vote.sent with
  | some v => rfl
  | none =>
    obtain ⟨w, hw⟩ := Option.ne_none_iff_exists'.1 (h.resolve_left (fun hne => hne hs))
    rw [hw]

theorem verdictWord_ignored {f : LinkFault}
    (h : f = .wrongLane ∨ dst = src ∧ f = .none ∨ (s.lane src).vote.sent = none ∧ (s.lane src).vote.miniSent = none) : s.verdictWord dst src f = s := by
  unfold State.verdictWord
  rcases h with rfl | ⟨hself, rfl⟩ | ⟨hsent, hmini⟩
  · rfl
  · split
    · rfl
    · contradiction
    · exact if_pos hself
    · exact if_neg (fun h => h.1 hself)
    · rfl
  · rw [hsent, hmini]
    cases f <;> rfl

end

/-- Settles O22, message by message: each is taken by what its sender holds and by how it arrived. -/
theorem linkMessagesReachTheirLane : Obligations.LinkMessagesReachTheirLane := by
  unfold Obligations.LinkMessagesReachTheirLane
  intro t dst src f s now l b held onlyIt counted
  have htime : now.takesVote dst src = (s.tick t).takesVote dst src := rfl
  rw [htime]
  have herror : counted ((s.tick t).linkError dst src) := linkError_lane_same (s.tick t) dst src
  refine ⟨?_, ?_, ?_⟩
  · obtain ⟨u, hrun, honly, hlane⟩ := run_onlyLane (f := fun u => u.voteVector dst src f) (voteVector_onlyLane (s.tick t) dst src f)
    refine ⟨u, hrun, honly, ?_, ?_, ?_, fun h => ?_⟩
    · rintro v rfl hown hsender htakes
      have hgood : ((s.tick t).takesVote dst src && v.lane == src) = true := by simp [htakes, hsender]
      rw [hlane, voteVector_whole (s := s.tick t) hown, if_pos hgood]
      exact modLane_lane_same _ _ _
    · rintro v rfl hown hbad
      have hno : ¬((s.tick t).takesVote dst src && v.lane == src) = true := by
        rcases hbad with h | h
        · simp [h]
        · simp [h]
      rw [hlane, voteVector_whole (s := s.tick t) hown, if_neg hno]
      rfl
    · rintro rfl hown
      exact hlane.trans (by rw [voteVector_invalid (s := s.tick t) hown]; exact herror)
    · rw [hlane, voteVector_ignored (s := s.tick t) h]
      rfl
  · obtain ⟨u, hrun, honly, hlane⟩ := run_onlyLane (f := fun u => u.faultNotice dst src f) (faultNotice_onlyLane (s.tick t) dst src f)
    refine ⟨u, hrun, honly, ?_, ?_, ?_, fun h => ?_⟩
    · rintro n c rfl hnotice hcause htakes
      rw [hlane, faultNotice_whole (s := s.tick t) hnotice, if_pos htakes, hcause]
      exact modLane_lane_same _ _ _
    · rintro rfl hlate
      have hno : ¬(s.tick t).takesVote dst src = true := by simp [hlate]
      rw [hlane]
      cases hnotice : (s.lane src).vote.notice with
      | none => rw [faultNotice_ignored (s := s.tick t) (.inr hnotice)]; rfl
      | some n => rw [faultNotice_whole (s := s.tick t) hnotice, if_neg hno]; rfl
    · rintro rfl hnotice
      exact hlane.trans (by rw [faultNotice_invalid (s := s.tick t) hnotice]; exact herror)
    · rw [hlane, faultNotice_ignored (s := s.tick t) h]
      rfl
  · obtain ⟨u, hrun, honly, hlane⟩ := run_onlyLane (f := fun u => u.verdictWord dst src f) (verdictWord_onlyLane (s.tick t) dst src f)
    refine ⟨u, hrun, honly, ?_, ?_, ?_, fun h => ?_⟩
    · rintro v rfl hne hsent htime hnew
      rw [hlane, verdictWord_cycle (s := s.tick t) hne hsent htime hnew]
      exact modLane_lane_same _ _ _
    · rintro w rfl hne hsent hmini hfirst
      obtain ⟨hnew, htake⟩ := takeMini_first (w := w) hfirst
      rw [hlane, verdictWord_mini (s := s.tick t) hne hsent hmini hnew, modLane_lane_same, tick_lane, htake]
    · rintro rfl hsent
      exact hlane.trans (by rw [verdictWord_invalid (s := s.tick t) hsent]; exact herror)
    · rw [hlane, verdictWord_ignored (s := s.tick t) h]
      rfl

end Sys2Proof.Machine
end

section
/-! # Mini-votes that start and are joined (R219 to R221, R229) -/

namespace Sys2Proof.Machine

/-- What a lane sends as it enters a mini-vote: its vector, or the notice of its fault (R229). -/
def State.miniMessage (s : State) (i : LaneId) : Received :=
  match (s.lane i).localFault with
  | some c => .notice c
  | none => .vector (s.miniVector i)

theorem miniMessage_sent (s : State) (i : LaneId) : s.miniMessage i ≠ .nothing := by
  unfold State.miniMessage
  split <;> exact Received.noConfusion

/-- A lane that enters a mini-vote. -/
theorem enterMini_lane_same (s : State) (i : LaneId) : (s.enterMini i).lane i = { s.lane i with vote := { (s.lane i).vote with
    miniNotice := (s.lane i).noticeWord i
    miniAwaits := i.others.filter s.unexcluded.contains
    miniOwn := s.miniMessage i
    miniRx := Lanes3 .nothing
    miniStart := s.now
    preempts := if (s.lane i).vote.decided then (s.lane i).vote.preempts else (s.lane i).vote.preempts + 1 } } := modLane_lane_same s i _

theorem enterMini_onlyLane (s : State) (i : LaneId) : OnlyLane s i (s.enterMini i) := by
  unfold State.enterMini
  exact onlyLane_modLane s i _

/-- The first message that a lane takes in its mini-vote: the deadline counts from it (R220). -/
theorem receiveMini_first {l : Lane} (src : LaneId) (r : Received) (now : Nat) (h : l.vote.miniRx = Lanes3 .nothing) :
    l.receiveMini src r now = { l with vote := { l.vote with
      miniRx := (Lanes3 .nothing).put src r
      miniStart := now } } := by
  unfold Lane.receiveMini
  rw [h]
  rfl

section
variable {s : State} {i : LaneId} (hrun : s.control.phase = .running) (himage : s.hasImage = true) (hmode : (s.lane i).mode = .voting)
  (hnone : (s.lane i).vote.miniOwn = .nothing) (hfree : (s.lane i).vote.decided = true ∨ (s.lane i).vote.preempts < 2)
include hrun himage hmode hnone hfree

/-- A lane of a running module with an image may enter a mini-vote after its decision, and twice before it (R221). -/
theorem miniFree_of : s.miniFree i = true := by
  unfold State.miniFree
  rcases hfree with h | h
  · simp [hrun, himage, hmode, hnone, h]
  · simp [hrun, himage, hmode, hnone, h]

/-- A lane that is free to joins the mini-vote of another, and holds its message (R220). -/
theorem miniJoin_joins {src : LaneId} (hne : i ≠ src) (hsrc : (s.lane src).mode = .voting) (hsent : (s.lane src).vote.miniOwn ≠ .nothing)
    (hnumber : (s.lane i).lastNumber ≤ (s.lane src).lastNumber) :
    s.miniJoin i src .none = (s.enterMini i).modLane i (fun l => l.receiveMini src (s.lane src).vote.miniOwn s.now) := by
  have hfree' : (s.miniFree i && decide ((s.lane i).lastNumber ≤ (s.lane src).lastNumber)) = true := by
    rw [miniFree_of hrun himage hmode hnone hfree, decide_eq_true hnumber]
    rfl
  unfold State.miniJoin
  simp only []
  rw [if_neg (not_or.2 ⟨hsent, hne⟩), if_neg (not_not.2 hsrc), if_pos hfree', if_neg]
  rw [enterMini_lane_same]
  exact miniMessage_sent s i

end

/-- Settles O26: both ways into a mini-vote are the same step; what joins holds the message that it joined on. Until a vector arrives, a lane
that started the mini-vote counts its deadline from its own start (log entry 117). -/
theorem miniVoteStartsAndIsJoined : Obligations.MiniVoteStartsAndIsJoined := by
  unfold Obligations.MiniVoteStartsAndIsJoined
  intro t i src s hrun himage hmode hnone hfree entered
  have himage' : (s.tick t).hasImage = true := himage
  have hown : ∀ u : State, (u.lane i).vote.miniOwn = (s.tick t).miniMessage i →
      ((s.lane i).localFault = none → ∃ v, (u.lane i).vote.miniOwn = .vector v ∧ v.mini = true ∧ v.lane = i ∧
        v.number = (s.lane i).lastNumber + 1 ∧ v.routeLock = s.snap.routeLock) ∧
      (∀ c, (s.lane i).localFault = some c → (u.lane i).vote.miniOwn = .notice c) := by
    intro u hu
    unfold State.miniMessage at hu
    rw [tick_lane] at hu
    refine ⟨fun hnofault => ?_, fun c hfault => ?_⟩
    · rw [hnofault] at hu
      exact ⟨_, hu, rfl, rfl, rfl, rfl⟩
    · rw [hfault] at hu
      exact hu
  refine ⟨fun hpending => ?_, fun r hne hsrc hr hsent hnumber => ?_⟩
  · have hfree' := miniFree_of (s := s.tick t) hrun himage' hmode hnone hfree
    have hstart : (if (s.tick t).miniFree i && ((s.tick t).lane i).forces.pending != [] then (s.tick t).enterMini i else s.tick t) =
        (s.tick t).enterMini i := if_pos (by rw [hfree']; simpa using hpending)
    have hlane := enterMini_lane_same (s.tick t) i
    obtain ⟨hown1, hown2⟩ := hown ((s.tick t).enterMini i) (by rw [hlane])
    refine ⟨_, run_next (f := fun u => if u.miniFree i && (u.lane i).forces.pending != [] then u.enterMini i else u) hstart rfl rfl,
      ⟨hown1, hown2, ?_, ?_, (enterMini_onlyLane _ i).2, rfl⟩, ?_⟩
    · rw [hlane]; rfl
    · rw [hlane]; rfl
    · rw [hlane]
  · have hjoin := miniJoin_joins (s := s.tick t) hrun himage' hmode hnone hfree hne hsrc (by rw [tick_lane, hr]; exact hsent) hnumber
    let v := ((s.tick t).enterMini i).modLane i (fun l => l.receiveMini src ((s.tick t).lane src).vote.miniOwn (s.tick t).now)
    have hentered := enterMini_lane_same (s.tick t) i
    have hlane : v.lane i = { ((s.tick t).enterMini i).lane i with vote := { (((s.tick t).enterMini i).lane i).vote with
        miniRx := (Lanes3 .nothing).put src r
        miniStart := max s.now t } } := by
      rw [modLane_lane_same, receiveMini_first _ _ _ (by rw [hentered]), tick_lane, hr]
      rfl
    rw [hentered] at hlane
    obtain ⟨hown1, hown2⟩ := hown v (by rw [hlane])
    refine ⟨v, run_next (f := fun u => u.miniJoin i src .none) hjoin rfl rfl,
      ⟨hown1, hown2, ?_, ?_, ((enterMini_onlyLane _ i).trans (onlyLane_modLane _ i _)).2, rfl⟩, ?_⟩
    · rw [hlane]
    · rw [hlane]; rfl
    · rw [hlane]

end Sys2Proof.Machine
end

section
/-! # Mini-votes that decide, and forces that no mini-vote commits (R222, R223, R225) -/

namespace Sys2Proof.Machine

/-! ## Outputs that are taken away -/

theorem setBit_false_le {n : Nat} (x : BitVec n) (k b : Nat) (h : (setBit x k false).getLsbD b = true) : x.getLsbD b = true := by
  unfold setBit setField at h
  simp only [flag, Bool.false_eq_true, if_false, Nat.zero_mod, Nat.zero_shiftLeft, BitVec.or_zero, BitVec.getLsbD_and,
    Bool.and_eq_true] at h
  exact h.1

/-- Groups whose direct outputs are 0 when restrictive only take outputs away. -/
theorem restrictGroups_le (gs : List Group) (h : ∀ g ∈ gs, g.kind = 0 → g.restrictive = 0) (o : BitVec 32 × List (Nat × BitVec 8192)) (b : Nat)
    (hb : (restrictGroups o gs).1.getLsbD b = true) : o.1.getLsbD b = true := by
  induction gs generalizing o with
  | nil => exact hb
  | cons g gs ih =>
    have hput : (putOut o g g.restrictive).1.getLsbD b = true := ih (fun x hx => h x (List.mem_cons_of_mem g hx)) (putOut o g g.restrictive) hb
    unfold putOut at hput
    split at hput
    · next hkind =>
      rw [h g List.mem_cons_self hkind] at hput
      exact setBit_false_le o.1 g.bit b hput
    · exact hput

/-! ## The commit of a mini-vote -/

theorem applyBallot_nobody (s : State) : s.applyBallot [] none = s := rfl

/-- The commit of a mini-vote of full operation that excludes nobody: one snapshot more, with the words of the last one but for the outputs
that it forces (R223). -/
theorem miniCommit_adds {s : State} {forced : List Group} (hfull : s.control.degradation = .full) (hlow : ∀ g ∈ forced, g.kind = 0 → g.restrictive = 0) :
    ∃ p, (s.miniCommit forced [] none).snapshots = (p :: s.snapshots).take 2048 ∧ (s.miniCommit forced [] none).nextNumber = s.nextNumber + 1 ∧
      p.mini = true ∧ p.number = s.nextNumber ∧ p.instant = s.now ∧ p.state = s.snap.state ∧ p.elemLock = s.snap.elemLock ∧
      p.routeLock = s.snap.routeLock ∧ p.power = s.snap.power ∧ ∀ b, p.safeOut.getLsbD b = true → s.snap.safeOut.getLsbD b = true := by
  unfold State.miniCommit
  extract_lets gs s1 o0 o o1 last p rings s2
  have h1 : s1 = s := applyBallot_nobody s
  have hnadir : ¬s1.control.degradation.isNadir = true := by rw [h1, hfull]; decide
  have hout : o1.1 = o0.1 := by
    have ho : o = o0 := if_neg hnadir
    simp only [o1]
    split
    · rw [ho]
    · rw [ho]
  obtain ⟨hsnaps, hnumber, -⟩ := course_eq.1 (course_flushEvents
    ({ s2 with almanac := { s2.almanac with events := s2.almanac.events.map (stampLow p.number) } } : State) p.wall)
  refine ⟨p, ?_, ?_, rfl, ?_, rfl, rfl, rfl, rfl, rfl, fun b hb => ?_⟩
  · rw [hsnaps, ← h1]; rfl
  · rw [hnumber, ← h1]; rfl
  · rw [← h1]
  · have hb' : o1.1.getLsbD b = true := hb
    rw [hout] at hb'
    exact restrictGroups_le forced hlow _ b hb'

/-! ## The vectors in hand -/

/-- A lane that misses vectors: what it counts of them, and no other counter (R247). -/
theorem misses_counters (js : List LaneId) (l : Lane) : ∃ M, (l.misses js).counters = { l.counters with missing := M } := by
  unfold Lane.misses
  induction js generalizing l with
  | nil => exact ⟨_, rfl⟩
  | cons j js ih => exact ih _

/-- Lane `i` counts the vectors that its mini-vote lacks. -/
def State.missesMini (s : State) (i : LaneId) : State := s.modLane i (fun l => l.misses (s.miniMissing i))

theorem missesMini_lane_same (s : State) (i : LaneId) : ∃ M C, (s.missesMini i).lane i = { s.lane i with
    vote := { (s.lane i).vote with missed := M }
    counters := C } := by
  unfold State.missesMini
  rw [modLane_lane_same]
  exact misses_keeps _ _

theorem missesMini_onlyLane (s : State) (i : LaneId) : OnlyLane s i (s.missesMini i) := onlyLane_modLane s i _

/-- Counting them leaves the lanes of the vote as they were, and what the lane holds in its mini-vote. -/
theorem missesMini_held (s : State) (i : LaneId) :
    (s.missesMini i).miniHeld i = s.miniHeld i ∧ (s.missesMini i).miniNotices i = s.miniNotices i ∧ (s.missesMini i).miniJoins i = s.miniJoins i := by
  obtain ⟨M, C, hlane⟩ := missesMini_lane_same s i
  have hmode : ∀ j, ((s.missesMini i).lane j).mode = (s.lane j).mode := by
    intro j
    by_cases hj : j = i
    · subst hj; rw [hlane]
    · rw [(missesMini_onlyLane s i).2 j hj]
  have hunexcluded : (s.missesMini i).unexcluded = s.unexcluded := by simp only [State.unexcluded, hmode]
  have hof : ∀ j, (s.missesMini i).miniOf i j = s.miniOf i j := by simp only [State.miniOf, hlane, implies_true]
  refine ⟨?_, ?_, ?_⟩
  · simp only [State.miniHeld, hunexcluded, hof]
  · simp only [State.miniNotices, hunexcluded, hof]
  · simp only [State.miniJoins, hlane]; rfl

/-! ## The decision -/

/-- The lane's part in a mini-vote that commits no change: MINI_EMPTY counts (R223). -/
def Lane.miniEmptied (l : Lane) (s : State) : Lane := { l.carryPending s [] with
  vote := { l.vote with
    miniOwn := .nothing
    miniRx := Lanes3 .nothing }
  counters := { (l.carryPending s []).counters with miniEmpty := inc l.counters.miniEmpty } }

/-- A mini-vote of full operation in which every vector holds and no lane has a fault (R222). -/
structure State.MiniSound (s : State) (i : LaneId) : Prop where
  vector : ∃ v, (s.lane i).vote.miniOwn = .vector v
  stays : (s.lane i).vote.owesIsolation = false
  first : s.miniJoins i = false
  full : s.control.degradation = .full
  noNotice : s.miniNotices i = []
  good : ∀ x ∈ s.miniHeld i, s.miniBad (groups s.img) x.2 = false

theorem miniExcluded_nil (s : State) : s.miniExcluded [] = [] := ite_self _

theorem miniNadir_nil (s : State) (i : LaneId) : s.miniNadir i [] = none := by
  unfold State.miniNadir
  rw [if_neg (by simp), miniExcluded_nil]
  rfl

theorem miniDecide_sound {s : State} {i : LaneId} (h : s.MiniSound i) :
    let w := s.missesMini i
    let forced := s.miniForces (groups s.img) 2 ((s.miniHeld i).map (·.2))
    let c := w.miniCommit forced [] none
    s.miniDecide i = if forced = [] then w.modLane i (fun l => l.miniEmptied w)
      else if (c.lane i).mode = .voting then c.modLane i (fun l => l.miniDone i c) else c := by
  intro w forced c
  obtain ⟨v, hv⟩ := h.vector
  obtain ⟨M, C, hlane⟩ := missesMini_lane_same s i
  obtain ⟨hheld, hnotices, hjoins⟩ := missesMini_held s i
  have hfirst : w.miniJoins i = false := hjoins.trans h.first
  have hbase : w.miniBase i = w := if_neg (by rw [hfirst]; decide)
  have hstate : w.miniState i = .full := (if_neg (by rw [hfirst]; decide)).trans h.full
  have hbad : (s.miniHeld i).filter (fun x => s.miniBad (groups s.img) x.2) = [] :=
    List.filter_eq_nil_iff.2 (fun x hx => by simp [h.good x hx])
  have hgood : (s.miniHeld i).filter (fun x => !s.miniBad (groups s.img) x.2) = s.miniHeld i :=
    List.filter_eq_self.2 (fun x hx => by simp [h.good x hx])
  unfold State.miniDecide
  extract_lets w' gs b held bad good faults k forced' row ex joined committed
  have hw : w' = w := rfl
  have hb : b = w := hbase
  have hheld' : held = s.miniHeld i := by simp only [held, hb, w, hheld]
  have hb' : b.miniBad gs = s.miniBad (groups s.img) := by rw [hb]; rfl
  have hfaults : faults = [] := by
    simp only [faults, bad, hheld', hb', hbad]
    exact hnotices.trans h.noNotice
  have hforced : forced' = forced := by
    simp only [forced', k, good, hheld', hb', hgood]
    rw [show w'.miniState i = .full from hstate, hb]
    rfl
  have hex : ex = [] := by
    simp only [ex, hfaults]
    exact miniExcluded_nil w'
  have hrow : row = none := by
    simp only [row, hfaults]
    exact miniNadir_nil w' i
  have hcommitted : committed = c := by simp only [committed, hex, hrow, hforced]; rfl
  rw [hex, hrow, hforced, hw, hlane, hv, hcommitted]
  simp only [h.stays, hfirst, List.any_nil, Bool.false_eq_true, if_false, List.isEmpty_iff, Option.isNone_none, and_self, and_true]
  rfl

/-- A mini-vote that forces an output commits it, whichever lane decides it. -/
theorem miniDecide_commits {s : State} {i : LaneId} (h : s.MiniSound i)
    (hsome : s.miniForces (groups s.img) 2 ((s.miniHeld i).map (·.2)) ≠ []) :
    (s.miniDecide i).course =
      ((s.missesMini i).miniCommit (s.miniForces (groups s.img) 2 ((s.miniHeld i).map (·.2))) [] none).course := by
  rw [miniDecide_sound h, if_neg hsome]
  split
  · exact course_modLane _ _ _
  · rfl

/-- The lane that counts what it misses loses no other count. -/
theorem missesMini_miniEmpty (s : State) (i : LaneId) :
    ((s.missesMini i).lane i).counters.miniEmpty = (s.lane i).counters.miniEmpty := by
  obtain ⟨M, hM⟩ := misses_counters (s.miniMissing i) (s.lane i)
  unfold State.missesMini
  rw [modLane_lane_same, hM]

/-- What the deadline of a mini-vote does in lane `i` (R220). -/
def State.miniDeadline (s : State) (i : LaneId) : State :=
  if s.control.phase = .running ∧ ((s.lane i).mode = .voting ∨ (s.lane i).vote.owesIsolation = true) ∧ s.miniDue i = true then s.miniDecide i else s

theorem miniVoteDeadline_run (t : Nat) (i : LaneId) (s : State) : exec (.miniVoteDeadline t i) s = run t (fun u => u.miniDeadline i) s := rfl

/-! ## A force that no mini-vote commits -/

/-- The lane that drops a pending force 50 µs after it arose (R225). -/
def Lane.dropsForce (l : Lane) (f : Force) (now : Nat) : Lane :=
  let recent := l.forces.alone.filter (fun a => decide (now < a + second)) ++ [now]
  { l with
    forces := { l.forces with
      pending := l.forces.pending.filter (fun q => q.1 != f)
      alone := recent }
    localFault := if 4 ≤ recent.length then some (l.localFault.getD Cause.force) else l.localFault
    counters := { l.counters with forceAlone := inc l.counters.forceAlone } }

theorem forceDrop_due {s : State} {i : LaneId} {f : Force} {t0 : Nat} (h : (s.lane i).forces.pending.find? (fun p => p.1 == f) = some (f, t0))
    (hdue : t0 + 50000 ≤ s.now) : s.forceDrop i f = s.modLane i (fun l => l.dropsForce f s.now) := by
  unfold State.forceDrop
  rw [h]
  exact if_neg (Nat.not_lt.2 hdue)

theorem forceDrop_early {s : State} {i : LaneId} {f : Force} {t0 : Nat} (h : (s.lane i).forces.pending.find? (fun p => p.1 == f) = some (f, t0))
    (hearly : s.now < t0 + 50000) : s.forceDrop i f = s := by
  unfold State.forceDrop
  rw [h]
  exact if_pos hearly

/-- A fourth force alone within 1 s is a lane fault (R225). -/
theorem dropsForce_fault {l : Lane} {f : Force} {now : Nat} (hmany : 3 ≤ (l.forces.alone.filter (fun a => decide (now < a + 1000000000))).length)
    (hnone : l.localFault = none) : (l.dropsForce f now).localFault = some .force := by
  have hfour : 4 ≤ (l.forces.alone.filter (fun a => decide (now < a + second)) ++ [now]).length := by
    rw [List.length_append]
    exact Nat.succ_le_succ hmany
  exact (if_pos hfour).trans (by rw [hnone]; rfl)

/-- Settles O27: a sound mini-vote by whether it forces an output, then the forces that are left alone. That a mini-vote without a change carries
the pending forces that the committed snapshot holds already is the model's choice (log entry 25). -/
theorem miniVotesAndForcesTheyDoNotCommit : Obligations.MiniVotesAndForcesTheyDoNotCommit := by
  unfold Obligations.MiniVotesAndForcesTheyDoNotCommit
  refine ⟨fun t i own s hrun hfull hvoting hown howes hfirst hnotices hdue hgood => ?_, fun t t0 i f s hpending => ⟨fun hlate => ?_, fun hearly => ?_⟩⟩
  · have hjoins : s.miniJoins i = false := by
      rcases hfirst with h | h
      · simp [State.miniJoins, h]
      · simp [State.miniJoins, h]
    have hsound : (s.tick t).MiniSound i := ⟨⟨own, hown⟩, howes, hjoins, hfull, hnotices, hgood⟩
    have hdecide : (s.tick t).miniDeadline i = (s.tick t).miniDecide i := if_pos ⟨hrun, .inl (hvoting i), hdue⟩
    let w := (s.tick t).missesMini i
    let forced := s.miniForces (groups s.img) 2 ((s.miniHeld i).map (·.2))
    rw [miniVoteDeadline_run]
    refine ⟨fun hsome hlow => ?_, fun hnone => ?_⟩
    · obtain ⟨p, hsnaps, hnumber, hp⟩ := miniCommit_adds (s := w) (forced := forced) hfull
        (fun g hg => hlow g (List.mem_filter.1 hg).1)
      have hcourse : ((s.tick t).miniDeadline i).course = (w.miniCommit forced [] none).course :=
        (congrArg State.course hdecide).trans (miniDecide_commits (s := s.tick t) hsound hsome)
      obtain ⟨hsnaps', hnumber', -⟩ := course_eq.1 hcourse
      exact ⟨_, p, run_eq .., hsnaps'.trans hsnaps, hnumber'.trans hnumber, hp⟩
    · have heq : (s.tick t).miniDeadline i = w.modLane i (fun l => l.miniEmptied w) :=
        hdecide.trans ((miniDecide_sound hsound).trans (if_pos hnone))
      refine ⟨_, run_next (f := fun u => u.miniDeadline i) heq rfl rfl, rfl, ?_, ?_, fun l hl => ?_, rfl⟩
      · rw [modLane_lane_same]
        rfl
      · rw [modLane_lane_same]
        exact congrArg inc (missesMini_miniEmpty (s.tick t) i)
      · rw [modLane_lane_other _ _ hl]
        exact (missesMini_onlyLane (s.tick t) i).2 l hl
  · refine ⟨_, run_next (f := fun u => u.forceDrop i f) (forceDrop_due (s := s.tick t) hpending hlate) rfl rfl, ?_, ?_, ?_, fun hmany hnone => ?_,
      fun l hl => modLane_lane_other _ _ hl, rfl⟩
    · rw [modLane_lane_same]
      exact fun p hp => by simpa using (List.mem_filter.1 hp).2
    · rw [modLane_lane_same]
      rfl
    · rw [modLane_lane_same]
      rfl
    · rw [modLane_lane_same]
      exact dropsForce_fault hmany hnone
  · exact run_idle (f := fun u => u.forceDrop i f) (forceDrop_early (s := s.tick t) hpending hearly)

end Sys2Proof.Machine
end

section
/-! # What an exclusion leaves of the excluded lane (R230, R232)

The snapshots, the degradation state and what an excluded lane is: the effects of an exclusion and of an entry to Nadir leave them alone, whatever
else they discard, abort and record. One lemma for each operation. -/

namespace Sys2Proof.Machine

/-- The snapshots, the degradation state, and how lane `i` stands: its mode, the cause of its last exclusion, its elements and its exclusions. -/
def State.standing (s : State) (i : LaneId) : List Snapshot × Degradation × LaneMode × Option Cause × BitVec 32 × Nat :=
  (s.snapshots, s.control.degradation, (s.lane i).mode, (s.lane i).cause, (s.lane i).elements, (s.lane i).exclusions)

section
variable (s : State) (i : LaneId)

theorem standing_mode {s u : State} {i : LaneId} (h : u.standing i = s.standing i) : (u.lane i).mode = (s.lane i).mode :=
  congrArg (fun x => x.2.2.1) h

/-- Steps that each leave a lane as it stands leave it so together. -/
theorem standing_foldl {α : Type} {s : State} {i : LaneId} (f : State → α → State)
    (hf : ∀ u x, u.standing i = s.standing i → (f u x).standing i = u.standing i) (l : List α) (u : State) (hu : u.standing i = s.standing i) :
    (l.foldl f u).standing i = s.standing i := by
  induction l generalizing u with
  | nil => exact hu
  | cons x l ih => exact ih (f u x) ((hf u x hu).trans hu)

/-- What keeps the snapshots, the degradation state and these fields of the lane. -/
theorem standing_of_lane {s u : State} {i : LaneId} {l : Lane} (hsnapshots : u.snapshots = s.snapshots)
    (hdegradation : u.control.degradation = s.control.degradation) (hlane : u.lane i = l)
    (hl : l.mode = (s.lane i).mode ∧ l.cause = (s.lane i).cause ∧ l.elements = (s.lane i).elements ∧ l.exclusions = (s.lane i).exclusions) :
    u.standing i = s.standing i := by
  obtain ⟨hmode, hcause, helements, hexclusions⟩ := hl
  unfold State.standing
  rw [hsnapshots, hdegradation, hlane, hmode, hcause, helements, hexclusions]

/-! ## Replies and discards -/

theorem standing_event (code : Nat) (o : Origin) (l : List (Nat × Nat × Nat)) : (s.event code o l).standing i = s.standing i := rfl

theorem standing_laneEvent (j : LaneId) (code : Nat) (l : List (Nat × Nat × Nat)) : (s.laneEvent j code l).standing i = s.standing i := by
  by_cases hij : i = j
  · subst hij
    obtain ⟨Q, n, b, hlane⟩ := enqueue_keeps (s.lane i) (queuedOf code (i.index + 1) (s.laneWall i) Origin.internal [payloadFields l])
    exact standing_of_lane rfl rfl ((laneEvent_lane_same s i code l).trans hlane) ⟨rfl, rfl, rfl, rfl⟩
  · exact standing_of_lane rfl rfl (laneEvent_lane_other s code l hij) ⟨rfl, rfl, rfl, rfl⟩

theorem standing_settledKey (k : Option RecKey) : (s.settledKey k).standing i = s.standing i := by cases k <;> rfl

theorem standing_sendReply (r : Reply) : (s.sendReply r).standing i = s.standing i := by unfold State.sendReply; split <;> rfl

theorem standing_reply (r : Reply) : (s.reply r).standing i = s.standing i := by
  unfold State.reply State.replyWith
  split
  · rfl
  · split
    · rfl
    · simp only []
      split
      · exact standing_sendReply s i _
      · refine standing_of_lane rfl rfl (Lanes.get_mapI s.lanes _ i) ?_
        split <;> exact ⟨rfl, rfl, rfl, rfl⟩

theorem standing_answerAt (t : Nat) (r : HostRec) (nets : List Net) (late repeated : Bool) (status snapshot : Nat) (data : Bytes) :
    (s.answerAt t r nets late repeated status snapshot data).standing i = s.standing i := by
  refine standing_foldl _ (fun u n _ => ?_) nets s rfl
  simp only []
  split
  · rfl
  · exact standing_reply u i _

theorem standing_discardKey (k : RecKey) : (s.discardKey k).standing i = s.standing i := by
  unfold State.discardKey
  split
  · rfl
  · simp only []
    split
    · exact standing_answerAt s i _ _ _ _ _ _ _ _
    · rfl

theorem standing_discardKeys (ks : List RecKey) : (s.discardKeys ks).standing i = s.standing i :=
  standing_foldl State.discardKey (fun u k _ => standing_discardKey u i k) ks s rfl

theorem standing_discardWork : s.discardWork.standing i = s.standing i := by
  unfold State.discardWork
  extract_lets flying waiting s1
  have h1 : s1.standing i = s.standing i := standing_discardKeys s i _
  rw [← h1]
  exact standing_of_lane rfl rfl (Lanes.get_mapI s1.lanes _ i) ⟨rfl, rfl, rfl, rfl⟩

theorem standing_upsetDiscard : s.upsetDiscard.standing i = s.standing i := by
  unfold State.upsetDiscard
  extract_lets s1
  have h1 : s1.standing i = s.standing i := standing_discardWork s i
  rw [← h1]
  exact standing_of_lane rfl rfl (Lanes.get_mapI s1.lanes _ i) ⟨rfl, rfl, rfl, rfl⟩

theorem standing_upsetStop (reason : Nat) : (s.upsetStop reason).standing i = s.standing i := by
  unfold State.upsetStop
  extract_lets taken s1 m w evs
  have h1 : s1.standing i = s.standing i := (standing_discardKeys _ i _).trans (standing_discardWork s i)
  rw [← h1]
  exact standing_of_lane rfl rfl (Lanes.get_mapI s1.lanes _ i) ⟨rfl, rfl, rfl, rfl⟩

/-! ## Aborts and losses -/

theorem standing_dropPending : s.dropPending.standing i = s.standing i := by
  unfold State.dropPending
  exact standing_discardKeys s i _

theorem standing_dropArm : s.dropArm.standing i = s.standing i := by
  unfold State.dropArm
  split
  · exact standing_discardKey s i _
  · rfl

theorem standing_abortArmed (cause : Nat) : (s.abortArmed cause).standing i = s.standing i := by
  unfold State.abortArmed
  extract_lets s1
  have h1 : s1.standing i = s.standing i := by
    refine standing_foldl _ (fun u k _ => ?_) _ s rfl
    split
    · split
      · exact standing_settledKey u i _
      · rfl
    · rfl
  split
  · exact h1
  · exact h1

theorem standing_abortProfile : s.abortProfile.standing i = s.standing i := by
  unfold State.abortProfile
  split
  · exact standing_discardKeys s i _
  · rfl

theorem standing_loseLoad : s.loseLoad.standing i = s.standing i := by
  unfold State.loseLoad
  split
  · exact standing_discardKeys _ i _
  · rfl

theorem standing_loseCopies : s.loseCopies.standing i = s.standing i := by
  unfold State.loseCopies
  refine standing_foldl _ (fun u k _ => ?_) _ s.loseLoad (standing_loseLoad s i)
  split
  · split
    · simp only []
      split
      · exact standing_discardKey _ i _
      · rfl
    · rfl
  · rfl

theorem standing_standbyFalls (row : Nat) : (s.standbyFalls row).standing i = s.standing i := by
  unfold State.standbyFalls
  split <;> rfl

theorem standing_clearLockWords : s.clearLockWords.standing i = s.standing i := by
  refine standing_foldl State.clearLockWord (fun u k _ => ?_) _ s rfl
  refine standing_foldl _ (fun v j _ => ?_) _ u rfl
  simp only []
  split <;> rfl

theorem standing_openSupply : s.openSupply.standing i = s.standing i  := by
  unfold State.openSupply
  exact standing_of_lane rfl rfl (Lanes.get_mapI s.lanes _ i) ⟨rfl, rfl, rfl, rfl⟩

variable {s i}

/-- The end of the reintegrations concerns no lane that is EXCLUDED already (R244). -/
theorem standing_endReintegration (h : (s.lane i).mode = .excluded) : s.endReintegration.standing i = s.standing i := by
  refine standing_foldl _ (fun u j hu => ?_) allLanes s rfl
  have hmode : (u.lane i).mode = .excluded := (standing_mode hu).trans h
  simp only []
  split
  · next hj =>
    have hne : i ≠ j := by
      rintro rfl
      rw [hmode] at hj
      exact absurd hj (by decide)
    exact standing_of_lane rfl rfl (by rw [event_lane, modLane_lane_other u _ hne]) ⟨rfl, rfl, rfl, rfl⟩
  · rfl

/-! ## The effects of an exclusion -/

theorem standing_exclusionEffects (h : (s.lane i).mode = .excluded) : s.exclusionEffects.standing i = s.standing i := by
  have hlost : (((((s.dropPending).dropArm.abortArmed 2).abortProfile).upsetDiscard).loseCopies).standing i = s.standing i := by
    rw [standing_loseCopies, standing_upsetDiscard, standing_abortProfile, standing_abortArmed, standing_dropArm, standing_dropPending]
  unfold State.exclusionEffects
  rw [standing_standbyFalls, standing_endReintegration ((standing_mode hlost).trans h), hlost]

/-- The degradation state that an entry to Nadir brings (R233). -/
def State.nadirState (s : State) : Degradation := if s.voting.length ≤ 1 then .oneLane else .nadir

theorem nadirState_not_full (s : State) : s.nadirState ≠ .full := by
  unfold State.nadirState
  split <;> decide

section
variable {p : List Snapshot} {d : Degradation} {cause : Option Cause} {x : BitVec 32} {n : Nat}

theorem standing_degrade (h : s.standing i = (p, d, .excluded, cause, x, n)) (d' : Degradation) (row : Nat) :
    (s.degrade d' row).standing i = (p, d', .excluded, cause, x, n) := by
  simp only [State.standing, Prod.mk.injEq] at h ⊢
  obtain ⟨hsnapshots, -, hlane⟩ := h
  exact ⟨hsnapshots, rfl, hlane⟩

theorem standing_enterNadir (h : s.standing i = (p, d, .excluded, cause, x, n)) (row : Nat) :
    (s.enterNadir row).standing i = (p, s.nadirState, .excluded, cause, x, n) := by
  let s1 := s.degrade s.nadirState row
  have h1 : s1.standing i = (p, s.nadirState, .excluded, cause, x, n) := standing_degrade h s.nadirState row
  have hlost : (((((s1.dropPending).dropArm.abortArmed 3).abortProfile).upsetStop 9).loseCopies).standing i = s1.standing i := by
    rw [standing_loseCopies, standing_upsetStop, standing_abortProfile, standing_abortArmed, standing_dropArm, standing_dropPending]
  have hmode : (s1.lane i).mode = .excluded := congrArg (fun y => y.2.2.1) h1
  unfold State.enterNadir
  extract_lets d s1' s3 s4
  split
  · exact h1
  · have h4 : s4.standing i = s1.standing i := by
      simp only [s4]
      rw [standing_openSupply, standing_standbyFalls]
      exact (standing_endReintegration ((standing_mode hlost).trans hmode)).trans hlost
    clear_value s4
    exact h4.trans h1

end

theorem standing_markExcluded (s : State) (i : LaneId) (c : Cause) : (s.markExcluded i c).standing i =
    (s.snapshots, s.control.degradation, .excluded, some c, 0, (s.lane i).exclusions + 1) := by
  unfold State.markExcluded State.standing
  rw [modLane_lane_same]
  rfl

/-- An isolated lane that a commit excludes (R230). -/
theorem standing_excludeLane (h : (s.lane i).mode = .isolated) (c : Cause) :
    (s.excludeLane i c).standing i = (s.snapshots, s.control.degradation, .excluded, some c, 0, (s.lane i).exclusions + 1) := by
  have hundecided : ¬(s.lane i).undecided = true := by simp [Lane.undecided, h]
  have hisolated : s.isolate i (c == .link) = s := if_neg (by rw [h]; decide)
  unfold State.excludeLane
  rw [standing_event, if_neg hundecided, hisolated, standing_markExcluded]

/-- A vote that excludes one isolated lane: it ends full operation, in reduced operation or in Nadir (R217, R232, R233). -/
theorem standing_applyBallot (h : (s.lane i).mode = .isolated) (c : Cause) (row : Option Nat) :
    ∃ d, (s.applyBallot [(i, c)] row).standing i = (s.snapshots, d, .excluded, some c, 0, (s.lane i).exclusions + 1) ∧
      (s.control.degradation = .full → d ≠ .full) := by
  unfold State.applyBallot
  simp only [List.foldl_cons, List.foldl_nil, List.isEmpty_cons, Bool.false_eq_true, if_false, false_or]
  have h2 : (s.excludeLane i c).clearLockWords.standing i = (s.snapshots, s.control.degradation, .excluded, some c, 0, (s.lane i).exclusions + 1) :=
    (standing_clearLockWords _ i).trans (standing_excludeLane h c)
  generalize (s.excludeLane i c).clearLockWords = s2 at h2 ⊢
  have h3 : s2.exclusionEffects.standing i = _ := (standing_exclusionEffects (congrArg (fun y => y.2.2.1) h2)).trans h2
  have hdegradation : s2.control.degradation = s.control.degradation := congrArg (fun y => y.2.1) h2
  cases row with
  | some r =>
    simp only []
    split
    · exact ⟨_, standing_enterNadir h2 r, fun _ => nadirState_not_full _⟩
    · exact ⟨_, standing_enterNadir h3 r, fun _ => nadirState_not_full _⟩
  | none =>
    simp only []
    split
    · have h4 := standing_degrade h3 .reduced 0
      split
      · exact ⟨_, standing_enterNadir h4 5, fun _ => nadirState_not_full _⟩
      · exact ⟨_, h4, fun _ => by decide⟩
    · next hreduced =>
      split
      · exact ⟨_, standing_enterNadir h3 7, fun _ => nadirState_not_full _⟩
      · exact ⟨_, h3, fun hfull => absurd (hdegradation.trans hfull) hreduced⟩

end
end Sys2Proof.Machine
end

section
/-! # Isolation, exclusion and the watchdog (R211, R230 to R232, R237, R247) -/

namespace Sys2Proof.Machine

/-! ## A lane that isolates -/

/-- What isolation makes of a voting lane: its own record beside (R231, R248). -/
theorem isolate_lane (s : State) (i : LaneId) (missing : Bool) (h : (s.lane i).mode = .voting) :
    ∃ Q n b M P, (s.isolate i missing).lane i = { s.lane i with
      queue := Q
      almLost := n
      almLostPending := b
      mode := .isolated
      isolatedAt := s.now
      isolatedFor := some ((s.lane i).localFault.getD (if missing then .link else .vote))
      elements := 0
      supplyClosed := false
      meridianToggles := false
      vote := { (s.lane i).vote with
        decided := true
        committed := false
        sent := some ((s.lane i).verdict i (s.lane i).vote.rx false s.snap.number)
        miniSent := M }
      program := P } := by
  unfold State.isolate
  simp only []
  rw [if_pos h, modLane_lane_same, laneEvent_lane_same]
  obtain ⟨Q, n, b, hlane⟩ := enqueue_keeps (s.lane i) (queuedOf 0x0401 (i.index + 1) (s.laneWall i) Origin.internal [payloadFields
    [(24, 1, i.index), (25, 1, 1), (26, 1, ((s.lane i).localFault.getD (if missing then .link else .vote)).code), (28, 4, s.snap.number)]])
  rw [hlane]
  exact ⟨Q, n, b, _, _, rfl⟩

theorem isolate_onlyLane (s : State) (i : LaneId) (missing : Bool) : OnlyLane s i (s.isolate i missing) :=
  ⟨isolate_sameButLanes s i missing, fun _ hj => isolate_lane_other s missing hj⟩

/-! ## A lane that holds no vector -/

theorem misses_cons (l : Lane) (j : LaneId) (js : List LaneId) : l.misses (j :: js) = ({ l with
    vote := { l.vote with missed := l.vote.missed.put j true }
    counters := { l.counters with missing := l.counters.missing.put j (inc (l.counters.missing.get j)) } } : Lane).misses js := rfl

/-- Each missing vector counts once on the link of its lane (R247). -/
theorem misses_missing {js : List LaneId} (hnodup : js.Nodup) (l : Lane) (j : LaneId) :
    (l.misses js).counters.missing.get j = if j ∈ js then l.counters.missing.get j + 1 else l.counters.missing.get j := by
  induction js generalizing l with
  | nil => rfl
  | cons x js ih =>
    obtain ⟨hx, hjs⟩ := List.nodup_cons.1 hnodup
    rw [misses_cons, ih hjs]
    by_cases hj : j = x
    · subst hj
      rw [if_neg hx, if_pos List.mem_cons_self, Lanes.get_put_same]
      rfl
    · simp only [Lanes.get_put_other _ _ hj, List.mem_cons, hj, false_or]

theorem others_eq (i : LaneId) : ∃ j k, i.others = [j, k] := by cases i <;> exact ⟨_, _, rfl⟩

theorem mem_others {i j : LaneId} : j ∈ i.others ↔ j ≠ i := by cases i <;> cases j <;> decide

theorem nodup_others (i : LaneId) : i.others.Nodup := by cases i <;> decide

section
variable {s : State} {i : LaneId} (hvoting : ∀ l, (s.lane l).mode = .voting ∧ (s.lane l).expel = none)
  (hempty : ∀ l, l ≠ i → (s.lane i).vote.rx.get l = .nothing)
include hvoting hempty

/-- A lane of full operation that holds its own vector alone isolates (Table 6.2). -/
theorem ballot_alone {a : Vector} (hown : (s.lane i).vote.own = some a)
    (hfull : (if s.joins i then s.control.voted else s.control.degradation) = .full)
    (hrow : (if s.joins i then s.control.votedDue else s.control.nadirDue) = none) : s.ballot i = .isolate true := by
  obtain ⟨j, k, hothers⟩ := others_eq i
  have hj : (s.lane i).vote.rx.get j = .nothing := hempty j (mem_others.1 (by rw [hothers]; simp))
  have hk : (s.lane i).vote.rx.get k = .nothing := hempty k (mem_others.1 (by rw [hothers]; simp))
  have hheard : ∀ l, s.heard i l = (s.lane i).vote.rx.get l := by
    intro l
    unfold State.heard
    rw [(hvoting l).1, (hvoting l).2]
  unfold State.ballot
  simp only [hfull, hrow, hothers, hown, hheard, hj, hk, (hvoting i).2, decideFull]
  rfl

/-- It counts both other lanes as missing at its deadline. -/
theorem countMissing_alone (hinstant : ∀ l, l ≠ i → (s.lane l).vote.instant = (s.lane i).vote.instant) :
    s.countMissing i = s.modLane i (fun l => l.misses i.others) := by
  have hawaited : s.awaited i = i.others := by
    unfold State.awaited
    refine List.filter_eq_self.2 (fun j hj => ?_)
    simp [hinstant j (mem_others.1 hj), (hvoting j).1]
  have hnone : i.others.filter (fun j => (s.lane i).vote.rx.get j == .nothing) = i.others :=
    List.filter_eq_self.2 (fun j hj => by simp [hempty j (mem_others.1 hj)])
  show s.setLane i ((s.lane i).misses ((s.awaited i).filter (fun j => (s.lane i).vote.rx.get j == .nothing))) = _
  rw [hawaited, hnone]
  rfl

end

/-- What counting the missing vectors leaves of the lane: its part in the vote but for what it missed, and its mode (R247). -/
theorem countMissing_lane (s : State) (i : LaneId) : ∃ M C, (s.countMissing i).lane i = { s.lane i with
    vote := { (s.lane i).vote with missed := M }
    counters := C } := by
  unfold State.countMissing
  rw [modLane_lane_same]
  exact misses_keeps _ _

theorem countMissing_onlyLane (s : State) (i : LaneId) : OnlyLane s i (s.countMissing i) := onlyLane_modLane s i _

/-- The degradation state and the entry to Nadir by which lane `i` decides its vote: those before the vote (log entry 105). -/
def State.decidesFull (s : State) (i : LaneId) : Prop :=
  s.control.degradation = .full ∧ s.control.nadirDue = none ∧
    (s.lastCycle.instant ≠ (s.lane i).vote.instant ∨ s.snapshots = [] ∨ s.control.voted = .full ∧ s.control.votedDue = none)

theorem decidesFull_states {s : State} {i : LaneId} (h : s.decidesFull i) :
    (if s.joins i then s.control.voted else s.control.degradation) = .full ∧
      (if s.joins i then s.control.votedDue else s.control.nadirDue) = none := by
  obtain ⟨hfull, hdue, hlast⟩ := h
  by_cases hjoins : s.joins i = true
  · rw [if_pos hjoins, if_pos hjoins]
    unfold State.joins at hjoins
    rw [Bool.and_eq_true] at hjoins
    rcases hlast with hinstant | hempty | hvoted
    · exact absurd (by simpa using hjoins.1) hinstant
    · exact absurd hempty (by simpa using hjoins.2)
    · exact hvoted
  · rw [if_neg hjoins, if_neg hjoins]
    exact ⟨hfull, hdue⟩

/-- At its deadline such a lane counts and isolates (R211, R247). -/
theorem settleVote_alone {s : State} {i : LaneId} {a : Vector} (hvoting : ∀ l, (s.lane l).mode = .voting ∧ (s.lane l).expel = none)
    (hempty : ∀ l, l ≠ i → (s.lane i).vote.rx.get l = .nothing) (howes : (s.lane i).vote.owesIsolation = false)
    (hown : (s.lane i).vote.own = some a) (hfull : s.decidesFull i) : (s.countMissing i).settleVote i = (s.countMissing i).isolate i true := by
  obtain ⟨M, C, hlane⟩ := countMissing_lane s i
  have hvoting' : ∀ l, ((s.countMissing i).lane l).mode = .voting ∧ ((s.countMissing i).lane l).expel = none := by
    intro l
    by_cases hl : l = i
    · subst hl
      rw [hlane]
      exact hvoting l
    · rw [(countMissing_onlyLane s i).2 l hl]
      exact hvoting l
  have hfull' : (s.countMissing i).decidesFull i := by
    unfold State.decidesFull
    rw [hlane]
    exact hfull
  obtain ⟨hstate, hrow⟩ := decidesFull_states hfull'
  have hballot : (s.countMissing i).ballot i = .isolate true :=
    ballot_alone hvoting' (by rw [hlane]; exact hempty) (by rw [hlane]; exact hown) hstate hrow
  unfold State.settleVote
  rw [hballot, hlane, howes]
  rfl

/-! ## The end of an isolation, and the watchdog -/

/-- An isolation that has lasted 5 ms ends in EXCLUDED with its cause (R230). -/
theorem isolationEnd_excludes {s : State} {i : LaneId} (hmode : (s.lane i).mode = .isolated) (hrun : s.control.phase = .running)
    (hlate : (s.lane i).isolatedAt + 5000000 ≤ s.now) : ∃ d, (s.isolationEnd i).standing i =
        (s.snapshots, d, .excluded, some ((s.lane i).isolatedFor.getD .vote), 0, (s.lane i).exclusions + 1) ∧
      (s.voting ≠ [] → s.control.degradation = .full → d ≠ .full) := by
  unfold State.isolationEnd
  simp only []
  rw [if_pos ⟨hmode, hlate, hrun⟩]
  by_cases hnone : s.voting = []
  · rw [if_pos hnone]
    exact ⟨s.control.degradation, (standing_laneEvent _ i i _ _).trans (standing_markExcluded s i _), fun hsome => absurd hnone hsome⟩
  · rw [if_neg hnone]
    obtain ⟨d, hstanding, hfull⟩ := standing_applyBallot hmode ((s.lane i).isolatedFor.getD .vote) _
    exact ⟨d, hstanding, fun _ => hfull⟩

/-- 4 ms after its last commit a voting lane isolates with cause WATCHDOG (R237). -/
theorem watchdog_isolates {s : State} {i : LaneId} (hmode : (s.lane i).mode = .voting) (hrun : s.control.phase = .running)
    (hlate : (s.lane i).lastCommit + 4000000 ≤ s.now) :
    s.watchdog i = (s.modLane i (fun l => { l with localFault := some Cause.watchdog })).isolate i false := if_pos ⟨hmode, hrun, hlate⟩

/-- Settles O25: what a lane that holds no vector decides at its deadline (R210, R211, Table 6.2), how an isolation ends, and how a watchdog begins
one. -/
theorem lanesThatIsolateAndAreExcluded : Obligations.LanesThatIsolateAndAreExcluded := by
  unfold Obligations.LanesThatIsolateAndAreExcluded
  refine ⟨fun t i a s hrun hfull hdue hvoting howes hopen hmini hown hempty hlast => ⟨fun hpast => ?_, fun hearly => ?_⟩,
    fun t i s hmode hrun => ⟨fun hlate => ?_, fun hearly => ?_⟩, fun t i s hmode hrun => ⟨fun hlate => ?_, fun hearly => ?_⟩⟩
  · have hdeciding : (s.tick t).deciding i = true := by simp [State.deciding, Lane.toDecide, hrun, (hvoting i).1, hopen, hmini]
    have hpast' : (s.tick t).pastDeadline i = true := hpast
    let w := (s.tick t).countMissing i
    have heq : (s.tick t).voteDeadline i = w.isolate i true :=
      (if_pos (by rw [hdeciding, hpast']; rfl)).trans
        (settleVote_alone (s := s.tick t) hvoting (fun l hl => (hempty l hl).1) howes hown ⟨hfull, hdue, hlast⟩)
    have hcounted : w.lane i = (s.lane i).misses i.others := by
      simp only [w]
      rw [countMissing_alone (s := s.tick t) hvoting (fun l hl => (hempty l hl).1) (fun l hl => (hempty l hl).2), modLane_lane_same, tick_lane]
    obtain ⟨M, C, hlane⟩ := countMissing_lane (s.tick t) i
    have hmode : (w.lane i).mode = .voting := by
      simp only [w]
      rw [hlane]
      exact (hvoting i).1
    obtain ⟨Q, n, b, V, P, hisolated⟩ := isolate_lane w i true hmode
    have honly : OnlyLane (s.tick t) i (w.isolate i true) := (countMissing_onlyLane _ i).trans (isolate_onlyLane w i true)
    refine ⟨_, (w.lane i).verdict i (w.lane i).vote.rx false w.snap.number, run_sameButLanes (f := fun u => u.voteDeadline i) (by rw [heq]; exact honly.1), ?_⟩
    simp only [lane_of_lanes, heq]
    rw [hisolated]
    refine ⟨rfl, rfl, rfl, rfl, rfl, rfl, fun l hl => ⟨honly.2 l hl, ?_⟩, trivial⟩
    show (w.lane i).counters.missing.get l = _
    rw [hcounted, misses_missing (nodup_others i), if_pos (mem_others.2 hl)]
  · have hearly' : (s.tick t).pastDeadline i = false := hearly
    exact run_idle (f := fun u => u.voteDeadline i) (if_neg (by simp [hearly']))
  · obtain ⟨d, hstanding, hdegrades⟩ := isolationEnd_excludes (s := s.tick t) hmode hrun hlate
    simp only [State.standing, Prod.mk.injEq] at hstanding
    obtain ⟨hsnapshots, hdegradation, hexcluded, hcause, helements, hexclusions⟩ := hstanding
    exact ⟨_, run_eq s t (fun u => u.isolationEnd i), hexcluded, hcause, helements, hexclusions, hsnapshots,
      fun hsome hfull => fun h => hdegrades hsome hfull (hdegradation.symm.trans h)⟩
  · exact run_idle (f := fun u => u.isolationEnd i) (if_neg (fun h => absurd h.2.1 (Nat.not_le.2 hearly)))
  · have heq := watchdog_isolates (s := s.tick t) hmode hrun hlate
    let w := (s.tick t).modLane i (fun l => { l with localFault := some Cause.watchdog })
    have hw : w.lane i = { s.lane i with localFault := some Cause.watchdog } := modLane_lane_same _ i _
    obtain ⟨Q, n, b, V, P, hisolated⟩ := isolate_lane w i false (by rw [hw]; exact hmode)
    have honly : OnlyLane (s.tick t) i (w.isolate i false) := (onlyLane_modLane _ i _).trans (isolate_onlyLane w i false)
    refine ⟨_, run_sameButLanes (f := fun u => u.watchdog i) (by rw [heq]; exact honly.1), ?_⟩
    simp only [lane_of_lanes, heq]
    rw [hisolated, hw]
    exact ⟨rfl, rfl, rfl, rfl, honly.2, trivial⟩
  · exact run_idle (f := fun u => u.watchdog i) (if_neg (fun h => absurd h.2.2 (Nat.not_le.2 hearly)))

end Sys2Proof.Machine
end

section
/-! # Ports and what leaves on them (R22, R231, R250, R405)

A port that is put leaves the others; which ports the module sends on; and the frames that leave on a list of ports. -/

namespace Sys2Proof.Machine

/-! ## Ports -/

theorem find_putPort_other (l : List Port) {p : Port} {n : Nat} (h : n ≠ p.number) :
    (putPort l p).find? (fun q => q.number == n) = l.find? (fun q => q.number == n) := by
  have hp : (p.number == n) = false := beq_false_of_ne (Ne.symm h)
  induction l with
  | nil => simp [putPort, hp]
  | cons q l ih =>
    unfold putPort
    split
    · rw [List.find?_cons, hp]
    · split
      · next heq => rw [List.find?_cons, hp, List.find?_cons, ← heq, hp]
      · rw [List.find?_cons, List.find?_cons, ih]

theorem modPort_port_other (s : State) {n m : Nat} {f : Port → Port} (hf : (f (s.port n)).number = n) (h : m ≠ n) :
    (s.modPort n f).port m = s.port m :=
  congrArg (fun x => Option.getD x (Port.fresh m)) (find_putPort_other s.ndezo.ports (by rw [hf]; exact h))

/-- A count on a port leaves the rest of it. -/
theorem countPort_port (s : State) (n : Nat) (f : PortCounters → PortCounters) :
    (s.countPort n f).port n = { s.port n with counters := f (s.port n).counters } := modPort_port s n (port_number s n)

theorem countPort_port_other (s : State) {n m : Nat} (f : PortCounters → PortCounters) (h : m ≠ n) : (s.countPort n f).port m = s.port m :=
  modPort_port_other s (port_number s n) h

/-- Changes of ports change no more than the ports. -/
theorem foldl_modPort_frame (f : Nat → Port → Port) (l : List Nat) (s : State) :
    ∃ P, l.foldl (fun (u : State) n => u.modPort n (f n)) s = { s with ndezo := { s.ndezo with ports := P } } := by
  induction l generalizing s with
  | nil => exact ⟨s.ndezo.ports, rfl⟩
  | cons n l ih =>
    obtain ⟨P, hP⟩ := ih (s.modPort n (f n))
    exact ⟨P, hP⟩

/-! ## The ports that the module sends on -/

/-- What decides on which ports the module sends: its part, the image and the Constellation that it runs, the ports that are disabled, and the
lanes that transmit. -/
def State.ways (s : State) : Identity × Control × Startup × Images × Nat × (Nat → Bool) × (LaneId → LaneMode) :=
  (s.identity, s.control, s.startup, s.images, s.ndezo.constNo, fun n => (s.port n).disabled, fun i => (s.lane i).mode)

theorem ways_send (s : State) (x : Tx) : (s.send x).ways = s.ways := rfl

theorem ways_modPort (s : State) {n : Nat} {f : Port → Port} (hf : (f (s.port n)).number = n) (hd : (f (s.port n)).disabled = (s.port n).disabled) :
    (s.modPort n f).ways = s.ways := by
  have hport : (fun m => ((s.modPort n f).port m).disabled) = fun m => (s.port m).disabled := by
    funext m
    by_cases h : m = n
    · rw [h, modPort_port s n hf, hd]
    · rw [modPort_port_other s hf h]
  simp only [State.ways, hport]
  rfl

theorem ways_countPort (s : State) (n : Nat) (f : PortCounters → PortCounters) : (s.countPort n f).ways = s.ways :=
  ways_modPort s (port_number s n) rfl

section
variable {s u : State} (h : u.ways = s.ways)
include h

theorem slots_of_ways : u.slots = s.slots := by
  simp only [State.ways, Prod.mk.injEq] at h
  obtain ⟨-, -, -, himages, hconst, -⟩ := h
  unfold State.slots State.constel State.img
  rw [himages, hconst]

theorem portActive_of_ways (n : Nat) : u.portActive n = s.portActive n := by
  unfold State.portActive
  rw [slots_of_ways h]
  simp only [State.ways, Prod.mk.injEq] at h
  obtain ⟨hidentity, -, -, -, -, hdisabled, -⟩ := h
  rw [hidentity, congrFun hdisabled n]

theorem activePorts_of_ways : u.activePorts = s.activePorts := by
  have hidentity : u.identity = s.identity := congrArg Prod.fst h
  unfold State.activePorts
  rw [hidentity, funext (portActive_of_ways h)]

theorem sender_of_ways (n : Nat) : u.sender n = s.sender n := by
  simp only [State.ways, Prod.mk.injEq] at h
  obtain ⟨-, hcontrol, hstartup, -, -, -, hmode⟩ := h
  exact sender_same hcontrol hstartup (congrFun hmode) n

theorem sendingPorts_of_ways : u.sendingPorts = s.sendingPorts := by
  unfold State.sendingPorts
  simp only [activePorts_of_ways h, sender_of_ways h]

end

/-! ## Frames on a list of ports -/

/-- A frame leaves on each port of a list. -/
theorem foldl_send (g : Nat → Tx) (l : List Nat) (s : State) : l.foldl (fun u p => u.send (g p)) s = { s with sent := s.sent ++ l.map g } := by
  induction l generalizing s with
  | nil => simp
  | cons p l ih =>
    rw [List.foldl_cons, ih]
    simp [State.send]

end Sys2Proof.Machine
end

section
/-! # Dawn and the Polestar's role (R251, R267, R271, R272, R287, R290, R292 to R294) -/

namespace Sys2Proof.Machine

/-- A command that may move the time base: the clock stays where its effect leaves it. -/
theorem runTimed_next {s v : State} {t : Nat} {f : State → State} (hf : f (s.tick t) = v) (hp : v.pending = s.pending) :
    runTimed t f s = .next v := by
  unfold runTimed
  rw [hf, ← hp]
  rfl

/-! ## Changes of Dawn state (R287, R301) -/

/-- A change of Dawn state and its record. -/
theorem toDawn_frame (s : State) (d : Dawn) : s.toDawn d = { s with
    ndezo := { s.ndezo with dawn := d }
    almanac := (s.toDawn d).almanac } := by
  unfold State.toDawn
  split
  · next h => rw [← h]
  · rfl

/-- The node that enters LISTEN: its listen time starts, and it has no role in a domain (R287, R292). -/
theorem toListen_frame (s : State) : s.toListen = { s with
    ndezo := { s.ndezo with
      dawn := .listen
      listenSince := s.now
      stratum := 31
      parent := none
      coarse := false
      isPolestar := false
      claimed := false
      syncHeard := false
      syncTaken := false
      validSoFar := false
      validCycle := false
      alignedCycles := 0
      outCycles := 0
      mergeCycles := 0
      change := none
      request := none
      buffers := [] }
    almanac := s.toListen.almanac } := by
  unfold State.toListen
  rw [toDawn_frame]

/-! ## Cold start (R292 to R294) -/

/-- The time base of a cold start is a common multiple of 10 ms and of the cycle, and the first one after now. -/
theorem coldInstant_bounds {s : State} (h : 0 < s.coldCycle) :
    s.coldInstant % Nat.lcm 10000000 s.coldCycle = 0 ∧ s.now < s.coldInstant ∧ s.coldInstant ≤ s.now + Nat.lcm 10000000 s.coldCycle := by
  have hlcm : 0 < Nat.lcm 10000000 s.coldCycle := Nat.lcm_pos (by decide) h
  have heq : s.coldInstant = (s.now / Nat.lcm 10000000 s.coldCycle + 1) * Nat.lcm 10000000 s.coldCycle := rfl
  rw [heq]
  refine ⟨Nat.mul_mod_left _ _, ?_, ?_⟩
  · rw [mul_comm]
    exact Nat.lt_mul_div_succ s.now hlcm
  · rw [Nat.add_mul, Nat.one_mul]
    exact Nat.add_le_add_right (Nat.div_mul_le_self _ _) _

/-- The module that begins its cold-start cycle, before its COLD frames. -/
def State.coldStart (s : State) : State :=
  let v := ((({ s with ndezo := { s.ndezo with constNo := s.param 9 } } : State).toDawn .cold).event 0x0502 Origin.internal [(24, 1, 0)]).stepBase
    (Int.ofNat (s.coldInstant - s.now))
  { v with ndezo := { v.ndezo with
      cycleStart := s.coldInstant
      cycle64 := v.ndezo.recordedCycle + 2 ^ 20
      coldStarts := inc v.ndezo.coldStarts } }

/-- Its COLD frame. -/
def State.coldOut (s : State) : SyncFrame :=
  { stamp := s.coldInstant, fcsOk := true, cut := false, head := headOut 64 s.coldStart.ndezo.cycle64, constNo := s.coldStart.headerTag.1,
    constTag := s.coldStart.headerTag.2, polestar := s.node, hops := 0, change := 0, changeNo := 0, cycle64 := s.coldStart.ndezo.cycle64,
    txTime := s.coldInstant, correction := 0, latency := 0, tags := s.ownTags }

theorem coldStart_steps {s : State} (h : s.now < s.coldInstant) : s.coldStart.now = s.coldInstant ∧ s.coldStart.sent = s.sent ∧
    s.coldStart.pending = s.pending ∧ s.coldStart.ndezo.dawn = .cold ∧ s.coldStart.ndezo.constNo = s.param 9 ∧
    s.coldStart.ndezo.cycle64 = s.ndezo.recordedCycle + 2 ^ 20 ∧ s.coldStart.ndezo.cycleStart = s.coldInstant := by
  unfold State.coldStart
  rw [toDawn_frame]
  refine ⟨?_, rfl, rfl, rfl, rfl, rfl, rfl⟩
  show (Int.ofNat s.now + Int.ofNat (s.coldInstant - s.now)).toNat = s.coldInstant
  simp only [Int.ofNat_eq_natCast]
  omega

theorem listenExpiry_starts {s : State} (hruns : s.ndezoRuns = true) (hlisten : s.ndezo.dawn = .listen) (hstop : s.control.mode = .stop)
    (hbanned : s.ndezo.banned = false) (hcycle : 0 < s.coldCycle) (hlate : s.ndezo.listenSince + 2 * s.coldCycle + 2000 * s.node ≤ s.now) :
    s.listenExpiry = { s.coldStart with sent := s.sent ++ s.coldStart.sendingPorts.map (fun p => Tx.cold p s.coldOut) } := by
  obtain ⟨-, hsent, -⟩ := coldStart_steps (coldInstant_bounds hcycle).2.1
  rw [← hsent, ← foldl_send]
  exact if_pos (by simp [hruns, hlisten, hstop, hbanned, hlate])

/-- The cold-start cycle ends in JOINED, as Polestar (R294). -/
theorem coldEnd_joins {s : State} (hruns : s.ndezoRuns = true) (hcold : s.ndezo.dawn = .cold)
    (hlate : s.ndezo.cycleStart + s.coldCycle ≤ s.now) : ∃ A, s.coldEnd = { s with
      ndezo := { s.ndezo with
        dawn := .joined
        isPolestar := true
        claimed := false
        polestar := s.node
        stratum := 0
        parent := none
        theta := 0 }
      almanac := A } := by
  have hgo : s.coldEnd = _ := if_pos (by simp [hruns, hcold, hlate])
  rw [hgo, toDawn_frame]
  exact ⟨_, rfl⟩

/-! ## The Polestar's role (R271, R272) -/

theorem claimPolestar_claims {s : State} (hruns : s.ndezoRuns = true) (hjoined : s.ndezo.dawn = .joined) (hpolestar : s.ndezo.isPolestar = false)
    (hmissed : 3 ≤ s.ndezo.missedSyncs) (hstart : s.now = s.ndezo.cycleStart) : s.claimPolestar = State.polestarEvent { s with
      ndezo := { s.ndezo with
        isPolestar := true
        claimed := true
        polestar := s.node
        stratum := 0
        parent := none
        missedSyncs := 0
        syncForwarded := false
        claims := s.ndezo.claims + 1 } } 0 s.node :=
  if_pos (by simp [hruns, hjoined, hpolestar, hmissed, hstart])

theorem claimPolestar_waits {s : State} (h : s.ndezo.missedSyncs < 3 ∨ s.now ≠ s.ndezo.cycleStart) : s.claimPolestar = s :=
  if_neg (by
    rcases h with h | h
    · simp [Nat.not_le.2 h]
    · simp [h])

/-- |θ| of 250 ns or more in three cycles: the node aligns again (R267, R287). -/
theorem leaveStep_aligns {s : State} (hruns : s.ndezoRuns = true) (hfollows : s.ndezo.dawn = .aligned ∨ s.ndezo.dawn = .joined)
    (hout : 3 ≤ s.ndezo.outCycles) : ∃ A, s.leaveStep = { s with
      ndezo := { s.ndezo with
        dawn := .aligning
        outOfStep := true
        outCycles := 0
        isPolestar := false
        claimed := false
        outOfSteps := inc s.ndezo.outOfSteps
        dawnRuns := inc s.ndezo.dawnRuns
        alignedCycles := 0
        validCycle := false
        change := none
        request := none
        buffers := [] }
      almanac := A } := by
  have hdawn : s.ndezo.dawn.follows = true := by rcases hfollows with h | h <;> rw [h] <;> rfl
  have hgo : s.leaveStep = _ := if_pos (by simp [hruns, hdawn, hout])
  rw [hgo, toDawn_frame]
  exact ⟨_, rfl⟩

/-- A lower Polestar stays out of reach in four cycles: the node leaves for LISTEN (R272). -/
theorem mergeDomain_listens {s : State} (hruns : s.ndezoRuns = true) (hjoined : s.ndezo.dawn = .joined) (hmerge : 4 ≤ s.ndezo.mergeCycles) :
    ∃ (N : Ndezo) (A : Almanac), s.mergeDomain = { s with ndezo := N, almanac := A } ∧ N.dawn = .listen ∧ N.isPolestar = false ∧
      N.listenSince = s.now := by
  have hgo : s.mergeDomain = _ := if_pos (by simp [hruns, hjoined, hmerge])
  rw [hgo, toListen_frame]
  exact ⟨_, _, rfl, rfl, rfl, rfl⟩

/-! ## ALIGNED (R290) -/

theorem dawnJoin_joins {s : State} (hruns : s.ndezoRuns = true) (haligned : s.ndezo.dawn = .aligned) (hvalid : s.ndezo.validCycle = true) :
    ∃ A, s.dawnJoin = { s with
      ndezo := { s.ndezo with
        dawn := .joined
        validCycle := false
        alignedCycles := 0
        missedSyncs := 0 }
      almanac := A } := by
  have hgo : s.dawnJoin = _ := if_pos (by simp [hruns, haligned, hvalid])
  rw [hgo, toDawn_frame]
  exact ⟨_, rfl⟩

theorem dawnFail_listens {s : State} (hruns : s.ndezoRuns = true) (haligned : s.ndezo.dawn = .aligned) (hvalid : s.ndezo.validCycle = false)
    (hlong : 16 ≤ s.ndezo.alignedCycles) : ∃ (N : Ndezo) (A : Almanac), s.dawnFail = { s with ndezo := N, almanac := A } ∧ N.dawn = .listen ∧
      N.listenSince = s.now := by
  have hgo : s.dawnFail = _ := if_pos (by simp [hruns, haligned, hvalid, hlong])
  rw [hgo, toListen_frame]
  exact ⟨_, _, rfl, rfl, rfl⟩

/-- Without Ndezo none of these steps is taken (R251). -/
theorem dawn_idle {s : State} (h : s.ndezoRuns = false) : s.listenExpiry = s ∧ s.coldEnd = s ∧ s.claimPolestar = s ∧ s.leaveStep = s ∧
    s.mergeDomain = s ∧ s.dawnJoin = s ∧ s.dawnFail = s := by
  refine ⟨?_, ?_, ?_, ?_, ?_, ?_, ?_⟩
  all_goals exact if_neg (by simp [h])

/-- Settles O30, step by step. That the COLD frames of a cold start bear the cycle start as TX_TIME is the model's choice (log entry 140). -/
theorem dawnAndPolestarStepByStep : Obligations.DawnAndPolestarStepByStep := by
  intro t s
  refine ⟨fun hruns => ⟨fun hlisten hstop hbanned hcycle hlate => ?_, fun hcold hlate => ?_, fun hjoined hpolestar hmissed hstart => ?_,
    fun _ hwaits => run_idle (claimPolestar_waits hwaits), fun hfollows hout => ?_, fun hjoined hmerge => ?_, fun haligned hvalid => ?_,
    fun haligned hvalid => ⟨?_, fun hlong => ?_, fun hshort => ?_⟩⟩, fun hidle => ?_⟩
  · obtain ⟨hmultiple, hafter, hfirst⟩ := coldInstant_bounds (s := s.tick t) hcycle
    obtain ⟨hnow, hsent, hpending, hdawn, hconst, hcycle64, hstart⟩ := coldStart_steps hafter
    refine ⟨_, _, runTimed_next (listenExpiry_starts (s := s.tick t) hruns hlisten hstop hbanned hcycle hlate) hpending, hdawn,
      hnow.trans hstart.symm, hconst, hcycle64, ?_, ?_, ?_, rfl, ?_, ?_⟩
    · rw [← hstart] at hmultiple
      exact hmultiple
    · rw [← hstart] at hafter
      exact hafter
    · rw [← hstart] at hfirst
      exact hfirst
    · exact List.length_map _
    · intro x hx
      obtain ⟨p, -, rfl⟩ := List.mem_map.1 hx
      exact ⟨p, _, rfl, rfl, hnow.symm⟩
  · obtain ⟨A, hA⟩ := coldEnd_joins (s := s.tick t) hruns hcold hlate
    exact ⟨_, run_next hA rfl rfl, rfl, rfl⟩
  · exact ⟨_, run_next (claimPolestar_claims (s := s.tick t) hruns hjoined hpolestar hmissed hstart) rfl rfl, rfl, rfl⟩
  · obtain ⟨A, hA⟩ := leaveStep_aligns (s := s.tick t) hruns hfollows hout
    exact ⟨_, run_next hA rfl rfl, rfl, rfl, rfl, rfl, rfl⟩
  · obtain ⟨N, A, hA, hdawn, hpolestar, hsince⟩ := mergeDomain_listens (s := s.tick t) hruns hjoined hmerge
    exact ⟨_, run_next hA rfl rfl, hdawn, hpolestar, hsince, rfl⟩
  · obtain ⟨A, hA⟩ := dawnJoin_joins (s := s.tick t) hruns haligned hvalid
    exact ⟨_, run_next hA rfl rfl, rfl, rfl⟩
  · exact run_idle (if_neg (by simp [hvalid]))
  · obtain ⟨N, A, hA, hdawn, hsince⟩ := dawnFail_listens (s := s.tick t) hruns haligned hvalid hlong
    exact ⟨_, run_next hA rfl rfl, hdawn, hsince, rfl⟩
  · exact run_idle (if_neg (by simp [Nat.not_le.2 hshort]))
  · obtain ⟨hlisten, hcold, hclaim, hstep, hmerge, hjoin, hfail⟩ := dawn_idle (s := s.tick t) hidle
    refine ⟨?_, run_idle hcold, run_idle hclaim, run_idle hstep, run_idle hmerge, run_idle hjoin, run_idle hfail⟩
    exact runTimed_next hlisten rfl

end Sys2Proof.Machine
end

section
/-! # Time frames of a domain (R257, R258, R260 to R268, R273, R277, R294) -/

namespace Sys2Proof.Machine

/-! ## Checks 3 to 5 of Table 7.7 -/

/-- A node that follows a domain has no listen time to restart and no cold start to yield. -/
theorem heardFrame_follows {s : State} (h : s.ndezo.dawn.follows = true) (port : Nat) (broken : Bool) : s.heardFrame port broken = s := by
  unfold State.heardFrame
  cases hdawn : s.ndezo.dawn with
  | listen => rw [hdawn] at h; cases h
  | cold => rw [hdawn] at h; cases h
  | aligning => exact ite_self s
  | aligned => exact ite_self s
  | joined => exact ite_self s

/-- One more frame received on a port. -/
def PortCounters.received (c : PortCounters) : PortCounters := { c with rxOk := c.rxOk + 1 }

/-- A whole frame with the header of its kind. -/
structure WholeHead (h : FrameHead) (n : Nat) : Prop where
  ethLength : h.ethLength = n + 34
  version : h.version = 1
  reserved : h.reserved = false
  lengthField : h.lengthField = n

theorem headPasses_whole {h : FrameHead} {n : Nat} (hw : WholeHead h n) : headPasses h n = true := by
  unfold headPasses
  rw [hw.version, hw.reserved, hw.lengthField]
  exact beq_self_eq_true n

theorem checkWhole_passes {h : FrameHead} {n : Nat} (hw : WholeHead h n) : checkWhole n h true false = .inSync := by
  unfold checkWhole
  rw [headPasses_whole hw, hw.ethLength]
  simp

theorem checkWhole_fcs {h : FrameHead} {n : Nat} (hlen : h.ethLength = n + 34) : checkWhole n h false false = .fcs := by
  unfold checkWhole
  rw [hlen]
  simp

/-- A frame in the sync window of a node that follows a domain counts by checks 3 to 5. -/
theorem takesFrame_inSync {s : State} {port stamp n : Nat} {h : FrameHead} {fcsOk cut : Bool} (hfollows : s.ndezo.dawn.follows = true)
    (hin : s.inSync (Int.ofNat stamp - Int.ofNat s.ndezo.cycleStart) = true) :
    s.takesFrame port stamp n h fcsOk cut = (s.judged port (checkWhole n h fcsOk cut), checkWhole n h fcsOk cut == .inSync) := by
  unfold State.takesFrame State.checkSync
  rw [if_pos hfollows, if_pos hin]

/-- A frame outside a domain counts by the same checks. -/
theorem takesFrame_outside {s : State} {port stamp n : Nat} {h : FrameHead} {fcsOk cut : Bool} (hfollows : s.ndezo.dawn.follows = false) :
    s.takesFrame port stamp n h fcsOk cut = (s.countPort port (checkWhole n h fcsOk cut).count, checkWhole n h fcsOk cut == .inSync) := by
  unfold State.takesFrame
  rw [if_neg (by rw [hfollows]; exact Bool.false_ne_true)]

/-! ## The cycle start (R257, R261, R268) -/

/-- What the end of a cycle leaves of a joined node with no Constellation change under way. -/
theorem endCycle_joined {s : State} (t : Nat) (hjoined : s.ndezo.dawn = .joined) (hchange : s.ndezo.change = none) :
    ∃ N : Ndezo, s.endCycle t = { s with ndezo := N } ∧ N.cycleStart = t ∧ N.cycle64 = s.ndezo.cycle64 + 1 ∧ N.dawn = .joined ∧
      N.syncHeard = false ∧ N.change = none ∧
      N.missedSyncs = if s.ndezo.isPolestar || s.ndezo.syncHeard then 0 else s.ndezo.missedSyncs + 1 := by
  unfold State.endCycle
  simp only [hjoined, hchange, Option.isSome_none, Option.any_none, Bool.false_and, Bool.and_false, Bool.false_eq_true, if_false]
  refine ⟨_, rfl, rfl, rfl, rfl, rfl, rfl, ?_⟩
  cases s.ndezo.isPolestar <;> cases s.ndezo.syncHeard <;> rfl

theorem reportReady_idle {s : State} (h : s.ndezo.change = none) : s.reportReady = s := by
  unfold State.reportReady
  rw [h]

theorem ageStreams_streams (s : State) (i : LaneId) : ∀ x ∈ (s.ageStreams.lane i).inputs.streams, x.accepted = false ∧ x.isClosed = false := by
  intro x hx
  unfold State.ageStreams at hx
  rw [mapLanes_lane] at hx
  obtain ⟨y, -, rfl⟩ := List.mem_map.1 hx
  exact ⟨rfl, rfl⟩

/-- The module at a cycle start, before its LINK frames. -/
def State.opensCycle (s : State) (t : Nat) : State :=
  let s1 := s.endCycle t
  let ports := s1.activePorts ++ (s1.ndezo.ports.map (·.number)).filter (fun n => !s1.portActive n)
  let s3 := (ports.foldl (fun (u : State) n => u.modPort n (fun p => p.turn (s1.portActive n))) s1).ageStreams.reportReady
  { s3 with ndezo := { s3.ndezo with held := s3.heldByte } }

theorem cycleBegin_opens {s : State} {t : Nat} (hruns : s.ndezoRuns = true) (hstart : t % s.domainCycle = 0) (hnew : t ≠ s.ndezo.cycleStart) :
    s.cycleBegin t = (s.opensCycle t).sendLinks t := if_pos (by simp [hruns, hstart, hnew])

theorem opensCycle_joined {s : State} (t : Nat) (hjoined : s.ndezo.dawn = .joined) (hchange : s.ndezo.change = none) :
    ∃ (N : Ndezo) (L : Lanes Lane), s.opensCycle t = { s with ndezo := N, lanes := L } ∧ N.cycleStart = t ∧ N.cycle64 = s.ndezo.cycle64 + 1 ∧
      N.dawn = .joined ∧ N.syncHeard = false ∧ (N.missedSyncs = if s.ndezo.isPolestar || s.ndezo.syncHeard then 0 else s.ndezo.missedSyncs + 1) ∧
      ∀ i, ∀ x ∈ (L.get i).inputs.streams, x.accepted = false ∧ x.isClosed = false := by
  obtain ⟨N, hend, hcycle, hnumber, hdawn, hheard, hnone, hmissed⟩ := endCycle_joined t hjoined hchange
  let s1 : State := { s with ndezo := N }
  obtain ⟨P, hP⟩ := foldl_modPort_frame (fun n p => p.turn (s1.portActive n))
    (s1.activePorts ++ (N.ports.map (·.number)).filter (fun n => !s1.portActive n)) s1
  let s2 : State := { s with ndezo := { N with ports := P } }
  have hready : s2.ageStreams.reportReady = s2.ageStreams := reportReady_idle hnone
  refine ⟨{ N with ports := P, held := s2.ageStreams.heldByte }, s2.ageStreams.lanes, ?_, hcycle, hnumber, hdawn, hheard, hmissed,
    ageStreams_streams s2⟩
  unfold State.opensCycle
  rw [hend]
  simp only []
  rw [hP, hready]
  rfl

/-- LINK frames leave on the ports of a list, and their transmit stamps are kept. -/
theorem foldl_sendLink (g : Nat → LinkFrame) (t : Nat) (l : List Nat) (s : State) :
    ∃ P, l.foldl (fun u n => (u.modPort n (fun p => { p with lastTx := t })).send (.linkFrame n (g n))) s = { s with
        ndezo := { s.ndezo with ports := P }
        sent := s.sent ++ l.map (fun n => Tx.linkFrame n (g n)) } ∧
      ({ s with ndezo := { s.ndezo with ports := P } } : State).ways = s.ways := by
  induction l generalizing s with
  | nil => exact ⟨s.ndezo.ports, by simp, rfl⟩
  | cons n l ih =>
    let v := (s.modPort n (fun p => { p with lastTx := t })).send (.linkFrame n (g n))
    obtain ⟨P, hP, hways⟩ := ih v
    refine ⟨P, ?_, hways.trans ((ways_send _ _).trans (ways_modPort s (port_number s n) rfl))⟩
    rw [List.foldl_cons, hP]
    simp only [v, State.send, State.modPort, List.map_cons, List.append_assoc, List.cons_append, List.nil_append]

theorem sendLinks_sends {s : State} (t : Nat) (h : s.ndezo.dawn = .joined) : ∃ P, s.sendLinks t = { s with
        ndezo := { s.ndezo with ports := P }
        sent := s.sent ++ s.sendingPorts.map (fun n => Tx.linkFrame n (s.linkOut t n)) } ∧
      (s.sendLinks t).sendingPorts = s.sendingPorts := by
  obtain ⟨P, hP, hways⟩ := foldl_sendLink (s.linkOut t) t s.sendingPorts s
  have hgo : s.sendLinks t = _ := if_pos (by unfold State.sendsLinks; rw [h])
  rw [hgo, hP]
  exact ⟨P, rfl, sendingPorts_of_ways hways⟩

/-- A joined node at its cycle start: a LINK frame leaves on every active port whose owner transmits. -/
theorem cycleBegin_joined {s : State} {t : Nat} (hruns : s.ndezoRuns = true) (hjoined : s.ndezo.dawn = .joined) (hchange : s.ndezo.change = none)
    (hstart : t % s.domainCycle = 0) (hnew : t ≠ s.ndezo.cycleStart) :
    ∃ (N : Ndezo) (L : Lanes Lane) (l : List Tx), s.cycleBegin t = { s with ndezo := N, lanes := L, sent := s.sent ++ l } ∧ N.cycleStart = t ∧
      N.cycle64 = s.ndezo.cycle64 + 1 ∧ N.dawn = .joined ∧ N.syncHeard = false ∧
      (N.missedSyncs = if s.ndezo.isPolestar || s.ndezo.syncHeard then 0 else s.ndezo.missedSyncs + 1) ∧
      l.length = (s.cycleBegin t).sendingPorts.length ∧
      (∀ x ∈ l, ∃ p f, x = Tx.linkFrame p f ∧ p ∈ (s.cycleBegin t).sendingPorts ∧ f.source = s.node ∧ f.txTime = t ∧ f.joined = true) ∧
      ∀ i, ∀ x ∈ (L.get i).inputs.streams, x.accepted = false ∧ x.isClosed = false := by
  obtain ⟨N, L, hopen, hcycle, hnumber, hdawn, hheard, hmissed, hstreams⟩ := opensCycle_joined t hjoined hchange
  obtain ⟨P, hP, hports⟩ := sendLinks_sends (s := s.opensCycle t) t (by rw [hopen]; exact hdawn)
  rw [cycleBegin_opens hruns hstart hnew, hports]
  refine ⟨{ N with ports := P }, L, (s.opensCycle t).sendingPorts.map (fun n => Tx.linkFrame n ((s.opensCycle t).linkOut t n)), hP.trans ?_, hcycle,
    hnumber, hdawn, hheard, hmissed, ?_, ?_, hstreams⟩
  · generalize (s.opensCycle t).sendingPorts.map _ = l
    rw [hopen]
  · exact List.length_map _
  · intro x hx
    obtain ⟨p, hp, rfl⟩ := List.mem_map.1 hx
    refine ⟨p, _, rfl, hp, ?_, rfl, ?_⟩
    · rw [hopen]
      rfl
    · show (((s.opensCycle t).ndezo.dawn == .joined) = true)
      rw [hopen]
      exact beq_iff_eq.2 hdawn

/-! ## The Polestar's SYNC frame (R260, R264) -/

/-- The SYNC frame of a Polestar that signals no change. -/
def State.syncOut (s : State) : SyncFrame :=
  { stamp := s.ndezo.cycleStart + 1250, fcsOk := true, cut := false, head := headOut 64 s.ndezo.cycle64, constNo := s.headerTag.1,
    constTag := s.headerTag.2, polestar := s.node, hops := 0, change := 0, changeNo := 0, cycle64 := s.ndezo.cycle64,
    txTime := s.ndezo.cycleStart + 1250, correction := 0, latency := 0, tags := s.ownTags }

theorem syncSend_sends {s : State} (hruns : s.ndezoRuns = true) (hjoined : s.ndezo.dawn = .joined) (hpolestar : s.ndezo.isPolestar = true)
    (hfree : s.ndezo.syncForwarded = false) (hchange : s.ndezo.change = none) (hrequest : s.ndezo.request = none)
    (hdue : s.ndezo.cycleStart + 1250 ≤ s.now) : s.syncSend = { s with
      ndezo := { s.ndezo with syncForwarded := true }
      sent := s.sent ++ s.sendingPorts.map (fun p => Tx.sync p s.syncOut) } := by
  have hsignal : s.syncSignal = (0, 0) := by
    unfold State.syncSignal
    rw [hchange, hrequest]
  have hgo : s.syncSend = _ := if_pos (by simp [hruns, hjoined, hpolestar, hfree, hdue])
  rw [hgo, hsignal]
  have hways : ({ s with ndezo := { s.ndezo with syncForwarded := true } } : State).ways = s.ways := rfl
  rw [← sendingPorts_of_ways hways]
  exact foldl_send (fun p => Tx.sync p s.syncOut) _ { s with ndezo := { s.ndezo with syncForwarded := true } }

/-! ## LINK frames (R261 to R263, R273) -/

/-- A port that has received a LINK frame in the cycle of the given number: it keeps the frame and the delay that it completes. -/
def Port.hears (p : Port) (f : LinkFrame) (cycle : Nat) : Port := { p with
  lastRx := some f
  missed := 0
  delay := match p.measure f cycle with
    | some d => some d
    | none => p.delay }

section
variable {s : State} {port : Nat} {f : LinkFrame} (hruns : s.ndezoRuns = true) (hjoined : s.ndezo.dawn = .joined) (hactive : s.portActive port = true)
  (hbanned : s.ndezo.banned = false) (hin : s.inSync (Int.ofNat f.stamp - Int.ofNat s.ndezo.cycleStart) = true)
include hruns hjoined hactive hbanned hin

theorem linkFrame_judged : s.linkFrame port f =
    if (checkWhole 32 f.head f.fcsOk false == .inSync) = false then s.judged port (checkWhole 32 f.head f.fcsOk false)
    else if f.source = s.node then (s.judged port (checkWhole 32 f.head f.fcsOk false)).duplicateId port
    else (s.judged port (checkWhole 32 f.head f.fcsOk false)).modPort port (fun p => p.hears f s.ndezo.cycle64) := by
  have hfollows : s.ndezo.dawn.follows = true := by rw [hjoined]; rfl
  unfold State.linkFrame
  simp only [heardFrame_follows hfollows, takesFrame_inSync hfollows hin]
  exact if_neg (by simp [hruns, hactive, hbanned])

/-- A whole LINK frame of a neighbour is kept, with the delay that it completes. -/
theorem linkFrame_kept (hfcs : f.fcsOk = true) (hwhole : WholeHead f.head 32) (hsource : f.source ≠ s.node) :
    ∃ P, s.linkFrame port f = { s with ndezo := { s.ndezo with ports := P } } ∧
      (∀ p, p ≠ port → (s.linkFrame port f).port p = s.port p) ∧
      (s.linkFrame port f).port port = Port.hears { s.port port with counters := (s.port port).counters.received } f s.ndezo.cycle64 := by
  have heq := linkFrame_judged hruns hjoined hactive hbanned hin
  rw [hfcs, checkWhole_passes hwhole, if_neg (by decide), if_neg hsource] at heq
  rw [heq]
  refine ⟨_, rfl, fun p hp => ?_, ?_⟩
  · rw [modPort_port_other _ (port_number _ port) hp]
    exact countPort_port_other s _ hp
  · rw [modPort_port _ port (port_number _ port), show s.judged port .inSync = s.countPort port PortCounters.received from rfl, countPort_port]

/-- One with the module's own ID makes it leave the domain (R273). -/
theorem linkFrame_duplicate (hfcs : f.fcsOk = true) (hwhole : WholeHead f.head 32) (hsource : f.source = s.node) :
    ∃ (N : Ndezo) (A : Almanac), s.linkFrame port f = { s with ndezo := N, almanac := A } ∧ N.dawn = .listen ∧ N.banned = true := by
  have heq := linkFrame_judged hruns hjoined hactive hbanned hin
  rw [hfcs, checkWhole_passes hwhole, if_neg (by decide), if_pos hsource] at heq
  rw [heq]
  unfold State.duplicateId
  rw [toListen_frame]
  exact ⟨_, _, rfl, rfl, rfl⟩

/-- One with a wrong FCS counts. -/
theorem linkFrame_fcs (hfcs : f.fcsOk = false) (hlen : f.head.ethLength = 66) :
    s.linkFrame port f = s.countPort port (fun c => { c with fcs := c.fcs + 1 }) := by
  have heq := linkFrame_judged hruns hjoined hactive hbanned hin
  rw [hfcs, checkWhole_fcs hlen, if_pos (by decide)] at heq
  exact heq

end

/-- The delay that a LINK frame completes (R262), half a ns rounded up. -/
theorem measure_completes {p : Port} {f q : LinkFrame} {cycle : Nat} (hprev : p.prevRx = some q) (hrx : f.rxTime ≠ 0)
    (hcycle : f.rxCycle = (cycle - 1) % 2 ^ 32) (htx : p.lastTxPrev ≠ 0) : p.measure f cycle =
      some (((Int.ofNat f.rxTime - Int.ofNat p.lastTxPrev) + (Int.ofNat q.stamp - Int.ofNat q.txTime) + 1) / 2).toNat := by
  unfold Port.measure
  rw [hprev]
  exact if_pos ⟨hrx, hcycle, htx⟩

/-- 16 cycles without a LINK frame (R263). -/
theorem delayUnknown_forgets {s : State} {port : Nat} (hruns : s.ndezoRuns = true) (hdelay : (s.port port).delay.isSome = true)
    (hsilent : 16 ≤ (s.port port).silent) : ∃ P A, s.delayUnknown port = { s with ndezo := { s.ndezo with ports := P }, almanac := A } ∧
      (s.delayUnknown port).port port = { s.port port with delay := none } ∧ ∀ p, p ≠ port → (s.delayUnknown port).port p = s.port p := by
  have hgo : s.delayUnknown port = (s.modPort port (fun p => { p with delay := none })).domainEvent 6 port 0 :=
    if_pos (by simp [hruns, hdelay, hsilent])
  have hports : ∀ p, (s.delayUnknown port).port p = (s.modPort port (fun p => { p with delay := none })).port p := fun p => by
    rw [hgo]
    rfl
  refine ⟨_, _, hgo, (hports port).trans (modPort_port s port (port_number s port)), fun p hp => (hports p).trans ?_⟩
  exact modPort_port_other s (port_number s port) hp

/-! ## SYNC copies (R265 to R267) -/

/-- A SYNC copy as a node forwards it, with what the link and the node have delayed it (R265). -/
def forwardedCopy (f : SyncFrame) (d : Nat) : SyncFrame := { f with correction := f.correction + d + f.latency, hops := f.hops + 1 }

/-- The copies that leave: none where one has left in the cycle, the copy has HOPS 16, or the outcome of a change is not known. -/
def State.syncForwards (s : State) (port : Nat) (f : SyncFrame) (d : Nat) : List Tx :=
  if s.ndezo.syncForwarded || s.ndezo.lowerSent || decide (16 ≤ f.hops) || !s.outcomeKnown then []
  else (s.sendingPorts.filter (· != port)).map (fun p => Tx.sync p (forwardedCopy f d))

/-- A node that is not the Polestar forwards the first copy of its cycle, whole and without a CHANGE (R265). -/
theorem forwardSync_first {s : State} {port d : Nat} {f : SyncFrame} (hfollows : s.ndezo.dawn.follows = true) (hpolestar : s.ndezo.isPolestar = false)
    (hfcs : f.fcsOk = true) (hcut : f.cut = false) (hchange : f.change = 0) (hdelay : (s.port port).delay = some d) :
    ∃ b, s.forwardSync port f = { s with
      ndezo := { s.ndezo with syncForwarded := b }
      sent := s.sent ++ s.syncForwards port f d } := by
  have hmay : s.mayForward port f = !(s.ndezo.syncForwarded || s.ndezo.lowerSent || decide (16 ≤ f.hops) || !s.outcomeKnown) := by
    have hhops : decide (f.hops < 16) = !decide (16 ≤ f.hops) := by
      rw [← decide_not]
      exact decide_eq_decide.2 Nat.not_le.symm
    unfold State.mayForward State.copyOpens
    rw [hfollows, hchange, hpolestar, hhops]
    cases s.outcomeKnown <;> cases s.ndezo.syncForwarded <;> cases s.ndezo.lowerSent <;> simp
  unfold State.forwardSync State.syncForwards
  rw [hmay]
  cases hkeeps : (s.ndezo.syncForwarded || s.ndezo.lowerSent || decide (16 ≤ f.hops) || !s.outcomeKnown) with
  | true => exact ⟨s.ndezo.syncForwarded, by simp⟩
  | false =>
    have hwhole : (f.fcsOk && !f.cut) = true := by rw [hfcs, hcut]; rfl
    refine ⟨true, ?_⟩
    simp only [hdelay, Option.getD_some, hwhole, Bool.not_false, if_true, Bool.false_eq_true, if_false]
    rw [foldl_send (fun p => Tx.sync p _), if_neg (by rw [hpolestar]; exact Bool.false_ne_true)]
    rfl

/-- The rate stays in its limits (R267). -/
theorem newRate_bounds (s : State) : -600 ≤ s.newRate ∧ s.newRate ≤ 600 := by
  unfold State.newRate
  omega

/-- The first usable copy of a cycle shows θ (R266, R267). -/
theorem takeSync_first {s : State} (port : Nat) (f : SyncFrame) (theta : Int) (hfollows : s.ndezo.dawn.follows = true)
    (hfirst : s.ndezo.corrected = false) : ∃ N : Ndezo, s.takeSync port f theta = { s with ndezo := N, freeCtr := s.freeCtr + 1 } ∧ N.dawn = s.ndezo.dawn ∧
      N.theta = theta ∧ N.parent = some port ∧ N.stratum = f.hops ∧ N.syncHeard = true ∧ N.missedSyncs = 0 ∧ -600 ≤ N.rate ∧ N.rate ≤ 600 := by
  have hrate := newRate_bounds (s.takeCopy port f)
  refine ⟨_, rfl, rfl, rfl, rfl, rfl, rfl, rfl, ?_⟩
  have hgo : ((s.takeCopy port f).ndezo.dawn.follows && !(s.takeCopy port f).ndezo.corrected) = true := by
    show (s.ndezo.dawn.follows && !s.ndezo.corrected) = true
    rw [hfollows, hfirst]
    rfl
  simp only [hgo, if_true]
  exact hrate

/-- Each lane corrects its own time base by its own θ, and the module's follows their median (R258, R267). -/
theorem slew_lanes (s : State) (theta bound : Int) : ∃ m : Int,
    s.slew theta bound = { s with lanes := (s.slew theta bound).lanes, now := (Int.ofNat s.now + m).toNat } ∧
      ∀ i, (s.slew theta bound).lane i = { s.lane i with
        offset := (s.lane i).offset + max (-bound) (min bound (-(theta + (s.lane i).offset))) - m } := by
  let w := s.moveLanes (fun o => max (-bound) (min bound (-(theta + o))))
  refine ⟨w.medianOffset, rfl, fun i => ?_⟩
  have hmoved : w.lane i = { s.lane i with offset := (s.lane i).offset + max (-bound) (min bound (-(theta + (s.lane i).offset))) } :=
    Lanes.get_mapI _ _ _
  have hrebased : (s.slew theta bound).lane i = { w.lane i with offset := (w.lane i).offset - w.medianOffset } := Lanes.get_mapI _ _ _
  rw [hrebased, hmoved]

theorem hearSignal_silent {s : State} {port : Nat} {f : SyncFrame} (h : f.change = 0) : s.hearSignal port f = s := by
  unfold State.hearSignal State.hearAnnounce
  rw [h]
  rfl

/-- The first copy of the Polestar that a joined node follows (R266, R267). -/
theorem validSync_follows {s : State} {port d : Nat} {f : SyncFrame} (hjoined : s.ndezo.dawn = .joined) (hdelay : (s.port port).delay = some d)
    (hpolestar : s.ndezo.isPolestar = false) (htaken : s.ndezo.syncTaken = false) (hfirst : s.ndezo.corrected = false)
    (hsame : f.polestar = s.ndezo.polestar) (hchange : f.change = 0) :
    s.validSync port f = (s.takeSync port f (syncOffset f d)).slew (syncOffset f d) 40 := by
  have htakes : s.takesCopy f = true := by
    unfold State.takesCopy
    rw [htaken, hpolestar]
    exact Bool.or_true _
  have hlower : decide (f.polestar < s.ndezo.polestar) = false := decide_eq_false (by omega)
  have hadopts : s.adoptPolestar f = s := if_pos hsame
  obtain ⟨N, hN, hdawn, -⟩ := takeSync_first port f (syncOffset f d) (by rw [hjoined]; rfl) hfirst
  unfold State.validSync
  simp only [hjoined, hdelay]
  unfold State.followSync
  simp only [htakes, hlower, hjoined, hadopts, hfirst, hearSignal_silent hchange, beq_self_eq_true, Bool.true_and, Bool.false_and, if_true,
    Bool.false_eq_true, reduceCtorEq, if_false]
  refine if_neg ?_
  show ((s.takeSync port f (syncOffset f d)).ndezo.dawn) ≠ .aligned
  rw [hN, hdawn, hjoined]
  decide

/-- A whole SYNC copy in the sync window, of another Polestar: it is counted, forwarded and judged (R265, R277). -/
theorem syncFrame_whole {s : State} {port : Nat} {f : SyncFrame} (hruns : s.ndezoRuns = true) (hfollows : s.ndezo.dawn.follows = true)
    (hactive : s.portActive port = true) (hbanned : s.ndezo.banned = false) (hfcs : f.fcsOk = true) (hcut : f.cut = false)
    (hwhole : WholeHead f.head 64) (hin : s.inSync (Int.ofNat f.stamp - Int.ofNat s.ndezo.cycleStart) = true) (hother : f.polestar ≠ s.node) :
    s.syncFrame port f = ((s.countPort port PortCounters.received).forwardSync port f).validSync port f := by
  have hself : { f with fcsOk := headWhole f.head 64 f.fcsOk f.cut } = f := by
    have hok : headWhole f.head 64 f.fcsOk f.cut = f.fcsOk := by
      unfold headWhole
      rw [hfcs, hcut, hwhole.ethLength]
      rfl
    rw [hok]
  have htakes : s.takesFrame port f.stamp 64 f.head f.fcsOk f.cut = (s.countPort port PortCounters.received, true) := by
    rw [takesFrame_inSync hfollows hin, hfcs, hcut, checkWhole_passes hwhole]
    rfl
  unfold State.syncFrame
  simp only [heardFrame_follows hfollows, htakes, hself, Bool.true_or, if_true, if_neg hother, Bool.true_eq_false, if_false]
  exact if_neg (by simp [hruns, hactive, hbanned])

/-- What a joined node makes of its first copy of a cycle, from the Polestar that it follows (R258, R265 to R267). -/
theorem syncFrame_follows {s : State} {port d : Nat} {f : SyncFrame} (hruns : s.ndezoRuns = true) (hjoined : s.ndezo.dawn = .joined)
    (hactive : s.portActive port = true) (hbanned : s.ndezo.banned = false) (hpolestar : s.ndezo.isPolestar = false)
    (htaken : s.ndezo.syncTaken = false) (hfirst : s.ndezo.corrected = false) (hfcs : f.fcsOk = true) (hcut : f.cut = false)
    (hwhole : WholeHead f.head 64) (hin : s.inSync (Int.ofNat f.stamp - Int.ofNat s.ndezo.cycleStart) = true) (hsame : f.polestar = s.ndezo.polestar)
    (hother : f.polestar ≠ s.node) (hchange : f.change = 0) (hdelay : (s.port port).delay = some d) :
    ∃ (N : Ndezo) (L : Lanes Lane) (m : Int), s.syncFrame port f = { s with
        now := (Int.ofNat s.now + m).toNat
        ndezo := N
        lanes := L
        sent := s.sent ++ s.syncForwards port f d
        freeCtr := s.freeCtr + 1 } ∧
      N.theta = syncOffset f d ∧ N.parent = some port ∧ N.stratum = f.hops ∧ N.syncHeard = true ∧ N.missedSyncs = 0 ∧ -600 ≤ N.rate ∧ N.rate ≤ 600 ∧
      ∀ i, L.get i = { s.lane i with
        offset := (s.lane i).offset + max (-40) (min 40 (-(syncOffset f d + (s.lane i).offset))) - m } := by
  have hfollows : s.ndezo.dawn.follows = true := by rw [hjoined]; rfl
  rw [syncFrame_whole hruns hfollows hactive hbanned hfcs hcut hwhole hin hother]
  have hforwards : (s.countPort port PortCounters.received).syncForwards port f d = s.syncForwards port f d := by
    unfold State.syncForwards
    rw [sendingPorts_of_ways (ways_countPort s port PortCounters.received)]
    rfl
  have hcounted : ((s.countPort port PortCounters.received).port port).delay = some d := by
    rw [countPort_port]
    exact hdelay
  obtain ⟨P, hP⟩ : ∃ P, s.countPort port PortCounters.received = { s with ndezo := { s.ndezo with ports := P } } := ⟨_, rfl⟩
  rw [hP] at hforwards hcounted ⊢
  obtain ⟨b, hforward⟩ := forwardSync_first (s := { s with ndezo := { s.ndezo with ports := P } }) (port := port) (f := f) hfollows hpolestar hfcs hcut
    hchange hcounted
  rw [hforward, hforwards]
  let v : State := { s with ndezo := { s.ndezo with ports := P, syncForwarded := b }, sent := s.sent ++ s.syncForwards port f d }
  obtain ⟨N, hN, -, htheta, hparent, hstratum, hheard, hmissed, hlow, hhigh⟩ := takeSync_first (s := v) port f (syncOffset f d) hfollows hfirst
  obtain ⟨m, hm, hlanes⟩ := slew_lanes { v with ndezo := N, freeCtr := v.freeCtr + 1 } (syncOffset f d) 40
  refine ⟨N, _, m, ?_, htheta, hparent, hstratum, hheard, hmissed, hlow, hhigh, hlanes⟩
  refine (validSync_follows (s := v) hjoined hcounted hpolestar htaken hfirst hsame hchange).trans ?_
  rw [hN, hm]

/-! ## COLD frames (R292, R294) -/

/-- A cold start that yields (R294). -/
theorem yieldCold_listens (s : State) (node : Nat) : ∃ (N : Ndezo) (A : Almanac), s.yieldCold node = { s with ndezo := N, almanac := A } ∧
    N.dawn = .listen ∧ N.listenSince = s.now ∧ N.coldYields = s.ndezo.coldYields + 1 := by
  unfold State.yieldCold
  rw [toListen_frame]
  exact ⟨_, _, rfl, rfl, rfl, rfl⟩

/-- A whole COLD frame at a cold-starting module: it yields to a lower ID only. -/
theorem coldFrame_whole {s : State} {port : Nat} {f : SyncFrame} (hruns : s.ndezoRuns = true) (hcold : s.ndezo.dawn = .cold)
    (hport : isNdezoPort s.identity.part port = true) (hfcs : f.fcsOk = true) (hcut : f.cut = false) (hwhole : WholeHead f.head 64) :
    s.coldFrame port f = if f.polestar < s.node then (s.countPort port PortCounters.received).yieldCold f.polestar
      else s.countPort port PortCounters.received := by
  have hheard : s.heardFrame port false = s := by
    unfold State.heardFrame
    rw [hcold]
    exact ite_self s
  have hlen : decide (f.head.ethLength < 98) = false := by rw [hwhole.ethLength]; rfl
  have htakes : s.takesFrame port f.stamp 64 f.head true false = (s.countPort port PortCounters.received, true) := by
    rw [takesFrame_outside (by rw [hcold]; rfl), checkWhole_passes hwhole]
    rfl
  have hdawn : (s.countPort port PortCounters.received).ndezo.dawn = .cold := hcold
  unfold State.coldFrame
  simp only [hfcs, hcut, hlen, hheard, Bool.not_true, Bool.or_self, htakes, hdawn]
  refine (if_neg (by simp [hruns, hport, hcold])).trans ?_
  simp

/-- A broken one makes it yield whatever it holds. -/
theorem coldFrame_broken {s : State} {port : Nat} {f : SyncFrame} (hruns : s.ndezoRuns = true) (hcold : s.ndezo.dawn = .cold) (hfcs : f.fcsOk = false) :
    s.coldFrame port f = s.yieldCold 0 ∨ ∃ g, s.coldFrame port f = (s.yieldCold 0).countPort port g := by
  have hheard : s.heardFrame port true = s.yieldCold 0 := by
    unfold State.heardFrame
    rw [hruns, hcold]
    rfl
  obtain ⟨N, A, hyield, hdawn, -⟩ := yieldCold_listens s 0
  have hlisten : (s.yieldCold 0).ndezo.dawn = .listen := by rw [hyield]; exact hdawn
  unfold State.coldFrame
  simp only [hfcs, Bool.not_false, Bool.true_or, hheard]
  split
  · exact Or.inl rfl
  · refine Or.inr ⟨(checkWhole 64 f.head false f.cut).count, ?_⟩
    rw [takesFrame_outside (by rw [hlisten]; rfl)]
    refine if_neg ?_
    show ¬((s.yieldCold 0).ndezo.dawn == .cold && _ && _) = true
    rw [hlisten]
    exact Bool.false_ne_true

/-- A whole COLD frame of a lower ID, or any broken one, makes a cold-starting module yield; a whole one of a higher ID only counts (R294). -/
theorem coldFrame_yields {s : State} {port : Nat} {f : SyncFrame} (hruns : s.ndezoRuns = true) (hcold : s.ndezo.dawn = .cold)
    (hport : isNdezoPort s.identity.part port = true)
    (h : f.fcsOk = false ∨ (f.fcsOk = true ∧ f.cut = false ∧ WholeHead f.head 64 ∧ f.polestar < s.node)) :
    ∃ (N : Ndezo) (A : Almanac), s.coldFrame port f = { s with ndezo := N, almanac := A } ∧ N.dawn = .listen ∧ N.listenSince = s.now ∧
      N.coldYields = s.ndezo.coldYields + 1 := by
  rcases h with hfcs | ⟨hfcs, hcut, hwhole, hlower⟩
  · obtain ⟨N, A, hyield, hdawn, hsince, hyields⟩ := yieldCold_listens s 0
    rcases coldFrame_broken (port := port) hruns hcold hfcs with hgo | ⟨g, hgo⟩
    · exact ⟨N, A, hgo.trans hyield, hdawn, hsince, hyields⟩
    · rw [hyield] at hgo
      exact ⟨_, A, hgo, hdawn, hsince, hyields⟩
  · rw [coldFrame_whole hruns hcold hport hfcs hcut hwhole, if_pos hlower]
    obtain ⟨N, A, hyield, hdawn, hsince, hyields⟩ := yieldCold_listens (s.countPort port PortCounters.received) f.polestar
    exact ⟨N, A, hyield, hdawn, hsince, hyields⟩

/-- Settles O31, frame by frame. Choices of the model that it rests on are log entries 119 (checks 3 to 5 alone judge a time frame in the sync
window), 139 (a copy with HOPS 16 goes no further), 141 (half a ns is rounded up) and 33 (the median of the lanes' corrections moves the clock). -/
theorem timeFramesOfADomain : Obligations.TimeFramesOfADomain := by
  intro t port s hruns whole inTime
  have hwhole : ∀ {h : FrameHead} {n : Nat}, whole h n → WholeHead h n := fun ⟨hlen, hversion, hreserved, hfield⟩ => ⟨hlen, hversion, hreserved, hfield⟩
  refine ⟨fun hjoined hchange hlate hnew => ⟨fun hstart => ?_, fun hno => ?_⟩, fun hjoined hpolestar hfree hchange hrequest hdue => ?_,
    fun hpolestar => ?_, fun hjoined hactive hbanned f hlen hin => ⟨fun hfcs hhead hsource => ?_, fun hfcs hhead hsource => ?_, fun hfcs => ?_⟩,
    fun hdelay => ⟨fun hsilent => ?_, fun hshort => ?_⟩,
    fun hjoined hpolestar htaken hfirst hactive hbanned f d hfcs hcut hhead hin hsame hother hchange hdelay => ?_,
    fun hcold hport f => ?_⟩
  · obtain ⟨N, L, l, heq, hcycle, hnumber, hdawn, hheard, hmissed, hlength, hframes, hstreams⟩ :=
      cycleBegin_joined (s := s.tick t) hruns hjoined hchange hstart hnew
    rw [heq] at hlength hframes
    exact ⟨_, l, run_next (f := fun u => u.cycleBegin t) heq rfl rfl, hcycle, hnumber, hdawn, hheard, hmissed, rfl, hlength, hframes, hstreams⟩
  · exact run_idle (f := fun u => u.cycleBegin t) (if_neg (by
      have : ¬ t % (s.tick t).domainCycle = 0 := hno
      simp [this]))
  · exact ⟨_, (s.tick t).syncOut, run_next (syncSend_sends (s := s.tick t) hruns hjoined hpolestar hfree hchange hrequest hdue) rfl rfl, rfl, rfl,
      rfl, rfl, rfl, rfl, rfl, rfl, ⟨rfl, rfl, rfl, rfl⟩, rfl⟩
  · exact run_idle (if_neg (by simp [hpolestar]))
  · obtain ⟨P, hP, hothers, hkept⟩ := linkFrame_kept (s := s.tick t) hruns hjoined hactive hbanned hin hfcs (hwhole hhead) hsource
    rw [hP] at hothers hkept
    refine ⟨_, run_next (f := fun u => u.linkFrame port f) hP rfl rfl, ?_, ?_, fun q hprev hrx hcycle htx => ?_, ?_, hothers, rfl⟩
    · exact congrArg Port.lastRx hkept
    · exact congrArg Port.missed hkept
    · have hmeasure := measure_completes (p := { s.port port with counters := (s.port port).counters.received }) hprev hrx hcycle htx
      refine (congrArg Port.delay hkept).trans ?_
      show (match Port.measure { s.port port with counters := (s.port port).counters.received } f s.ndezo.cycle64 with
        | some d => some d
        | none => (s.port port).delay) = _
      rw [hmeasure]
    · exact congrArg Port.counters hkept
  · obtain ⟨N, A, hA, hdawn, hleft⟩ := linkFrame_duplicate (s := s.tick t) hruns hjoined hactive hbanned hin hfcs (hwhole hhead) hsource
    exact ⟨_, run_next (f := fun u => u.linkFrame port f) hA rfl rfl, hdawn, hleft, rfl⟩
  · exact ⟨_, run_next (f := fun u => u.linkFrame port f) (linkFrame_fcs (s := s.tick t) hruns hjoined hactive hbanned hin hfcs hlen) rfl rfl,
      countPort_port (s.tick t) port _, fun p hp => countPort_port_other (s.tick t) _ hp, rfl⟩
  · obtain ⟨P, A, hA, hport, hothers⟩ := delayUnknown_forgets (s := s.tick t) hruns hdelay hsilent
    rw [hA] at hport hothers
    exact ⟨_, run_next (f := fun u => u.delayUnknown port) hA rfl rfl, hport, hothers, rfl⟩
  · exact run_idle (f := fun u => u.delayUnknown port) (if_neg (by
      have : ¬ 16 ≤ ((s.tick t).port port).silent := Nat.not_le.2 hshort
      simp [this]))
  · obtain ⟨N, L, m, hgo, htheta, hparent, hstratum, hheard, hmissed, hlow, hhigh, hlanes⟩ :=
      syncFrame_follows (s := s.tick t) hruns hjoined hactive hbanned hpolestar htaken hfirst hfcs hcut (hwhole hhead) hin hsame hother hchange hdelay
    exact ⟨_, m, runTimed_next (f := fun u => u.syncFrame port f) hgo rfl, htheta, hparent, hstratum, hheard, hmissed, hlow, hhigh, hlanes, rfl, rfl,
      rfl⟩
  · intro yields
    have hyields := coldFrame_yields (s := s.tick t) (port := port) (f := f) hruns hcold hport
    have hlistens : (∃ (N : Ndezo) (A : Almanac), (s.tick t).coldFrame port f = { s.tick t with ndezo := N, almanac := A } ∧ N.dawn = .listen ∧
        N.listenSince = max s.now t ∧ N.coldYields = s.ndezo.coldYields + 1) → yields := fun ⟨N, A, hgo, hdawn, hsince, hcount⟩ =>
      ⟨_, run_next (f := fun u => u.coldFrame port f) hgo rfl rfl, hdawn, hsince, hcount, rfl⟩
    refine ⟨fun hfcs hcut hhead => ⟨fun hlower => hlistens (hyields (Or.inr ⟨hfcs, hcut, hwhole hhead, hlower⟩)), fun hhigher => ?_⟩,
      fun hfcs => hlistens (hyields (Or.inl hfcs))⟩
    have hgo := coldFrame_whole (s := s.tick t) (port := port) hruns hcold hport hfcs hcut (hwhole hhead)
    have hkeeps := hgo.trans (if_neg (Nat.not_lt.2 hhigher))
    exact ⟨_, run_next (f := fun u => u.coldFrame port f) hkeeps rfl rfl, rfl⟩

end Sys2Proof.Machine
end

section
/-! # Data frames in their window (R276, R277, R279, R280, R308, R311) -/

namespace Sys2Proof.Machine

/-! ## Three voting lanes -/

/-- A change of each lane in turn. -/
theorem foldl_modLane_all (s : State) (g : LaneId → Lane → Lane) :
    allLanes.foldl (fun u i => u.modLane i (g i)) s = { s with lanes := s.lanes.mapI g } := rfl

section
variable {s : State} (hmode : ∀ i, (s.lane i).mode = .voting)
include hmode

theorem voting_all : s.voting = allLanes := List.filter_eq_self.2 (fun i _ => decide_eq_true (hmode i))

theorem unexcluded_all : s.unexcluded = allLanes := List.filter_eq_self.2 (fun i _ => by simp [hmode i])

theorem verdictLanes_all (i : LaneId) : s.verdictLanes i = allLanes.filter (· != i) := by
  unfold State.verdictLanes
  rw [unexcluded_all hmode]

end

/-- A lane that still waits for a verdict on each of its telegrams decides none. -/
theorem decideReady_waits {s : State} {i : LaneId} (h : ∀ r ∈ (s.lane i).inputs.rxPending, ∃ j ∈ s.verdictLanes i, r.others.get j = none) :
    s.decideReady i = s := by
  have hnone : (s.lane i).inputs.rxPending.filter (fun r => (s.verdictLanes i).all (fun j => (r.others.get j).isSome)) = [] := by
    refine List.filter_eq_nil_iff.2 (fun r hr hall => ?_)
    obtain ⟨j, hj, hopen⟩ := h r hr
    have hsome := List.all_eq_true.1 hall j hj
    rw [hopen] at hsome
    cases hsome
  unfold State.decideReady
  rw [hnone]
  rfl

/-! ## A frame that reaches check 6 (R308, R311) -/

/-- A DATA frame that lane `i` of three has taken in: it waits for the verdicts of the others. -/
def State.awaits (s : State) (port k : Nat) (f : NdFrame) (x : Slot) (i : LaneId) : RxPending :=
  let found := rxFound allLanes (frameMatches f (s.rxFold x)).1 (frameMatches f (s.rxFold x)).2 f.rx
  { host := false, port := port, stream := x.stream, lastBit := s.now, frame := f, own := found i,
    sent := { a := some (found .A), b := some (found .B), c := some (found .C) }, others := Lanes3 none, offsetNs := frameFrom f x, late := false, slot := k, logged := false }

/-- What such a lane is then: its check unit has counted, and it waits where it votes. -/
def State.takesUp (s : State) (port k : Nat) (f : NdFrame) (x : Slot) (i : LaneId) (l : Lane) : Lane :=
  { l with inputs := { l.inputs.bump (rxUnit k x.stream) (s.awaits port k f x i).own with
    rxPending := if l.mode = LaneMode.voting then l.inputs.rxPending ++ [s.awaits port k f x i] else l.inputs.rxPending } }

theorem openFrame_waits {s : State} (port k : Nat) (f : NdFrame) (x : Slot)
    (hready : ∀ i, (s.lane i).mode = .voting ∧ (s.lane i).held = false ∧ (s.lane i).inputs.rxPending = []) :
    ∃ L : Lanes Lane, s.openFrame port k f x = { s with lanes := L } ∧ ∀ i, (L.get i).inputs.rxPending = [s.awaits port k f x i] := by
  have hmode := fun i => (hready i).1
  have hheard : ∀ i, s.silentLane i = false := fun i => silent_none (hready i).2.1
  let u : State := { s with lanes := s.lanes.mapI (s.takesUp port k f x) }
  have hlane : ∀ i, u.lane i = s.takesUp port k f x i (s.lane i) := fun i => Lanes.get_mapI s.lanes _ i
  have htaken : ∀ i, (u.lane i).inputs.rxPending = [s.awaits port k f x i] := fun i => by
    rw [hlane]
    simp only [State.takesUp, hmode i, (hready i).2.2, if_true, List.nil_append]
  have hwaits : ∀ i, u.decideReady i = u := fun i => by
    refine decideReady_waits (fun r hr => ?_)
    rw [htaken, List.mem_singleton] at hr
    rw [hr, verdictLanes_all (fun j => by rw [hlane]; exact hmode j)]
    cases i
    · exact ⟨.B, by decide, rfl⟩
    · exact ⟨.A, by decide, rfl⟩
    · exact ⟨.A, by decide, rfl⟩
  refine ⟨u.lanes, ?_, htaken⟩
  unfold State.openFrame
  simp only [unexcluded_all hmode, voting_all hmode, hheard, Bool.not_false, Bool.and_true, Bool.false_eq_true, if_false]
  exact (congrArg (allLanes.foldl State.decideReady) (foldl_modLane_all s (s.takesUp port k f x))).trans (List.foldl_fixed' hwaits _)

/-! ## Checks 1 to 5 of Table 7.7 -/

/-- A check that fails, or one of a frame without check 6, counts on its port and leaves the other ports. -/
theorem judged_counts (s : State) (port : Nat) (r : FrameCheck) : ∃ N : Ndezo, s.judged port r = { s with ndezo := N } ∧
    ((s.judged port r).port port).counters = r.count (s.port port).counters ∧ ∀ p, p ≠ port → (s.judged port r).port p = s.port p := by
  have hjudged : (∃ N : Ndezo, s.judged port r = { s with ndezo := N }) ∧ (s.judged port r).ndezo.ports = (s.countPort port r.count).ndezo.ports := by
    unfold State.judged
    cases r.spoils <;> exact ⟨⟨_, rfl⟩, rfl⟩
  obtain ⟨⟨N, hN⟩, hports⟩ := hjudged
  have hport : ∀ p, (s.judged port r).port p = (s.countPort port r.count).port p := fun p => by
    unfold State.port
    rw [hports]
  refine ⟨N, hN, ?_, fun p hp => ?_⟩
  · rw [hport, countPort_port]
  · rw [hport, countPort_port_other s _ hp]

/-- A failed check of a frame has counted by the rule `g`, and done no more. -/
def State.Counted (s : State) (o : Host.Outcome State Fault Refusal) (port : Nat) (g : PortCounters → PortCounters) : Prop :=
  ∃ u, o = .next u ∧ (u.port port).counters = g (s.port port).counters ∧ (∀ p, p ≠ port → u.port p = s.port p) ∧
    u = { s with now := u.now, ndezo := u.ndezo }

theorem inWindow_iff {d : Int} : inWindow d = true ↔ -250 ≤ d ∧ d < 250 := by simp [inWindow]

theorem nearWindow_iff {d : Int} : nearWindow d = true ↔ -500 ≤ d ∧ d < 500 := by simp [nearWindow]

section
variable {t port k : Nat} {x : Slot} {f : NdFrame} {s : State} (hruns : s.ndezoRuns = true) (hjoined : s.ndezo.dawn = .joined)
  (hactive : s.portActive port = true) (hslots : s.portSlots port = [(k, x)])

section
include hslots

theorem checkFrame_missed (hin : inWindow (frameFrom f x) = false) (hsync : s.inSync f.offset = false) :
    s.checkFrame port f = if nearWindow (frameFrom f x) then (if f.offset < Int.ofNat x.start then .early else .late) else .stray := by
  unfold State.checkFrame missedWindow
  simp only [hsync, hslots, Bool.false_eq_true, if_false, List.find?_cons, List.find?_nil, hin]
  unfold frameFrom
  cases nearWindow (f.offset - Int.ofNat x.start) <;> rfl

theorem checkFrame_stray (hsync : s.inSync f.offset = false) (hfar : frameFrom f x < -500 ∨ 500 ≤ frameFrom f x) :
    s.checkFrame port f = .stray := by
  rw [checkFrame_missed hslots (Bool.eq_false_iff.2 (fun h => ?_)) hsync, if_neg (fun h => ?_)]
  · rw [nearWindow_iff] at h
    omega
  · rw [inWindow_iff] at h
    omega

theorem checkFrame_early (hsync : s.inSync f.offset = false) (hlow : -500 ≤ frameFrom f x) (hhigh : frameFrom f x < -250) :
    s.checkFrame port f = .early := by
  rw [checkFrame_missed hslots (Bool.eq_false_iff.2 (fun h => ?_)) hsync, if_pos (nearWindow_iff.2 (by omega)), if_pos]
  · unfold frameFrom at hhigh
    omega
  · rw [inWindow_iff] at h
    omega

theorem checkFrame_late (hsync : s.inSync f.offset = false) (hlow : 250 ≤ frameFrom f x) (hhigh : frameFrom f x < 500) :
    s.checkFrame port f = .late := by
  rw [checkFrame_missed hslots (Bool.eq_false_iff.2 (fun h => ?_)) hsync, if_pos (nearWindow_iff.2 (by omega)), if_neg]
  · unfold frameFrom at hlow
    omega
  · rw [inWindow_iff] at h
    omega

theorem checkFrame_met (hin : inWindow (frameFrom f x) = true) (hsync : s.inSync f.offset = false) : s.checkFrame port f =
    if f.cut || decide (f.length < x.frameLen) then .trunc
    else if f.length ≠ x.frameLen ∨ f.fcsOk = false then .fcs
    else if s.headerOk f x && !f.reserved then .passes k x else .header := by
  unfold State.checkFrame
  simp only [hsync, hslots, Bool.false_eq_true, if_false, List.find?_cons, hin]

end

theorem headerOk_fields (h : s.headerOk f x = true) : f.version = 1 ∧ f.constNo = s.headerTag.1 ∧ f.constTag = s.headerTag.2 ∧
    f.cycle = s.ndezo.cycle64 % 2 ^ 32 := by
  simp only [State.headerOk, Bool.and_eq_true, beq_iff_eq] at h
  obtain ⟨⟨⟨⟨⟨hversion, -⟩, hno⟩, htag⟩, -⟩, hcycle⟩ := h
  exact ⟨hversion, hno, htag, hcycle⟩

theorem checkFrame_inSync (hsync : s.inSync f.offset = true) :
    s.checkFrame port f = if f.cut then .trunc else if f.fcsOk then .header else .fcs := if_pos hsync

include hruns hjoined hactive

theorem dataFrame_fails {r : FrameCheck} (hr : s.checkFrame port f = r) (hfails : ∀ k x, r ≠ .passes k x) : s.dataFrame port f = s.judged port r := by
  have hfollows : s.ndezo.dawn.follows = true := by rw [hjoined]; rfl
  unfold State.dataFrame
  simp only [heardFrame_follows hfollows, hr]
  refine (if_neg (by simp [hruns, hactive, hfollows])).trans ?_
  cases r with
  | passes k x => exact absurd rfl (hfails k x)
  | _ => rfl

theorem dataFrame_passes (hr : s.checkFrame port f = .passes k x) : s.dataFrame port f =
    if x.receives then (s.judged port (.passes k x)).openFrame port k f x
    else (s.judged port (.passes k x)).frameOk allLanes port (frameFrom f x) := by
  have hfollows : s.ndezo.dawn.follows = true := by rw [hjoined]; rfl
  unfold State.dataFrame
  simp only [heardFrame_follows hfollows, hr]
  exact if_neg (by simp [hruns, hactive, hfollows])

theorem dataFrame_counted {r : FrameCheck} (hr : s.checkFrame port f = r) (hfails : ∀ k x, r ≠ .passes k x) :
    s.Counted (exec (.dataFrame t port f) s) port r.count := by
  have hjudged := dataFrame_fails (s := s.tick t) hruns hjoined hactive hr hfails
  obtain ⟨N, hN, hcounts, hothers⟩ := judged_counts (s.tick t) port r
  rw [hN] at hcounts hothers
  exact ⟨_, run_next (f := fun u => u.dataFrame port f) (hjudged.trans hN) rfl rfl, hcounts, hothers, rfl⟩

/-- A frame that passes checks 1 to 5 at an entry that receives waits in every lane for check 6. -/
theorem dataFrame_received (hr : s.checkFrame port f = .passes k x) (hreceives : x.receives = true)
    (hready : ∀ i, (s.lane i).mode = .voting ∧ (s.lane i).held = false ∧ (s.lane i).inputs.rxPending = []) :
    ∃ (N : Ndezo) (L : Lanes Lane), s.dataFrame port f = { s with ndezo := N, lanes := L } ∧ ∀ i, (L.get i).inputs.rxPending = [s.awaits port k f x i] := by
  have hopen : s.dataFrame port f = (s.judged port (.passes k x)).openFrame port k f x :=
    (dataFrame_passes hruns hjoined hactive hr).trans (if_pos hreceives)
  obtain ⟨L, hL, hwaits⟩ := openFrame_waits (s := s.judged port (.passes k x)) port k f x hready
  exact ⟨_, L, hopen.trans hL, hwaits⟩

/-- One that the module only forwards has passed its last check (log entry 122). -/
theorem dataFrame_forwardOnly (hr : s.checkFrame port f = .passes k x) (hreceives : x.receives = false) :
    ∃ N : Ndezo, s.dataFrame port f = { s with ndezo := N } ∧
      (∀ i, ((s.dataFrame port f).port port).countersOf i = { (s.port port).countersOf i with
        rxOk := ((s.port port).countersOf i).rxOk + 1
        edge := ((s.port port).countersOf i).edge + (if 200 ≤ (frameFrom f x).natAbs then 1 else 0) }) ∧
      ∀ p, p ≠ port → (s.dataFrame port f).port p = s.port p := by
  let v := s.judged port (.passes k x)
  have hok : s.dataFrame port f = v.frameOk allLanes port (frameFrom f x) :=
    (dataFrame_passes hruns hjoined hactive hr).trans (if_neg (by rw [hreceives]; decide))
  have hv : v.port port = s.port port := countPort_port s port _
  have hdawn : v.ndezo.dawn = .joined := hjoined
  rw [hok]
  refine ⟨_, rfl, fun i => ?_, fun p hp => ?_⟩
  · unfold State.frameOk State.countDecided
    rw [modPort_port v port (port_number v port), hv]
    have hmem : allLanes.contains i = true := by cases i <;> rfl
    simp only [Port.countersOf, Lanes.get_mapI, hmem, hdawn, true_and, inc, if_true]
    split <;> simp [add_assoc]
  · exact (modPort_port_other v (port_number v port) hp).trans (countPort_port_other s _ hp)

end

/-! ## Forwarding (R279, R280) -/

section
variable {t port k : Nat} {x : Slot} {f : NdFrame} {s : State} (hruns : s.ndezoRuns = true) (hjoined : s.ndezo.dawn = .joined)
  (hactive : s.portActive port = true) (hslots : s.portSlots port = [(k, x)]) (hforwards : x.forwards = true)
  (hin : inWindow (frameFrom f x) = true) (hknown : s.outcomeKnown = true)

/-- One more frame forwarded, whole or with an inverted FCS. -/
def PortCounters.forwarded (stomp : Bool) (c : PortCounters) : PortCounters :=
  if stomp then { c with fwdStomp := inc c.fwdStomp } else { c with fwd := inc c.fwd }

/-- The module after the frames of a forward entry have left. -/
def State.forwarded (s : State) (port k : Nat) (x : Slot) (f : NdFrame) (stomp : Bool) : State :=
  let s1 := s.countPort port (PortCounters.forwarded stomp)
  { s1 with sent := s1.sent ++ ((s.outPorts x).filter (fun n => (s.sender n).isSome)).map (fun n => Tx.forwarded n k f stomp) }

include hslots hforwards hin in
theorem forwardEntry_found : s.slots.find? (fun y => y.2.forwards && y.2.inPort == port && inWindow (frameFrom f y.2)) = some (k, x) := by
  have hfilter := List.find?_filter (xs := s.slots) (p := fun y => (y.2.receives || y.2.forwards) && y.2.inPort == port)
    (q := fun y => y.2.forwards && inWindow (frameFrom f y.2))
  unfold State.portSlots at hslots
  rw [hslots, List.find?_cons, hforwards, hin] at hfilter
  refine Eq.trans (congrArg (fun p => s.slots.find? p) (funext fun y => ?_)) hfilter.symm
  cases y.2.forwards <;> simp [beq_eq_decide]

include hruns hjoined hactive hslots hforwards hin hknown

theorem forwardFrame_meets : s.forwardFrame port f =
    if !s.headerOk f x || (f.cut && decide (f.length < 30)) then s.countPort port (fun c => { c with fwdDrop := inc c.fwdDrop })
    else s.forwarded port k x f (f.cut || f.length != x.frameLen || !f.fcsOk) := by
  unfold State.forwardFrame
  rw [if_neg (by simp [hruns, hjoined, hactive]), forwardEntry_found hslots hforwards hin]
  simp only [hknown, Bool.not_true, Bool.false_or, foldl_send]
  rfl

theorem forward_drops (hbad : s.headerOk f x = false ∨ (f.cut = true ∧ f.length < 30)) :
    s.Counted (exec (.forward t port f) s) port (fun c => { c with fwdDrop := c.fwdDrop + 1 }) := by
  have hdrop : (s.tick t).forwardFrame port f = (s.tick t).countPort port (fun c => { c with fwdDrop := inc c.fwdDrop }) := by
    rw [forwardFrame_meets (s := s.tick t) hruns hjoined hactive hslots hforwards hin hknown]
    refine if_pos ?_
    rcases hbad with hhead | ⟨hcut, hshort⟩
    · simp [show (s.tick t).headerOk f x = false from hhead]
    · simp [hcut, hshort]
  exact ⟨_, run_next (f := fun u => u.forwardFrame port f) hdrop rfl rfl, congrArg Port.counters (countPort_port (s.tick t) port _),
    fun p hp => countPort_port_other (s.tick t) _ hp, rfl⟩

theorem forward_sends (hhead : s.headerOk f x = true) (hlong : f.cut = true → 30 ≤ f.length) {stomp : Bool}
    (hstomp : (f.cut || f.length != x.frameLen || !f.fcsOk) = stomp) : ∃ u, exec (.forward t port f) s = .next u ∧
      u.sent = s.sent ++ ((s.outPorts x).filter (fun n => (s.sender n).isSome)).map (fun n => Tx.forwarded n k f stomp) ∧
      (u.port port).counters = (s.port port).counters.forwarded stomp ∧ u = { s with now := u.now, ndezo := u.ndezo, sent := u.sent } := by
  have hsends : (s.tick t).forwardFrame port f = (s.tick t).forwarded port k x f stomp := by
    rw [forwardFrame_meets (s := s.tick t) hruns hjoined hactive hslots hforwards hin hknown, hstomp]
    refine if_neg ?_
    rw [show (s.tick t).headerOk f x = true from hhead]
    cases hcut : f.cut with
    | false => simp
    | true => simpa using hlong hcut
  refine ⟨_, run_next (f := fun u => u.forwardFrame port f) hsends rfl rfl, rfl, ?_, rfl⟩
  exact congrArg Port.counters (countPort_port (s.tick t) port (PortCounters.forwarded stomp))

end

/-- Settles O32: a port with one entry judges a DATA frame by the checks of Table 7.7 against that entry alone. A frame in the sync window fails
check 5 (log entry 119), and one that is only forwarded counts RX_OK at check 5 (log entry 122). -/
theorem dataFramesMeetTheirWindow : Obligations.DataFramesMeetTheirWindow := by
  unfold Obligations.DataFramesMeetTheirWindow
  intro t port k x f s hruns hjoined hactive hslots
  have hcounted := fun r => dataFrame_counted (t := t) (f := f) (r := r) hruns hjoined hactive
  intro d counts
  refine ⟨fun hsync => ⟨fun hfar => ?_, fun hlow hhigh => ?_, fun hlow hhigh => ?_⟩,
    fun hsync => ⟨fun hcut => ?_, fun hcut hfcs => ?_, fun hcut hfcs => ?_⟩, fun hlow hhigh hsync => ?_, fun hlow hhigh => ?_⟩
  · exact hcounted .stray (checkFrame_stray hslots hsync hfar) nofun
  · exact hcounted .early (checkFrame_early hslots hsync hlow hhigh) nofun
  · exact hcounted .late (checkFrame_late hslots hsync hlow hhigh) nofun
  · exact hcounted .trunc (by rw [checkFrame_inSync hsync, hcut]; rfl) nofun
  · exact hcounted .fcs (by rw [checkFrame_inSync hsync, hcut, hfcs]; rfl) nofun
  · exact hcounted .header (by rw [checkFrame_inSync hsync, hcut, hfcs]; rfl) nofun
  · have hmet := checkFrame_met hslots (inWindow_iff.2 ⟨hlow, hhigh⟩) hsync
    refine ⟨fun hshort => ?_, fun hcut hwrong => ?_, fun hcut hlength hfcs => ?_⟩
    · exact hcounted .trunc (hmet.trans (if_pos (by simpa using hshort))) nofun
    · refine hcounted .fcs (hmet.trans ((if_neg ?_).trans (if_pos ?_))) nofun
      · rw [hcut, Bool.false_or, decide_eq_true_eq]
        omega
      · exact hwrong.imp (fun h => (Nat.ne_of_lt h).symm) And.right
    · have hwhole : s.checkFrame port f = if s.headerOk f x && !f.reserved then .passes k x else .header := by
        rw [hmet, hcut, hlength, hfcs]
        simp
      refine ⟨fun hbad => ?_, fun hhead hreserved hreceives hready => ?_, fun hhead hreserved hreceives => ?_⟩
      · refine hcounted .header (hwhole.trans (if_neg (fun h => ?_))) nofun
        obtain ⟨hhead, hreserved⟩ := Bool.and_eq_true_iff.1 h
        obtain ⟨hversion, hno, htag, hcycle⟩ := headerOk_fields hhead
        rw [Bool.not_eq_true'] at hreserved
        rcases hbad with h | h | h | h | h
        · exact h hversion
        · rw [hreserved] at h
          cases h
        · exact h hno
        · exact h htag
        · exact h hcycle
      · obtain ⟨N, L, hL, hwaits⟩ := dataFrame_received (s := s.tick t) (port := port) (f := f) hruns hjoined hactive
          (hwhole.trans (if_pos (by rw [hhead, hreserved]; rfl))) hreceives hready
        refine ⟨_, run_next (f := fun u => u.dataFrame port f) hL rfl rfl, fun i => ⟨_, hwaits i, rfl, rfl, rfl, rfl, rfl, rfl, rfl, fun j => ?_⟩, rfl⟩
        cases j <;> exact ⟨rfl, rfl⟩
      · obtain ⟨N, hN, hcounters, hothers⟩ := dataFrame_forwardOnly (s := s.tick t) (port := port) (f := f) hruns hjoined hactive
          (hwhole.trans (if_pos (by rw [hhead, hreserved]; rfl))) hreceives
        rw [hN] at hcounters hothers
        exact ⟨_, run_next (f := fun u => u.dataFrame port f) hN rfl rfl, hcounters, hothers, rfl⟩
  · intro ports hforwards hknown
    have hin : inWindow (frameFrom f x) = true := inWindow_iff.2 ⟨hlow, hhigh⟩
    have hsends := fun hhead hlong stomp => forward_sends (t := t) hruns hjoined hactive hslots hforwards hin hknown hhead hlong (stomp := stomp)
    refine ⟨fun hhead hcut hlength hfcs => ?_, fun hhead hbroken => ?_, forward_drops hruns hjoined hactive hslots hforwards hin hknown⟩
    · exact hsends hhead (by simp [hcut]) false (by simp [hcut, hlength, hfcs])
    · refine hsends hhead (fun hcut => ?_) true ?_
      · rcases hbroken with ⟨-, hlong⟩ | ⟨hwhole, -⟩
        · exact hlong
        · rw [hcut] at hwhole
          cases hwhole
      · rcases hbroken with ⟨hcut, -⟩ | ⟨hcut, hlength | hfcs⟩
        · simp [hcut]
        · simp [hlength]
        · simp [hfcs]

end Sys2Proof.Machine
end

section
/-! # The receive decision of the lanes (R282, R283, R311, Table 8.6) -/

namespace Sys2Proof.Machine

/-! ## The intake of a payload in one lane -/

/-- A step in lane `i` that leaves the other lanes, the telegrams that wait and the streams alone. -/
structure TakesIn (i : LaneId) (s u : State) : Prop where
  others : ∀ j, j ≠ i → u.lane j = s.lane j
  waiting : (u.lane i).inputs.rxPending = (s.lane i).inputs.rxPending
  streams : (u.lane i).inputs.streams = (s.lane i).inputs.streams

theorem TakesIn.trans {i : LaneId} {s u v : State} (h : TakesIn i s u) (g : TakesIn i u v) : TakesIn i s v :=
  ⟨fun j hj => (g.others j hj).trans (h.others j hj), g.waiting.trans h.waiting, g.streams.trans h.streams⟩

theorem takesIn_modLane {i : LaneId} {s : State} {f : Lane → Lane}
    (hf : (f (s.lane i)).inputs.rxPending = (s.lane i).inputs.rxPending ∧ (f (s.lane i)).inputs.streams = (s.lane i).inputs.streams) :
    TakesIn i s (s.modLane i f) := by
  obtain ⟨hwaiting, hstreams⟩ := hf
  refine ⟨fun j hj => modLane_lane_other s f hj, ?_, ?_⟩
  · rw [modLane_lane_same, hwaiting]
  · rw [modLane_lane_same, hstreams]

theorem takesIn_pendAll (s : State) (i : LaneId) (t : Nat) (fs : List Force) : TakesIn i s (s.modLane i (fun l => l.pendAll t fs)) := by
  obtain ⟨F, hF⟩ := pendAll_keeps (s.lane i) t fs
  exact takesIn_modLane (by rw [hF]; exact ⟨rfl, rfl⟩)

theorem takesIn_reevaluate (s : State) (i : LaneId) (new : List (Nat × Nat)) : TakesIn i s (s.reevaluate i new) := by
  unfold State.reevaluate
  simp only []
  split
  · exact ⟨fun _ _ => rfl, rfl, rfl⟩
  · exact takesIn_pendAll s i _ _

theorem takesIn_payloadIn (s : State) (i : LaneId) (id : Nat) (new : BitVec 8192) (stamp : Nat) : TakesIn i s (s.payloadIn i id new stamp) := by
  unfold State.payloadIn
  extract_lets m x old ch s1 s2 mapped seen
  have h1 : TakesIn i s s1 := by
    obtain ⟨F, hF⟩ := pendAll_keeps ({ s.lane i with inputs := { (s.lane i).inputs with
      elemStamp := ch.foldl (fun (a : List (Nat × Nat)) (e : Nat × Nat) => assocSet a e.1 stamp) (s.lane i).inputs.elemStamp } }) s.now (remoteDrops m id old new)
    exact takesIn_modLane (by rw [hF]; exact ⟨rfl, rfl⟩)
  have h2 : TakesIn i s s2 := h1.trans (takesIn_reevaluate s1 i ch)
  clear_value s2
  split
  · exact ⟨h2.others, h2.waiting, h2.streams⟩
  · exact h2

/-! ## The decision (Table 8.6) -/

theorem judgeResults_ok {l : List (LaneId × (CheckResult × CheckResult))} :
    (judgeResults l).ok = true ↔ ∀ x ∈ l, x.2.1 ≠ .fail ∧ x.2.2 ≠ .fail := by
  simp only [judgeResults, reported, Bool.and_eq_true, List.isEmpty_iff, List.map_eq_nil_iff, List.filter_eq_nil_iff, List.forall_mem_map,
    beq_iff_eq, ← forall₂_and]

/-- The module without the telegrams that wait in a lane. -/
def State.cleared (s : State) (i : LaneId) : State := s.modLane i (fun l => { l with inputs := { l.inputs with rxPending := [] } })

/-- The results that a lane holds for a telegram: its own and those that have reached it. -/
def State.inHand (s : State) (i : LaneId) (r : RxPending) : List (LaneId × (CheckResult × CheckResult)) :=
  (i, r.own) :: (s.verdictLanes i).filterMap (fun j => (r.others.get j).map (fun x => (j, x)))

section
variable {s : State} {i : LaneId} {r : RxPending} (hpending : (s.lane i).inputs.rxPending = [r])
include hpending

theorem decideFrame_clears : s.decideFrame i r =
    let missing := (s.verdictLanes i).filter (fun j => (r.others.get j).isNone)
    if missing.isEmpty && (judgeResults (s.inHand i r)).ok then (s.cleared i).acceptFrame i r
    else (s.cleared i).rejectFrame i r
      (if missing.isEmpty then judgeResults (s.inHand i r) else { ok := false, pFail := [], qFail := [], charged := [] }) missing := by
  have hcleared : s.modLane i (fun l => { l with inputs := { l.inputs with rxPending := l.inputs.rxPending.filter (· != r) } }) = s.cleared i := by
    unfold State.cleared State.modLane
    simp only [hpending, bne_self_eq_false, List.filter_cons_of_neg, List.filter_nil, Bool.false_eq_true, not_false_eq_true]
  unfold State.decideFrame
  rw [hcleared]
  rfl

theorem decideFrame_accepts (hall : ∀ j ∈ s.verdictLanes i, (r.others.get j).isSome = true) (hok : (judgeResults (s.inHand i r)).ok = true) :
    s.decideFrame i r = (s.cleared i).acceptFrame i r := by
  have hmissing : (s.verdictLanes i).filter (fun j => (r.others.get j).isNone) = [] :=
    List.filter_eq_nil_iff.2 (fun j hj => by simpa [Option.isSome_iff_ne_none] using hall j hj)
  rw [decideFrame_clears hpending, hmissing, hok]
  rfl

theorem decideFrame_rejects (hall : ∀ j ∈ s.verdictLanes i, (r.others.get j).isSome = true) (hbad : (judgeResults (s.inHand i r)).ok = false) :
    s.decideFrame i r = (s.cleared i).rejectFrame i r (judgeResults (s.inHand i r)) [] := by
  have hmissing : (s.verdictLanes i).filter (fun j => (r.others.get j).isNone) = [] :=
    List.filter_eq_nil_iff.2 (fun j hj => by simpa [Option.isSome_iff_ne_none] using hall j hj)
  rw [decideFrame_clears hpending, hmissing, hbad]
  rfl

theorem decideFrame_misses {j : LaneId} (hmissing : (s.verdictLanes i).filter (fun j => (r.others.get j).isNone) = [j]) :
    s.decideFrame i r = (s.cleared i).rejectFrame i r { ok := false, pFail := [], qFail := [], charged := [] } [j] := by
  rw [decideFrame_clears hpending, hmissing]
  rfl

end

section
variable {s : State} (hmode : ∀ i, (s.lane i).mode = .voting)
include hmode

/-- Without a lane in SHADOW each voting lane takes what it accepts alone. -/
theorem followers_all (i : LaneId) : s.followers i = [i] := by
  have hshadow : allLanes.filter (fun j => (s.lane j).mode == .shadow) = [] := List.filter_eq_nil_iff.2 (fun j _ => by rw [hmode]; decide)
  unfold State.followers
  rw [hshadow]
  exact ite_self _

theorem cleared_mode (i j : LaneId) : ((s.cleared i).lane j).mode = .voting := by
  unfold State.cleared
  rw [modLane_lane]
  split <;> exact hmode j

end

/-! ## An accepted frame (R282, R283) -/

theorem acceptFrame_fills {s : State} {i : LaneId} {r : RxPending} (hmode : ∀ j, (s.lane j).mode = .voting) (hjoined : s.ndezo.dawn = .joined)
    (hcopies : s.senderCopies r.stream = false) (hfree : ∀ x ∈ (s.lane i).inputs.streams, x.id = r.stream → x.accepted = false) :
    (∀ j, j ≠ i → (s.acceptFrame i r).lane j = s.lane j) ∧ ((s.acceptFrame i r).lane i).inputs.rxPending = (s.lane i).inputs.rxPending ∧
      ((s.acceptFrame i r).lane i).inputs.streams = (s.lane i).inputs.streams.map (fun x =>
        if x.id = r.stream then x.fill (payloadOf r.frame.payload) (s.laneTime i) else x) := by
  let s1 := s.frameOk [i] r.port r.offsetNs
  have hold : s.epochOld r.stream r.frame.epoch = false := by
    unfold State.epochOld
    rw [hcopies]
    rfl
  have hraise : s1.raiseEpoch r.stream r.frame.epoch = s1 := if_neg (by rw [show s1.senderCopies r.stream = false from hcopies]; decide)
  have hdup : (s.lane i).inputs.streams.any (fun x => x.id == r.stream && x.accepted) = false :=
    List.any_eq_false.2 (fun x hx => by simpa using hfree x hx)
  have haccept : s.acceptFrame i r = (s1.payloadIn i r.stream (payloadOf r.frame.payload) (s.laneTime i)).modLane i (fun l =>
      l.modStream r.stream (fun x => x.fill (payloadOf r.frame.payload) (s.laneTime i))) := by
    unfold State.acceptFrame
    simp only [hjoined, hold, hdup, followers_all hmode, ne_eq, not_true_eq_false, if_false, Bool.false_eq_true]
    rw [show s.frameOk [i] r.port r.offsetNs = s1 from rfl, hraise, followers_all (s := s1) hmode]
    rfl
  obtain ⟨hothers, hwaiting, hstreams⟩ := takesIn_payloadIn s1 i r.stream (payloadOf r.frame.payload) (s.laneTime i)
  rw [haccept]
  refine ⟨fun j hj => (modLane_lane_other _ _ hj).trans (hothers j hj), ?_, ?_⟩
  · rw [modLane_lane_same]
    exact hwaiting
  · rw [modLane_lane_same]
    exact congrArg (List.map _) hstreams

/-! ## A rejected frame (R311, R326, R327) -/

/-- A lane whose waiting copies of a telegram have their record. -/
def Lane.hasRecord (l : Lane) (r : RxPending) : Lane := { l with inputs := { l.inputs with
  rxPending := if r.logged then l.inputs.rxPending else l.inputs.rxPending.map (fun y => y.markLogged r) } }

/-- What a lane counts at a rejection: the failed checks, or the verdicts that it missed. -/
def LaneCounters.blames (c : LaneCounters) (i : LaneId) (o : RxOutcome) (missing : List LaneId) : LaneCounters :=
  if missing.isEmpty then c.rejected o i else missing.foldl (fun k j => { k with cwMiss := k.cwMiss.put j (inc (k.cwMiss.get j)) }) c

/-- A stream one of whose frames has been rejected in its slot. -/
def RxStream.rejects (x : RxStream) (o : RxOutcome) : RxStream :=
  { x with check := inc x.check, split := if o.charged.isEmpty then x.split else inc x.split }

/-- The record of a rejection, which the first lane that rejects the telegram makes for all. -/
def State.recordsReject (s : State) (r : RxPending) (o : RxOutcome) (missing : Bool) : State :=
  if r.logged then s else
    (s.checkReject r.port 0 r.stream o missing).mapLanes (fun l =>
      { l with inputs := { l.inputs with rxPending := l.inputs.rxPending.map (fun x => x.markLogged r) } })

theorem recordsReject_lane (s : State) (r : RxPending) (o : RxOutcome) (missing : Bool) (i : LaneId) :
    (s.recordsReject r o missing).lane i = (s.lane i).hasRecord r := by
  unfold State.recordsReject Lane.hasRecord
  cases r.logged
  · exact mapLanes_lane _ _ i
  · rfl

theorem rejectFrame_lanes {s : State} {i : LaneId} {r : RxPending} (hmode : ∀ j, (s.lane j).mode = .voting) (hlate : r.late = false) (o : RxOutcome)
    (missing : List LaneId) : (∀ j, j ≠ i → (s.rejectFrame i r o missing).lane j = (s.lane j).hasRecord r) ∧
      (s.rejectFrame i r o missing).lane i =
        Lane.modStream { (s.lane i).hasRecord r with counters := (s.lane i).counters.blames i o missing } r.stream (fun x => x.rejects o) := by
  let s1 := (s.countDecided (s.followers i) r.port (fun c => { c with check := inc c.check })).recordsReject r o (!missing.isEmpty)
  let s2 := s1.modLane i (fun l => { l with counters := l.counters.blames i o missing })
  have hrecord : ∀ j, s1.lane j = (s.lane j).hasRecord r := recordsReject_lane _ r o _
  have hmode2 : ∀ j, (s2.lane j).mode = .voting := fun j => by
    simp only [s2, modLane_lane, hrecord]
    split <;> exact hmode j
  have hreject : s.rejectFrame i r o missing = s2.modLane i (fun l => l.modStream r.stream (fun x => x.rejects o)) := by
    have hfollow : s.rejectFrame i r o missing = (s2.followers i).foldl (fun u j => u.modLane j (fun l => l.modStream r.stream (fun x =>
        if r.late then (x.rejects o).missCycle else x.rejects o))) s2 := rfl
    rw [hfollow, followers_all hmode2, hlate]
    rfl
  rw [hreject]
  refine ⟨fun j hj => ?_, ?_⟩
  · rw [modLane_lane_other _ _ hj, modLane_lane_other _ _ hj, hrecord]
  · rw [modLane_lane_same, modLane_lane_same, hrecord]
    rfl

/-! ## The verdicts of the other two lanes (R311) -/

/-- A telegram that waits, with the verdict of one more lane. -/
def RxPending.hears (r : RxPending) (j : LaneId) (x : CheckResult × CheckResult) : RxPending := { r with others := r.others.put j (some x) }

/-- A lane with one telegram that waits. -/
def State.waitsFor (s : State) (i : LaneId) (r : RxPending) : State := s.modLane i (fun l => { l with inputs := { l.inputs with rxPending := [r] } })

theorem hears_own (r : RxPending) (j : LaneId) (x : CheckResult × CheckResult) : (r.hears j x).others.get j = some x := Lanes.get_put_same _ _ _

theorem hears_other {r : RxPending} {j k : LaneId} (hkj : k ≠ j) {x v : CheckResult × CheckResult} (hv : r.others.get k = some v) :
    (r.hears j x).others.get k = some v := (Lanes.get_put_other _ _ hkj).trans hv

/-- A check word that brings the verdict of a lane on a telegram, for the first time. -/
structure Brings (z : Word) (w : CheckWord) (src : LaneId) (r : RxPending) : Prop where
  read : readCheck z = some w
  lane : w.lane = src
  msg : w.msg = 0
  host : w.host = false
  port : w.port = r.port
  stream : w.stream = r.stream
  sent : r.sent.get src = some (w.p, w.q)
  first : r.others.get src = none

theorem waitsFor_waits (s : State) (i : LaneId) (r : RxPending) : ((s.waitsFor i r).lane i).inputs.rxPending = [r] :=
  congrArg (fun l => l.inputs.rxPending) (modLane_lane_same s i _)

theorem waitsFor_cleared (s : State) (i : LaneId) (r : RxPending) : (s.waitsFor i r).cleared i = s.cleared i := modLane_modLane s i _ _

theorem waitsFor_mode {s : State} (hmode : ∀ j, (s.lane j).mode = .voting) (i : LaneId) (r : RxPending) (j : LaneId) :
    ((s.waitsFor i r).lane j).mode = .voting := by
  unfold State.waitsFor
  rw [modLane_lane]
  split <;> exact hmode j

section
variable {dst src k : LaneId} (hsrc : dst ≠ src) (hk : k ≠ dst) (hks : k ≠ src)
include hsrc hk hks

/-- Three lanes that differ are all lanes. -/
theorem lane_among (j : LaneId) (hj : j ≠ dst) : j = src ∨ j = k := by
  cases dst <;> cases j <;> grind [cases LaneId]

variable {s : State} (hmode : ∀ i, (s.lane i).mode = .voting) {r : RxPending} {v : CheckResult × CheckResult} (hv : r.others.get k = some v)
include hmode hv

/-- With the verdicts of both, a lane decides on six results. -/
theorem inHand_ok {x : CheckResult × CheckResult} (hx : r.others.get src = some x) :
    (judgeResults (s.inHand dst r)).ok = true ↔ CheckResult.fail ∉ [r.own.1, r.own.2, v.1, v.2, x.1, x.2] := by
  have hall : ∀ y, y ∈ s.inHand dst r ↔ y = (dst, r.own) ∨ y = (src, x) ∨ y = (k, v) := fun y => by
    unfold State.inHand
    rw [verdictLanes_all hmode, List.mem_cons, List.mem_filterMap]
    refine or_congr_right ⟨?_, ?_⟩
    · rintro ⟨j, hj, hy⟩
      rcases lane_among hsrc hk hks j (by simpa using (List.mem_filter.1 hj).2) with rfl | rfl
      · rw [hx] at hy
        exact .inl (Option.some.inj hy).symm
      · rw [hv] at hy
        exact .inr (Option.some.inj hy).symm
    · rintro (rfl | rfl)
      · exact ⟨src, List.mem_filter.2 ⟨by cases src <;> decide, by simpa using hsrc.symm⟩, by rw [hx]; rfl⟩
      · exact ⟨k, List.mem_filter.2 ⟨by cases k <;> decide, by simpa using hk⟩, by rw [hv]; rfl⟩
  rw [judgeResults_ok]
  simp only [hall, forall_eq_or_imp, forall_eq, List.mem_cons, List.not_mem_nil, not_or, or_false, ne_eq, eq_comm (a := CheckResult.fail)]
  tauto

theorem verdicts_all {x : CheckResult × CheckResult} (hx : r.others.get src = some x) : ∀ j ∈ s.verdictLanes dst, (r.others.get j).isSome = true := by
  rw [verdictLanes_all hmode]
  intro j hj
  rcases lane_among hsrc hk hks j (by simpa using (List.mem_filter.1 hj).2) with rfl | rfl
  · rw [hx]
    rfl
  · rw [hv]
    rfl

theorem verdicts_missing (hx : r.others.get src = none) : (s.verdictLanes dst).filter (fun j => (r.others.get j).isNone) = [src] := by
  rw [verdictLanes_all hmode]
  have hopen : ∀ j, j ≠ dst → (r.others.get j).isNone = (j == src) := fun j hj => by
    rcases lane_among hsrc hk hks j hj with rfl | rfl
    · simp [hx]
    · simp [hv, hks]
  rw [List.filter_filter, List.filter_congr (q := fun j => j == src) (fun j _ => ?_)]
  · cases src <;> decide
  · by_cases hj : j = dst
    · simp [hj, hsrc]
    · simp [hj, hopen j hj]

section
variable {z : Word} {w : CheckWord} (hbrings : Brings z w src r) (hpending : (s.lane dst).inputs.rxPending = [r]) (hin : s.now ≤ r.lastBit + 300)
include hbrings hpending hin

/-- The verdict of the last lane, in time, brings the decision. -/
theorem rxVerdict_decides : s.rxVerdict dst src z .none =
    (s.waitsFor dst (r.hears src (w.p, w.q))).decideFrame dst (r.hears src (w.p, w.q)) := by
  have htaken : s.modLane dst (fun l => { l with inputs := { l.inputs with rxPending := l.inputs.rxPending.map (fun r =>
      if r.port = w.port ∧ r.stream = w.stream ∧ (r.others.get src).isNone ∧ r.sent.get src = some (w.p, w.q) ∧ s.now ≤ r.lastBit + 300 then
        { r with others := r.others.put src (some (w.p, w.q)) } else r) } }) = s.waitsFor dst (r.hears src (w.p, w.q)) := by
    unfold State.waitsFor State.modLane
    simp only [hpending, List.map_singleton]
    rw [if_pos ⟨hbrings.port.symm, hbrings.stream.symm, by rw [hbrings.first]; rfl, hbrings.sent, hin⟩]
    rfl
  have hwaits : ((s.waitsFor dst (r.hears src (w.p, w.q))).lane dst).inputs.rxPending = [r.hears src (w.p, w.q)] :=
    waitsFor_waits s dst _
  have hall : ((s.waitsFor dst (r.hears src (w.p, w.q))).verdictLanes dst).all (fun j => ((r.hears src (w.p, w.q)).others.get j).isSome) = true :=
    List.all_eq_true.2 (verdicts_all hsrc hk hks (waitsFor_mode hmode dst _) (hears_other hks hv) (hears_own r src _))
  unfold State.rxVerdict
  rw [hbrings.read]
  simp only []
  rw [if_pos ⟨hsrc, hbrings.lane, hbrings.msg, hbrings.host⟩, htaken]
  unfold State.decideReady
  rw [hwaits, List.filter_singleton, hall]
  rfl

theorem rxVerdict_accepts (hgood : CheckResult.fail ∉ [r.own.1, r.own.2, v.1, v.2, w.p, w.q]) :
    s.rxVerdict dst src z .none = (s.cleared dst).acceptFrame dst (r.hears src (w.p, w.q)) := by
  have hmode' := waitsFor_mode hmode dst (r.hears src (w.p, w.q))
  rw [rxVerdict_decides hsrc hk hks hmode hv hbrings hpending hin, decideFrame_accepts (waitsFor_waits s dst _)
    (verdicts_all hsrc hk hks hmode' (hears_other hks hv) (hears_own r src _))
    ((inHand_ok hsrc hk hks hmode' (hears_other hks hv) (hears_own r src _)).2 hgood), waitsFor_cleared]

theorem rxVerdict_rejects (hbad : CheckResult.fail ∈ [r.own.1, r.own.2, v.1, v.2, w.p, w.q]) :
    ∃ o, s.rxVerdict dst src z .none = (s.cleared dst).rejectFrame dst (r.hears src (w.p, w.q)) o [] := by
  have hmode' := waitsFor_mode hmode dst (r.hears src (w.p, w.q))
  have hok := inHand_ok hsrc hk hks hmode' (hears_other hks hv) (hears_own r src (w.p, w.q))
  rw [rxVerdict_decides hsrc hk hks hmode hv hbrings hpending hin, decideFrame_rejects (waitsFor_waits s dst _)
    (verdicts_all hsrc hk hks hmode' (hears_other hks hv) (hears_own r src _)) (Bool.eq_false_iff.2 (fun h => hok.1 h hbad)), waitsFor_cleared]
  exact ⟨_, rfl⟩

end

/-- At the deadline a lane without the verdict of another decides without it. -/
theorem rxDeadline_misses (hpending : (s.lane dst).inputs.rxPending = [r]) (hx : r.others.get src = none) (hdue : r.lastBit + 300 ≤ s.now) :
    s.rxDeadline dst r.port r.stream = (s.cleared dst).rejectFrame dst r { ok := false, pFail := [], qFail := [], charged := [] } [src] := by
  have hfound : (r.port == r.port && r.stream == r.stream && decide (r.lastBit + 300 ≤ s.now)) = true := by simp [hdue]
  unfold State.rxDeadline
  rw [hpending, List.filter_singleton, hfound]
  exact decideFrame_misses hpending (verdicts_missing hsrc hk hks hmode hv hx)

end

theorem rxDeadline_early {s : State} {dst : LaneId} {r : RxPending} (hpending : (s.lane dst).inputs.rxPending = [r]) (hearly : s.now < r.lastBit + 300) :
    s.rxDeadline dst r.port r.stream = s := by
  have hfound : (r.port == r.port && r.stream == r.stream && decide (r.lastBit + 300 ≤ s.now)) = false := by simp [hearly]
  unfold State.rxDeadline
  rw [hpending, List.filter_singleton, hfound]
  rfl

/-- What a rejection leaves in a module of three voting lanes. -/
theorem rejectFrame_cleared {s : State} {dst : LaneId} {r : RxPending} (hmode : ∀ j, (s.lane j).mode = .voting) (hlate : r.late = false) (o : RxOutcome)
    (missing : List LaneId) :
    let u := (s.cleared dst).rejectFrame dst r o missing
    (u.lane dst).inputs.rxPending = [] ∧ (∀ j, j ≠ dst → u.lane j = (s.lane j).hasRecord r) ∧
      (u.lane dst).inputs.streams = (s.lane dst).inputs.streams.map (fun x => if x.id = r.stream then x.rejects o else x) ∧
      (u.lane dst).counters = (s.lane dst).counters.blames dst o missing := by
  obtain ⟨hothers, hown⟩ := rejectFrame_lanes (s := s.cleared dst) (i := dst) (cleared_mode hmode dst) hlate o missing
  have hcleared : (s.cleared dst).lane dst = { s.lane dst with inputs := { (s.lane dst).inputs with rxPending := [] } } := modLane_lane_same s dst _
  intro u
  refine ⟨?_, fun j hj => ?_, ?_, ?_⟩
  · rw [hown, hcleared]
    exact ite_self _
  · rw [hothers j hj]
    exact congrArg (fun l : Lane => l.hasRecord r) (modLane_lane_other s _ hj)
  · rw [hown, hcleared]
    rfl
  · rw [hown, hcleared]
    rfl

theorem rxVerdict_idle {s : State} {dst src : LaneId} {z : Word} {e : LinkFault} (h : e ≠ .none ∨ readCheck z = none) : s.rxVerdict dst src z e = s := by
  unfold State.rxVerdict
  cases e with
  | none =>
    rw [h.resolve_left (fun hne => hne rfl)]
  | _ => rfl

/-- A command that rejects the frame, as the obligation describes it. -/
theorem run_rejects {s : State} {t : Nat} {dst : LaneId} {r q : RxPending} {o : RxOutcome} {missing : List LaneId} {f : State → State}
    (hmode : ∀ j, (s.lane j).mode = .voting) (hlate : q.late = false) (hlogged : q.logged = r.logged) (hstream : q.stream = r.stream)
    (hmark : ∀ y : RxPending, y.markLogged q = y.markLogged r) (hf : f (s.tick t) = ((s.tick t).cleared dst).rejectFrame dst q o missing) :
    ∃ u, run t f s = .next u ∧ ((u.lane dst).inputs.rxPending = [] ∧
      (∀ j, j ≠ dst → u.lane j = (s.lane j).hasRecord r) ∧
      ∀ y ∈ (u.lane dst).inputs.streams, ∃ x ∈ (s.lane dst).inputs.streams, y.id = x.id ∧ y.ready = x.ready ∧ y.age = x.age ∧
        y.check = (if x.id = r.stream then x.check + 1 else x.check)) ∧ (u.lane dst).counters = (s.lane dst).counters.blames dst o missing := by
  obtain ⟨hwaiting, hothers, hstreams, hcounters⟩ := rejectFrame_cleared (s := s.tick t) (dst := dst) hmode hlate o missing
  rw [← hf] at hwaiting hothers hstreams hcounters
  refine ⟨_, run_eq (s := s) t f, ⟨hwaiting, fun j hj => (hothers j hj).trans ?_, fun y hy => ?_⟩, hcounters⟩
  · unfold Lane.hasRecord
    simp only [hlogged, hmark]
    rfl
  · rw [close_lane, hstreams] at hy
    obtain ⟨x, hx, rfl⟩ := List.mem_map.1 hy
    rw [hstream]
    by_cases hid : x.id = r.stream
    · simp only [if_pos hid]
      exact ⟨x, hx, rfl, rfl, rfl, (if_pos hid).symm⟩
    · simp only [if_neg hid]
      exact ⟨x, hx, rfl, rfl, rfl, (if_neg hid).symm⟩

/-! ## The obligation -/

/-- Settles O33: the verdict that completes the results, or the deadline without it, has the lane decide alone by Table 8.6. -/
theorem receiveDecisionOfTheLanes : Obligations.ReceiveDecisionOfTheLanes := by
  unfold Obligations.ReceiveDecisionOfTheLanes
  intro t dst src k r z w v s hmode hsrc hk hks hjoined hpending hlate hcopies hfree results rejected
  have hmode' : ∀ i, ((s.tick t).lane i).mode = .voting := hmode
  refine ⟨fun hread hlane hmsg hhost hport hstream hsent hopen hv hin => ?_, fun e he => ?_, fun hopen hv => ⟨fun hdue => ?_, fun hearly => ?_⟩⟩
  · have hbrings : Brings z w src r := ⟨hread, hlane, hmsg, hhost, hport, hstream, hsent, hopen⟩
    refine ⟨fun hgood => ?_, fun hbad => ?_⟩
    · have hcleared : ((s.tick t).cleared dst).lane dst = { s.lane dst with inputs := { (s.lane dst).inputs with rxPending := [] } } :=
        modLane_lane_same (s.tick t) dst _
      obtain ⟨hothers, hwaiting, hstreams⟩ := acceptFrame_fills (s := (s.tick t).cleared dst) (i := dst) (r := r.hears src (w.p, w.q))
        (cleared_mode hmode' dst) hjoined hcopies (by rw [hcleared]; exact hfree)
      have haccepts := rxVerdict_accepts (s := s.tick t) hsrc hk hks hmode' hv hbrings hpending hin hgood
      rw [← haccepts] at hothers hwaiting hstreams
      refine ⟨_, run_eq (s := s) t (fun u => u.rxVerdict dst src z .none), ?_, fun j hj => ?_, fun y hy hid => ?_, fun x hx hid => ?_⟩
      · rw [close_lane, hwaiting, hcleared]
      · exact (hothers j hj).trans (modLane_lane_other (s.tick t) _ hj)
      · rw [close_lane, hstreams] at hy
        obtain ⟨x, -, rfl⟩ := List.mem_map.1 hy
        have hfilled : x.id = (r.hears src (w.p, w.q)).stream := by
          by_contra hne
          rw [if_neg hne] at hid
          exact hne hid
        rw [if_pos hfilled]
        refine ⟨rfl, rfl, ?_⟩
        unfold RxStream.fill State.laneTime
        rw [hcleared]
        rfl
      · rw [close_lane, hstreams, hcleared]
        exact List.mem_map.2 ⟨x, hx, if_neg hid⟩
    · obtain ⟨o, hrejects⟩ := rxVerdict_rejects (s := s.tick t) hsrc hk hks hmode' hv hbrings hpending hin hbad
      obtain ⟨u, hu, hrejected, -⟩ := run_rejects (r := r) (f := fun u => u.rxVerdict dst src z .none) hmode hlate rfl rfl (fun _ => rfl) hrejects
      exact ⟨u, hu, hrejected⟩
  · exact run_idle (f := fun u => u.rxVerdict dst src z e) (rxVerdict_idle he)
  · obtain ⟨u, hu, hrejected, hcounters⟩ := run_rejects (r := r) (f := fun u => u.rxDeadline dst r.port r.stream) hmode hlate rfl rfl (fun _ => rfl)
      (rxDeadline_misses (s := s.tick t) hsrc hk hks hmode' hv hpending hopen hdue)
    refine ⟨u, hu, hrejected, ?_, ?_⟩
    · rw [hcounters]
      exact Lanes.get_put_same _ _ _
    · rw [hcounters]
      exact Lanes.get_put_other _ _ hks
  · exact run_idle (f := fun u => u.rxDeadline dst r.port r.stream) (rxDeadline_early hpending hearly)

end Sys2Proof.Machine
end

section
/-! # A sending slot from its transmit buffer to its frame (R275, R283, R285, R315, R316, Table 8.4) -/

namespace Sys2Proof.Machine

/-! ## The transmit buffer (R275, R285) -/

/-- What a slot sends of a snapshot. -/
def State.slotBuffer (s : State) (k : Nat) (x : Slot) (p : Snapshot) : TxBuffer :=
  { slot := k, stream := x.stream, payload := p.outPayload s.img x.stream, restricted := p.restricted, snapshot := p.number, instant := p.commitAt }

/-- A frame of a slot that waits for its check values until 2 µs before START. -/
def State.slotWait (s : State) (x : Slot) : TxPending :=
  { host := false, stream := x.stream, valueP := none, valueQ := none, verified := Lanes3 none, last := s.slotStart x s.now - 2000 }

theorem outPayload_plain {p : Snapshot} (h : p.restricted = false) (m : Mem) (stream : Nat) : p.outPayload m stream = assocD p.payloads stream 0 := by
  unfold Snapshot.outPayload
  rw [h]
  rfl

theorem fillBuffer_fills {s : State} {k : Nat} {x : Slot} {p : Snapshot} (hslot : s.slots.find? (fun y => y.1 == k) = some (k, x))
    (hdata : x.stream < 0xFF00) (hsends : s.sendsSlot x = true) (hdue : s.slotStart x s.now ≤ s.now + 20000)
    (hsnap : s.slotSnapshot x = some p) : s.fillBuffer k =
      ({ s with ndezo := { s.ndezo with buffers := s.ndezo.buffers.filter (fun y => y.slot != k) ++ [s.slotBuffer k x p] } } : State).mapVoting (fun l =>
        { l with inputs := { l.inputs with txPending := l.inputs.txPending.filter (fun y => !y.is false x.stream) ++ [s.slotWait x] } }) := by
  have hpair : decide (0xFF00 ≤ x.stream) = false := decide_eq_false (by omega)
  unfold State.fillBuffer
  rw [hslot]
  simp only [Option.map_some, hsnap, hsends, hdue, decide_true, Bool.and_true, hpair, Bool.false_eq_true, if_true, if_false]
  rfl

theorem transmitBufferFill_takes {s : State} {k : Nat} {x : Slot} {p : Snapshot} (t : Nat) (hmode : ∀ i, (s.lane i).mode = .voting)
    (hslot : s.slots.find? (fun y => y.1 == k) = some (k, x)) (hdata : x.stream < 0xFF00) (hsends : s.sendsSlot x = true)
    (hdue : s.slotStart x (max s.now t) ≤ max s.now t + 20000) (hsnap : (s.tick t).slotSnapshot x = some p) :
    ∃ (B : List TxBuffer) (L : Lanes Lane), exec (.transmitBufferFill t k) s =
        .next { s with now := max s.now t, ndezo := { s.ndezo with buffers := B }, lanes := L } ∧
      B = s.ndezo.buffers.filter (fun y => y.slot != k) ++ [s.slotBuffer k x p] ∧ ∀ i, (s.tick t).slotWait x ∈ (L.get i).inputs.txPending := by
  have hfill := fillBuffer_fills (s := s.tick t) hslot hdata hsends hdue hsnap
  refine ⟨_, _, run_next (f := fun u => u.fillBuffer k) hfill rfl rfl, rfl, fun i => ?_⟩
  rw [Lanes.get_mapI, if_pos]
  · exact List.mem_append_right _ (List.mem_singleton_self _)
  · exact hmode i

/-! ## The check values of the lanes (R315, R316, Table 8.4) -/

theorem expireReplies_none {s : State} (h : s.host.replies = []) : s.expireReplies = s := by
  unfold State.expireReplies
  rw [h]
  rfl

section
variable {s : State} (hmode : ∀ i, (s.lane i).mode = .voting) (hreplies : s.host.replies = [])

include hmode in
/-- Lane A computes CV-P, lane B CV-Q, and lane C verifies both. -/
theorem txDuty_all : txDuty (s.txLanes false) = some (.A, .B, [(.C, true, true)]) := by
  unfold State.txLanes
  rw [if_neg Bool.false_ne_true, unexcluded_all hmode]
  rfl

include hmode in
theorem buildsTx_all (i : LaneId) : s.buildsTx i = true := by
  unfold State.buildsTx
  rw [hmode i]
  exact Bool.or_true _

include hmode in
theorem countsFor_verifier (dst : LaneId) : s.countsFor false dst .C = decide (dst = .A) := by
  unfold State.countsFor State.txLanes
  rw [if_neg Bool.false_ne_true, unexcluded_all hmode]
  cases dst <;> rfl

/-- What a lane does with its first waiting frame that meets a test. -/
def State.putFirst (s : State) (dst : LaneId) (test : TxPending → Bool) (put : TxPending → TxPending) : State :=
  s.modLane dst (fun l => { l with inputs := { l.inputs with txPending := modFirst l.inputs.txPending test put } })

theorem putFirst_takes {dst : LaneId} {y : TxPending} {test : TxPending → Bool} {put : TxPending → TxPending}
    (hpending : (s.lane dst).inputs.txPending = [y]) (htest : test y = true) : ((s.putFirst dst test put).lane dst).inputs.txPending = [put y] := by
  unfold State.putFirst
  rw [modLane_lane_same, hpending]
  exact if_pos htest

theorem putFirst_leaves {dst : LaneId} {y : TxPending} {test : TxPending → Bool} {put : TxPending → TxPending}
    (hpending : (s.lane dst).inputs.txPending = [y]) (htest : test y = false) : s.putFirst dst test put = s := by
  have hsame : modFirst (s.lane dst).inputs.txPending test put = (s.lane dst).inputs.txPending := by
    rw [hpending]
    exact if_neg (by rw [htest]; decide)
  unfold State.putFirst State.modLane
  simp only [hsame]
  exact setLane_self s dst

/-- May a waiting frame take a value of CV-P or CV-Q? -/
def TxPending.lacks (x : TxPending) (stream : Nat) (isP : Bool) (now : Nat) : Bool :=
  x.is false stream && (if isP then x.valueP else x.valueQ).isNone && decide (now ≤ x.last)

/-- A waiting frame with a value of CV-P or CV-Q. -/
def TxPending.takes (x : TxPending) (isP : Bool) (v : Word) : TxPending := if isP then { x with valueP := some v } else { x with valueQ := some v }

include hreplies in
theorem txValue_invalid (dst src : LaneId) (stream : Nat) (isP : Bool) : s.txValue dst src false stream isP none = s := by
  unfold State.txValue
  exact expireReplies_none hreplies

include hmode hreplies in
theorem txValue_reaches (dst src : LaneId) (stream : Nat) (isP : Bool) (v : Word) : s.txValue dst src false stream isP (some v) =
    if dst ≠ src ∧ src = (if isP then .A else .B) then s.putFirst dst (fun x => x.lacks stream isP s.now) (fun x => x.takes isP v) else s := by
  unfold State.txValue
  rw [expireReplies_none hreplies]
  simp only [txDuty_all hmode, buildsTx_all hmode, Bool.and_true, Bool.false_eq_true, if_false, Bool.and_eq_true, bne_iff_ne, ne_eq, beq_iff_eq]
  rfl

include hreplies in
theorem txVerify_invalid (dst src : LaneId) : s.txVerify dst src none = s := by
  unfold State.txVerify
  exact expireReplies_none hreplies

include hmode hreplies in
theorem txVerify_other {dst src : LaneId} {z : Word} {w : CheckWord} (hread : readCheck z = some w) (hhost : w.host = false) (hsrc : src ≠ .C) :
    s.txVerify dst src (some z) = s := by
  unfold State.txVerify State.takeVerify
  rw [expireReplies_none hreplies, Option.bind_some, hread]
  simp only [hhost, txDuty_all hmode, List.any_cons, List.any_nil, beq_false_of_ne hsrc.symm, Bool.or_false, Bool.and_false, Bool.false_and, Bool.false_eq_true,
    if_false, ite_self]

/-- May a waiting frame take the verification of lane C? -/
def TxPending.unverified (x : TxPending) (stream now : Nat) : Bool := x.is false stream && (x.verified.get .C).isNone && decide (now ≤ x.last)

include hmode hreplies in
/-- The verification of lane C: it counts once, with the first lane that it reaches. -/
theorem txVerify_reaches {dst : LaneId} {z : Word} {w : CheckWord} (hread : readCheck z = some w) (hmsg : w.msg = 2) (hport : w.port = 63)
    (hhost : w.host = false) (hdst : dst ≠ .C) (hlane : w.lane = .C) : s.txVerify dst .C (some z) =
    (if dst = .A then s.modLane .C (fun l => { l with inputs := l.inputs.bump (txUnit false w.stream) (w.p, w.q) }) else s).putFirst dst
      (fun x => x.unverified w.stream s.now) (fun x => { x with verified := x.verified.put .C (some (w.p, w.q)) }) := by
  unfold State.txVerify State.takeVerify
  rw [expireReplies_none hreplies, Option.bind_some, hread]
  simp only []
  rw [if_pos ⟨hlane, hmsg, hport⟩]
  simp only [hhost, txDuty_all hmode, buildsTx_all hmode, countsFor_verifier hmode, bne_iff_ne.2 hdst, List.any_cons, beq_self_eq_true, Bool.true_or, Bool.and_true,
    Bool.false_eq_true, if_true, if_false, decide_eq_true_eq]
  rfl

end

/-! ## The frame at START (R275, R316) -/

/-- The check message of a frame in a slot. -/
def State.slotMessage (s : State) (x : Slot) (b : TxBuffer) : Bytes :=
  checkMessage (s.txFold x) (coveredBytes (s.ndezo.cycle64 % 2 ^ 32) s.pair.epoch s.headerTag.2 (payloadBytes b.payload (s.sendLength x)))

/-- A frame that waits with everything that R316 asks for. -/
def State.released (s : State) (x : Slot) (b : TxBuffer) (last : Nat) : TxPending :=
  { host := false, stream := x.stream, valueP := some (cvP (s.slotMessage x b)), valueQ := some (cvQ (s.slotMessage x b)),
    verified := { a := none, b := none, c := some (.pass, .pass) }, last := last }

theorem txReleased_all (s : State) (x : Slot) (b : TxBuffer) (last : Nat) (i : LaneId) :
    txReleased allLanes i (cvP (s.slotMessage x b)) (cvQ (s.slotMessage x b)) (s.released x b last) = true := by
  cases i <;> simp [txReleased, txDuty, allLanes, heldValue, verifierPasses, State.released, Lanes.get]

theorem txValues_all (s : State) (x : Slot) (b : TxBuffer) (last : Nat) (i : LaneId) :
    txValues allLanes i (cvP (s.slotMessage x b)) (cvQ (s.slotMessage x b)) (s.released x b last) = (cvP (s.slotMessage x b), cvQ (s.slotMessage x b)) := by
  cases i <;> simp [txValues, txDuty, allLanes, heldValue, State.released]

/-- The frame of a slot as it leaves on a port. -/
def State.slotTx (s : State) (k : Nat) (x : Slot) (b : TxBuffer) (n : Nat) : Tx :=
  Tx.data n k x.stream (s.slotFrame x b (cvP (s.slotMessage x b), cvQ (s.slotMessage x b)))

theorem sendOn_released {s : State} {k last : Nat} {x : Slot} {b : TxBuffer} (hmode : ∀ i, (s.lane i).mode = .voting)
    (hready : ∀ i, (s.lane i).inputs.txPending = [s.released x b last]) (n : Nat) :
    s.sendOn k x b n = if (s.sender n).isSome then s.send (s.slotTx k x b n) else s := by
  have his : (s.released x b last).is false x.stream = true := by simp [TxPending.is, State.released]
  unfold State.sendOn
  cases s.sender n with
  | none => rfl
  | some i =>
    simp only [hready i, List.find?_cons, his, unexcluded_all hmode]
    rw [show checkMessage _ _ = s.slotMessage x b from rfl, txReleased_all, txValues_all]
    rfl

theorem foldl_sendOn_released {k last : Nat} {x : Slot} {b : TxBuffer} (l : List Nat) {s : State} (hmode : ∀ i, (s.lane i).mode = .voting)
    (hready : ∀ i, (s.lane i).inputs.txPending = [s.released x b last]) : l.foldl (fun u n => u.sendOn k x b n) s =
      { s with sent := s.sent ++ (l.filter (fun n => (s.sender n).isSome)).map (s.slotTx k x b) } := by
  induction l generalizing s with
  | nil => simp
  | cons n l ih =>
    rw [List.foldl_cons, sendOn_released hmode hready]
    cases hsender : (s.sender n).isSome with
    | false =>
      rw [List.filter_cons, hsender, if_neg Bool.false_ne_true, ih hmode hready]
      rfl
    | true =>
      rw [List.filter_cons, hsender, if_pos rfl, if_pos rfl, ih (s := s.send (s.slotTx k x b n)) hmode hready, List.map_cons]
      simp only [State.send, List.append_assoc, List.cons_append, List.nil_append]
      rfl

theorem foldl_sendOn_held {k : Nat} {x : Slot} {b : TxBuffer} (l : List Nat) {s : State} (hnone : ∀ i, (s.lane i).inputs.txPending = []) :
    (l.foldl (fun u n => u.sendOn k x b n) s).sent = s.sent := by
  induction l generalizing s with
  | nil => rfl
  | cons n l ih =>
    have hheld : s.sendOn k x b n = s ∨ ∃ i, s.sendOn k x b n = s.txHold i n x.stream := by
      unfold State.sendOn
      cases s.sender n with
      | none => exact .inl rfl
      | some i =>
        simp only [hnone i, List.find?_nil]
        exact .inr ⟨i, rfl⟩
    rw [List.foldl_cons]
    rcases hheld with h | ⟨i, h⟩
    · rw [h, ih hnone]
    · rw [h]
      refine ih (fun j => ?_)
      have hlane : (s.txHold i n x.stream).lane j = (s.modLane i (fun l => { l with counters := { l.counters with txHold := inc l.counters.txHold } })).lane j := rfl
      rw [hlane, modLane_lane]
      split <;> exact hnone j

/-- A slot after its START: its buffer is empty, and no lane waits for its values. -/
def State.slotDone (s : State) (k : Nat) (x : Slot) : State :=
  ({ s with ndezo := { s.ndezo with buffers := s.ndezo.buffers.filter (fun y => y.slot != k) } } : State).mapLanes (fun l =>
    { l with inputs := { l.inputs with txPending := l.inputs.txPending.filter (fun y => !y.is false x.stream) } })

theorem slotSend_due {s : State} {k : Nat} {x : Slot} {b : TxBuffer} (hslot : s.slots.find? (fun y => y.1 == k) = some (k, x))
    (hbuffer : s.ndezo.buffers.find? (fun y => y.slot == k) = some b) (hstart : s.ndezo.cycleStart + x.start ≤ s.now)
    (hfresh : s.now ≤ b.instant + 2 * s.t0) (hsends : s.sendsSlot x = true) :
    s.slotSend k = ((s.outPorts x).foldl (fun u n => u.sendOn k x b n) s).slotDone k x := by
  unfold State.slotSend
  rw [hslot, hbuffer]
  simp only [Option.map_some]
  rw [if_neg (Nat.not_lt.2 hstart), if_pos (by simp [hsends, hfresh])]
  rfl

theorem slotDone_buffers (s : State) (k : Nat) (x : Slot) : ∀ y ∈ (s.slotDone k x).ndezo.buffers, y.slot ≠ k := by
  intro y hy
  simpa using (List.mem_filter.1 hy).2

theorem slotDone_waits {s : State} (k : Nat) {x : Slot} {i : LaneId} {y : TxPending} (hwait : (s.lane i).inputs.txPending = [y])
    (his : y.is false x.stream = true) : ((s.slotDone k x).lane i).inputs.txPending = [] := by
  unfold State.slotDone
  rw [mapLanes_lane]
  refine List.filter_eq_nil_iff.2 (fun z hz => ?_)
  rw [show z = y from List.mem_singleton.1 (hwait ▸ hz), his]
  decide

/-! ## The obligation -/

/-- Settles O34, slot by slot: the buffer, the check values (log entry 138: what a lane's unit computes stands in its command), START, and the slot
close. -/
theorem slotFromBufferToFrame : Obligations.SlotFromBufferToFrame := by
  unfold Obligations.SlotFromBufferToFrame
  intro t k x s hmode hreplies
  have hmode' : ∀ i, ((s.tick t).lane i).mode = .voting := hmode
  refine ⟨fun hslot hdata hsends hdue p hsnap => ?_, fun dst y hpending hhost hstream hp hq hverified => ⟨
    fun value src isP hne => ⟨fun hsrc hin => ?_, fun hlate => ?_, ?_⟩,
    fun z w hread hmsg hport hwhost hwstream => ⟨fun hdst hlane hin => ?_, fun src hsrc => ?_⟩, fun src => ?_⟩,
    fun b e hslot hbuffer hstart hfresh hsends => ?_, fun stream hruns hjoined hslots hdue hclear => ?_⟩
  · obtain ⟨B, L, hexec, hB, hL⟩ := transmitBufferFill_takes t hmode hslot hdata hsends hdue hsnap
    refine ⟨_, hexec, ⟨s.slotBuffer k x p, ?_, rfl, rfl, rfl, rfl, rfl, fun hplain => outPayload_plain hplain _ _⟩, fun b hb hne => ?_, hL, rfl⟩
    · rw [hB]
      exact List.mem_append_right _ (List.mem_singleton_self _)
    · rw [hB]
      exact List.mem_append_left _ (List.mem_filter.2 ⟨hb, bne_iff_ne.2 hne⟩)
  · have hput := txValue_reaches (s := s.tick t) hmode' hreplies dst src x.stream isP value
    rw [if_pos ⟨hne, hsrc⟩] at hput
    have hlacks : y.lacks x.stream isP (max s.now t) = true := by cases isP <;> simp [TxPending.lacks, TxPending.is, hhost, hstream, hp, hq, hin]
    exact ⟨_, run_next (f := fun u => u.txValue dst src false x.stream isP (some value)) hput rfl rfl, putFirst_takes (s := s.tick t) hpending hlacks,
      fun j hj => modLane_lane_other (s.tick t) _ hj, rfl⟩
  · refine run_idle (f := fun u => u.txValue dst src false x.stream isP (some value)) ((txValue_reaches (s := s.tick t) hmode' hreplies ..).trans ?_)
    rcases hlate with hsrc | hlate
    · exact if_neg (fun h => hsrc h.2)
    · have hlacks : y.lacks x.stream isP (max s.now t) = false := by
        unfold TxPending.lacks
        rw [decide_eq_false (Nat.not_le.2 hlate), Bool.and_false]
      rw [putFirst_leaves (s := s.tick t) hpending hlacks, ite_self]
  · exact run_idle (f := fun u => u.txValue dst src false x.stream isP none) (txValue_invalid (s := s.tick t) hreplies dst src x.stream isP)
  · have hput := txVerify_reaches (s := s.tick t) hmode' hreplies hread hmsg hport hwhost hdst hlane
    have hopen : y.unverified w.stream (max s.now t) = true := by
      simp [TxPending.unverified, TxPending.is, hhost, hstream, hwstream, hverified, Lanes3, Lanes.get, hin]
    have hempty : ({ y with verified := y.verified.put .C (some (w.p, w.q)) } : TxPending) =
        { y with verified := { a := none, b := none, c := some (w.p, w.q) } } := by
      rw [hverified]
      rfl
    rw [hwstream] at hput hopen
    cases dst with
    | A =>
      refine ⟨_, run_next (f := fun u => u.txVerify .A .C (some z)) hput rfl rfl, ?_, fun j hj => ?_, rfl⟩
      · rw [← hempty]
        exact putFirst_takes (dst := .A) (y := y) hpending hopen
      · refine (modLane_lane_other _ _ hj).trans ?_
        cases j with
        | A => exact absurd rfl hj
        | B => rfl
        | C => rfl
    | B =>
      refine ⟨_, run_next (f := fun u => u.txVerify .B .C (some z)) hput rfl rfl, ?_, fun j hj => modLane_lane_other _ _ hj, rfl⟩
      rw [← hempty]
      exact putFirst_takes (s := s.tick t) hpending hopen
    | C => exact absurd rfl hdst
  · exact run_idle (f := fun u => u.txVerify dst src (some z)) (txVerify_other (s := s.tick t) hmode' hreplies hread hwhost hsrc)
  · exact run_idle (f := fun u => u.txVerify dst src none) (txVerify_invalid (s := s.tick t) hreplies dst src)
  · have hdone := slotSend_due (s := s.tick t) hslot hbuffer hstart hfresh hsends
    intro m
    refine ⟨fun hready => ?_, fun hnone => ?_⟩
    · have hready' : ∀ i, ((s.tick t).lane i).inputs.txPending = [(s.tick t).released x b e] := hready
      have hsent := foldl_sendOn_released (k := k) ((s.tick t).outPorts x) hmode' hready'
      rw [hsent] at hdone
      refine ⟨_, run_eq (s := s) t (fun u => u.slotSend k), ?_, ?_, fun i => ?_⟩
      · rw [hdone]
        rfl
      · rw [hdone]
        exact slotDone_buffers _ k x
      · rw [close_lane, hdone]
        exact slotDone_waits k (hready' i) (by simp [TxPending.is, State.released])
    · refine ⟨_, run_eq (s := s) t (fun u => u.slotSend k), ?_, ?_⟩
      · rw [hdone]
        exact foldl_sendOn_held ((s.tick t).outPorts x) hnone
      · rw [hdone]
        exact slotDone_buffers _ k x
  · have hclose : (s.tick t).slotClose stream = (s.tick t).mapLanes (fun l => l.closeSlot stream) := if_pos (by
      have hdue' : (s.tick t).ndezo.cycleStart + (s.tick t).slotCloseAt stream ≤ (s.tick t).now := hdue
      have hslots' : (s.tick t).rxSlots stream ≠ [] := hslots
      simp only [show (s.tick t).ndezoRuns = true from hruns, show (s.tick t).ndezo.dawn = .joined from hjoined, hdue', bne_iff_ne.2 hslots', beq_self_eq_true,
        decide_true, Bool.and_true])
    refine ⟨_, run_next (f := fun u => u.slotClose stream) hclose rfl rfl, rfl, fun i => ?_⟩
    rw [mapLanes_lane]
    exact closeSlot_streams (l := (s.tick t).lane i) (hclear i) stream

end Sys2Proof.Machine
end

section
/-! # Ndezo and pair commands (R295, R403, R405, R407, R462, R466)

These commands are accepted whatever the module's role in a pair: a permissive command tells its peer nothing. -/

namespace Sys2Proof.Machine

/-! ## A permissive command in any role -/

/-- What an accepted permissive command does after its reply: it makes its record. -/
theorem afterAccept_records {op : Nat} {c : HostCopy} {row : OpRow} (hr : opOf op = some row) (hc : row.cls = .permissive) (hopen : op ≠ 0x0001)
    (hclose : op ≠ 0x0002) (hstage : op ≠ 0x0403) (hrecords : recordsCommand op c.params = true) (s : State) (cmd : Cmd) (data : Bytes) :
    s.afterAccept op c cmd data = s.event 0x0606 cmd.origin [(24, 2, op), (26, 2, rd16 c.params 0), (28, 4, c.originId)] := by
  have hpermissive : isRestrictive op = false := by
    unfold isRestrictive
    rw [hr]
    simp [hc]
  unfold State.afterAccept
  simp only [hpermissive, hopen, hclose, hstage, hrecords, Bool.false_eq_true, if_false, if_true]

/-- The second copy of a permissive command, whose acceptance turns the module into `b`, decides it: both networks are told, and it makes its
record. -/
theorem second_copy_accepts {s b : State} {t op : Nat} {x : Session} {c : HostCopy} {row : OpRow} (h : s.hostReady t) (g : s.secondCopy op x c)
    (hr : opOf op = some row) (hc : row.cls = .permissive) (hopen : op ≠ 0x0001) (hclose : op ≠ 0x0002) (hstage : op ≠ 0x0403)
    (hrecords : recordsCommand op c.params = true) (hb : b.control.phase = .running) (halmanac : b.almanac = s.almanac) (hpending : b.pending = s.pending)
    (hacc : ∀ R L cmd, s.sameLanes (s.withHeard t c R L) → cmd.OfCopy op x c → ∃ Q, (s.withHeard t c R L).accept cmd =
      ({ b with now := max s.now t, host := { s.heardHost t c with recs := Q }, lanes := L } : State).acc stAccepted) :
    ∃ u, run t (fun v => v.hostArrive op c) s = .next u ∧ s.decided u t op c stAccepted [] id laneKept [x.commandRecord op c] ∧
      u = { b with now := u.now, host := u.host, lanes := u.lanes, almanac := u.almanac } := by
  obtain ⟨p, r, hp, hl, hrec, -, hkey, harrive⟩ := second_copy_decides h g hopen hr hc
  obtain ⟨⟨hfound, -⟩, hnet, hpath, -⟩ := g
  obtain ⟨-, hvoting, -⟩ := h
  obtain ⟨R, L, rfl⟩ : ∃ R L, p = s.withHeard t c R L := ⟨_, _, hp⟩
  have hsession : (s.withHeard t c R L).sessionOf c.session = some (x.heard c (s.stampOf c)) := heardHost_session t hfound
  have hnumber : x.number = c.session := number_of_sessionOf hfound
  have hcmd : ((s.withHeard t c R L).cmdOf op c r none).OfCopy op x c := by
    refine ⟨rfl, hkey, rfl, rfl, ?_, ?_, rfl, rfl, rfl⟩
    · show (((s.withHeard t c R L).sessionOf c.session).map (·.cls)).getD .internal = x.cls
      rw [hsession]
      rfl
    · show (((s.withHeard t c R L).sessionOf c.session).map (·.hostId)).getD 0 = x.hostId
      rw [hsession]
      rfl
  obtain ⟨Q, haccept⟩ := hacc R L _ hl hcmd
  let a : State := { b with now := max s.now t, host := { s.heardHost t c with recs := Q }, lanes := L }
  let v := a.putDecision r.key op
    { status := stAccepted, snapshot := (s.withHeard t c R L).replySnapshot, data := [], bytes := HostCopyHead op c }
  have hlanes : s.sameLanes v := hl
  obtain ⟨r1, r2, K, hsend, htold, hn1, hn2, hq⟩ := sendDecision_tells (v := v) (op := op) (c := c) (r := r) (st := stAccepted)
    (snap := (s.withHeard t c R L).replySnapshot) (d := []) hopen hb (sameLanes_mode hlanes hvoting) hsession hnet
    (heard_otherPath (n := s.stampOf c) hnet hpath)
  have hcopy : copyKey op c = .session c.session c.seq := if_neg hopen
  have hdecide : (s.tick t).hostArrive op c = (v.told [r1, r2] K).event 0x0606 (Origin.ofSession x)
      [(24, 2, op), (26, 2, rd16 c.params 0), (28, 4, c.originId)] := by
    rw [harrive, ← origin_ofCopy hcmd hnumber, ← afterAccept_records hr hc hopen hclose hstage hrecords (v.told [r1, r2] K) _ [], ← hsend]
    unfold State.decideCopy
    rw [hcopy]
    simp only [decideKey, hrec, haccept]
    exact if_pos (Or.inr rfl)
  refine ⟨_, run_next (f := fun u => u.hostArrive op c) hdecide rfl hpending, ⟨⟨r1, r2, ?_, hn1, hn2, hq⟩, ?_, sameLanes_trans hlanes htold, rfl, ?_⟩, ?_⟩
  · rw [← heardHost_replies s t c]
    rfl
  · rfl
  · rw [← halmanac]
    rfl
  · rfl

/-! ## The commands -/

theorem accept_constellationRequest (s : State) {c : Cmd} (h : c.opcode = 0x0801) : s.accept c = s.acceptConstellationRequest c := by
  unfold State.accept; rw [h]; rfl
theorem accept_portEnable (s : State) {c : Cmd} (h : c.opcode = 0x0803) : s.accept c = s.acceptPortEnable c := by unfold State.accept; rw [h]; rfl
theorem accept_switchover (s : State) {c : Cmd} (h : c.opcode = 0x0902) : s.accept c = s.acceptSwitchover c := by unfold State.accept; rw [h]; rfl
theorem accept_standbySync (s : State) {c : Cmd} (h : c.opcode = 0x0903) : s.accept c = s.acceptStandbySync c := by unfold State.accept; rw [h]; rfl

theorem constellationRequest_accepted {s : State} {cmd : Cmd} {k : Nat} (hm : cmd.malformed = false) (hk : rd8 cmd.params 0 = k) (hnadir : s.inNadir = false)
    (hlow : k ≤ 7) (hruns : s.ndezoRuns = true) (hpolestar : s.ndezo.isPolestar = true) (hnew : k ≠ s.ndezo.constNo) (hchange : s.ndezo.change = none)
    (hheld : s.heldBit k = true) (hstandby : s.standbyUnit = false) :
    s.acceptConstellationRequest cmd = ({ s with ndezo := { s.ndezo with request := some k } } : State).acc stAccepted := by
  unfold State.acceptConstellationRequest
  rw [hk]
  refine firstOf_go ?_
  simp [hm, hnadir, hruns, hpolestar, hnew, hchange, hheld, hstandby, hlow]

/-- A port whose change of enable waits for the next cycle start (R405). -/
def Port.enables (p : Port) (disable : Bool) : Port := { p with
  disablePending := some disable
  pendingCommitted := p.pendingCommitted && p.disablePending == some disable }

theorem portEnable_accepted {s : State} {cmd : Cmd} {k : Nat} (hm : cmd.malformed = false) (hk : rd8 cmd.params 0 = k)
    (hport : isNdezoPort s.identity.part k = true) (hother : (s.port k).disabled = bitAt (rd8 cmd.params 1) 0) :
    s.acceptPortEnable cmd = (s.modPort k (fun p => p.enables (!(s.port k).disabled))).acc stAccepted := by
  unfold State.acceptPortEnable
  rw [hk, ← hother]
  refine firstOf_go ?_
  simp [hm, hport]

/-- The pair controller once a switchover is announced for a Change Point (R466). -/
def Pair.switchesAt (p : Pair) (point : Nat) : Pair := { p with switchAt := some point, switchAck := 0 }

theorem switchover_accepted {s : State} {cmd : Cmd} (hm : cmd.malformed = false) (hpair : s.inPair = true) (hpeer : s.peerOk cmd.params = true)
    (hactive : s.pair.role = .active) (hready : s.pair.peerStandby = .ready) (hstaging : s.images.staging.any (fun g => g.state == .armed) = false)
    (hprofile : s.images.takenProfile = none) : s.acceptSwitchover cmd =
      (({ s.settledOp 0x0902 with pair := s.pair.switchesAt s.nextPoint } : State).sendBoth 7 (b64 s.nextPoint)).acc stAccepted := by
  refine firstOf_go ?_
  simp [hm, hpair, hpeer, hactive, hready, hstaging, hprofile]

theorem standbySync_accepted {s : State} {cmd : Cmd} (hm : cmd.malformed = false) (hpair : s.inPair = true) (hpeer : s.peerOk cmd.params = true)
    (hstandby : s.pair.role = .standby) (hstate : s.pair.standby = .notReady) : s.acceptStandbySync cmd =
      (({ s with pair := { s.pair with copyAsked := true } } : State).sendBoth 5 (copyReqPayload 0 0 0)).acc stAccepted := by
  refine firstOf_go ?_
  simp [hm, hpair, hpeer, hstandby, hstate]

/-- A frame on both standby links, of a module that has heard a copy: the state of its pair controller is in `P`. -/
theorem sendBoth_withHeard {s : State} {t : Nat} {c : HostCopy} {R : List HostRec} {L : Lanes Lane} (hl : s.sameLanes (s.withHeard t c R L)) {P : Pair}
    (hepoch : P.epoch = s.pair.epoch) (hseq0 : P.txSeq0 = s.pair.txSeq0) (hseq1 : P.txSeq1 = s.pair.txSeq1) (H : HostSide) (kind : Nat) (b : Bytes) :
    ({ s.withHeard t c R L with host := H, pair := P } : State).sendBoth kind b = { s.withHeard t c R L with
      host := H
      sent := s.sent ++ (s.pairSent .sl0 kind b ++ s.pairSent .sl1 kind b)
      pair := { P with txSeq0 := s.pairSeq .sl0, txSeq1 := s.pairSeq .sl1 } } := by
  let u : State := { s.withHeard t c R L with host := H, pair := P }
  have hmode : ∀ i, ((s.withHeard t c R L).lane i).mode = (s.lane i).mode := fun i => by rw [hl i]
  have hsender : ∀ n, u.sender n = s.sender n := sender_same rfl rfl hmode
  obtain ⟨hsl0, hnext0⟩ := pairSent_same (u := u) (link := .sl0) (hsender _) rfl rfl hepoch hseq0 kind b
  obtain ⟨hsl1, hnext1⟩ := pairSent_same (u := u) (link := .sl1) (hsender _) rfl rfl hepoch hseq1 kind b
  refine (sendBoth_eq u kind b).trans ?_
  rw [hsl0, hsl1, List.append_assoc]
  unfold State.pairToldBoth
  rw [hnext0, hnext1]
  rfl

/-! ## The obligation -/

/-- Settles O44. The layouts of the SWITCH and COPY_REQ payloads are those of log entry 22. -/
theorem ndezoAndPairCommands : Obligations.NdezoAndPairCommands := by
  unfold Obligations.NdezoAndPairCommands
  intro t x c s h k cmd
  refine ⟨fun g hlen hnadir hlow hruns hpolestar hnew hchange hheld hstandby => ?_, fun g hlen hport hother => ?_,
    fun g hlen hpair hpeer hactive hready hstaging hprofile => ?_, fun g hlen hpair hpeer hstandby hstate => ?_⟩
  · refine second_copy_accepts (b := { s with ndezo := { s.ndezo with request := some k } }) h g rfl rfl (by decide) (by decide) (by decide) rfl h.1 rfl rfl
      (fun R L cmd hl hcmd => ⟨R, ?_⟩)
    have hm := malformed_of_secondCopy g hcmd.opcode hcmd.params (by simp [lengthOk, hlen])
    rw [accept_constellationRequest _ hcmd.opcode]
    exact constellationRequest_accepted (s := s.withHeard t c R L) hm (by rw [hcmd.params]) hnadir hlow hruns hpolestar hnew hchange hheld hstandby
  · let P : Port → Port := fun p => p.enables (!(s.port k).disabled)
    have hnumber : (P (s.port k)).number = k := port_number s k
    obtain ⟨u, hrun, hdecided, hframe⟩ := second_copy_accepts (b := s.modPort k P) h g rfl rfl (by decide) (by decide) (by decide) rfl h.1 rfl rfl
      (fun R L cmd hl hcmd => ⟨R, by
        have hm := malformed_of_secondCopy g hcmd.opcode hcmd.params (by simp [lengthOk, hlen])
        rw [accept_portEnable _ hcmd.opcode]
        exact portEnable_accepted (s := s.withHeard t c R L) hm (by rw [hcmd.params]) hport (by rw [hcmd.params]; exact hother)⟩)
    have hports : ∀ n, u.port n = (s.modPort k P).port n := fun n => by
      rw [hframe]
      rfl
    refine ⟨u, hrun, hdecided, (hports k).trans (modPort_port s k hnumber), fun n hn => (hports n).trans (modPort_port_other s hnumber hn), ?_⟩
    rw [hframe]
    rfl
  · intro point
    let b : State := { s with
      sent := s.sent ++ (s.pairSent .sl0 7 (b64 point) ++ s.pairSent .sl1 7 (b64 point))
      pair := { s.pairToldBoth with switchAt := some point, switchAck := 0 } }
    obtain ⟨u, hrun, hdecided, hframe⟩ := second_copy_accepts (b := b) h g rfl rfl (by decide) (by decide) (by decide) rfl h.1 rfl rfl
      (fun R L cmd hl hcmd => by
        have hm := malformed_of_secondCopy g hcmd.opcode hcmd.params (by simp [lengthOk, hlen])
        refine ⟨((s.withHeard t c R L).settledOp 0x0902).host.recs, ?_⟩
        rw [accept_switchover _ hcmd.opcode]
        refine (switchover_accepted (s := s.withHeard t c R L) hm hpair (by rw [hcmd.params]; exact hpeer) hactive hready hstaging hprofile).trans ?_
        exact congrArg (fun v : State => v.acc stAccepted) (sendBoth_withHeard hl (P := s.pair.switchesAt point) rfl rfl rfl _ 7 (b64 point)))
    refine ⟨u, hrun, hdecided, ?_, ?_⟩
    · rw [hframe]
    · rw [hframe]
  · intro f
    let b : State := { s with
      sent := s.sent ++ (s.pairSent .sl0 5 f ++ s.pairSent .sl1 5 f)
      pair := { s.pairToldBoth with copyAsked := true } }
    obtain ⟨u, hrun, hdecided, hframe⟩ := second_copy_accepts (b := b) h g rfl rfl (by decide) (by decide) (by decide) rfl h.1 rfl rfl
      (fun R L cmd hl hcmd => by
        have hm := malformed_of_secondCopy g hcmd.opcode hcmd.params (by simp [lengthOk, hlen])
        refine ⟨R, ?_⟩
        rw [accept_standbySync _ hcmd.opcode]
        refine (standbySync_accepted (s := s.withHeard t c R L) hm hpair (by rw [hcmd.params]; exact hpeer) hstandby hstate).trans ?_
        exact congrArg (fun v : State => v.acc stAccepted) (sendBoth_withHeard hl (P := { s.pair with copyAsked := true }) rfl rfl rfl _ 5 f))
    refine ⟨u, hrun, hdecided, ?_, ?_⟩
    · rw [hframe]
    · rw [hframe]

end Sys2Proof.Machine
end

section
/-! # The end of a start and its retry (R327, R493, R541, R574, R575) -/

namespace Sys2Proof.Machine

/-! ## The records of the check units (R327) -/

/-- Each lane writes the record of its own check units alone. -/
theorem katRecords_lane (s : State) (r : StartResult) (i : LaneId) :
    ∃ u : State, u.lane i = s.lane i ∧ (s.katRecords r).lane i = (u.katRecord i (r.katFail.get i)).lane i := by
  have other : ∀ (u : State) (j : LaneId) (n : Option Nat), i ≠ j → (u.katRecord j n).lane i = u.lane i :=
    fun u j n hij => (katRecord_keeps u j n).2.1 i hij
  have hfold : s.katRecords r = ((s.katRecord .A (r.katFail.get .A)).katRecord .B (r.katFail.get .B)).katRecord .C (r.katFail.get .C) := rfl
  rw [hfold]
  cases i with
  | A => exact ⟨s, rfl, by rw [other _ .C _ (by decide), other _ .B _ (by decide)]⟩
  | B => exact ⟨_, other s .A _ (by decide), other _ .C _ (by decide)⟩
  | C => exact ⟨_, by rw [other _ .B _ (by decide), other _ .A _ (by decide)], rfl⟩

theorem katRecords_sameButLanes (s : State) (r : StartResult) : SameButLanes s (s.katRecords r) :=
  sameButLanes_foldl _ (fun u i => (katRecord_keeps u i (r.katFail.get i)).1) allLanes s

/-- The lane keeps nothing of it but the record. -/
theorem katRecords_lane_keeps (s : State) (r : StartResult) (i : LaneId) :
    ∃ Q n b, (s.katRecords r).lane i = { s.lane i with
      queue := Q
      almLost := n
      almLostPending := b } := by
  obtain ⟨u, hu, hlane⟩ := katRecords_lane s r i
  rw [hlane, ← hu]
  exact (katRecord_keeps u i _).2.2

/-- A lane whose check units pass stays as it is. -/
theorem katRecords_lane_passed {s : State} {r : StartResult} {i : LaneId} (h : r.katFail.get i = none) : (s.katRecords r).lane i = s.lane i := by
  obtain ⟨u, hu, hlane⟩ := katRecords_lane s r i
  rw [hlane, h]
  exact hu

/-- A lane with nothing in its queue queues the record of its failed check unit. -/
theorem katRecords_lane_failed {s : State} {r : StartResult} {i : LaneId} {k : Nat} (h : r.katFail.get i = some k) (hqueue : (s.lane i).queue = []) :
    ∃ q : Queued, q.code = 0x0508 ∧ q.writer = i.index + 1 ∧ (s.katRecords r).lane i = { s.lane i with queue := [q] } := by
  obtain ⟨u, hu, hlane⟩ := katRecords_lane s r i
  rw [hlane, h, State.katRecord, laneEvent_lane_same, hu]
  refine ⟨queuedOf 0x0508 (i.index + 1) (u.laneWall i) Origin.internal [payloadFields [(24, 1, i.index), (25, 1, k % 2), (26, 2, k / 2)]], rfl, rfl, ?_⟩
  rw [Lane.enqueue, if_pos (by rw [hqueue]; exact Nat.le_of_ble_eq_true rfl), hqueue]
  rfl

/-! ## Exclusion of the lanes that fail (R574) -/

/-- What the exclusions and the records of a start leave: phase, power state, mode, exchange RAM, and whether two key lists were equal. -/
def State.startCourse (s : State) : Phase × Power × Mode × Xram × Bool :=
  (s.control.phase, s.control.power, s.control.mode, s.xram, s.startup.noKeys)

/-- A lane that is EXCLUDED already does not isolate first (R230, Table 6.5). -/
theorem excludeLane_of_excluded {s : State} {i : LaneId} (h : (s.lane i).mode = .excluded) (c : Cause) :
    s.excludeLane i c = (s.markExcluded i c).event 0x0401 Origin.internal [(24, 1, i.index), (25, 1, 2), (26, 1, c.code)] := by
  have hundecided : ¬(s.lane i).undecided = true := by simp [Lane.undecided, h]
  have hisolated : s.isolate i (c == .link) = s := if_neg (by rw [h]; decide)
  unfold State.excludeLane
  simp only []
  rw [if_neg hundecided, hisolated]

theorem markExcluded_lane_same (s : State) (i : LaneId) (c : Cause) :
    ((s.markExcluded i c).lane i).mode = .excluded ∧ ((s.markExcluded i c).lane i).cause = some c := by
  unfold State.markExcluded
  simp only []
  rw [modLane_lane_same]
  exact ⟨rfl, rfl⟩

theorem markExcluded_lane_other (s : State) {i j : LaneId} (c : Cause) (h : j ≠ i) : (s.markExcluded i c).lane j = s.lane j :=
  modLane_lane_other _ _ h

/-- The exclusions of lanes that are EXCLUDED already: each gets the cause, the others stay, and so does the course of the start. -/
theorem excludeLanes_of_excluded (c : Cause) (l : List LaneId) (s : State) (h : ∀ i ∈ l, (s.lane i).mode = .excluded) :
    let u := l.foldl (fun u i => u.excludeLane i c) s
    u.startCourse = s.startCourse ∧ (∀ i, i ∉ l → u.lane i = s.lane i) ∧
      ∀ i, i ∈ l ∨ (s.lane i).cause = some c → (s.lane i).mode = .excluded → (u.lane i).mode = .excluded ∧ (u.lane i).cause = some c := by
  induction l generalizing s with
  | nil => exact ⟨rfl, fun _ _ => rfl, fun i hi hmode => ⟨hmode, hi.resolve_left List.not_mem_nil⟩⟩
  | cons j l ih =>
    intro u
    have hj := excludeLane_of_excluded (h j List.mem_cons_self) c
    obtain ⟨hsame, hcause⟩ := markExcluded_lane_same s j c
    have hlane : ∀ i, i ≠ j → (s.excludeLane j c).lane i = s.lane i := fun i hi => by rw [hj, event_lane, markExcluded_lane_other s c hi]
    have hmode : ((s.excludeLane j c).lane j).mode = .excluded ∧ ((s.excludeLane j c).lane j).cause = some c := by rw [hj]; exact ⟨hsame, hcause⟩
    have hexcluded : ∀ i, (s.lane i).mode = .excluded → ((s.excludeLane j c).lane i).mode = .excluded := by
      intro i hi
      by_cases hij : i = j
      · rw [hij]; exact hmode.1
      · rw [hlane i hij]; exact hi
    obtain ⟨hcourse, hother, hin⟩ := ih (s.excludeLane j c) (fun i hi => hexcluded i (h i (List.mem_cons_of_mem j hi)))
    refine ⟨hcourse.trans (by rw [hj]; rfl), fun i hi => ?_, fun i hi himode => hin i ?_ (hexcluded i himode)⟩
    · rw [List.mem_cons, not_or] at hi
      exact (hother i hi.2).trans (hlane i hi.1)
    · by_cases hij : i = j
      · rw [hij]; exact Or.inr hmode.2
      · rw [hlane i hij]
        exact hi.imp_left (fun hmem => (List.mem_cons.1 hmem).resolve_left hij)

/-- Where the lanes that passed vote and the others are EXCLUDED already, each of these gets its cause, and the number of voting lanes gives the
degradation state (R574, R575). -/
theorem excludeFailed_lands (s : State) (pass : LaneId → Bool) (hpass : ∀ i, (s.lane i).startPassed = pass i)
    (hmode : ∀ i, (s.lane i).mode = if pass i then LaneMode.voting else LaneMode.excluded) :
    s.excludeFailed.startCourse = s.startCourse ∧
      (∀ i, if pass i then (s.excludeFailed.lane i).mode = .voting
        else (s.excludeFailed.lane i).mode = .excluded ∧ (s.excludeFailed.lane i).cause = some .selfTest) ∧
      s.excludeFailed.control.degradation = if (allLanes.filter pass).length = 3 then .full else .reduced := by
  let s0 : State := { s with control := { s.control with reducedSince := s.now } }
  let out := allLanes.filter (fun i => !(s.lane i).startPassed)
  let s1 := out.foldl (fun u i => u.excludeLane i .selfTest) s0
  have hout : ∀ i, i ∈ out ↔ pass i = false := fun i => by
    simp only [out, List.mem_filter, hpass, Bool.not_eq_true']
    exact and_iff_right (by cases i <;> decide)
  obtain ⟨hcourse, hother, hin⟩ : s1.startCourse = s0.startCourse ∧ _ :=
    excludeLanes_of_excluded .selfTest out s0 (fun i hi => (hmode i).trans (by rw [(hout i).1 hi]; rfl))
  have hlanes : ∀ i, if pass i then (s1.lane i).mode = .voting else (s1.lane i).mode = .excluded ∧ (s1.lane i).cause = some .selfTest := by
    intro i
    cases hi : pass i with
    | false => exact hin i (Or.inl ((hout i).2 hi)) ((hmode i).trans (by rw [hi]; rfl))
    | true =>
      have hni : i ∉ out := fun h => absurd ((hout i).1 h) (by rw [hi]; decide)
      rw [if_pos rfl, hother i hni]
      exact (hmode i).trans (by rw [hi]; rfl)
  have hvoting : s1.voting = allLanes.filter pass := List.filter_congr (fun i _ => by
    have h := hlanes i
    cases hi : pass i with
    | false => rw [hi] at h; rw [h.1]; rfl
    | true => rw [hi] at h; rw [show (s1.lane i).mode = .voting from h]; rfl)
  have hfailed : s.excludeFailed.startCourse = s1.startCourse ∧ (∀ i, s.excludeFailed.lane i = s1.lane i) ∧
      s.excludeFailed.control.degradation = if s1.voting.length = 3 then .full else .reduced := by
    unfold State.excludeFailed
    extract_lets _ v0 v1 d v2
    have h2 : v2.startCourse = v1.startCourse ∧ (∀ i, v2.lane i = v1.lane i) ∧ v2.control.degradation = d := by
      by_cases hd : v1.control.degradation = d
      · rw [show v2 = v1 from if_pos hd]
        exact ⟨rfl, fun _ => rfl, hd⟩
      · rw [show v2 = v1.degrade d 0 from if_neg hd]
        exact ⟨rfl, fun _ => rfl, rfl⟩
    clear_value v2
    split
    · exact h2
    · exact h2
  obtain ⟨hkept, hsame, hdegradation⟩ := hfailed
  refine ⟨hkept.trans hcourse, fun i => ?_, ?_⟩
  · rw [hsame i]
    exact hlanes i
  · rw [hdegradation, hvoting]

/-! ## Entry to IDLE (R493, R575) -/

/-- How a lane has passed its start. -/
def State.startLane (s : State) (i : LaneId) : LaneMode × Bool := ((s.lane i).mode, (s.lane i).startPassed)

theorem startLane_joinLanes (s : State) (r : StartResult) (i : LaneId) : (s.joinLanes r).startLane i =
    (if (s.startPasses r).get i then LaneMode.voting else LaneMode.excluded, (s.startPasses r).get i) := by
  unfold State.joinLanes
  extract_lets pass s1
  obtain ⟨Q, n, b, hlane⟩ := katRecords_lane_keeps s1 r i
  unfold State.startLane
  rw [hlane]
  simp only [s1, State.lane, Lanes.get_mapI]
  rfl

theorem startLane_readSeals (s : State) (r : StartResult) (i : LaneId) : (s.readSeals r).startLane i = s.startLane i := by cases i <;> rfl
theorem startLane_restoreStash (s : State) (ok : Bool) (i : LaneId) : (s.restoreStash ok).startLane i = s.startLane i := by cases i <;> rfl
theorem startLane_loadProfiles (s : State) (i : LaneId) : s.loadProfiles.startLane i = s.startLane i := rfl

/-- The records of the first snapshot leave the lanes and the course of the start. -/
theorem startRecords_leaves (s : State) (pass : Lanes Bool) :
    ((s.startRecords pass).lanes, (s.startRecords pass).startCourse) = (s.lanes, s.startCourse) := by
  unfold State.startRecords
  extract_lets bits no points s1 s2 s3 s4 s5 s6
  have h2 : (s2.lanes, s2.startCourse) = (s.lanes, s.startCourse) := by
    simp only [s2]
    split <;> rfl
  have h4 : (s4.lanes, s4.startCourse) = (s2.lanes, s2.startCourse) := by
    simp only [s4]
    split <;> rfl
  have h5 : (s5.lanes, s5.startCourse) = (s4.lanes, s4.startCourse) := by
    clear_value points s4
    simp only [s5]
    split <;> rfl
  clear_value s5
  exact h5.trans (h4.trans h2)

/-- Entry to IDLE: STOP, with the exchange RAM filled with zeros and the lanes that passed VOTING (R493, R575). -/
theorem enterIdle_lands (s : State) (r : StartResult) :
    (s.enterIdle r).control.phase = .running ∧ (s.enterIdle r).control.power = .idle ∧ (s.enterIdle r).control.mode = .stop ∧
      (s.enterIdle r).xram.filled = true ∧ (s.enterIdle r).xram.mem = [] ∧ (s.enterIdle r).startup.noKeys = s.startup.noKeys ∧
      (∀ i, if (s.startPasses r).get i then ((s.enterIdle r).lane i).mode = .voting
        else ((s.enterIdle r).lane i).mode = .excluded ∧ ((s.enterIdle r).lane i).cause = some .selfTest) ∧
      (s.enterIdle r).control.degradation = if (allLanes.filter (fun i => (s.startPasses r).get i)).length = 3 then .full else .reduced := by
  let s0 : State := { s with wallOffset := ((s.joinLanes r).restoreStash r.mramOk).newestOffset }
  let s1 := (((s0.joinLanes r).readSeals r).restoreStash r.mramOk).loadProfiles
  let s2 : State := { s1 with
    control := { s1.control with
      phase := .running
      power := .idle
      mode := .stop }
    xram := { s1.xram with
      mem := []
      filled := true } }
  let s3 := s2.startRecords (s.startPasses r)
  have hjoin : (s0.joinLanes r).startup = s.startup := by
    unfold State.joinLanes
    rw [katRecords_sameButLanes]
  obtain ⟨hlanes, hleft⟩ := Prod.mk.inj (startRecords_leaves s2 (s.startPasses r))
  have hlane : ∀ i, s3.startLane i = (if (s.startPasses r).get i then LaneMode.voting else LaneMode.excluded, (s.startPasses r).get i) := by
    intro i
    have h3 : s3.startLane i = s1.startLane i := by
      unfold State.startLane State.lane
      rw [hlanes]
    rw [h3, startLane_loadProfiles, startLane_restoreStash, startLane_readSeals, startLane_joinLanes]
    rfl
  have hfinal := excludeFailed_lands s3 (fun i => (s.startPasses r).get i) (fun i => congrArg Prod.snd (hlane i)) (fun i => congrArg Prod.fst (hlane i))
  have hidle : s.enterIdle r = s3.excludeFailed := rfl
  rw [hidle]
  generalize s3.excludeFailed = u at hfinal
  obtain ⟨hcourse, hmodes, hdegradation⟩ := hfinal
  have hview : u.startCourse = (.running, .idle, .stop, s2.xram, s.startup.noKeys) :=
    hcourse.trans (hleft.trans (congrArg (fun x : Startup => (Phase.running, Power.idle, Mode.stop, s2.xram, x.noKeys)) hjoin))
  simp only [State.startCourse, Prod.mk.injEq] at hview
  obtain ⟨hphase, hpower, hmode, hxram, hkeys⟩ := hview
  exact ⟨hphase, hpower, hmode, by rw [hxram], by rw [hxram], hkeys, hmodes, hdegradation⟩

/-! ## The end of a start and its retry (R575) -/

/-- Whether the lanes hold one key list stays known (R541). -/
def State.comparesKeys (s : State) (r : StartResult) : State :=
  { s with startup := { s.startup with noKeys := !agreementHolds r.keyLists s.comparing } }

/-- Which lanes have passed stays known, and so does each failed check unit (R327, R574). -/
def State.notesPasses (s : State) (r : StartResult) : State :=
  ({ s with lanes := s.lanes.mapI (fun i (l : Lane) => { l with startPassed := (s.startPasses r).get i }) } : State).katRecords r

theorem notesPasses_sameButLanes (s : State) (r : StartResult) : SameButLanes s (s.notesPasses r) := by
  have h := katRecords_sameButLanes { s with lanes := s.lanes.mapI (fun i (l : Lane) => { l with startPassed := (s.startPasses r).get i }) } r
  exact h

/-- What each lane keeps of the start: whether it passed, and the record of a check unit that failed. -/
theorem notesPasses_lane (s : State) (r : StartResult) (i : LaneId) :
    ((s.notesPasses r).lane i).startPassed = (s.startPasses r).get i ∧
      (r.katFail.get i = none → (s.notesPasses r).lane i = { s.lane i with startPassed := (s.startPasses r).get i }) ∧
      ∀ k, r.katFail.get i = some k → (s.lane i).queue = [] → ∃ q, ((s.notesPasses r).lane i).queue = [q] ∧ q.code = 0x0508 ∧ q.writer = i.index + 1 ∧
        (s.notesPasses r).lane i = { s.lane i with
          startPassed := (s.startPasses r).get i
          queue := [q] } := by
  let v : State := { s with lanes := s.lanes.mapI (fun i (l : Lane) => { l with startPassed := (s.startPasses r).get i }) }
  have hv : v.lane i = { s.lane i with startPassed := (s.startPasses r).get i } := Lanes.get_mapI s.lanes _ i
  have hnotes : s.notesPasses r = v.katRecords r := rfl
  rw [hnotes]
  refine ⟨?_, fun hpassed => (katRecords_lane_passed hpassed).trans hv, fun k hfailed hqueue => ?_⟩
  · obtain ⟨Q, n, b, hlane⟩ := katRecords_lane_keeps v r i
    rw [hlane, hv]
  · obtain ⟨q, hcode, hwriter, hlane⟩ := katRecords_lane_failed hfailed (s := v) (by rw [hv]; exact hqueue)
    rw [hlane, hv]
    exact ⟨q, rfl, hcode, hwriter, rfl⟩

/-- How many lanes pass their start (R574). -/
def State.passCount (s : State) (r : StartResult) : Nat := (allLanes.filter (fun i => (s.startPasses r).get i)).length

section
variable {s : State} {r : StartResult} (hphase : s.control.phase = .starting) (hturn : s.startup.bistTurn = none)
include hphase hturn

/-- Two or three lanes that pass bring a module that does not restart to IDLE (R575). -/
theorem startComplete_idle (h : 2 ≤ s.passCount r) (hrestart : s.startup.restart = false) :
    s.startComplete r = (s.comparesKeys r).enterIdle r :=
  (if_pos ⟨hphase, hturn⟩).trans ((if_pos h).trans (if_neg (fun hyes => Bool.false_ne_true (hrestart.symm.trans hyes))))

/-- With fewer the start waits for its retry. -/
theorem startComplete_waits (h : s.passCount r < 2) (hfirst : s.startup.retried = false) :
    s.startComplete r = { s with
      control := { s.control with phase := .retryWait }
      startup := { s.startup with
        retryAt := s.now + second
        noKeys := !agreementHolds r.keyLists s.comparing }
      lanes := ((s.comparesKeys r).notesPasses r).lanes } :=
  (if_pos ⟨hphase, hturn⟩).trans ((if_neg (Nat.not_le.2 h)).trans
    ((if_neg (fun hyes => Bool.false_ne_true (hfirst.symm.trans hyes))).trans
      (congrArg (fun u : State => { u with
        control := { s.control with phase := .retryWait }
        startup := { (s.comparesKeys r).startup with retryAt := s.now + second } }) (notesPasses_sameButLanes (s.comparesKeys r) r))))

/-- The retry has failed: the module stays in reset. -/
theorem startComplete_dies (h : s.passCount r < 2) (hretried : s.startup.retried = true) :
    s.startComplete r = { s with
      control := { s.control with phase := .dead }
      startup := { s.startup with noKeys := !agreementHolds r.keyLists s.comparing }
      lanes := ((s.comparesKeys r).notesPasses r).lanes } :=
  (if_pos ⟨hphase, hturn⟩).trans ((if_neg (Nat.not_le.2 h)).trans ((if_pos hretried).trans
    (congrArg (fun u : State => { u with control := { s.control with phase := .dead } }) (notesPasses_sameButLanes (s.comparesKeys r) r))))

end

/-- Settles O10. That a lane that does not pass is EXCLUDED with its cause already at the end of the start is log entry 61. -/
theorem startEndsInIdleOrIsRetriedOnce : Obligations.StartEndsInIdleOrIsRetriedOnce := by
  unfold Obligations.StartEndsInIdleOrIsRetriedOnce
  refine ⟨fun t r s hphase hturn => ?_, fun t s hwait => ⟨fun hdue => ?_, fun hearly => ?_⟩⟩
  · intro n noted
    have hnoted : noted (((s.tick t).comparesKeys r).notesPasses r) := notesPasses_lane ((s.tick t).comparesKeys r) r
    refine ⟨fun hpass hrestart => ?_, fun hfew hfirst => ?_, fun hfew hretried => ?_⟩
    · have hlands := enterIdle_lands ((s.tick t).comparesKeys r) r
      refine ⟨_, run_eq s t (fun u => u.startComplete r), ?_⟩
      rw [startComplete_idle (s := s.tick t) hphase hturn hpass hrestart]
      generalize ((s.tick t).comparesKeys r).enterIdle r = u at hlands ⊢
      obtain ⟨hrunning, hidle, hstop, hfilled, hmem, hkeys, hlanes, hdegradation⟩ := hlands
      refine ⟨hrunning, hidle, hstop, hfilled, fun a => ?_, hkeys, hlanes, fun h3 _ => ?_, fun h2 => ?_⟩
      · exact congrArg (fun m => Mem.read m a) hmem
      · exact hdegradation.trans (if_pos h3)
      · exact hdegradation.trans (if_neg (fun h3 => absurd (h2.symm.trans h3) (by decide)))
    · have hwaits := startComplete_waits (s := s.tick t) hphase hturn hfew hfirst
      exact ⟨_, run_next (f := fun u => u.startComplete r) hwaits rfl rfl, hnoted, rfl⟩
    · have hdies := startComplete_dies (s := s.tick t) hphase hturn hfew hretried
      exact ⟨_, run_next (f := fun u => u.startComplete r) hdies rfl rfl, hnoted, rfl⟩
  · have hretry : (s.tick t).startRetry = _ := if_pos ⟨hwait, hdue⟩
    exact ⟨_, run_next (f := State.startRetry) hretry rfl rfl, rfl, rfl, fun i => Lanes.get_mapI s.lanes _ i, rfl⟩
  · exact run_idle (f := State.startRetry) (if_neg (fun h => absurd h.2 (Nat.not_le.2 hearly)))

end Sys2Proof.Machine
end

section
/-! # Copies that arrive, and the replies to them (R317, R344, R345, R654) -/

namespace Sys2Proof.Machine

/-! ## Arrival -/

/-- The module when a copy arrives on network `n`, before anything is judged: the SVC LED flickers on one at the service port (R654). -/
def State.arrived (s : State) (t : Nat) (n : Net) : State :=
  { s with
    now := max s.now t
    host := { s.host with svcFrames := if n = .service then s.host.svcFrames + 1 else s.host.svcFrames } }

section
variable {s : State} {t : Nat} (h : s.hostReady t)
include h

/-- A module that is ready lets no lease lapse when a copy arrives, and judges it. -/
theorem hostArrive_ready (op : Nat) (c : HostCopy) : (s.tick t).hostArrive op c = (s.arrived t c.net).admitCopy op c := by
  obtain ⟨hrun, -, -, hnode, -, -, -, hleases, hlock, -⟩ := h
  have hphy : (s.tick t).phyPowered = true := by simp [State.phyPowered, hrun]
  have hanswers : (s.tick t).answers = true := by simp [State.answers, hrun]
  have hseen : (s.tick t).svcSeen c.net = s.arrived t c.net := by
    unfold State.svcSeen State.arrived
    by_cases hc : c.net = .service
    · rw [if_pos ⟨hc, hphy⟩, if_pos hc]; rfl
    · rw [if_neg (fun e => hc e.1), if_neg hc]; rfl
  have hdue : (s.arrived t c.net).lapseDue = s.arrived t c.net := lapseDue_keeps (s := s.arrived t c.net) hleases hlock
  unfold State.hostArrive
  simp only [hseen, hdue]
  exact if_pos ⟨hanswers, Or.inr hnode⟩

/-- The rate of R344 leaves room for one copy more. -/
theorem arrived_uncrowded (n : Net) : (s.arrived t n).countArrival.crowded = false := by
  obtain ⟨-, -, -, -, hrestrictive, hother, hrate, -⟩ := h
  have hlength : (s.host.arrivals.filter (fun a => decide (max s.now t < a + ms))).length ≤ s.host.arrivals.length := List.length_filter_le _ _
  simp only [State.crowded, State.countArrival, State.arrived, hrestrictive, hother, List.isEmpty_nil, Bool.not_true, Bool.or_false,
    List.length_append, List.length_singleton, decide_eq_false_iff_not]
  omega

/-- A copy for another UDP port is counted and no more (Table 9.4, check 1). -/
theorem admitCopy_foreign (op : Nat) {c : HostCopy} {n : Net} (hport : c.ownPort = false) :
    (s.arrived t n).admitCopy op c = (s.arrived t n).countNet c.net (fun k => { k with ipDrop := inc k.ipDrop }) := by
  obtain ⟨-, -, hnative, -⟩ := h
  exact (if_neg (fun hki => absurd (hnative.symm.trans hki.1) Bool.false_ne_true)).trans (if_pos hport)

/-- A malformed copy is counted and no more (Table 9.4, check 2). -/
theorem admitCopy_malformed (op : Nat) {c : HostCopy} {n : Net} (hport : c.ownPort = true)
    (hbad : c.lenOk = false ∨ c.version ≠ 1 ∨ bitAt c.flags 0 = true ∨ 1400 < c.params.length ∨ c.params.length % 4 ≠ 0) :
    (s.arrived t n).admitCopy op c = (s.arrived t n).countNet c.net (fun k => { k with malformed := inc k.malformed }) := by
  obtain ⟨-, -, hnative, -⟩ := h
  exact (if_neg (fun hki => absurd (hnative.symm.trans hki.1) Bool.false_ne_true)).trans
    ((if_neg (by rw [hport]; exact Bool.noConfusion)).trans (if_pos hbad))

/-- A copy that passes checks 1 and 2 of Table 9.4 is judged at once. -/
theorem admitCopy_judges (op : Nat) {c : HostCopy} {n : Net} (hport : c.ownPort = true) (hlen : c.lenOk = true) (hversion : c.version = 1)
    (hflag : bitAt c.flags 0 = false) (hsize : c.params.length ≤ 1400) (hwords : c.params.length % 4 = 0) :
    (s.arrived t n).admitCopy op c = (s.arrived t n).countArrival.judge op c := by
  have hroom := arrived_uncrowded h n
  obtain ⟨-, -, hnative, -⟩ := h
  refine (if_neg (fun hki => absurd (hnative.symm.trans hki.1) Bool.false_ne_true)).trans ((if_neg (by rw [hport]; exact Bool.noConfusion)).trans
    ((if_neg ?_).trans (if_neg (by rw [hroom]; exact Bool.noConfusion))))
  simp only [hlen, hversion, hflag, hwords, Bool.true_eq_false, Bool.false_eq_true, ne_eq, not_true_eq_false, false_or, or_false, not_lt]
  exact hsize

end

/-- Lanes that differ in the counts of their check units alone. -/
theorem sameLanes_checkUnits {s u : State}
    (h : ∀ i, u.lane i = { s.lane i with inputs := { (s.lane i).inputs with checkUnits := (u.lane i).inputs.checkUnits } }) : s.sameLanes u := by
  intro i
  have hwaiting : (u.lane i).inputs.txPending = (s.lane i).inputs.txPending := by rw [h i]
  rw [hwaiting]
  exact h i

/-! ## The network rule (Table 9.6) -/

/-- The module without the records of SESSION_OPENs that are no longer kept (R372). -/
def State.keptRecs (s : State) : State := { s with host := { s.host with recs := s.host.recs.filter s.keepsOpening } }

section
variable {s : State} {op : Nat} {cls : OpClass} {c : HostCopy} {r : HostRec}

theorem compareCopy_first (h : s.keptRecs.recOf (copyKey op c) = none) : s.compareCopy op cls c = s.keptRecs.firstCopy op cls c := by
  unfold State.compareCopy
  unfold State.keptRecs at h ⊢
  simp only [h]

/-- A record whose window is open meets the copy. -/
theorem compareCopy_later (h : s.keptRecs.recOf (copyKey op c) = some r) (hwindow : s.stampOf c < r.opened + r.window) :
    s.compareCopy op cls c = s.keptRecs.laterCopy op cls c r := by
  have hopen : ¬(r.opened + r.window ≤ s.keptRecs.stampOf c) := Nat.not_le.2 hwindow
  unfold State.compareCopy
  unfold State.keptRecs at h hopen ⊢
  simp only [h, if_neg hopen]

/-- A decided record does not expire, however late the copy. -/
theorem compareCopy_decided (h : s.keptRecs.recOf (copyKey op c) = some r) (hkey : r.key = copyKey op c) (hdecided : r.isOpen = false) :
    ∃ n, s.compareCopy op cls c = ({ s.keptRecs with now := n } : State).laterCopy op cls c r := by
  by_cases hwindow : r.opened + r.window ≤ s.keptRecs.stampOf c
  · let v : State := { s.keptRecs with now := max s.now (s.keptRecs.stampOf c) }
    have hv : v.recOf (copyKey op c) = some r := h
    have hstays : v.expireRec r.key = v := by
      unfold State.expireRec
      rw [hkey, hv]
      exact if_neg (fun hdue => absurd (hdecided.symm.trans hdue.1) Bool.false_ne_true)
    refine ⟨max s.now (s.keptRecs.stampOf c), ?_⟩
    have hcompare : s.compareCopy op cls c = v.laterCopy op cls c r := by
      unfold State.compareCopy
      unfold State.keptRecs at h hwindow
      simp only [h, if_pos hwindow]
      have hstays' := hstays
      simp only [v, State.keptRecs] at hstays' hv ⊢
      rw [hstays', hv]
    exact hcompare
  · exact ⟨s.now, compareCopy_later h (Nat.not_le.1 hwindow)⟩

end

theorem keepsOpening_open {s : State} {r : HostRec} (h : r.isOpen = true) : s.keepsOpening r = true := by
  unfold State.keepsOpening
  rw [h]
  simp

/-- The record that a search finds first is found among those that are kept, where it is kept. -/
theorem find_filter_kept {l : List HostRec} {k : RecKey} {r : HostRec} {keep : HostRec → Bool} (h : l.find? (fun y => y.key == k) = some r)
    (hkeep : keep r = true) : (l.filter keep).find? (fun y => y.key == k) = some r := by
  obtain ⟨hk, before, after, rfl, hbefore⟩ := List.find?_eq_some_iff_append.1 h
  have hnone : (before.filter keep).find? (fun y => y.key == k) = none :=
    List.find?_eq_none.2 (fun x hx => by simpa using hbefore x (List.mem_of_mem_filter hx))
  rw [List.filter_append, List.filter_cons_of_pos hkeep, List.find?_append, List.find?_cons, hk, hnone]
  rfl

/-! ## Replies -/

theorem told_told (s : State) (a b : List Reply) (K L : Lanes Lane) : (s.told a K).told b L = s.told (a ++ b) L := by
  simp only [State.told, List.append_assoc]

/-- A reply whose path is known waits for the check units of the lanes (R317). -/
theorem reply_tells {s : State} {r : Reply} {path : ReturnPath} (hrun : s.control.phase = .running) (htwo : 2 ≤ s.voting.length)
    (hpath : s.replyPath r = some path) : ∃ r' L, s.reply r = s.told [r'] L ∧ s.sameLanes (s.told [r'] L) ∧ ∃ o b, r' = { r with
      path := some path
      oneLane := o
      bytes := b } := by
  obtain ⟨b, L, hreply, hlanes⟩ := replyWith_waits (s.replyFold r.opcode r.session) r path hrun htwo hpath
  exact ⟨_, L, hreply, sameLanes_tx hlanes, _, b, rfl⟩

/-- Replies on both networks, each with a path. -/
theorem replies_tell {s : State} {f : State → Net → Reply} (hrun : s.control.phase = .running) (htwo : 2 ≤ s.voting.length)
    (hsame : ∀ rs L n, f (s.told rs L) n = f s n) (hpath : ∀ rs L n, n = .x ∨ n = .y → ((s.told rs L).replyPath (f s n)).isSome = true) :
    ∃ r1 r2 L, [Net.x, .y].foldl (fun u n => u.reply (f u n)) s = s.told [r1, r2] L ∧ s.sameLanes (s.told [r1, r2] L) ∧
      (∃ p o b, r1 = { f s .x with
        path := some p
        oneLane := o
        bytes := b }) ∧
      ∃ p o b, r2 = { f s .y with
        path := some p
        oneLane := o
        bytes := b } := by
  obtain ⟨p1, hp1⟩ := Option.isSome_iff_exists.1 (hpath [] s.lanes .x (Or.inl rfl))
  have hp1' : s.replyPath (f s .x) = some p1 := hp1
  obtain ⟨r1, L1, hreply1, hlanes1, hr1⟩ := reply_tells hrun htwo hp1'
  obtain ⟨p2, hp2⟩ := Option.isSome_iff_exists.1 (hpath [r1] L1 .y (Or.inr rfl))
  obtain ⟨r2, L2, hreply2, hlanes2, hr2⟩ := reply_tells (s := s.told [r1] L1) hrun (sameLanes_mode hlanes1 htwo) hp2
  rw [told_told] at hreply2 hlanes2
  refine ⟨r1, r2, L2, ?_, sameLanes_trans hlanes1 hlanes2, ⟨p1, hr1⟩, p2, hr2⟩
  simp only [List.foldl_cons, List.foldl_nil, hreply1, hsame]
  exact hreply2

end Sys2Proof.Machine
end

section
/-! # The second copy of a SESSION_OPEN (R304, R338, R348, R369 to R372, R546) -/

namespace Sys2Proof.Machine

/-! ## The state in which it is decided -/

/-- Counting a copy changes the counters of its network and the arrivals. -/
theorem countedHost_eq (s : State) (t : Nat) (n : Net) : ∃ x y z, s.countedHost t n = { s.host with
    countersX := x
    countersY := y
    countersS := z
    arrivals := s.host.arrivals.filter (fun a => decide (max s.now t < a + ms)) ++ [max s.now t] } := by
  cases n <;> exact ⟨_, _, _, rfl⟩

/-- The state in which a SESSION_OPEN is decided: the copy is counted, and the lanes have counted its checks. -/
def State.withCounted (s : State) (t : Nat) (n : Net) (R : List HostRec) (L : Lanes Lane) : State :=
  { s with
    now := max s.now t
    host := { s.countedHost t n with recs := R }
    lanes := L }

section
variable {s : State} {t : Nat} {n : Net} {R : List HostRec} {L : Lanes Lane}

theorem withCounted_sessionOf (k : Nat) : (s.withCounted t n R L).sessionOf k = s.sessionOf k := by cases n <;> rfl

theorem withCounted_certCheck (p : Bytes) : (s.withCounted t n R L).certCheck p = s.certCheck p := by cases n <;> rfl

theorem withCounted_openNonce (p : Bytes) : (s.withCounted t n R L).openNonce p = s.openNonce p := by cases n <;> rfl

theorem withCounted_lead (hl : s.sameLanes (s.withCounted t n R L)) : (s.withCounted t n R L).lead = s.lead :=
  lead_same (fun i => by rw [hl i])

theorem withCounted_oldestRecord (hl : s.sameLanes (s.withCounted t n R L)) : (s.withCounted t n R L).oldestRecord = s.oldestRecord := by
  have hlead : (s.withCounted t n R L).leadLane.stash = s.leadLane.stash ∧ (s.withCounted t n R L).leadLane.stashNext = s.leadLane.stashNext := by
    unfold State.leadLane
    rw [withCounted_lead hl, hl s.lead]
    exact ⟨rfl, rfl⟩
  unfold State.oldestRecord
  rw [hlead.1, hlead.2]
  rfl

end

/-! ## Its way there -/

/-- A SESSION_OPEN that passes the checks of Table 9.4 is counted and compared. -/
theorem hostArrive_opening {s : State} {t : Nat} {c : HostCopy} (h : s.hostReady t) (g : s.goodOpening c) :
    ∃ L, s.sameLanes (s.withCounted t c.net s.host.recs L) ∧
      (s.tick t).hostArrive 0x0001 c = (s.withCounted t c.net s.host.recs L).compareCopy 0x0001 .permissive c := by
  obtain ⟨hsession, hnet, hport, hlen, hversion, hflags, hsize, hwords, hrx, hcvP, hcvQ, hreserved, hseq, hahead⟩ := g
  have hadmit := (hostArrive_ready h 0x0001 c).trans
    (admitCopy_judges h 0x0001 hport hlen hversion (by rw [hflags]; rfl) hsize hwords)
  obtain ⟨hrun, htwo, -, -, -, -, -, -, -, hheld⟩ := h
  let q := (s.arrived t c.net).countArrival
  obtain ⟨L, hcheck, hlanes⟩ := checkTelegram_healthy q s.unexcluded (unexcluded_two htwo) hheld 1 c.path.port (0x10000 + c.session) c.session
  let p : State := { q with lanes := L }
  have hanswering : q.answering = s.unexcluded := by
    unfold State.answering
    rw [show q.control.phase = .running from hrun]
    rfl
  have hjudge : q.judge 0x0001 c = p.judgeHeader 0x0001 c := by
    have hp : (c.cvP == cvP (checkMessage (q.hostFold 0x0001 none) (HostCopyHead 0x0001 c))) = true := by
      rw [hcvP]; exact beq_self_eq_true _
    have hq : (c.cvQ == cvQ (checkMessage (q.hostFold 0x0001 none) (HostCopyHead 0x0001 c))) = true := by
      rw [hcvQ]; exact beq_self_eq_true _
    unfold State.judge
    simp only [if_true, beq_self_eq_true, Bool.true_or, Bool.true_and, hp, hq, hrx, hanswering, hcheck, Bool.true_eq_false, if_false]
    exact if_pos hrun
  have hheader : p.judgeHeader 0x0001 c = (p.countNet c.net (fun k => { k with copies := inc k.copies })).compareCopy 0x0001 .permissive c := by
    have hfields : ¬(2 ≤ c.flags ∨ (0x0001 = 0x0001 ∧ c.session ≠ 0) ∨ reservedOk 0x0001 c.params = false) := by
      rw [hflags, hsession, hreserved]
      simp
    have hsequence : p.seqOk 0x0001 c = true := by simp [State.seqOk, hseq]
    have hlatest : ¬(p.isAhead c.reqSnap = true) := by
      rw [show p.isAhead c.reqSnap = s.isAhead c.reqSnap from rfl, hahead]
      exact Bool.false_ne_true
    have hrow : opOf 0x0001 = some (opRow 0x0001 .permissive true true true true) := rfl
    unfold State.judgeHeader
    rw [if_neg hfields, hrow]
    simp only [ne_eq, not_true_eq_false, false_and, if_false, hsequence, Bool.true_eq_false, and_false, if_neg hlatest]
    rfl
  have hcounted : p.countNet c.net (fun k => { k with copies := inc k.copies }) = s.withCounted t c.net s.host.recs L := by
    simp only [p, q, State.countArrival, State.arrived, if_neg hnet, State.withCounted, State.countedHost]
    cases c.net <;> rfl
  exact ⟨L, sameLanes_checkUnits hlanes, hadmit.trans (hjudge.trans (hheader.trans (by rw [hcounted])))⟩

theorem copyKey_opening {c : HostCopy} (h : c.net ≠ .service) : copyKey 0x0001 c = .opening (openHost c.params) c.seq := by
  unfold copyKey
  rw [if_pos rfl, if_neg h]
  rfl

/-- The second copy of a SESSION_OPEN goes to its decision for both networks. -/
theorem second_opening_decides {s : State} {t : Nat} {c : HostCopy} (h : s.hostReady t) (g : s.secondOpening c) :
    ∃ R L r, s.sameLanes (s.withCounted t c.net R L) ∧ (s.withCounted t c.net R L).recOf (copyKey 0x0001 c) = some r ∧
      r.pathX.isSome = true ∧ r.pathY.isSome = true ∧ (if c.net = .y then r.pathY else r.pathX) = some c.path ∧
      (s.tick t).hostArrive 0x0001 c = (s.withCounted t c.net R L).decideCopy 0x0001 c none [.x, .y] := by
  obtain ⟨hgood, hfresh, r, hrec, hopen, hother, hbytes, hwindow, hpath⟩ := g
  have hnet : c.net ≠ .service := hgood.2.1
  have hkey := copyKey_opening hnet
  obtain ⟨L, hlanes, harrive⟩ := hostArrive_opening h hgood
  let p := s.withCounted t c.net s.host.recs L
  let p1 : State := p.keptRecs
  have hrkey : r.key = .opening (openHost c.params) c.seq := by simpa using List.find?_some hrec
  have hropen : r.isOpen = true := by simp [HostRec.isOpen, hopen]
  have hfound : p1.recOf (copyKey 0x0001 c) = some r := by
    rw [hkey]
    exact find_filter_kept hrec (keepsOpening_open hropen)
  have hinside : p.stampOf c < r.opened + r.window := by
    rw [show p.stampOf c = s.stampOf c from congrArg c.stamps.get (withCounted_lead hlanes)]
    exact hwindow
  have hnone : p1.decisionOf r.key (HostCopyHead 0x0001 c) = none := by
    rw [hrkey]
    exact decisionOf_filter_none (keep := p.keepsOpening) hfresh rfl
  let p2 : State := p1.modRec r.key (fun y => y.addPath c)
  have hlater : p1.laterCopy 0x0001 .permissive c r = p2.decideCopy 0x0001 c none [.x, .y] := by
    unfold State.laterCopy
    simp only [hnone]
    exact (if_neg (by decide)).trans ((if_pos hropen).trans ((if_neg (fun e => hother e.symm)).trans (if_pos hbytes.symm)))
  have haddkey : ∀ y : HostRec, (y.addPath c).key = y.key := fun y => by unfold HostRec.addPath; split <;> rfl
  refine ⟨p2.host.recs, L, r.addPath c, hlanes, ?_, ?_, ?_, ?_, harrive.trans ((compareCopy_later hfound hinside).trans hlater)⟩
  · have h2 : p2.recOf r.key = some (r.addPath c) := find_modRec p1.host.recs r.key _ haddkey (by rw [hrkey, ← hkey]; exact hfound)
    rw [hkey, ← hrkey]
    exact h2
  all_goals
    unfold HostRec.addPath
    by_cases hy : c.net = .y
    · rw [if_pos hy] at hpath ⊢
      simp [hy, hpath]
    · rw [if_neg hy] at hpath ⊢
      simp [hy, hpath]

/-! ## Its acceptance (R370) -/

theorem freeSessions_mem {s : State} {n : Nat} : n ∈ s.freeSessions ↔ 1 ≤ n ∧ n ≤ 32 ∧ s.sessionOf n = none := by
  unfold State.freeSessions
  simp only [List.mem_filter, List.mem_map, List.mem_range, Option.isNone_iff_eq_none]
  constructor
  · rintro ⟨⟨k, hk, rfl⟩, hfree⟩
    exact ⟨by omega, by omega, hfree⟩
  · rintro ⟨hlow, hhigh, hfree⟩
    exact ⟨⟨n - 1, by omega, by omega⟩, hfree⟩

/-- A new session takes a free number, where there is one (log entry 10). -/
theorem newSession_free {s : State} (h : ∃ n, 1 ≤ n ∧ n ≤ 32 ∧ s.sessionOf n = none) :
    1 ≤ s.newSession ∧ s.newSession ≤ 32 ∧ s.sessionOf s.newSession = none := by
  obtain ⟨n, hn⟩ := h
  have hpos : 0 < s.freeSessions.length := List.length_pos_of_mem (freeSessions_mem.2 hn)
  refine freeSessions_mem.1 ?_
  unfold State.newSession
  rw [List.getD_eq_getElem _ _ (Nat.mod_lt _ hpos)]
  exact List.getElem_mem _

/-- The tag of a new session is not 0 (R304). -/
theorem newTag_ne_zero (s : State) : s.newTag ≠ 0 := by
  unfold State.newTag
  simp only []
  split
  · decide
  · assumption

theorem accept_sessionOpen (s : State) {c : Cmd} (h : c.opcode = 0x0001) : s.accept c = s.acceptSessionOpen c := by unfold State.accept; rw [h]; rfl

/-- R370: the checks hold, and a session opens. -/
theorem acceptSessionOpen_opens {s : State} {cmd : Cmd} (hnet : cmd.net ≠ .service) (hfree : ∃ n, 1 ≤ n ∧ n ≤ 32 ∧ s.sessionOf n = none)
    (hok : openParamsOk cmd.params = true) (hcert : openEngineer cmd.params = true → s.sealClosed 15 = true ∧ s.certCheck cmd.params = 0) :
    s.acceptSessionOpen cmd = s.openSession cmd (if openEngineer cmd.params then .engineer else .operator) := by
  obtain ⟨n, hn⟩ := hfree
  have hservice : (cmd.net == Net.service) = false := by simpa using hnet
  have hroom : s.sessionsFull false = false := by
    have : s.freeSessions ≠ [] := List.ne_nil_of_mem (freeSessions_mem.2 hn)
    simp [State.sessionsFull, this]
  unfold State.acceptSessionOpen
  simp only [hservice, hok, hroom, Bool.and_false, Bool.not_true, Bool.false_eq_true, if_false]
  cases heng : openEngineer cmd.params with
  | false => rfl
  | true =>
    obtain ⟨hseal, hchecked⟩ := hcert heng
    simp [hseal, hchecked]

/-! ## Its decision (R338, R371, R546) -/

/-- An accepted copy is decided in its record, answered, and then has its effects. -/
theorem decideCopy_accepted {p : State} {op : Nat} {c : HostCopy} {nets : List Net} {r : HostRec} {a : Acc} (hrec : p.recOf (copyKey op c) = some r)
    (ha : p.accept (p.cmdOf op c r none) = a) (hs : a.status = stOk ∨ a.status = stAccepted) :
    p.decideCopy op c none nets = ((a.st.putDecision r.key op
      { status := a.status, snapshot := a.snapshot.getD p.replySnapshot, data := a.data, bytes := HostCopyHead op c }).sendDecision op c r nets a.status (a.snapshot.getD p.replySnapshot) a.data).afterAccept op c
        (p.cmdOf op c r none) a.data := by
  unfold State.decideCopy
  simp only [decideKey, hrec, ha]
  exact if_pos hs

theorem rd16_b16 {n : Nat} (h : n < 65536) (b : Bytes) : rd16 (b16 n ++ b) 0 = n := by
  have hbytes : slice (b16 n ++ b) 0 2 = b16 n := rfl
  unfold rd16
  rw [hbytes]
  simp only [b16, leBytes, leNat, BitVec.toNat_ofNat]
  omega

/-- The COMMAND record of an accepted SESSION_OPEN has the origin of the new session (R360). -/
theorem afterAccept_opened {s : State} {c : HostCopy} {cmd : Cmd} {data : Bytes} {y : Session} (h : s.sessionOf (rd16 data 0) = some y) :
    s.afterAccept 0x0001 c cmd data = s.event 0x0606 (Origin.ofSession y) [(24, 2, 0x0001), (26, 2, rd16 c.params 0), (28, 4, c.originId)] := by
  have hpermissive : isRestrictive 0x0001 = false := rfl
  have hrecorded : recordsCommand 0x0001 c.params = true := rfl
  unfold State.afterAccept
  simp only [hpermissive, hrecorded, Bool.false_eq_true, if_false, if_true, h, Option.map_some, Option.getD_some]
  rfl

/-- The two replies to a decided SESSION_OPEN go to the return paths of its record (R339). -/
theorem sendDecision_opening {v : State} {c : HostCopy} {r : HostRec} {st snap : Nat} {d : Bytes} (hrun : v.control.phase = .running)
    (htwo : 2 ≤ v.voting.length) (hx : r.pathX.isSome = true) (hy : r.pathY.isSome = true) :
    ∃ r1 r2 L, v.sendDecision 0x0001 c r [.x, .y] st snap d = v.told [r1, r2] L ∧ v.sameLanes (v.told [r1, r2] L) ∧ r1.net = .x ∧ r2.net = .y ∧
      ∀ q : Reply, q = r1 ∨ q = r2 → q.ki40 = false ∧ q.repeated = false ∧ q.late = false ∧ q.session = c.session ∧ q.seq = c.seq ∧
        q.opcode = 0x0001 ∧ q.originId = c.originId ∧ q.status = st ∧ q.data = d ∧ q.path.isSome = true := by
  let path := fun n : Net => if n = c.net then some c.path else if n = .y then r.pathY else r.pathX
  obtain ⟨r1, r2, L, hsend, hlanes, ⟨p1, o1, b1, rfl⟩, p2, o2, b2, rfl⟩ := replies_tell (s := v) (f := fun u n => u.copyReply 0x0001 c n (path n) false st snap d) hrun htwo
    (fun _ _ _ => rfl) (fun rs L n _ => by
      have hsome : (path n).isSome = true := by
        simp only [path]
        split
        · rfl
        · split
          · exact hy
          · exact hx
      obtain ⟨p, hp⟩ := Option.isSome_iff_exists.1 hsome
      unfold State.replyPath State.copyReply
      simp only [hp, Option.isSome_some])
  refine ⟨_, _, L, hsend, hlanes, rfl, rfl, ?_⟩
  rintro q (rfl | rfl) <;> exact ⟨rfl, rfl, rfl, rfl, rfl, rfl, rfl, rfl, rfl, rfl⟩

/-- The return paths of a command are those of its record (R339). -/
theorem cmdOf_paths (p : State) (op : Nat) (c : HostCopy) (r : HostRec) :
    ((p.cmdOf op c r none).paths.find? (fun q => q.1 != .y)).map (·.2) = r.pathX ∧
      ((p.cmdOf op c r none).paths.find? (fun q => q.1 == .y)).map (·.2) = r.pathY := by
  have hx : (if r.net = .service then Net.service else Net.x) ≠ .y := by split <;> decide
  unfold State.cmdOf
  cases r.pathX <;> cases r.pathY <;> simp [hx]

/-- The session that a SESSION_OPEN opens (R348, R371). -/
def State.openedSession (s : State) (cmd : Cmd) (cls : OriginClass) : Session :=
  { number := s.newSession, tag := s.newTag, hostId := openHost cmd.params, cls := cls, openedAt := none, credit := s.param 8, high := 0,
    leaseEnd := cmd.stamps.get s.lead + 2 * second, pathX := (cmd.paths.find? (fun q => q.1 != .y)).map (·.2),
    pathY := (cmd.paths.find? (fun q => q.1 == .y)).map (·.2), cursor := s.oldestRecord, quote := none }

/-- The reply data of Table 10.4. -/
def Session.openingData (x : Session) : Bytes := b16 x.number ++ b8 x.cls.code ++ b8 0 ++ b32 x.tag.toNat ++ b16 x.credit ++ b16 0

/-- The state with a session more. -/
def State.withSession (s : State) (x : Session) (used : List Nat) : State :=
  ({ s with
    host := { s.host with
      sessions := s.host.sessions ++ [x]
      noncesUsed := s.host.noncesUsed ++ used }
    freeCtr := s.freeCtr + 2 } : State).event 0x0601 (Origin.ofSession x) [(24, 1, 0)]

theorem openSession_eq (s : State) (cmd : Cmd) (cls : OriginClass) : s.openSession cmd cls =
    (s.withSession (s.openedSession cmd cls) (if cls = .engineer then (s.openNonce cmd.params).toList else [])).accData stAccepted
      (s.openedSession cmd cls).openingData := rfl

theorem rd16_openingData {x : Session} (h : x.number ≤ 32) : rd16 x.openingData 0 = x.number := by
  unfold Session.openingData
  simp only [List.append_assoc]
  exact rd16_b16 (by omega) _

theorem sessionOf_appended {s : State} {x : Session} {l : List Session} (h : s.sessionOf x.number = none) (hl : l = s.host.sessions ++ [x]) :
    l.find? (fun y => y.number == x.number) = some x := by
  rw [hl, List.find?_append, show s.host.sessions.find? (fun y => y.number == x.number) = none from h]
  simp

/-- Settles O39. Which free number and tag the session gets are values drawn with the counter (log entry 10). -/
theorem sessionOpensAtItsSecondCopy : Obligations.SessionOpensAtItsSecondCopy := by
  unfold Obligations.SessionOpensAtItsSecondCopy
  intro t c s h g hfree hok hcert
  obtain ⟨R, L, r, hlanes, hrec, hpathX, hpathY, hown, harrive⟩ := second_opening_decides h g
  let p := s.withCounted t c.net R L
  let cmd := p.cmdOf 0x0001 c r none
  let y := p.openedSession cmd (if openEngineer c.params then .engineer else .operator)
  have hfree' : ∃ n, 1 ≤ n ∧ n ≤ 32 ∧ p.sessionOf n = none := by
    obtain ⟨n, hlow, hhigh, hnone⟩ := hfree
    exact ⟨n, hlow, hhigh, (withCounted_sessionOf n).trans hnone⟩
  obtain ⟨hlow, hhigh, hnone⟩ : 1 ≤ y.number ∧ y.number ≤ 32 ∧ p.sessionOf y.number = none := newSession_free hfree'
  have haccept : p.accept cmd = p.openSession cmd (if openEngineer c.params then .engineer else .operator) :=
    (accept_sessionOpen p rfl).trans (acceptSessionOpen_opens g.1.2.1 hfree' hok (fun heng => by
      obtain ⟨hseal, hchecked⟩ := hcert heng
      exact ⟨hseal, (withCounted_certCheck _).trans hchecked⟩))
  have hused : (if (if openEngineer c.params then OriginClass.engineer else .operator) = .engineer then (p.openNonce c.params).toList else []) =
      if openEngineer c.params then (s.openNonce c.params).toList else [] := by
    rw [show p.openNonce c.params = s.openNonce c.params from withCounted_openNonce _]
    cases openEngineer c.params <;> rfl
  let v := (p.withSession y (if openEngineer c.params then (s.openNonce c.params).toList else [])).putDecision r.key 0x0001
    { status := stAccepted, snapshot := p.replySnapshot, data := y.openingData, bytes := HostCopyHead 0x0001 c }
  obtain ⟨r1, r2, K, hsend, hkept, hx, hy, hreplies⟩ := sendDecision_opening (v := v) (c := c) (r := r) (st := stAccepted)
    (snap := p.replySnapshot) (d := y.openingData) h.1 (sameLanes_mode hlanes h.2.1) hpathX hpathY
  have hdecide := decideCopy_accepted (nets := [.x, .y]) hrec haccept (Or.inr rfl)
  rw [openSession_eq, show cmd.params = c.params from rfl, hused] at hdecide
  have hafter : (v.told [r1, r2] K).afterAccept 0x0001 c cmd y.openingData =
      (v.told [r1, r2] K).event 0x0606 (Origin.ofSession y) [(24, 2, 0x0001), (26, 2, rd16 c.params 0), (28, 4, c.originId)] :=
    afterAccept_opened (by
      rw [rd16_openingData hhigh]
      exact sessionOf_appended hnone rfl)
  obtain ⟨X, Y, Z, hcounted⟩ := countedHost_eq s t c.net
  have hend : (s.tick t).hostArrive 0x0001 c = { s with
      now := max s.now t
      host := { s.countedHost t c.net with
        sessions := s.host.sessions ++ [y]
        recs := v.host.recs
        replies := s.host.replies ++ [r1, r2]
        noncesUsed := s.host.noncesUsed ++ (if openEngineer c.params then (s.openNonce c.params).toList else []) }
      lanes := K
      almanac := { s.almanac with events := s.almanac.events ++ [y.record 0x0601 [(24, 1, 0)], y.commandRecord 0x0001 c] }
      freeCtr := s.freeCtr + 2 } := by
    refine harrive.trans (hdecide.trans ?_)
    show (v.sendDecision 0x0001 c r [.x, .y] stAccepted p.replySnapshot y.openingData).afterAccept 0x0001 c cmd y.openingData = _
    rw [hsend, hafter]
    simp only [v, p, State.told, State.withSession, State.withCounted, State.putDecision, State.modRec, State.event, hcounted, List.append_assoc]
    rfl
  refine ⟨_, y.number, y.tag, run_next (f := fun u => u.hostArrive 0x0001 c) hend rfl rfl, hlow, hhigh, (withCounted_sessionOf _).symm.trans hnone,
    newTag_ne_zero p, y, ?_, ?_, ⟨r1, r2, rfl, hx, hy, hreplies⟩, rfl, rfl, sameLanes_trans hlanes hkept, rfl⟩
  · rw [← withCounted_oldestRecord hlanes]
    show y = { y with leaseEnd := s.stampOf c + 2 * second }
    rw [show s.stampOf c = c.stamps.get p.lead from congrArg c.stamps.get (withCounted_lead hlanes).symm]
    rfl
  · obtain ⟨hpx, hpy⟩ := cmdOf_paths p 0x0001 c r
    show (if c.net = .y then (cmd.paths.find? _).map _ else (cmd.paths.find? _).map _) = _
    rw [hpx, hpy]
    exact hown

end Sys2Proof.Machine
end

section
/-! # Copies that decide no command (R326, R337, R341, R342, R345, R351, R352, R654, Tables 9.4 and 9.6) -/

namespace Sys2Proof.Machine

theorem countNet_eq (s : State) (n : Net) (f : NetCounters → NetCounters) : ∃ x y z, s.countNet n f = { s with host := { s.host with
    countersX := x
    countersY := y
    countersS := z } } := by
  cases n <;> exact ⟨_, _, _, rfl⟩

/-! ## Copies that fail their check values (R326) -/

/-- `u` is `s` but for lanes and Almanac, and in each lane the mode and the counts of bad checks of hosts are those of `s`. -/
def State.checkedOnly (s u : State) : Prop :=
  u = { s with lanes := u.lanes, almanac := u.almanac } ∧ ∀ i, (u.lane i).mode = (s.lane i).mode ∧
    (u.lane i).counters.badCheckX = (s.lane i).counters.badCheckX ∧ (u.lane i).counters.badCheckY = (s.lane i).counters.badCheckY

theorem checkedOnly_refl (s : State) : s.checkedOnly s := ⟨rfl, fun _ => ⟨rfl, rfl, rfl⟩⟩

theorem checkedOnly_trans {s u v : State} (h : s.checkedOnly u) (g : u.checkedOnly v) : s.checkedOnly v := by
  refine ⟨?_, fun i => ?_⟩
  · rw [g.1, h.1]
  · obtain ⟨hmode, hx, hy⟩ := h.2 i
    obtain ⟨gmode, gx, gy⟩ := g.2 i
    exact ⟨gmode.trans hmode, gx.trans hx, gy.trans hy⟩

theorem checkedOnly_modLane {f : Lane → Lane}
    (hf : ∀ l, (f l).mode = l.mode ∧ (f l).counters.badCheckX = l.counters.badCheckX ∧ (f l).counters.badCheckY = l.counters.badCheckY)
    (s : State) (i : LaneId) : s.checkedOnly (s.modLane i f) := by
  refine ⟨rfl, fun j => ?_⟩
  rw [modLane_lane]
  split
  · exact hf _
  · exact ⟨rfl, rfl, rfl⟩

theorem checkedOnly_foldl {α : Type} {f : State → α → State} (hf : ∀ (s : State) (x : α), s.checkedOnly (f s x)) (l : List α) (s : State) :
    s.checkedOnly (l.foldl f s) := by
  induction l generalizing s with
  | nil => exact checkedOnly_refl s
  | cons x l ih => exact checkedOnly_trans (hf s x) (ih (f s x))

theorem checkedOnly_countMiss (s : State) (lanes : List LaneId) (j : LaneId) : s.checkedOnly (s.countMiss lanes j) :=
  checkedOnly_foldl (fun u i => checkedOnly_modLane (f := fun l => { l with
    counters := { l.counters with cwMiss := l.counters.cwMiss.put j (inc (l.counters.cwMiss.get j)) } }) (fun _ => ⟨rfl, rfl, rfl⟩) u i) _ s

theorem rejected_badChecks (k : LaneCounters) (o : RxOutcome) (i : LaneId) :
    (k.rejected o i).badCheckX = k.badCheckX ∧ (k.rejected o i).badCheckY = k.badCheckY := by
  unfold LaneCounters.rejected
  split
  · exact ⟨rfl, rfl⟩
  · split <;> exact ⟨rfl, rfl⟩

/-- The check of a telegram leaves the counts of bad checks of hosts to what follows it. -/
theorem checkTelegram_checkedOnly (s : State) (lanes : List LaneId) (host port unit stream : Nat) (p q : Bool) (f : RxFault) :
    s.checkedOnly (s.checkTelegram lanes host port unit stream p q f).1 := by
  unfold State.checkTelegram
  extract_lets found s1 o
  have h1 : s.checkedOnly s1 := checkedOnly_foldl (fun u (r : LaneId × CheckResult × CheckResult) => checkedOnly_modLane
    (f := fun l => { l with inputs := l.inputs.bump unit r.2 }) (fun _ => ⟨rfl, rfl, rfl⟩) u r.1) _ s
  clear_value s1
  split
  · split
    · exact h1
    · refine checkedOnly_trans h1 (checkedOnly_trans (checkedOnly_foldl (fun u i => checkedOnly_modLane
        (f := fun l => { l with counters := l.counters.rejected o i }) (fun l => ⟨rfl, rejected_badChecks l.counters o i⟩) u i) lanes s1) ?_)
      exact ⟨rfl, fun _ => ⟨rfl, rfl, rfl⟩⟩
  · refine checkedOnly_trans h1 (checkedOnly_trans (checkedOnly_foldl (f := fun u j => u.countMiss lanes j)
      (fun u j => checkedOnly_countMiss u lanes j) (s.absent lanes f) s1) ?_)
    exact ⟨rfl, fun _ => ⟨rfl, rfl, rfl⟩⟩

/-- A copy of no open session fails its check values (check 3 of Table 9.4). -/
theorem judge_unknown {s : State} {t op : Nat} {c : HostCopy} (h : s.hostReady t) (n : Net) (hop : op ≠ 0x0001)
    (hunknown : s.sessionOf c.session = none) (hrx : c.rx = RxFault.healthy) :
    ∃ v, (s.arrived t n).countArrival.checkedOnly v ∧ (s.arrived t n).countArrival.judge op c = v.refuseCheck op c none := by
  obtain ⟨hrun, htwo, -, -, -, -, -, -, -, hheld⟩ := h
  let q := (s.arrived t n).countArrival
  have hclosed : q.openFor c = none := by
    unfold State.openFor
    rw [show q.sessionOf c.session = none from hunknown]
    rfl
  have hanswering : q.answering = s.unexcluded := by
    unfold State.answering
    rw [show q.control.phase = .running from hrun]
    rfl
  have hbad : (q.checkTelegram s.unexcluded 1 c.path.port (0x10000 + c.session) c.session false false RxFault.healthy).2 = false :=
    (checkTelegram_rejects q (unexcluded_two htwo) hheld 1 c.path.port (0x10000 + c.session) c.session (by decide)).1
  have hjudge : q.judge op c =
      (q.checkTelegram s.unexcluded 1 c.path.port (0x10000 + c.session) c.session false false RxFault.healthy).1.refuseCheck op c none := by
    have hknown : (op == 0x0001) = false := by simpa using hop
    unfold State.judge
    simp only [if_neg hop, hclosed, hknown, Option.isSome_none, Bool.or_self, Bool.false_and, hanswering, hrx]
    exact if_pos hbad
  exact ⟨_, checkTelegram_checkedOnly q s.unexcluded 1 c.path.port (0x10000 + c.session) c.session false false RxFault.healthy, hjudge⟩

/-- The refusal of such a copy: BAD_CHECK of its network in the voting lanes, and a reply to it (R319, R326). -/
theorem refuseCheck_answers {v : State} (op : Nat) (c : HostCopy) (hrun : v.control.phase = .running) (htwo : 2 ≤ v.voting.length) :
    ∃ r L, r.answers op c stBadCheck (bareData op) ∧ v.refuseCheck op c none = v.told [r] L ∧ ∀ i ∈ v.voting,
      (c.net = .x → (L.get i).counters.badCheckX = (v.lane i).counters.badCheckX + 1) ∧
      (c.net = .y → (L.get i).counters.badCheckY = (v.lane i).counters.badCheckY + 1) := by
  let v1 := v.mapVoting (fun l => { l with counters := l.counters.badCheck c.net })
  have hcounted : ∀ i, v1.lane i = if (v.lane i).mode = .voting then { v.lane i with counters := (v.lane i).counters.badCheck c.net } else v.lane i :=
    fun i => mapVoting_lane v _ i
  have htwo1 : 2 ≤ v1.voting.length := by
    rw [voting_same (s := v) (fun i => by rw [hcounted i]; split <;> rfl)]
    exact htwo
  obtain ⟨b, L, hreply, hlanes⟩ := replyWith_waits (s := v1) { seq := 0, source := 0, dest := 0, stream := 0 }
    (v1.copyReply op c c.net (some c.path) false stBadCheck v.replySnapshot (bareData op)) c.path hrun htwo1 rfl
  refine ⟨_, L, ⟨rfl, rfl, rfl, rfl, rfl, rfl, rfl, rfl, rfl, rfl, rfl, rfl, rfl⟩, hreply, fun i hi => ?_⟩
  have hvotes : (v.lane i).mode = .voting := by
    have := (List.mem_filter.1 hi).2
    simpa using this
  rw [hlanes i, hcounted i, if_pos hvotes]
  refine ⟨fun hx => ?_, fun hy => ?_⟩
  · rw [hx]; rfl
  · rw [hy]; rfl

/-! ## The first copy of a permissive command (R338, R342, R352) -/

/-- A command of X or Y is answered on both (R339). -/
theorem replyNets_both {n : Net} (h : n ≠ .service) : replyNets n = [.x, .y] := by
  cases n with
  | x => rfl
  | y => rfl
  | service => exact absurd rfl h

theorem copyKey_session {op : Nat} (hop : op ≠ 0x0001) (c : HostCopy) : copyKey op c = .session c.session c.seq := if_neg hop

theorem sendReply_keepsBook (s : State) (r : Reply) :
    ((s.sendReply r).host.sessions, (s.sendReply r).host.recs) = (s.host.sessions, s.host.recs) := by
  unfold State.sendReply
  split <;> rfl

theorem reply_keepsBook (s : State) (r : Reply) : ((s.reply r).host.sessions, (s.reply r).host.recs) = (s.host.sessions, s.host.recs) := by
  unfold State.reply State.replyWith
  split
  · rfl
  · split
    · rfl
    · simp only []
      split
      · exact sendReply_keepsBook s _
      · rfl

/-- Replies leave the sessions and the records as they are. -/
theorem sendDecision_keepsBook (s : State) (op : Nat) (c : HostCopy) (r : HostRec) (nets : List Net) (st snap : Nat) (d : Bytes) :
    ((s.sendDecision op c r nets st snap d).host.sessions, (s.sendDecision op c r nets st snap d).host.recs) = (s.host.sessions, s.host.recs) := by
  unfold State.sendDecision
  induction nets generalizing s with
  | nil => rfl
  | cons n nets ih => exact (ih _).trans (reply_keepsBook s _)

/-- The commands outstanding of a session that are no SESSION_OPEN. -/
def State.outstandingCommands (s : State) (n : Nat) : Nat :=
  (s.host.recs.filter (fun y => y.session == n && y.outstanding && !y.key.isOpening)).length

theorem keptRecs_outstanding (s : State) (n : Nat) : s.outstandingCommands n ≤ s.keptRecs.outstanding n ∧ s.keptRecs.outstanding n ≤ s.outstanding n := by
  constructor
  · have hsub : s.host.recs.filter (fun y => y.session == n && y.outstanding && !y.key.isOpening) =
        (s.keptRecs.host.recs.filter (fun y => y.session == n && y.outstanding)).filter (fun y => !y.key.isOpening) := by
      simp only [State.keptRecs, List.filter_filter]
      refine List.filter_congr (fun y _ => ?_)
      cases ho : y.key.isOpening with
      | true => simp
      | false => simp [State.keepsOpening, ho, Bool.and_comm]
    unfold State.outstandingCommands
    rw [hsub]
    exact List.length_filter_le _ _
  · exact (List.Sublist.filter _ List.filter_sublist).length_le

/-- The first copy of a permissive command opens its record and raises H; with the credit spent it is refused (Table 9.6, R352). -/
theorem first_permissive_opens {s : State} {t op : Nat} {x : Session} {c : HostCopy} {row : OpRow} (h : s.hostReady t) (g : s.goodCopy op x c)
    (hop : op ≠ 0x0001) (hr : opOf op = some row) (hc : row.cls = .permissive) (hnet : c.net ≠ .service)
    (hnone : s.recOf (.session c.session c.seq) = none) :
    ∃ p spent, s.raisedBy p t x c ∧ p.recOf (.session c.session c.seq) = some (s.newRec op c) ∧
      (s.tick t).hostArrive op c = (if spent = true then p.rejectCopy op c stCredit else p) ∧ (s.creditSpent op c.session = false → spent = false) ∧
      (0x0100 ≤ op → x.credit ≤ s.outstandingCommands c.session → spent = true) := by
  obtain ⟨p, hp, harrive⟩ := hostArrive_good h g hop hr
  rw [if_neg (by rw [hc]; decide)] at harrive
  have hkey := copyKey_session hop c
  have hrecs : p.host.recs = s.host.recs := by rw [hp.1]; exact heardHost_recs s t c
  let q := p.keptRecs
  have hq : q.recOf (copyKey op c) = none := by
    rw [hkey]
    exact find_filter_none _ _ _ (by rw [hrecs]; exact hnone)
  have hsession : q.sessionOf c.session = some (x.heard c (s.stampOf c)) := by
    have hsessions : q.host.sessions = (s.heardHost t c).sessions := by show p.host.sessions = _; rw [hp.1]
    unfold State.sessionOf
    rw [hsessions]
    exact heardHost_session t g.1
  have hnew : q.newRec op c = s.newRec op c := by
    have hstamp : q.stampOf c = s.stampOf c := (show q.stampOf c = p.stampOf c from rfl).trans (stamp_heard hp)
    have hparam : q.param 5 = s.param 5 := by
      show p.param 5 = s.param 5
      rw [hp.1]
      rfl
    unfold State.newRec
    rw [hstamp, hparam]
  refine ⟨q.openRec op c, q.creditSpent op c.session, ⟨?_, hp.2⟩, ?_, ?_, fun hfree => ?_, fun hlow hfull => ?_⟩
  · obtain ⟨R, hR⟩ := openRec_raises (op := op) hsession
    rw [hR]
    have hraised := heard_raised (c := c) (y := x.heard c (s.stampOf c)) (Q := p.host.recs.filter p.keepsOpening) (R := R) hp.1
    exact hraised
  · show ((q.host.recs ++ [q.newRec op c]).filter _).find? _ = _
    have hnewkey : (s.newRec op c).key = .session c.session c.seq := hkey
    have hopen : (s.newRec op c).isOpen = true := rfl
    rw [hnew, List.filter_append, List.find?_append, find_filter_none _ _ _ (by rw [← hkey]; exact hq), Option.none_or, List.filter_singleton]
    simp only [hnewkey, hopen, Bool.or_true, cond_true, List.find?_singleton, beq_self_eq_true, if_true]
  · refine harrive.trans ((compareCopy_first hq).trans ?_)
    unfold State.firstCopy
    simp only [hc, true_and, reduceCtorEq, false_or, if_neg hnet]
    rfl
  · have hcount := (keptRecs_outstanding p c.session).2
    have hsame : p.outstanding c.session = s.outstanding c.session := by unfold State.outstanding; rw [hrecs]
    have hsession' : s.sessionOf c.session = some x := g.1
    have hcredit : (x.heard c (s.stampOf c)).credit = x.credit := rfl
    simp only [State.creditSpent, hsession, hsession', Option.any_some, hcredit, Bool.and_eq_false_iff, decide_eq_false_iff_not] at hfree ⊢
    refine hfree.imp_right (fun hmore => ?_)
    show ¬x.credit ≤ p.keptRecs.outstanding c.session
    omega
  · have hcount := (keptRecs_outstanding p c.session).1
    have hsame : p.outstandingCommands c.session = s.outstandingCommands c.session := by unfold State.outstandingCommands; rw [hrecs]
    have hcredit : (x.heard c (s.stampOf c)).credit = x.credit := rfl
    simp only [State.creditSpent, hsession, Option.any_some, hcredit, Bool.and_eq_true, decide_eq_true_eq]
    refine ⟨hlow, ?_⟩
    show x.credit ≤ p.keptRecs.outstanding c.session
    omega

/-- A refusal by the network rule is decided in the record, and leaves on both networks. -/
theorem rejectCopy_eq {p : State} {op : Nat} {c : HostCopy} {r : HostRec} (st : Nat) (hrec : p.recOf (copyKey op c) = some r) (hnet : c.net ≠ .service) :
    p.rejectCopy op c st = (p.putDecision r.key op
      { status := st, snapshot := p.replySnapshot, data := bareData op, bytes := r.bytes }).sendDecision op c r [.x, .y] st p.replySnapshot
        (bareData op) := by
  unfold State.rejectCopy
  rw [hrec, replyNets_both hnet]

theorem putDecision_recOf {p : State} {k : RecKey} {r : HostRec} (op : Nat) (d : Decision) (hrec : p.recOf k = some r) :
    (p.putDecision k op d).recOf k = some { r with
      decisions := r.decisions ++ [d]
      decidedAt := p.now
      outstanding := staysOutstanding op d.status } :=
  find_modRec p.host.recs k (fun r => { r with
    decisions := r.decisions ++ [d]
    decidedAt := p.now
    outstanding := staysOutstanding op d.status }) (fun _ => rfl) hrec

/-! ## A copy of a decided command (R341) -/

theorem keptRecs_decisionOf (s : State) (n q : Nat) (b : Bytes) : s.keptRecs.decisionOf (.session n q) b = s.decisionOf (.session n q) b := by
  have hsame : s.keptRecs.host.recs.filter (fun r => r.key.first == .session n q) = s.host.recs.filter (fun r => r.key.first == .session n q) := by
    simp only [State.keptRecs, List.filter_filter]
    refine List.filter_congr (fun r _ => ?_)
    cases hk : r.key <;> simp [State.keepsOpening, RecKey.first, RecKey.isOpening, hk]
  unfold State.decisionOf
  rw [hsame]

/-- A repeat is counted and gets the decision again on its own network. -/
theorem repeatCopy_tells {s : State} (op : Nat) (c : HostCopy) (d : Decision) (hrun : s.control.phase = .running) (htwo : 2 ≤ s.voting.length) :
    ∃ X Y Z y L, s.repeatCopy op c d = { s.told [y] L with host := { (s.told [y] L).host with countersX := X, countersY := Y, countersS := Z } } ∧
      s.sameLanes (s.told [y] L) ∧ ∃ o b, y = { s.copyReply op c c.net (some c.path) true d.status d.snapshot d.data with
        oneLane := o
        bytes := b } := by
  obtain ⟨X, Y, Z, hcounted⟩ := countNet_eq s c.net (fun k => { k with repeats := inc k.repeats })
  let v : State := { s with host := { s.host with countersX := X, countersY := Y, countersS := Z } }
  obtain ⟨y, L, hreply, hlanes, o, b, hy⟩ := reply_tells (s := v) (r := v.copyReply op c c.net (some c.path) true d.status d.snapshot d.data)
    hrun htwo rfl
  refine ⟨X, Y, Z, y, L, ?_, hlanes, o, b, hy⟩
  unfold State.repeatCopy
  rw [hcounted]
  exact hreply

/-- A copy of a decided command meets its decision, however late it comes. -/
theorem repeat_arrives {s : State} {t op : Nat} {x : Session} {c : HostCopy} {row : OpRow} {r : HostRec} {e : Decision} (h : s.hostReady t)
    (g : s.goodCopy op x c) (hop : op ≠ 0x0001) (hr : opOf op = some row) (hc : row.cls ≠ .query)
    (hrec : s.recOf (.session c.session c.seq) = some r) (he : s.decisionOf (.session c.session c.seq) (HostCopyHead op c) = some e)
    (hdecided : r.isOpen = false) :
    ∃ p n, s.heardCopy p t c ∧ (s.tick t).hostArrive op c = ({ p.keptRecs with now := n } : State).repeatCopy op c e := by
  obtain ⟨p, hp, harrive⟩ := hostArrive_good h g hop hr
  rw [if_neg hc] at harrive
  have hkey := copyKey_session hop c
  have hrecs : p.host.recs = s.host.recs := by rw [hp.1]; exact heardHost_recs s t c
  have hrkey : r.key = .session c.session c.seq := by simpa using List.find?_some hrec
  have hfound : p.keptRecs.recOf (copyKey op c) = some r := by
    rw [hkey]
    show (p.host.recs.filter p.keepsOpening).find? _ = _
    rw [recOf_keepsOpening, hrecs]
    exact hrec
  obtain ⟨n, hcompare⟩ := compareCopy_decided (cls := row.cls) hfound (hrkey.trans hkey.symm) hdecided
  have hdecision : ({ p.keptRecs with now := n } : State).decisionOf r.key (HostCopyHead op c) = some e := by
    have hsame : p.decisionOf (.session c.session c.seq) (HostCopyHead op c) = some e := by
      unfold State.decisionOf at he ⊢
      rw [hrecs]
      exact he
    rw [hrkey]
    exact (keptRecs_decisionOf p _ _ _).trans hsame
  refine ⟨p, n, hp, harrive.trans (hcompare.trans ?_)⟩
  unfold State.laterCopy
  simp only [hdecision]

/-! ## The end of a skew window (R338) -/

/-- The replies to a native record leave at once. -/
theorem answerAt_native {s : State} {r : HostRec} (h : r.key.isKi40 = false) (t : Nat) (nets : List Net) (late repeated : Bool) (st snap : Nat)
    (d : Bytes) : s.answerAt t r nets late repeated st snap d = nets.foldl (fun u n => u.reply (s.recReply r n late repeated st snap d)) s := by
  have hnative : ∀ n, (s.recReply r n late repeated st snap d).ki40 = false := fun _ => h
  unfold State.answerAt
  simp only [hnative, Bool.false_eq_true, if_false]

/-- The module with a record of a session decided with ST_REJ_SINGLE, before the replies leave. -/
def State.singled (s : State) (n q : Nat) (r : HostRec) : State :=
  ((s.countNet r.net (fun k => { k with single := inc k.single })).hostCopyEvent 0 r).putDecision (.session n q) r.opcode
    { status := stSingle, snapshot := s.replySnapshot, data := bareData r.opcode, bytes := r.bytes }

/-- A record that no command decided by the end of its window is decided with ST_REJ_SINGLE. -/
theorem expireRec_single {s : State} {n q : Nat} {r : HostRec} (hrec : s.recOf (.session n q) = some r) (hopen : r.isOpen = true)
    (hdue : r.opened + r.window ≤ s.now) (hnet : r.net ≠ .service) : s.expireRec (.session n q) =
      [Net.x, .y].foldl (fun u k => u.reply ((s.singled n q r).recReply r k false false stSingle s.replySnapshot (bareData r.opcode)))
        (s.singled n q r) := by
  have hkey : r.key = .session n q := by simpa using List.find?_some hrec
  have hnative : r.key.isKi40 = false := by rw [hkey]; rfl
  unfold State.expireRec
  simp only [hrec, HostRec.isKi40, hnative, Bool.false_eq_true, if_false, replyNets_both hnet]
  exact (if_pos ⟨hopen, hdue⟩).trans (answerAt_native hnative _ _ _ _ _ _ _)

/-- No record expires that is decided or whose window is open. -/
theorem expireRec_keeps {s : State} {k : RecKey}
    (h : s.recOf k = none ∨ ∃ r, s.recOf k = some r ∧ (r.isOpen = false ∨ s.now < r.opened + r.window)) : s.expireRec k = s := by
  unfold State.expireRec
  rcases h with hnone | ⟨r, hrec, hstays⟩
  · rw [hnone]
  · rw [hrec]
    refine if_neg (fun hdue => ?_)
    rcases hstays with hdecided | hwindow
    · exact Bool.false_ne_true (hdecided.symm.trans hdue.1)
    · exact absurd hdue.2 (Nat.not_le.2 hwindow)

/-! ## Copies that wait (R345) -/

/-- The module with other queues; their overruns are over. -/
def State.withQueues (s : State) (restrictive other : List QueuedCopy) : State :=
  { s with host := { s.host with
      restrictiveQueue := restrictive
      otherQueue := other
      overrunX := false
      overrunY := false
      overrunS := false } }

section
variable {s : State} {e : QueuedCopy} {rest : List QueuedCopy} (hleases : ∀ x ∈ s.host.sessions, s.now < x.leaseEnd)
  (hlock : ∀ l, s.host.lock = some l → s.now < l.leaseEnd)
include hleases hlock

/-- A restrictive copy that waits is judged first. -/
theorem dequeueCopy_restrictive (h : s.host.restrictiveQueue = e :: rest) :
    s.dequeueCopy = (s.withQueues rest s.host.otherQueue).judge e.opcode e.copy := by
  have hkept : (s.withQueues rest s.host.otherQueue).lapseDue = s.withQueues rest s.host.otherQueue := lapseDue_keeps hleases hlock
  unfold State.dequeueCopy
  simp only [h]
  exact congrArg (fun u : State => u.judge e.opcode e.copy) hkept

/-- Another one is judged where no restrictive one waits. -/
theorem dequeueCopy_other (hnone : s.host.restrictiveQueue = []) (h : s.host.otherQueue = e :: rest) :
    s.dequeueCopy = (s.withQueues [] rest).judge e.opcode e.copy := by
  have hkept : (s.withQueues [] rest).lapseDue = s.withQueues [] rest := lapseDue_keeps hleases hlock
  unfold State.dequeueCopy
  simp only [hnone, h]
  exact congrArg (fun u : State => u.judge e.opcode e.copy) hkept

end

theorem dequeueCopy_none {s : State} (hrestrictive : s.host.restrictiveQueue = []) (hother : s.host.otherQueue = []) : s.dequeueCopy = s := by
  unfold State.dequeueCopy
  simp only [hrestrictive, hother]

/-- With no KI-40 copy waiting a native one leaves its queue (R345, R600). -/
theorem dequeue_native {s : State} (h : s.ki40.waiting = []) : s.dequeue = s.dequeueCopy := by
  unfold State.dequeue
  rw [h]

/-! ## The obligation -/

/-- A copy that is only counted. -/
theorem run_counted {s : State} {t op : Nat} {c : HostCopy} {f : NetCounters → NetCounters}
    (h : (s.tick t).hostArrive op c = (s.arrived t c.net).countNet c.net f) : run t (fun u => u.hostArrive op c) s =
      .next { (({ s with host := { s.host with svcFrames := if c.net = .service then s.host.svcFrames + 1 else s.host.svcFrames } } : State).countNet
        c.net f) with now := max s.now t } := by
  refine run_next (f := fun u => u.hostArrive op c) (h.trans ?_) rfl ?_
  · cases c.net <;> rfl
  · cases c.net <;> rfl

/-- A copy of no open session is answered with ST_BAD_CHECK (check 3 of Table 9.4). -/
theorem unknown_answered {s : State} {t op : Nat} {c : HostCopy} (h : s.hostReady t) (hport : c.ownPort = true) (hlen : c.lenOk = true)
    (hversion : c.version = 1) (hflag : bitAt c.flags 0 = false) (hsize : c.params.length ≤ 1400) (hwords : c.params.length % 4 = 0)
    (hrx : c.rx = RxFault.healthy) (hop : op ≠ 0x0001) (hunknown : s.sessionOf c.session = none) :
    ∃ u r, run t (fun u => u.hostArrive op c) s = .next u ∧ r.answers op c stBadCheck (bareData op) ∧
      u.host = { s.host with
        arrivals := s.host.arrivals.filter (fun a => decide (max s.now t < a + ms)) ++ [max s.now t]
        svcFrames := if c.net = .service then s.host.svcFrames + 1 else s.host.svcFrames
        replies := s.host.replies ++ [r] } ∧
      (∀ i ∈ s.voting, c.net = .x → (u.lane i).counters.badCheckX = (s.lane i).counters.badCheckX + 1) ∧
      (∀ i ∈ s.voting, c.net = .y → (u.lane i).counters.badCheckY = (s.lane i).counters.badCheckY + 1) ∧
      u = { s with now := max s.now t, host := u.host, lanes := u.lanes, almanac := u.almanac } := by
  obtain ⟨v, hchecked, hjudge⟩ := judge_unknown h c.net hop hunknown hrx
  obtain ⟨hv, hlanes⟩ := hchecked
  have hvotes : v.voting = s.voting := voting_same (fun i => (hlanes i).1)
  have hrun : v.control.phase = .running := by rw [hv]; exact h.1
  obtain ⟨r, L, hanswers, hrefuse, hcounts⟩ := refuseCheck_answers op c hrun (by rw [hvotes]; exact h.2.1)
  have harrive : (s.tick t).hostArrive op c = { s with
      now := max s.now t
      host := { s.host with
        arrivals := s.host.arrivals.filter (fun a => decide (max s.now t < a + ms)) ++ [max s.now t]
        svcFrames := if c.net = .service then s.host.svcFrames + 1 else s.host.svcFrames
        replies := s.host.replies ++ [r] }
      lanes := L
      almanac := v.almanac } := by
    rw [hostArrive_ready h, admitCopy_judges h op hport hlen hversion hflag hsize hwords, hjudge, hrefuse]
    conv_lhs => rw [hv]
    rfl
  refine ⟨_, r, run_next (f := fun u => u.hostArrive op c) harrive rfl rfl, hanswers, rfl, fun i hi hx => ?_, fun i hi hy => ?_, rfl⟩
  · exact ((hcounts i (hvotes ▸ hi)).1 hx).trans (congrArg (· + 1) (hlanes i).2.1)
  · exact ((hcounts i (hvotes ▸ hi)).2 hy).trans (congrArg (· + 1) (hlanes i).2.2)

/-- The first copy of a permissive command leaves its record, open or refused for credit (R338, R352). -/
theorem first_permissive_recorded {s : State} {t op : Nat} {x : Session} {c : HostCopy} {row : OpRow} (h : s.hostReady t) (g : s.goodCopy op x c)
    (hop : op ≠ 0x0001) (hr : opOf op = some row) (hc : row.cls = .permissive) (hnet : c.net ≠ .service)
    (hnone : s.recOf (.session c.session c.seq) = none) :
    ∃ u r, run t (fun u => u.hostArrive op c) s = .next u ∧ u.recOf (.session c.session c.seq) = some r ∧
      r = { s.newRec op c with decisions := r.decisions, decidedAt := r.decidedAt, outstanding := r.outstanding } ∧
      (∀ y, u.sessionOf c.session = some y → y.high = max c.seq x.high) ∧
      (s.creditSpent op c.session = false → r.decisions = [] ∧
        u = { s with now := max s.now t, host := { (s.heardHost t c).raised x c with recs := u.host.recs }, lanes := u.lanes } ∧ s.sameLanes u) ∧
      (0x0100 ≤ op → x.credit ≤ s.outstandingCommands c.session → (if c.net = .x then x.pathY else x.pathX).isSome = true →
        r.outstanding = false ∧ r.decisions.map (fun e => e.status) = [stCredit] ∧ s.bothTold u op c stCredit (bareData op) ∧
        u.almanac = s.almanac) := by
  obtain ⟨p, spent, hraised, hrec, harrive, hfree, hfull⟩ := first_permissive_opens h g hop hr hc hnet hnone
  obtain ⟨hp, hlanes⟩ := hraised
  have hsession : p.sessionOf c.session = some { x.heard c (s.stampOf c) with high := max c.seq x.high } := sessionOf_raisedBy ⟨hp, hlanes⟩ g.1
  have hhigh : ∀ v : State, v.host.sessions = p.host.sessions → ∀ y, v.sessionOf c.session = some y → y.high = max c.seq x.high := by
    intro v hv y hy
    have hsame : v.sessionOf c.session = p.sessionOf c.session := by unfold State.sessionOf; rw [hv]
    rw [hsame, hsession] at hy
    rw [← Option.some.inj hy]
  cases spent with
  | false =>
    have hkept : p.close (max s.now t) s.pending = p := by rw [hp]; rfl
    refine ⟨p, s.newRec op c, ?_, hrec, rfl, hhigh p rfl, fun _ => ⟨rfl, hp, hlanes⟩,
      fun hlow hmany => absurd (hfull hlow hmany) Bool.false_ne_true⟩
    rw [run_eq, harrive, if_neg Bool.false_ne_true, hkept]
  | true =>
    have hkey := copyKey_session hop c
    have hreject := rejectCopy_eq stCredit (by rw [hkey]; exact hrec) hnet
    rw [show (s.newRec op c).key = .session c.session c.seq from hkey] at hreject
    let d : Decision := { status := stCredit, snapshot := p.replySnapshot, data := bareData op, bytes := (s.newRec op c).bytes }
    let v := p.putDecision (.session c.session c.seq) op d
    let r : HostRec := { s.newRec op c with
      decisions := [d]
      decidedAt := p.now
      outstanding := false }
    have hdecided : v.recOf (.session c.session c.seq) = some r := putDecision_recOf op d hrec
    have hend : (s.tick t).hostArrive op c = v.sendDecision op c (s.newRec op c) [.x, .y] stCredit p.replySnapshot (bareData op) :=
      harrive.trans hreject
    obtain ⟨hsessions, hrecs⟩ :=
      Prod.mk.inj (sendDecision_keepsBook v op c (s.newRec op c) [.x, .y] stCredit p.replySnapshot (bareData op))
    refine ⟨_, r, run_eq s t (fun u => u.hostArrive op c), ?_, rfl, hhigh _ ?_, fun hroom => absurd (hfree hroom).symm Bool.false_ne_true,
      fun hlow hmany hpath => ⟨rfl, rfl, ?_⟩⟩
    · rw [hend]
      show (v.sendDecision op c _ _ _ _ _).host.recs.find? _ = _
      rw [hrecs]
      exact hdecided
    · rw [hend]
      exact hsessions
    · have hrun : v.control.phase = .running := by
        show p.control.phase = .running
        rw [hp]
        exact h.1
      obtain ⟨r1, r2, L, hsend, -, hx, hy, hreplies⟩ := sendDecision_tells (v := v) (r := s.newRec op c) (st := stCredit) (snap := p.replySnapshot)
        (d := bareData op) hop hrun (sameLanes_mode hlanes h.2.1) hsession hnet (heard_otherPath (n := s.stampOf c) hnet hpath)
      rw [hend, hsend]
      refine ⟨⟨r1, r2, ?_, hx, hy, hreplies⟩, ?_⟩
      · show p.host.replies ++ [r1, r2] = _
        rw [hp]
        exact congrArg (· ++ [r1, r2]) (heardHost_replies s t c)
      · show p.almanac = s.almanac
        rw [hp]

/-- A repeat gets its decision again, and nothing else happens (R341). -/
theorem repeat_answered {s : State} {t op : Nat} {x : Session} {c : HostCopy} {row : OpRow} {r : HostRec} {e : Decision} (h : s.hostReady t)
    (g : s.goodCopy op x c) (hop : op ≠ 0x0001) (hr : opOf op = some row) (hc : row.cls ≠ .query)
    (hrec : s.recOf (.session c.session c.seq) = some r) (he : s.decisionOf (.session c.session c.seq) (HostCopyHead op c) = some e)
    (hdecided : r.isOpen = false) :
    ∃ u y, run t (fun u => u.hostArrive op c) s = .next u ∧ u.host.replies = s.host.replies ++ [y] ∧ y.repeated = true ∧ y.net = c.net ∧
      y.opcode = op ∧ y.status = e.status ∧ y.snapshot = e.snapshot ∧ y.data = e.data ∧ y.seq = c.seq ∧ y.session = c.session ∧
      u.almanac = s.almanac ∧ s.sameLanes u ∧ u.host.awaiting = s.host.awaiting ∧ u.images = s.images ∧ u.control = s.control := by
  obtain ⟨p, n, ⟨hp, hlanes⟩, harrive⟩ := repeat_arrives h g hop hr hc hrec he hdecided
  let v : State := { p.keptRecs with now := n }
  have hrun : v.control.phase = .running := by
    show p.control.phase = .running
    rw [hp]
    exact h.1
  obtain ⟨X, Y, Z, y, L, hrepeat, hkept, o, b, hy⟩ := repeatCopy_tells (s := v) op c e hrun (sameLanes_mode hlanes h.2.1)
  refine ⟨_, y, run_eq s t (fun u => u.hostArrive op c), ?_⟩
  rw [harrive, hrepeat]
  subst hy
  refine ⟨?_, rfl, rfl, rfl, rfl, rfl, rfl, rfl, rfl, ?_, sameLanes_trans hlanes hkept, ?_, ?_, ?_⟩
  · show p.host.replies ++ _ = _
    rw [hp]
    exact congrArg (· ++ _) (heardHost_replies s t c)
  · show p.almanac = _
    rw [hp]
  · show p.host.awaiting = _
    rw [hp]
    exact heardHost_awaiting s t c
  · show p.images = _
    rw [hp]
  · show p.control = _
    rw [hp]

/-- What the decision of a record with ST_REJ_SINGLE changes before the replies: the count, the record and the HOST_COPY event (Table 14.4). -/
theorem singled_eq {s : State} {n q : Nat} {r : HostRec} {x : Session} (hx : s.sessionOf r.session = some x) (hkey : r.key = .session n q) :
    s.singled n q r = { s with
      host := { (s.countNet r.net (fun k => { k with single := inc k.single })).host with recs := (s.singled n q r).host.recs }
      almanac := { s.almanac with events := s.almanac.events ++
        [x.record 0x0604 [(24, 1, 0), (25, 1, netCode r.net % 2), (26, 2, r.opcode), (28, 4, q)]] } } := by
  obtain ⟨X, Y, Z, hcounted⟩ := countNet_eq s r.net (fun k => { k with single := inc k.single })
  let v : State := { s with host := { s.host with countersX := X, countersY := Y, countersS := Z } }
  have hevent : v.hostCopyEvent 0 r = v.event 0x0604 (Origin.ofSession x) [(24, 1, 0), (25, 1, netCode r.net % 2), (26, 2, r.opcode), (28, 4, q)] := by
    unfold State.hostCopyEvent
    rw [show v.sessionOf r.session = some x from hx, hkey]
    rfl
  unfold State.singled
  rw [hcounted, hevent]
  rfl

theorem singled_recOf {s : State} {n q : Nat} {r : HostRec} (hrec : s.recOf (.session n q) = some r) :
    ∃ e : Decision, e.status = stSingle ∧ (s.singled n q r).recOf (.session n q) = some { r with
      decisions := r.decisions ++ [e]
      decidedAt := s.now
      outstanding := false } := by
  obtain ⟨X, Y, Z, hcounted⟩ := countNet_eq s r.net (fun k => { k with single := inc k.single })
  unfold State.singled
  rw [hcounted]
  exact ⟨_, rfl, putDecision_recOf r.opcode _ hrec⟩

/-- A record whose window closes is decided with ST_REJ_SINGLE on both networks (R338, Table 14.4). -/
theorem single_answered {s : State} {t n q : Nat} {r : HostRec} {x : Session} (h : s.hostReady t) (hrec : s.recOf (.session n q) = some r)
    (hx : s.sessionOf r.session = some x) (hopen : r.isOpen = true) (hnet : r.net ≠ .service) (hop : r.opcode ≠ 0x0001)
    (hdue : r.opened + r.window ≤ max s.now t) (hpathX : x.pathX.isSome = true) (hpathY : x.pathY.isSome = true) :
    ∃ u r1 r2, run t (fun u => u.lapseDue.expireRec (.session n q)) s = .next u ∧ u.host.replies = s.host.replies ++ [r1, r2] ∧ r1.net = .x ∧
      r2.net = .y ∧
      (∀ y : Reply, y = r1 ∨ y = r2 → y.status = stSingle ∧ y.seq = q ∧ y.session = r.session ∧ y.opcode = r.opcode ∧ y.repeated = false ∧
        y.late = false ∧ y.data = bareData r.opcode) ∧
      (∃ e : Decision, e.status = stSingle ∧
        u.recOf (.session n q) = some { r with decisions := r.decisions ++ [e], decidedAt := max s.now t, outstanding := false }) ∧
      u.host = { (s.countNet r.net (fun k => { k with single := inc k.single })).host with recs := u.host.recs, replies := u.host.replies } ∧
      u.almanac = { s.almanac with events := s.almanac.events ++
        [x.record 0x0604 [(24, 1, 0), (25, 1, netCode r.net % 2), (26, 2, r.opcode), (28, 4, q)]] } ∧
      s.sameLanes u ∧ u = { s with now := max s.now t, host := u.host, lanes := u.lanes, almanac := u.almanac } := by
  have hlapse : (s.tick t).lapseDue = s.tick t := by
    obtain ⟨-, -, -, -, -, -, -, hleases, hlock, -⟩ := h
    exact lapseDue_keeps (s := s.tick t) hleases hlock
  have hkey : r.key = .session n q := by simpa using List.find?_some hrec
  have hhost : ((s.tick t).countNet r.net (fun k => { k with single := inc k.single })).host =
      (s.countNet r.net (fun k => { k with single := inc k.single })).host := by cases r.net <;> rfl
  have hreplies : (s.countNet r.net (fun k => { k with single := inc k.single })).host.replies = s.host.replies := by cases r.net <;> rfl
  have hsessions : (s.countNet r.net (fun k => { k with single := inc k.single })).host.sessions = s.host.sessions := by cases r.net <;> rfl
  obtain ⟨e, he, hdecided⟩ := singled_recOf (s := s.tick t) hrec
  have hexpire := expireRec_single (s := s.tick t) hrec hopen hdue hnet
  obtain ⟨R, hv⟩ : ∃ R, (s.tick t).singled n q r = { s with
      now := max s.now t
      host := { (s.countNet r.net (fun k => { k with single := inc k.single })).host with recs := R }
      almanac := { s.almanac with events := s.almanac.events ++
        [x.record 0x0604 [(24, 1, 0), (25, 1, netCode r.net % 2), (26, 2, r.opcode), (28, 4, q)]] } } :=
    ⟨_, hhost ▸ singled_eq (s := s.tick t) hx hkey⟩
  generalize (s.tick t).singled n q r = v at hv hdecided hexpire
  have hpath : ∀ (rs : List Reply) L k, k = .x ∨ k = .y →
      ((v.told rs L).replyPath (v.recReply r k false false stSingle (s.tick t).replySnapshot (bareData r.opcode))).isSome = true := by
    intro rs L k hk
    have hsession : (v.told rs L).sessionOf r.session = some x := by
      rw [hv]
      show List.find? _ (s.countNet r.net (fun k => { k with single := inc k.single })).host.sessions = _
      rw [hsessions]
      exact hx
    unfold State.replyPath State.recReply
    simp only [hkey, RecKey.isOpening, RecKey.isKi40, Bool.false_eq_true, if_false, if_neg hop, hsession, Option.bind_some]
    rcases hk with rfl | rfl
    · exact hpathX
    · exact hpathY
  have hrun : v.control.phase = .running := by rw [hv]; exact h.1
  have htwo : 2 ≤ v.voting.length := by rw [hv]; exact h.2.1
  obtain ⟨r1, r2, L, hsend, hlanes, ⟨p1, o1, b1, hr1⟩, p2, o2, b2, hr2⟩ := replies_tell (s := v)
    (f := fun _ k => v.recReply r k false false stSingle (s.tick t).replySnapshot (bareData r.opcode)) hrun htwo (fun _ _ _ => rfl) hpath
  have hend : (s.tick t).lapseDue.expireRec (.session n q) = v.told [r1, r2] L := by
    rw [hlapse]
    exact hexpire.trans hsend
  have hshape : ∀ y : Reply, y = r1 ∨ y = r2 → y.status = stSingle ∧ y.seq = q ∧ y.session = r.session ∧ y.opcode = r.opcode ∧
      y.repeated = false ∧ y.late = false ∧ y.data = bareData r.opcode := by
    have hseq : r.key.seq = q := by rw [hkey]; rfl
    rintro y (hy | hy)
    · rw [hy, hr1]; exact ⟨rfl, hseq, if_neg hop, rfl, rfl, rfl, rfl⟩
    · rw [hy, hr2]; exact ⟨rfl, hseq, if_neg hop, rfl, rfl, rfl, rfl⟩
  have hnetX : r1.net = .x := by rw [hr1]; rfl
  have hnetY : r2.net = .y := by rw [hr2]; rfl
  clear hr1 hr2 hpath hexpire hsend
  subst hv
  refine ⟨_, r1, r2, run_next (f := fun u => u.lapseDue.expireRec (.session n q)) hend rfl rfl, congrArg (· ++ [r1, r2]) hreplies, hnetX, hnetY,
    hshape, ⟨e, he, hdecided⟩, rfl, rfl, hlanes, rfl⟩

/-- Settles O45, clause by clause: what is counted, what is refused, first copies, repeats, windows that close, and the queues (R345). -/
theorem copiesThatDecideNoCommand : Obligations.CopiesThatDecideNoCommand := by
  unfold Obligations.CopiesThatDecideNoCommand
  intro t s h
  obtain ⟨-, -, -, -, hrestrictive, hother, -, hleases, hlock, -⟩ := id h
  refine ⟨fun d => ?_, fun n q r x hrec hx hopen hnet hop hdue hpathX hpathY => ?_, fun key hstays => ?_, fun e rest v hnative hv => ?_, fun hnative => ?_⟩
  · intro c op seen
    refine ⟨fun hport => ?_, fun hport hbad => ?_, fun hport hlen hversion hflag hsize hwords hrx hop hunknown => ?_,
      fun x row g hr hc hop hnet hnone => ?_, fun x row r e g hr hc hop hrec he hdecided => ?_⟩
    · exact run_counted ((hostArrive_ready h op c).trans (admitCopy_foreign h op hport))
    · exact run_counted ((hostArrive_ready h op c).trans (admitCopy_malformed h op hport hbad))
    · exact unknown_answered h hport hlen hversion hflag hsize hwords hrx hop hunknown
    · exact first_permissive_recorded h g hop hr hc hnet hnone
    · exact repeat_answered h g hop hr hc hrec he hdecided
  · exact single_answered h hrec hx hopen hnet hop hdue hpathX hpathY
  · have hdue : (s.tick t).lapseDue = s.tick t := lapseDue_keeps (s := s.tick t) hleases hlock
    exact run_idle (f := fun u => u.lapseDue.expireRec key) (by rw [hdue]; exact expireRec_keeps (s := s.tick t) hstays)
  · rcases hv with rfl | rfl
    · have hdequeue := (dequeue_native (s := State.tick t { s with host := { s.host with restrictiveQueue := e :: rest } }) hnative).trans
        (dequeueCopy_restrictive hleases hlock rfl)
      exact congrArg (fun u : State => Host.Outcome.next (u.close (max s.now t) s.pending)) hdequeue
    · have hdequeue := (dequeue_native (s := State.tick t { s with host := { s.host with otherQueue := e :: rest } }) hnative).trans
        (dequeueCopy_other hleases hlock hrestrictive rfl)
      have hfirst : s.host.restrictiveQueue.drop 1 = [] := by rw [hrestrictive]; rfl
      have hrest : (if s.host.restrictiveQueue = [] then (e :: rest).drop 1 else e :: rest) = rest := if_pos hrestrictive
      refine (congrArg (fun u : State => Host.Outcome.next (u.close (max s.now t) s.pending)) hdequeue).trans ?_
      rw [hfirst, hrest]
      rfl
  · exact run_idle (f := State.dequeue) ((dequeue_native (s := s.tick t) hnative).trans (dequeueCopy_none (s := s.tick t) hrestrictive hother))

end Sys2Proof.Machine
end

section
/-! # State queries (R378 to R383, R393)

A query whose acceptance changes nothing is answered with what the state holds that has heard its copy; what that state reads is what the state
before held. -/

namespace Sys2Proof.Machine

/-! ## What a query reads -/

theorem readsAs_heard {s p : State} {t : Nat} {c : HostCopy} (h : s.heardCopy p t c) : s.ReadsAs p :=
  readsAs_of h.1 h.2 (heardHost_awaiting s t c) (heardHost_taken s t c) (heardHost_lock s t c)

namespace State.ReadsAs

variable {s p : State} (h : s.ReadsAs p)
include h

theorem elementEntry (block stop : BitVec 8192) (e : Nat) : p.elementEntry block stop e = s.elementEntry block stop e := by
  unfold State.elementEntry
  rw [h.img, h.snap]

theorem paramRows : p.paramRows = s.paramRows := by
  unfold State.paramRows State.paramValue
  simp only [h.img, h.images]

end State.ReadsAs

section
variable {s u : State} (h : s.sameLanes u) (i : LaneId)
include h

theorem sameLanes_coreAnswers : (u.lane i).coreAnswers = (s.lane i).coreAnswers := by rw [h i]; rfl
theorem sameLanes_counters : (u.lane i).counters = (s.lane i).counters := by rw [h i]
theorem sameLanes_pace : (u.lane i).pace = (s.lane i).pace := by rw [h i]
theorem sameLanes_minPace : (u.lane i).minPace = (s.lane i).minPace := by rw [h i]
theorem sameLanes_paceMargin : (u.lane i).paceMargin = (s.lane i).paceMargin := by rw [h i]
theorem sameLanes_laneMode : (u.lane i).mode = (s.lane i).mode := by rw [h i]

end

section
variable {q p : State} (hq : SameButLanes q p) (hl : q.sameLanes p)
include hq

theorem sameButLanes_sealWord : p.sealWord = q.sealWord := by rw [hq]; rfl
theorem sameButLanes_runningImage : p.runningImage = q.runningImage := by rw [hq]; rfl
theorem sameButLanes_profileBits : p.profileBits = q.profileBits := by rw [hq]; rfl
theorem sameButLanes_stageByte (k : Nat) : p.stageByte k = q.stageByte k := by rw [hq]; rfl

include hl

/-- The time of reduced operation depends on which lanes vote (R37). -/
theorem sameLanes_reducedTime : p.reducedTime = q.reducedTime := by
  have hcontrol : p.control = q.control := by rw [hq]
  have hnow : p.now = q.now := by rw [hq]
  unfold State.reducedTime State.counting
  simp only [sameLanes_laneMode hl, hcontrol, hnow]

theorem sameLanes_moduleCounters : p.moduleCounters = q.moduleCounters := by
  have hhost : p.host = q.host := by rw [hq]
  have hcontrol : p.control = q.control := by rw [hq]
  unfold State.moduleCounters
  rw [sameLanes_reducedTime hq hl, hhost, hcontrol]

theorem sameLanes_reducedLeft : p.reducedLeft = q.reducedLeft := by
  have hsnap : p.snap = q.snap := by rw [hq]; rfl
  have hlimit : p.reducedLimit = q.reducedLimit := by rw [hq]; rfl
  unfold State.reducedLeft State.minutesLeft
  rw [sameLanes_reducedTime hq hl, hsnap, hlimit]

theorem sameLanes_statusFlags : p.statusFlags = q.statusFlags := by
  unfold State.statusFlags
  simp only [sameLanes_paceMargin hl]
  rw [hq]
  rfl

/-- The status block reads neither the check units of the lanes nor the telegrams that wait for check values. -/
theorem sameLanes_statusBytes : p.statusBytes = q.statusBytes := by
  have hreads : q.ReadsAs p := readsAs_of (n := q.now) (H := q.host) hq hl rfl rfl rfl
  have hsealBank : p.sealBank = q.sealBank := by rw [hq]
  have hstartup : p.startup = q.startup := by rw [hq]
  have himage : p.hasImage = q.hasImage := by rw [hq]; rfl
  have hparam : p.param 1 = q.param 1 := by rw [hq]; rfl
  unfold State.statusBytes
  simp only [hreads.engine, hreads.snap, hreads.images, hreads.pair, hsealBank, hstartup, himage, hparam, sameLanes_laneMode hl,
    sameButLanes_sealWord hq, sameButLanes_runningImage hq, sameButLanes_profileBits hq, sameButLanes_stageByte hq, sameLanes_statusFlags hq hl,
    sameLanes_reducedLeft hq hl]

end

/-! ## Acceptance -/

theorem accept_routeQuery (s : State) {c : Cmd} (h : c.opcode = 0x0104) : s.accept c = s.acceptRouteQuery c := by unfold State.accept; rw [h]; rfl
theorem accept_elementQuery (s : State) {c : Cmd} (h : c.opcode = 0x0205) : s.accept c = s.acceptElementQuery c := by unfold State.accept; rw [h]; rfl
theorem accept_snapshotRead (s : State) {c : Cmd} (h : c.opcode = 0x0301) : s.accept c = s.acceptSnapshotRead c := by unfold State.accept; rw [h]; rfl
theorem accept_statusRead (s : State) {c : Cmd} (h : c.opcode = 0x0302) : s.accept c = s.acceptStatusRead c := by unfold State.accept; rw [h]; rfl
theorem accept_paceRead (s : State) {c : Cmd} (h : c.opcode = 0x0303) : s.accept c = s.acceptPaceRead c := by unfold State.accept; rw [h]; rfl
theorem accept_countersRead (s : State) {c : Cmd} (h : c.opcode = 0x0304) : s.accept c = s.acceptCountersRead c := by unfold State.accept; rw [h]; rfl
theorem accept_paramRead (s : State) {c : Cmd} (h : c.opcode = 0x0409) : s.accept c = s.acceptParamRead c := by unfold State.accept; rw [h]; rfl

/-- A query answers where no refusal applies. -/
theorem firstOf_one {b : Bool} {st : Nat} {s : State} {go : Acc} (h : b = false) : firstOf [(b, st)] s go = go :=
  firstOf_go (fun _ hr => by rw [List.mem_singleton.1 hr]; exact h)

section
variable {s : State} {cmd : Cmd} (hm : cmd.malformed = false)
include hm

theorem acceptRouteQuery_answers {first n : Nat} (hfirst : rd16 cmd.params 0 = first) (hn : rd16 cmd.params 2 = n) (hlow : 1 ≤ n) (hhigh : n ≤ 174)
    (hfit : first + n ≤ 4096) (hstandby : s.pair.role ≠ .standby) : s.acceptRouteQuery cmd = s.accData stOk
      (b16 first ++ b16 n ++ ((List.range n).map (fun k => (s.leadLane.engine.entry (first + k)).bytes)).flatten) := by
  unfold State.acceptRouteQuery
  rw [hfirst, hn]
  refine firstOf_go ?_
  simp [hm, State.standbyUnit, hstandby]
  omega

theorem acceptElementQuery_answers {first n : Nat} (hfirst : rd16 cmd.params 0 = first) (hn : rd16 cmd.params 2 = n) (hlow : 1 ≤ n) (hhigh : n ≤ 698)
    (hfit : first + n ≤ 8192) : s.acceptElementQuery cmd = s.accData stOk
      (b16 first ++ b16 n ++ ((List.range n).map (fun k =>
        s.elementEntry (s.leadLane.engine.blocked s.img) (s.leadLane.engine.stopped s.img) (first + k))).flatten) := by
  unfold State.acceptElementQuery
  rw [hfirst, hn]
  refine firstOf_one ?_
  simp [hm]
  omega

/-- SNAPSHOT_READ of a range of a snapshot that the ring holds (R380). -/
theorem acceptSnapshotRead_answers {off len : Nat} {p : Snapshot} (hoff : rd16 cmd.params 8 = off) (hlen : rd16 cmd.params 10 = len)
    (hring : s.ringSnapshot (rd64 cmd.params 0) = some p) (hoff4 : off % 4 = 0) (hlen4 : len % 4 = 0) (hlow : 4 ≤ len) (hhigh : len ≤ 1376)
    (hfit : off + len ≤ 5648) : s.acceptSnapshotRead cmd =
      { st := s, status := stOk, data := b16 off ++ b16 len ++ zeros 4 ++ slice p.ringEntry off len, snapshot := some p.number } := by
  unfold State.acceptSnapshotRead
  rw [hoff, hlen, hring]
  refine firstOf_one ?_
  simp [hm, hoff4, hlen4]
  omega

theorem acceptStatusRead_answers : s.acceptStatusRead cmd = s.accData stOk s.statusBytes := firstOf_one hm

theorem acceptPaceRead_answers : s.acceptPaceRead cmd = s.accData stOk
    (allLanes.flatMap (fun i => if (s.lane i).coreAnswers then b32 (s.lane i).pace ++ b32 (s.lane i).minPace else zeros 8)) := firstOf_one hm

/-- COUNTERS_READ of a group of Table 10.8 (R383). -/
theorem acceptCountersRead_answers {g : Nat} (hg : rd8 cmd.params 0 = g) (hhigh : g ≤ 3) :
    let n := if g = 0 then 15 else if g = 1 then 20 else if g = 2 then 8 else 26
    s.acceptCountersRead cmd = s.accData stOk (b8 g ++ b8 n ++ b16 0 ++ wordBytes (if g = 3 then s.moduleCounters else allLanes.flatMap (fun i =>
      if (s.lane i).coreAnswers then (s.lane i).counters.group i g else List.replicate n 0xFFFFFFFF))) := by
  unfold State.acceptCountersRead
  rw [hg]
  refine firstOf_one ?_
  simp [hm]
  omega

theorem acceptParamRead_answers {first n : Nat} (hfirst : rd16 cmd.params 0 = first) (hn : rd16 cmd.params 2 = n) (hlow : 1 ≤ n) (hhigh : n ≤ 80) :
    let rows := (s.paramRows.filter (fun r => decide (first ≤ r.id))).take n
    s.acceptParamRead cmd = s.accData stOk (b16 first ++ b16 rows.length ++ (rows.map (·.bytes)).flatten) := by
  unfold State.acceptParamRead
  rw [hfirst, hn]
  refine firstOf_one ?_
  simp [hm]
  omega

end

/-! ## The answer -/

/-- A query whose acceptance changes nothing in the state that has heard its copy is answered with its data, from the snapshot that it names or
the latest one. -/
theorem query_answers {s : State} {t op : Nat} {x : Session} {c : HostCopy} {row : OpRow} {data : Bytes} (snap : Option Nat) (h : s.hostReady t)
    (g : s.goodCopy op x c) (hr : opOf op = some row) (hq : row.cls = .query) (hn : row.recorded = false)
    (hop : op ∉ [0x0001, 0x0002, 0x0403, 0x0702]) (hlen : lengthOk op c.params = true)
    (ha : ∀ p cmd, s.heardCopy p t c → cmd.malformed = false → cmd.opcode = op → cmd.params = c.params →
      p.accept cmd = { st := p, status := stOk, data := data, snapshot := snap }) :
    ∃ u, run t (fun v => v.hostArrive op c) s = .next u ∧ s.queryAnswered u t op c (snap.getD s.snap.number) data := by
  simp only [List.mem_cons, List.not_mem_nil, or_false, not_or] at hop
  obtain ⟨hopen, hclose, hstage, hquote⟩ := hop
  refine query_answered h g hopen hr hq hn hquote (fun p hp => ⟨snap, ha p _ hp (malformed_of_goodCopy g rfl rfl hlen) rfl rfl, ?_⟩) hstage hclose
  have hreads := readsAs_heard hp
  have hsnap : p.replySnapshot = s.snap.number := by
    unfold State.replySnapshot
    rw [hreads.control, hreads.snap, h.1]
    rfl
  rw [hsnap]

/-- Settles O35, query by query: each reads what the heard copy has not changed. -/
theorem stateQueriesAreAnswered : Obligations.StateQueriesAreAnswered := by
  unfold Obligations.StateQueriesAreAnswered
  intro t x c s h first n q
  refine ⟨fun g hlen hlow hhigh hfit hstandby => ?_, fun g hlen hlow hhigh hfit => ?_, fun p g hlen hring hnew hoff4 hlen4 hlow hhigh hfit => ?_,
    fun g hlen => ?_, fun g hlen => ?_, fun g hlen hhigh => ?_, fun g hlen hlow hhigh => ?_⟩
  · refine query_answers none h g rfl rfl rfl (by decide) (by simp [lengthOk, hlen]) (fun p cmd hp hm hop hpar => ?_)
    have hreads := readsAs_heard hp
    rw [accept_routeQuery p hop, acceptRouteQuery_answers hm (by rw [hpar]) (by rw [hpar]) hlow hhigh hfit (by rw [hreads.pair]; exact hstandby),
      hreads.engine]
    rfl
  · refine query_answers none h g rfl rfl rfl (by decide) (by simp [lengthOk, hlen]) (fun p cmd hp hm hop hpar => ?_)
    have hreads := readsAs_heard hp
    rw [accept_elementQuery p hop, acceptElementQuery_answers hm (by rw [hpar]) (by rw [hpar]) hlow hhigh hfit, hreads.engine, hreads.img]
    simp only [hreads.elementEntry]
    rfl
  · refine query_answers (some p.number) h g rfl rfl rfl (by decide) (by simp [lengthOk, hlen]) (fun v cmd hv hm hop hpar => ?_)
    have hfound : v.ringSnapshot (rd64 cmd.params 0) = some p := by
      rw [hpar, ← hring, ← (readsAs_heard hv).snapshots]
      exact if_neg hnew
    rw [accept_snapshotRead v hop]
    exact acceptSnapshotRead_answers hm (by rw [hpar]) (by rw [hpar]) hfound hoff4 hlen4 hlow hhigh hfit
  · refine query_answers none h g rfl rfl rfl (by decide) (by simp [lengthOk, hlen]) (fun p cmd hp hm hop _ => ?_)
    have hstatus : p.statusBytes = q.statusBytes := sameLanes_statusBytes hp.1 hp.2
    rw [accept_statusRead p hop, acceptStatusRead_answers hm, hstatus]
    rfl
  · refine query_answers none h g rfl rfl rfl (by decide) (by simp [lengthOk, hlen]) (fun p cmd hp hm hop _ => ?_)
    rw [accept_paceRead p hop, acceptPaceRead_answers hm]
    simp only [sameLanes_coreAnswers hp.2, sameLanes_pace hp.2, sameLanes_minPace hp.2]
    rfl
  · refine query_answers none h g rfl rfl rfl (by decide) (by simp [lengthOk, hlen]) (fun p cmd hp hm hop hpar => ?_)
    have hcounters : p.moduleCounters = q.moduleCounters := sameLanes_moduleCounters hp.1 hp.2
    rw [accept_countersRead p hop, acceptCountersRead_answers hm (by rw [hpar]) hhigh]
    simp only [sameLanes_coreAnswers hp.2, sameLanes_counters hp.2, hcounters]
    rfl
  · refine query_answers none h g rfl rfl rfl (by decide) (by simp [lengthOk, hlen]) (fun p cmd hp hm hop hpar => ?_)
    rw [accept_paramRead p hop, acceptParamRead_answers hm (by rw [hpar]) (by rw [hpar]) hlow hhigh, (readsAs_heard hp).paramRows]
    rfl

end Sys2Proof.Machine
end

section
/-! # Leases, nonces and quotes (R349, R350, R353, R400, R401, R549, R582, Table 9.8) -/

namespace Sys2Proof.Machine

/-! ## Sessions -/

/-- A change of one session that keeps its number finds every session where it was. -/
theorem modSession_sessionOf {s : State} {n : Nat} {f : Session → Session} (hf : ∀ y, (f y).number = y.number) (k : Nat) :
    (s.modSession n f).sessionOf k = (s.sessionOf k).map (fun y => if y.number = n then f y else y) := by
  have hnumber : (fun y : Session => y.number == k) ∘ (fun y => if y.number = n then f y else y) = fun y => y.number == k := by
    funext y
    simp only [Function.comp_apply]
    split
    · rw [hf]
    · rfl
  unfold State.sessionOf State.modSession
  rw [List.find?_map, hnumber]

/-- A change of the session `n` is found there, and nowhere else. -/
theorem modSession_changes {s : State} {n : Nat} {x : Session} {f : Session → Session} (hf : ∀ y, (f y).number = y.number)
    (h : s.sessionOf n = some x) :
    (s.modSession n f).sessionOf n = some (f x) ∧ ∀ k, k ≠ n → (s.modSession n f).sessionOf k = s.sessionOf k := by
  refine ⟨?_, fun k hk => ?_⟩
  · rw [modSession_sessionOf hf, h, Option.map_some, if_pos (number_of_sessionOf h)]
  · rw [modSession_sessionOf hf]
    cases hfound : s.sessionOf k with
    | none => rfl
    | some y => rw [Option.map_some, if_neg (by rw [number_of_sessionOf hfound]; exact hk)]

/-! ## Leases -/

/-- A SESSION or LOCK record that the module makes of itself. -/
def lapseRecord (code kind : Nat) : Queued := queuedOf code 0 0 Origin.internal [payloadFields [(24, 1, kind)]]

/-- `s` without the session `n`, whose lease has run out, and without the lock if it held it (R350, Table 9.8). -/
def State.lapsed (s : State) (n : Nat) : State :=
  let held := s.holdsLock n
  { s with
    host := { s.host with
      sessions := s.host.sessions.filter (fun y => y.number != n)
      recs := s.host.recs.filter (fun r => r.key.session? != some n)
      lock := if held then none else s.host.lock }
    images := if held then s.dropOpenSlots.images else s.images
    almanac := { s.almanac with events := s.almanac.events ++ (lapseRecord 0x0601 2 :: if held then [lapseRecord 0x0602 2] else []) } }

theorem endSession_lapsed {s : State} {n : Nat} {x : Session} (h : s.sessionOf n = some x) : s.endSession n 2 = s.lapsed n := by
  cases hheld : s.holdsLock n with
  | false =>
    rw [endSession_eq h hheld]
    unfold State.lapsed
    simp only [hheld]
    rfl
  | true =>
    unfold State.endSession State.lapsed
    simp only [h, hheld, if_true]
    rw [List.append_cons s.almanac.events (lapseRecord 0x0601 2) [lapseRecord 0x0602 2]]
    rfl

/-- A session whose lease has run out closes (R349). -/
theorem lapseSession_ends {s : State} {n : Nat} {x : Session} (h : s.sessionOf n = some x) (hlease : x.leaseEnd ≤ s.now)
    (hphase : s.control.phase ≠ .dusk) : s.lapseSession n = s.lapsed n := by
  rw [← endSession_lapsed h]
  unfold State.lapseSession
  rw [h]
  exact if_pos ⟨hlease, hphase⟩

/-- A session stays while its lease runs, and in Dusk, where the leases stand still (R582). -/
theorem lapseSession_stays {s : State} {n : Nat} {x : Session} (h : s.sessionOf n = some x) (hlease : s.now < x.leaseEnd ∨ s.control.phase = .dusk) :
    s.lapseSession n = s := by
  unfold State.lapseSession
  rw [h]
  exact if_neg (fun hc => hlease.elim (Nat.not_lt.2 hc.1) hc.2)

theorem lapseSession_none {s : State} {n : Nat} (h : s.sessionOf n = none) : s.lapseSession n = s := by
  unfold State.lapseSession
  rw [h]

/-- The lock lapses at the end of its lease (R353). -/
theorem lapseLock_drops {s : State} {l : Lock} (h : s.host.lock = some l) (hlease : l.leaseEnd ≤ s.now) (hphase : s.control.phase ≠ .dusk) :
    s.lapseLock = s.dropLock Origin.internal 3 := by
  unfold State.lapseLock
  rw [h]
  exact if_pos ⟨hlease, hphase⟩

theorem lapseLock_stays {s : State} {l : Lock} (h : s.host.lock = some l) (hlease : s.now < l.leaseEnd ∨ s.control.phase = .dusk) :
    s.lapseLock = s := by
  unfold State.lapseLock
  rw [h]
  exact if_neg (fun hc => hlease.elim (Nat.not_lt.2 hc.1) hc.2)

/-! ## Quotes -/

/-- A session whose captured quote is signed (R549). -/
def Session.signed (x : Session) (q : Quote) (b : Bytes) : Session :=
  { x with quote := some { q with signature := some (beBytes 96 (Config.ecdsaSign (Config.sha384 b)).toNat) } }

/-- The lowest voting lane signs a quote that is captured and bears no signature. -/
theorem quoteReady_signs {s : State} {n : Nat} {x : Session} {q : Quote} {b : Bytes} (h : s.sessionOf n = some x) (hq : x.quote = some q)
    (hb : q.captured = some b) (hsig : q.signature = none) :
    (s.quoteReady n).sessionOf n = some (x.signed q b) ∧ (∀ k, k ≠ n → (s.quoteReady n).sessionOf k = s.sessionOf k) := by
  unfold State.quoteReady
  refine And.imp_left (fun hfound => hfound.trans ?_) (modSession_changes (fun y => ?_) h)
  · split
    · split <;> rfl
    · rfl
  · simp only [hq, hb, hsig, Session.signed]

/-! ## The obligation -/

/-- Settles O46, each lease at both sides of its end. That the new nonce is a value drawn with the counter is the model's choice (log entry 10). -/
theorem leasesNoncesAndQuotes : Obligations.LeasesNoncesAndQuotes := by
  unfold Obligations.LeasesNoncesAndQuotes
  intro t s now note
  refine ⟨fun n x hx => ⟨fun hlease hphase => ?_, fun hlease => ?_⟩, fun n hx => ?_, fun l hl => ⟨fun hlease hphase => ?_, fun hlease => ?_⟩,
    fun hnonce => ?_, fun hnonce => ?_, fun n x q b hx hq hb hsig => ?_⟩
  · have hends : (s.tick t).lapseSession n = (s.tick t).lapsed n := lapseSession_ends hx hlease hphase
    refine ⟨_, run_next (f := fun u => u.lapseSession n) hends rfl rfl, sessionOf_filtered _ n s.host.sessions rfl, rfl, fun r => ?_⟩
    simp [State.lapsed, List.mem_filter]
  · exact run_idle (f := fun u => u.lapseSession n) (lapseSession_stays hx hlease)
  · exact run_idle (f := fun u => u.lapseSession n) (lapseSession_none hx)
  · exact run_next (f := State.lapseLock) (lapseLock_drops hl hlease hphase) rfl rfl
  · exact run_idle (f := State.lapseLock) (lapseLock_stays hl hlease)
  · exact run_next (f := State.changeNonce) (if_pos hnonce) rfl rfl
  · exact run_idle (f := State.changeNonce) (if_neg (Nat.not_le.2 hnonce))
  · obtain ⟨hsame, hother⟩ := quoteReady_signs (s := s.tick t) hx hq hb hsig
    exact ⟨_, run_next (f := fun u => u.quoteReady n) rfl rfl rfl, hsame, hother, rfl⟩

end Sys2Proof.Machine
end

section
/-! # Module commands (R351, R353, R358, R373, R395, R398, R410, R412, R497, R500, R527, R528, R586)

A permissive command whose acceptance changes the module, the host interface and the lanes; then the acceptance checks command by command. -/

namespace Sys2Proof.Machine

/-! ## The second copy -/

/-- The change of the host interface that a command of the session `n` makes keeps the return paths of that session, and touches neither the records
of commands nor the replies. -/
structure HostSide.Serves (f : HostSide → HostSide) (n : Nat) : Prop where
  recs : ∀ h R Q, f { h with recs := R, replies := Q } = { f h with recs := R, replies := Q }
  replies : ∀ h, (f h).replies = h.replies
  paths : ∀ h y, h.sessions.find? (fun z => z.number == n) = some y →
    ∃ z, (f h).sessions.find? (fun z => z.number == n) = some z ∧ z.pathX = y.pathX ∧ z.pathY = y.pathY

theorem HostSide.Stores.serves {f : HostSide → HostSide} (hf : HostSide.Stores f) (n : Nat) : HostSide.Serves f n :=
  ⟨hf.recs, hf.replies, fun h y hy => ⟨y, by rw [hf.sessions]; exact hy, rfl, rfl⟩⟩

/-- An acceptance, in the lanes `L` that have counted the checks of the copy, that turns the module into `b`, the host interface into what `f` says
and the lanes into what `k` says. -/
def Acc.Makes (a : Acc) (s b : State) (t : Nat) (c : HostCopy) (f : HostSide → HostSide) (L : Lanes Lane) (st : Nat) (data : Bytes)
    (k : LaneId → Lane → Lane) : Prop :=
  ∃ Q K, a = {
      st := { b with now := max s.now t, host := { f (s.heardHost t c) with recs := Q }, lanes := K }
      status := st
      data := data
      snapshot := none } ∧
    ∀ i, K.get i = { k i (s.lane i) with inputs := (L.get i).inputs }

/-- What a second copy leaves that turns the module into `b`: both networks told, and the COMMAND record where the opcode has one. -/
structure State.Made (s u b : State) (t op : Nat) (x : Session) (c : HostCopy) (st : Nat) (data : Bytes) (f : HostSide → HostSide)
    (k : LaneId → Lane → Lane) : Prop where
  told : s.bothTold u op c st data
  host : s.hostAfter u t c f
  lanes : s.lanesAfter u k
  now : u.now = max s.now t
  almanac : u.almanac = { b.almanac with
    events := b.almanac.events ++ (if recordsCommand op c.params then [x.commandRecord op c] else []) }
  frame : u = { b with now := u.now, host := u.host, lanes := u.lanes, almanac := u.almanac }

/-- The same lanes vote where each votes as before. -/
theorem voting_congr {s u : State} (h : ∀ i, (u.lane i).mode = .voting ↔ (s.lane i).mode = .voting) : u.voting = s.voting := by
  unfold State.voting
  simp only [h]

/-- Such an acceptance leaves a module of its own that can answer on both networks. -/
theorem Acc.Makes.answers {a : Acc} {s b : State} {t st : Nat} {x : Session} {c : HostCopy} {data : Bytes} {f : HostSide → HostSide} {L : Lanes Lane}
    {k : LaneId → Lane → Lane} (ha : a.Makes s b t c f L st data k) (hx : s.sessionOf c.session = some x) (hvoting : 2 ≤ s.voting.length)
    (hf : HostSide.Serves f c.session) (hk : ∀ i, (k i (s.lane i)).mode = .voting ↔ (s.lane i).mode = .voting) (hb : b.control.phase = .running)
    (hu : b.pair.role = .unpaired) :
    a = { st := a.st, status := st, data := data, snapshot := none } ∧ a.st.control.phase = .running ∧ 2 ≤ a.st.voting.length ∧
      (∃ y, a.st.sessionOf c.session = some y ∧ y.pathX = (x.heard c (s.stampOf c)).pathX ∧ y.pathY = (x.heard c (s.stampOf c)).pathY) ∧
      a.st.pair.role = .unpaired := by
  obtain ⟨Q, K, rfl, hK⟩ := ha
  refine ⟨rfl, hb, ?_, hf.paths (s.heardHost t c) _ (heardHost_session t hx), hu⟩
  refine le_of_le_of_eq hvoting (congrArg List.length (voting_congr (s := s) (fun i => ?_)).symm)
  show (K.get i).mode = .voting ↔ _
  rw [hK i]
  exact hk i

/-- A permissive command whose acceptance turns the module into `b`, the host interface into what `f` says and the lanes into what `k` says: its
second copy decides it. Of `second_copy_stored` and `second_copy_settled`, one is for commands that change no lane, the other for those that leave
the host interface as it was. -/
theorem second_copy_makes {s b : State} {t op st : Nat} {x : Session} {c : HostCopy} {row : OpRow} {data : Bytes} {f : HostSide → HostSide}
    {k : LaneId → Lane → Lane} (h : s.hostReady t) (g : s.secondCopy op x c) (hop : op ≠ 0x0001) (hop2 : op ≠ 0x0002) (hr : opOf op = some row)
    (hc : row.cls = .permissive) (hst : st = stOk ∨ st = stAccepted)
    (hacc : ∀ R L cmd, s.sameLanes (s.withHeard t c R L) → cmd.OfCopy op x c → ((s.withHeard t c R L).accept cmd).Makes s b t c f L st data k)
    (hf : HostSide.Serves f c.session) (hk : ∀ i, (k i (s.lane i)).mode = .voting ↔ (s.lane i).mode = .voting) (hb : b.control.phase = .running)
    (hu : b.pair.role = .unpaired) (hpending : b.pending = s.pending) :
    ∃ u, run t (fun v => v.hostArrive op c) s = .next u ∧ s.Made u b t op x c st data f k := by
  obtain ⟨p, cmd, w, r1, r2, hp, hl, hkey, hpar, hses, hcls, hid, horig, hopc, hcon, hstamps, hrun, hw1, hw2, hn1, hn2, hq⟩ :=
    second_copy_accepted (st := st) (data := data) (next := fun p cmd => (p.accept cmd).st) h g hop hop2 hr hc hst
      (by
        intro p cmd hp hl hopc hpar hkey hses hcls hid horig hcon hstamps
        obtain ⟨R, L, rfl⟩ : ∃ R L, p = s.withHeard t c R L := ⟨_, _, hp⟩
        exact (hacc R L cmd hl ⟨hopc, hkey, hpar, hses, hcls, hid, horig, hcon, hstamps⟩).answers g.1.1 h.2.1 hf hk hb hu)
  obtain ⟨R, L, rfl⟩ : ∃ R L, p = s.withHeard t c R L := ⟨_, _, hp⟩
  obtain ⟨Q, K, hQ, hK⟩ := hacc R L cmd hl ⟨hopc, hkey, hpar, hses, hcls, hid, horig, hcon, hstamps⟩
  have hlanes : s.lanesAfter w k := addsTo_lanes hl (fun i => by rw [hQ]; exact hK i) hw1
  rw [hQ] at hw2
  have hreplies : (f (s.heardHost t c)).replies = s.host.replies := (hf.replies _).trans (heardHost_replies s t c)
  have hhost : w.host = f { s.heardHost t c with recs := w.host.recs, replies := s.host.replies ++ [r1, r2] } := by
    rw [hf.recs, ← hreplies]
    exact congrArg State.host hw2
  have htold : w.host.replies = s.host.replies ++ [r1, r2] := by rw [hhost, hf.replies]
  have hclose : w.close (max s.now t) s.pending = w := by rw [hw2, ← hpending]; rfl
  rw [hclose] at hrun
  refine ⟨w, hrun, ⟨r1, r2, htold, hn1, hn2, hq⟩, ?_, hlanes, by rw [hw2], by rw [hw2]; rfl, ?_⟩
  · unfold State.hostAfter
    rw [htold]
    exact hhost
  · have hkept : ∀ (w : State) n H K A, w = { b with now := n, host := H, lanes := K, almanac := A } →
        w = { b with now := w.now, host := w.host, lanes := w.lanes, almanac := w.almanac } := by
      rintro w n H K A rfl; rfl
    exact hkept w _ _ _ _ hw2

/-- A command that has been decided with the records `evs` of its own before the COMMAND record. -/
theorem State.Made.decided {s u b : State} {t op st : Nat} {x : Session} {c : HostCopy} {data : Bytes} {f : HostSide → HostSide}
    {k : LaneId → Lane → Lane} {evs notes : List Queued} (h : s.Made u b t op x c st data f k)
    (ha : b.almanac = { s.almanac with events := s.almanac.events ++ evs })
    (hnotes : evs ++ (if recordsCommand op c.params then [x.commandRecord op c] else []) = notes) : s.decided u t op c st data f k notes := by
  refine ⟨h.told, h.host, h.lanes, h.now, ?_⟩
  rw [h.almanac, ha, ← hnotes, ← List.append_assoc]

/-! ## The opcodes -/

theorem accept_lockAcquire (s : State) {c : Cmd} (h : c.opcode = 0x0004) : s.accept c = s.acceptLockAcquire c := by unfold State.accept; rw [h]; rfl
theorem accept_creditSet (s : State) {c : Cmd} (h : c.opcode = 0x0006) : s.accept c = s.acceptCreditSet c := by unfold State.accept; rw [h]; rfl
theorem accept_almanacQuota (s : State) {c : Cmd} (h : c.opcode = 0x0603) : s.accept c = s.acceptAlmanacQuota c := by unfold State.accept; rw [h]; rfl
theorem accept_repairFuse (s : State) {c : Cmd} (h : c.opcode = 0x0503) : s.accept c = s.acceptRepairFuse c := by unfold State.accept; rw [h]; rfl
theorem accept_xramWrite (s : State) {c : Cmd} (h : c.opcode = 0x0A04) : s.accept c = s.acceptXramWrite c := by unfold State.accept; rw [h]; rfl
theorem accept_xramAtomic (s : State) {c : Cmd} (h : c.opcode = 0x0A05) : s.accept c = s.acceptXramAtomic c := by unfold State.accept; rw [h]; rfl
theorem accept_laneReintegrate (s : State) {c : Cmd} (h : c.opcode = 0x0A07) : s.accept c = s.acceptLaneReintegrate c := by
  unfold State.accept; rw [h]; rfl

/-! ## What the effects change -/

/-- The host interface with the lock in the hands of a session (R353). -/
def HostSide.locks (h : HostSide) (l : Lock) : HostSide := { h with lock := some l }

theorem serves_locks (l : Lock) (n : Nat) : HostSide.Serves (fun h => h.locks l) n :=
  ⟨fun _ _ _ => rfl, fun _ => rfl, fun _ y hy => ⟨y, hy, rfl, rfl⟩⟩

/-- The host interface with a new credit in a session (R358). -/
def HostSide.credits (h : HostSide) (n credit : Nat) : HostSide :=
  { h with sessions := h.sessions.map (fun y => if y.number = n then { y with credit := credit } else y) }

theorem serves_credits (n credit : Nat) : HostSide.Serves (fun h => h.credits n credit) n :=
  ⟨fun _ _ _ => rfl, fun _ => rfl, fun h y hy => ⟨{ y with credit := credit },
    (modSession_changes (s := { State.reset with host := h }) (f := fun y => { y with credit := credit }) (fun _ => rfl) hy).1, rfl, rfl⟩⟩

/-- The Almanac with a new quota of a class, which drops no more where there is room again (R527, R528). -/
def Almanac.withQuota (a : Almanac) (k : OriginClass) (q : Nat) : Almanac :=
  { a with
    quotas := a.quotas.map (fun y => if y.1 = k then (k, q) else y)
    dropping := if a.used k < q then a.dropping.filter (· != k) else a.dropping }

theorem laneOf_index (i : LaneId) : laneOf i.index = some i := by cases i <;> rfl

theorem index_le (i : LaneId) : i.index ≤ 2 := by cases i <;> decide

/-- A change of one lane, in lanes that have counted the checks of a copy. -/
theorem modLane_inputs {s p : State} {f : Lane → Lane} (h : s.sameLanes p) (i : LaneId)
    (hf : ∀ l I, f { l with inputs := I } = { f l with inputs := I }) (j : LaneId) :
    (p.modLane i f).lanes.get j = { (if j = i then f (s.lane j) else s.lane j) with inputs := (p.lane j).inputs } := by
  refine (modLane_lane p i j f).trans ?_
  by_cases hj : j = i
  · rw [if_pos hj, if_pos hj, ← hf, ← sameLanes_inputs h j]
  · rw [if_neg hj, if_neg hj]
    exact sameLanes_inputs h j

/-- A lane that restarts (R244, R412). -/
def Lane.restarts (l : Lane) : Lane :=
  { l with mode := .restarting, startPassed := false, isolatedFor := none, localFault := none, held := false }

@[simp] theorem restarts_mode (l : Lane) : l.restarts.mode = .restarting := rfl

/-- The conditions of R243. -/
theorem reintegrateReason_none {s : State} {i : LaneId} (hreduced : s.control.degradation = .reduced) (hwarm : s.control.power = .warm)
    (hstop : s.control.mode = .stop) (hmode : (s.lane i).mode = .excluded) (hexclusions : (s.lane i).exclusions < 3)
    (harmed : s.images.staging.any (fun g => g.state == .armed) = false) (hprofile : s.images.takenProfile = none) : s.reintegrateReason i = 0 := by
  unfold State.reintegrateReason
  simp [hreduced, hwarm, hstop, hmode, hprofile, harmed, hexclusions]

/-- The first stage of a reintegration, with its record (R244). -/
theorem laneStage_restarts (s : State) (o : Origin) (i : LaneId) :
    (s.laneStage o i LaneMode.restarting none).modLane i (fun l => { l with
        startPassed := false
        isolatedFor := none
        localFault := none
        held := false }) =
      (s.modLane i Lane.restarts).event 0x0401 o [(24, 1, i.index), (25, 1, LaneMode.restarting.code), (26, 1, 0)] := by
  cases i <;> rfl

theorem slice_length (b : Bytes) (off n : Nat) : (slice b off n).length = n := by
  simp [slice, zeros]

theorem slice_getD {b : Bytes} {off n j : Nat} (hn : off + n ≤ b.length) (hj : j < n) : (slice b off n).getD j 0 = b.getD (off + j) 0 := by
  have hfull : ((b.drop off).take n).length = n := by simp; omega
  unfold slice
  simp only [hfull, Nat.sub_self]
  simp [zeros, List.getD_eq_getElem?_getD, hj]

theorem leBytes_getD {w k : Nat} (n : Nat) (hk : k < w) : (leBytes w n).getD k 0 = BitVec.ofNat 8 (n / 256 ^ k) := by
  induction w generalizing n k with
  | zero => exact absurd hk (Nat.not_lt_zero k)
  | succ w ih =>
    cases k with
    | zero => simp [leBytes]
    | succ k =>
      rw [leBytes, List.getD_cons_succ, ih _ (Nat.lt_of_succ_lt_succ hk), Nat.div_div_eq_div_mul, Nat.pow_succ']

/-- What a command leaves that stores bytes in the exchange RAM and makes no record (R497). -/
theorem State.Made.stores {s u : State} {t op st : Nat} {x : Session} {c : HostCopy} {data : Bytes} {f : HostSide → HostSide}
    {k : LaneId → Lane → Lane} {off : Nat} {b : Bytes} (h : s.Made u (s.xramStore off b) t op x c st data f k)
    (hrecords : recordsCommand op c.params = false) (hwf : Mem.wf s.xram.mem = true) :
    s.decided u t op c st data f k [] ∧
      (∀ a, u.xramByte a = if off ≤ a ∧ a < off + b.length then b.getD (a - off) 0 else s.xramByte a) ∧
      u = { s with
        now := u.now
        host := u.host
        lanes := u.lanes
        xram := { s.xram with mem := u.xram.mem }
        images := (s.xramStore off b).images
        ki40 := (s.xramStore off b).ki40 } := by
  have hdecided : s.decided u t op c st data f k [] := h.decided (evs := []) (by rw [List.append_nil]; rfl) (by rw [hrecords]; rfl)
  have hxram : u.xram = (s.xramStore off b).xram := by rw [h.frame]
  refine ⟨hdecided, fun a => (congrArg (fun m : Xram => Mem.read m.mem a) hxram).trans (Mem.read_store off a b hwf), ?_⟩
  rw [hxram]
  exact h.frame.trans (by rw [almanac_of_decided hdecided]; rfl)

/-! ## Acceptance -/

theorem withHeard_lockedOut (s : State) (t : Nat) (c : HostCopy) (R : List HostRec) (L : Lanes Lane) (n : Nat) :
    (s.withHeard t c R L).lockedOut n = s.lockedOut n := by
  unfold State.lockedOut
  show (s.heardHost t c).lock.any _ = _
  rw [heardHost_lock]

section
variable {s : State} {t : Nat} {x : Session} {c : HostCopy} {R : List HostRec} {L : Lanes Lane} {cmd : Cmd}
  (hl : s.sameLanes (s.withHeard t c R L))
include hl

/-- LOCK_ACQUIRE where no other session holds the lock (R373). -/
theorem lockAcquire_makes {lease : Nat} (g : s.goodCopy 0x0004 x c) (hcmd : cmd.OfCopy 0x0004 x c) (hlease : rd16 c.params 0 = lease)
    (hlen : c.params.length = 4) (hlow : 1 ≤ lease) (hhigh : lease ≤ 600) (hfree : s.lockedOut c.session = false) :
    ((s.withHeard t c R L).accept cmd).Makes s
      (s.event 0x0602 (Origin.ofSession x) [(24, 1, flag (s.holdsLock c.session)), (28, 4, 1000 * lease)]) t c
      (fun h => h.locks { session := c.session, leaseEnd := max s.now t + lease * second }) L stOk (b32 (1000 * lease)) laneKept := by
  refine ⟨R, L, ?_, sameLanes_inputs hl⟩
  rw [accept_lockAcquire _ hcmd.opcode]
  unfold State.acceptLockAcquire
  simp only [hcmd.opcode, hcmd.params, hcmd.session, origin_ofCopy hcmd (number_of_sessionOf g.1), hlease, withHeard_holdsLock, withHeard_lockedOut,
    hfree]
  refine (firstOf_go ?_).trans rfl
  simp [lengthOk, hlen]
  omega

/-- CREDIT_SET (R358). -/
theorem creditSet_makes {n : Nat} (g : s.goodCopy 0x0006 x c) (hcmd : cmd.OfCopy 0x0006 x c) (hn : rd16 c.params 0 = n) (hlen : c.params.length = 4)
    (hlow : 1 ≤ n) (hhigh : n ≤ 256) :
    ((s.withHeard t c R L).accept cmd).Makes s (s.event 0x0603 (Origin.ofSession x) [(24, 2, n), (26, 2, x.credit)]) t c
      (fun h => h.credits c.session n) L stOk [] laneKept := by
  have hold : (s.withHeard t c R L).sessionOf c.session = some (x.heard c (s.stampOf c)) := heardHost_session t g.1
  refine ⟨R, L, ?_, sameLanes_inputs hl⟩
  rw [accept_creditSet _ hcmd.opcode]
  unfold State.acceptCreditSet
  simp only [hcmd.opcode, hcmd.params, hcmd.session, origin_ofCopy hcmd (number_of_sessionOf g.1), hn, hold]
  refine (firstOf_go ?_).trans rfl
  simp [lengthOk, hlen]
  omega

/-- ALMANAC_QUOTA of a class of sessions (R398). -/
theorem almanacQuota_makes {k : OriginClass} {q : Nat} (g : s.goodCopy 0x0603 x c) (hcmd : cmd.OfCopy 0x0603 x c) (hlen : c.params.length = 8)
    (hclass : classOf (rd8 c.params 0) = some k) (hk : k ≠ .internal) (hq : rd32 c.params 4 = q) (hhigh : q ≤ 524288) :
    ((s.withHeard t c R L).accept cmd).Makes s { s with almanac := s.almanac.withQuota k q } t c id L stAccepted
      (b32 (s.almanac.used k) ++ b32 (((s.almanac.dropped.find? (fun d => d.1 == k)).map (·.2)).getD 0)) laneKept := by
  have hm := malformed_of_goodCopy g hcmd.opcode hcmd.params (by simp [lengthOk, hlen])
  refine ⟨R, L, ?_, sameLanes_inputs hl⟩
  rw [accept_almanacQuota _ hcmd.opcode]
  unfold State.acceptAlmanacQuota
  simp only [hcmd.params, hclass, hq]
  refine (firstOf_go ?_).trans rfl
  simp [hm, hk, hhigh]

/-- REPAIR_FUSE of a lane in IDLE (R395, R586). -/
theorem repairFuse_makes {i : LaneId} (g : s.goodCopy 0x0503 x c) (hcmd : cmd.OfCopy 0x0503 x c) (hlen : c.params.length = 4)
    (hlane : rd8 c.params 0 = i.index) (hcount : rd16 c.params 2 = (s.lane i).softRepairs.length) (hfree : s.lockedOut c.session = false)
    (hidle : s.control.power = .idle) :
    ((s.withHeard t c R L).accept cmd).Makes s s t c id L stAccepted
      (b16 (s.lane i).fusable ++ b16 ((s.lane i).sparesLeft false) ++ b16 ((s.lane i).sparesLeft true) ++ b16 0)
      (fun j y => if j = i then { y with fuseRunning := true } else y) := by
  have hm := malformed_of_goodCopy g hcmd.opcode hcmd.params (by simp [lengthOk, hlen])
  have hpower : ((s.withHeard t c R L).control.power != .idle) = false := by
    show (s.control.power != .idle) = false
    rw [hidle]
    rfl
  have hsame := sameLanes_inputs hl i
  refine ⟨R, ((s.withHeard t c R L).modLane i (fun y => { y with fuseRunning := true })).lanes, ?_, modLane_inputs hl i (fun _ _ => rfl)⟩
  rw [accept_repairFuse _ hcmd.opcode]
  unfold State.acceptRepairFuse
  simp only [hcmd.params, hcmd.session, hlane, laneOf_index, Option.getD_some, withHeard_lockedOut, hfree, hpower]
  refine (firstOf_go ?_).trans ?_
  · rw [hsame]
    simp [hm, hcount, index_le i]
  · rw [hsame]
    rfl

/-- XRAM_WRITE of a range of the exchange RAM (R410). -/
theorem xramWrite_makes {off len : Nat} (g : s.goodCopy 0x0A04 x c) (hcmd : cmd.OfCopy 0x0A04 x c) (hlength : lengthOk 0x0A04 c.params = true)
    (hoff : rd32 c.params 0 = off) (hlen : rd16 c.params 4 = len) (hrange : xramRangeOk off len = true) (hfree : s.lockedOut c.session = false) :
    ((s.withHeard t c R L).accept cmd).Makes s (s.xramStore off (slice c.params 8 len)) t c id L stOk
      (b32 (flag (((State.tick t s).clashes off len true).any (·.warned)))) laneKept := by
  have hm := malformed_of_goodCopy g hcmd.opcode hcmd.params hlength
  refine ⟨R, L, ?_, sameLanes_inputs hl⟩
  rw [accept_xramWrite _ hcmd.opcode]
  unfold State.acceptXramWrite
  simp only [hcmd.params, hcmd.session, hoff, hlen, withHeard_lockedOut, hfree, hm, hrange]
  exact (firstOf_go (by simp)).trans rfl

/-- XRAM_ATOMIC on a word of the exchange RAM (R500). -/
theorem xramAtomic_makes {off old new : Nat} (g : s.goodCopy 0x0A05 x c) (hcmd : cmd.OfCopy 0x0A05 x c) (hlen : c.params.length = 12)
    (hoff : rd32 c.params 0 = off) (hword : off % 4 = 0) (hfit : off < 1048576) (hform : rd8 c.params 4 ≤ 1) (hfree : s.lockedOut c.session = false)
    (hold : Mem.le s.xram.mem off 4 = old) (hnew : (if rd8 c.params 4 = 1 then rd32 c.params 8 else old + rd32 c.params 8) = new) :
    ((s.withHeard t c R L).accept cmd).Makes s (s.xramStore off (b32 new)) t c id L stOk (b32 old ++ b32 0) laneKept := by
  have hm := malformed_of_goodCopy g hcmd.opcode hcmd.params (by simp [lengthOk, hlen])
  subst hold hnew
  refine ⟨R, L, ?_, sameLanes_inputs hl⟩
  rw [accept_xramAtomic _ hcmd.opcode]
  unfold State.acceptXramAtomic State.xramAtomic
  simp only [hcmd.params, hcmd.session, hoff, withHeard_lockedOut, hfree, hm, beq_iff_eq]
  refine (firstOf_go ?_).trans rfl
  simp [hword]
  omega

/-- LANE_REINTEGRATE where every condition of R243 holds (R412). -/
theorem laneReintegrate_makes {i : LaneId} (g : s.goodCopy 0x0A07 x c) (hcmd : cmd.OfCopy 0x0A07 x c) (hlen : c.params.length = 4)
    (hlane : rd8 c.params 0 = i.index) (hwhy : s.reintegrateReason i = 0) :
    ((s.withHeard t c R L).accept cmd).Makes s
      (s.event 0x0401 (Origin.ofSession x) [(24, 1, i.index), (25, 1, LaneMode.restarting.code), (26, 1, 0)]) t c id L stAccepted []
      (fun j y => if j = i then y.restarts else y) := by
  have hm := malformed_of_goodCopy g hcmd.opcode hcmd.params (by simp [lengthOk, hlen])
  have hwhy' : (s.withHeard t c R L).reintegrateReason i = 0 := by
    rw [← hwhy]
    unfold State.reintegrateReason
    rw [sameLanes_inputs hl i]
    rfl
  refine ⟨R, ((s.withHeard t c R L).modLane i Lane.restarts).lanes, ?_, modLane_inputs hl i (fun _ _ => rfl)⟩
  rw [accept_laneReintegrate _ hcmd.opcode]
  unfold State.acceptLaneReintegrate
  simp only [hcmd.params, hlane, laneOf_index, Option.getD_some, origin_ofCopy hcmd (number_of_sessionOf g.1), hm,
    decide_eq_false (Nat.not_lt.2 (index_le i)), hwhy']
  rw [if_neg (by decide), if_neg (by decide), laneStage_restarts]
  rfl

end

/-! ## The obligation -/

/-- Settles O42, command by command: each is accepted by its own checks, which the heard copy has not changed. Which accesses share a window with
an XRAM_WRITE is the model's choice (log entry 36). -/
theorem moduleCommandsTakeEffectAtTheirDecision : Obligations.ModuleCommandsTakeEffectAtTheirDecision := by
  unfold Obligations.ModuleCommandsTakeEffectAtTheirDecision
  intro t x c s h hu cmd
  have ⟨hphase, _⟩ := h
  refine ⟨fun g hlen hlow hhigh hfree => ?_, fun g hlen hlow hhigh => ?_, fun k g hlen hclass hk hhigh => ?_,
    fun i g hlen hlane hcount hfree hidle => ?_, fun g hlen hrange hfree hwf => ?_, fun g hlen hword hfit hform hfree hwf => ?_,
    fun i g hlen hlane hreduced hwarm hstop hmode hexclusions harmed hprofile => ?_⟩
  · obtain ⟨u, hrun, hmade⟩ := second_copy_makes h g (by decide) (by decide) rfl rfl (Or.inl rfl)
      (fun _ _ _ hl hcmd => lockAcquire_makes hl g.1 hcmd rfl hlen hlow hhigh hfree) (serves_locks _ _) (fun _ => Iff.rfl) hphase hu rfl
    exact ⟨u, hrun, hmade.decided rfl rfl, hmade.frame⟩
  · obtain ⟨u, hrun, hmade⟩ := second_copy_makes h g (by decide) (by decide) rfl rfl (Or.inl rfl)
      (fun _ _ _ hl hcmd => creditSet_makes hl g.1 hcmd rfl hlen hlow hhigh) (serves_credits _ _) (fun _ => Iff.rfl) hphase hu rfl
    exact ⟨u, hrun, hmade.decided rfl rfl, hmade.frame⟩
  · obtain ⟨u, hrun, hmade⟩ := second_copy_makes h g (by decide) (by decide) rfl rfl (Or.inr rfl)
      (fun _ _ _ hl hcmd => almanacQuota_makes hl g.1 hcmd hlen hclass hk rfl hhigh) (stores_id.serves _) (fun _ => Iff.rfl) hphase hu rfl
    refine ⟨u, hrun, hmade.told, hmade.host, hmade.lanes, hmade.almanac, ?_⟩
    rw [← hmade.now]
    exact hmade.frame
  · obtain ⟨u, hrun, hmade⟩ := second_copy_makes h g (by decide) (by decide) rfl rfl (Or.inr rfl)
      (fun _ _ _ hl hcmd => repairFuse_makes hl g.1 hcmd hlen hlane hcount hfree hidle) (stores_id.serves _) (fun j => by split <;> rfl)
      hphase hu rfl
    exact ⟨u, hrun, hmade.decided (evs := []) (by rw [List.append_nil]) rfl, hmade.frame⟩
  · intro off len
    have hfull : c.params.length = 8 + len := by
      simp [lengthOk] at hlen
      omega
    obtain ⟨u, hrun, hmade⟩ := second_copy_makes h g (by decide) (by decide) rfl rfl (Or.inl rfl)
      (fun _ _ _ hl hcmd => xramWrite_makes hl g.1 hcmd hlen rfl rfl hrange hfree) (stores_id.serves _) (fun _ => Iff.rfl) hphase hu rfl
    obtain ⟨hdecided, hbyte, hframe⟩ := hmade.stores rfl hwf
    refine ⟨u, hrun, hdecided, fun a => (hbyte a).trans ?_, hframe⟩
    rw [slice_length]
    exact ite_congr rfl (fun ha => slice_getD (by omega) (by omega)) (fun _ => rfl)
  · intro off old new
    obtain ⟨u, hrun, hmade⟩ := second_copy_makes h g (by decide) (by decide) rfl rfl (Or.inl rfl)
      (fun _ _ _ hl hcmd => xramAtomic_makes (new := new) hl g.1 hcmd hlen rfl hword hfit hform hfree rfl rfl) (stores_id.serves _) (fun _ => Iff.rfl)
      hphase hu rfl
    obtain ⟨hdecided, hbyte, hframe⟩ := hmade.stores rfl hwf
    refine ⟨u, hrun, hdecided, fun k hk => ?_, fun a ha => ?_, hframe⟩
    · rw [hbyte, if_pos ⟨by omega, Nat.add_lt_add_left hk off⟩, Nat.add_sub_cancel_left]
      exact leBytes_getD new hk
    · exact (hbyte a).trans (if_neg (fun hin => absurd (show a < off + 4 from hin.2) (by omega)))
  · have hwhy := reintegrateReason_none hreduced hwarm hstop hmode hexclusions harmed hprofile
    obtain ⟨u, hrun, hmade⟩ := second_copy_makes h g (by decide) (by decide) rfl rfl (Or.inr rfl)
      (fun _ _ _ hl hcmd => laneReintegrate_makes hl g.1 hcmd hlen hlane hwhy) (stores_id.serves _)
      (fun j => by
        split
        · next hj =>
          rw [hj, hmode, restarts_mode]
          decide
        · rfl)
      hphase hu rfl
    exact ⟨u, hrun, hmade.decided rfl rfl, hmade.frame⟩

end Sys2Proof.Machine
end

section
/-! # Arbiter control (R408, R487 to R490, Table 13.3)

A command on the lanes that it names, one after another: each has its turn once, and the free values that its traffic draws start where those of the
lanes before it end (log entry 35). -/

namespace Sys2Proof.Machine

/-! ## Where its own traffic has led an arbiter -/

/-- The arbiter that is looked at with the counter of the free values at `n`: while it is frozen nothing moves (R488). -/
def Store.caughtUp (x : Store) (r : ArbRules) (n : Nat) : Store := if x.frozen then x else x.traffic r (n + 1) (Config.freeWord n).toNat

/-- The counter of the free values after it. -/
def Store.drawnUpTo (x : Store) (n : Nat) : Nat := if x.frozen then n else n + 2 * (Config.freeWord n).toNat + 1

theorem caughtUp_eq (x : Store) (r : ArbRules) (n : Nat) :
    if x.frozen then x.caughtUp r n = x else ∃ m count, x.caughtUp r n = x.traffic r m count := by
  unfold Store.caughtUp
  split
  · rfl
  · exact ⟨_, _, rfl⟩

theorem rounds_eq (s : State) (i : LaneId) : s.rounds i =
    { s.modLane i (fun l => { l with store := (s.lane i).store.caughtUp s.arbRules s.freeCtr }) with
      freeCtr := (s.lane i).store.drawnUpTo s.freeCtr } := by
  unfold State.rounds Store.caughtUp Store.drawnUpTo
  split
  · exact (setLane_self s i).symm
  · rfl

/-! ## The turns of the lanes -/

/-- What a command does at a lane's turn: the counter of the free values after it, the lane, from the counter before it, and its records. -/
structure LaneTurn where
  draws : LaneId → Nat → Nat
  lane : LaneId → Nat → Lane → Lane
  notes : LaneId → List Queued

/-- The counter of the free values at the turn of lane `j`, the lanes `ls` having their turns from `n` on. -/
def LaneTurn.counterAt (a : LaneTurn) (ls : List LaneId) (n : Nat) (j : LaneId) : Nat :=
  (ls.takeWhile (· != j)).foldl (fun m i => a.draws i m) n

/-- Lane `i` has its turn. -/
def State.takesTurn (s : State) (a : LaneTurn) (i : LaneId) : State :=
  { s.modLane i (a.lane i s.freeCtr) with
    freeCtr := a.draws i s.freeCtr
    almanac := { s.almanac with events := s.almanac.events ++ a.notes i } }

/-- What the turns of the lanes `ls` make of a lane. -/
def LaneTurn.after (a : LaneTurn) (ls : List LaneId) (n : Nat) (j : LaneId) (l : Lane) : Lane :=
  if j ∈ ls then a.lane j (a.counterAt ls n j) l else l

/-- The lanes `ls` have had their turns. -/
def State.takesTurns (s : State) (a : LaneTurn) (ls : List LaneId) : State :=
  { s with
    lanes := s.lanes.mapI (a.after ls s.freeCtr)
    freeCtr := ls.foldl (fun m i => a.draws i m) s.freeCtr
    almanac := { s.almanac with events := s.almanac.events ++ ls.flatMap a.notes } }

theorem takesTurns_nil (s : State) (a : LaneTurn) : s.takesTurns a [] = s := by
  unfold State.takesTurns
  rw [List.flatMap_nil, List.append_nil]
  rfl

theorem takesTurns_lane (s : State) (a : LaneTurn) (ls : List LaneId) (j : LaneId) :
    (s.takesTurns a ls).lane j = a.after ls s.freeCtr j (s.lane j) := Lanes.get_mapI _ _ j

/-- A lane whose turn is still to come is as it was. -/
theorem takesTurns_lane_other (s : State) (a : LaneTurn) {ls : List LaneId} {j : LaneId} (h : j ∉ ls) : (s.takesTurns a ls).lane j = s.lane j := by
  rw [takesTurns_lane]
  exact if_neg h

theorem counterAt_concat_mem (a : LaneTurn) {ls : List LaneId} {j : LaneId} (h : j ∈ ls) (i : LaneId) (n : Nat) :
    a.counterAt (ls ++ [i]) n j = a.counterAt ls n j := by
  have hlong : (ls.takeWhile (· != j)).length ≠ ls.length := fun hlen => by
    have hall := List.takeWhile_eq_self_iff.1 ((List.takeWhile_prefix _).eq_of_length hlen) j h
    simp at hall
  unfold LaneTurn.counterAt
  rw [List.takeWhile_append, if_neg hlong]

theorem counterAt_concat_last (a : LaneTurn) {ls : List LaneId} {i : LaneId} (h : i ∉ ls) (n : Nat) :
    a.counterAt (ls ++ [i]) n i = ls.foldl (fun m i => a.draws i m) n := by
  unfold LaneTurn.counterAt
  rw [List.takeWhile_append_of_pos (fun j hj => bne_iff_ne.2 (ne_of_mem_of_not_mem hj h))]
  simp

/-- The next lane has its turn. -/
theorem takesTurns_concat (s : State) (a : LaneTurn) {ls : List LaneId} {i : LaneId} (h : i ∉ ls) :
    (s.takesTurns a ls).takesTurn a i = s.takesTurns a (ls ++ [i]) := by
  have hlanes : ((s.takesTurns a ls).takesTurn a i).lanes = (s.takesTurns a (ls ++ [i])).lanes := by
    refine Lanes.ext_get (fun j => ?_)
    refine (modLane_lane (s.takesTurns a ls) i j _).trans (Eq.trans ?_ (takesTurns_lane s a (ls ++ [i]) j).symm)
    unfold LaneTurn.after
    by_cases hj : j = i
    · subst hj
      rw [if_pos rfl, takesTurns_lane_other s a h, if_pos (by simp), counterAt_concat_last a h]
      rfl
    · rw [if_neg hj, takesTurns_lane]
      unfold LaneTurn.after
      by_cases hin : j ∈ ls
      · rw [if_pos hin, if_pos (by simp [hin]), counterAt_concat_mem a hin]
      · rw [if_neg hin, if_neg (by simp [hin, hj])]
  have hctr : a.draws i (ls.foldl (fun m i => a.draws i m) s.freeCtr) = (ls ++ [i]).foldl (fun m i => a.draws i m) s.freeCtr := by
    rw [List.foldl_append]
    rfl
  have hnotes : s.almanac.events ++ ls.flatMap a.notes ++ a.notes i = s.almanac.events ++ (ls ++ [i]).flatMap a.notes := by
    rw [List.flatMap_append, List.flatMap_singleton, List.append_assoc]
  calc (s.takesTurns a ls).takesTurn a i
    _ = { s with
          lanes := ((s.takesTurns a ls).takesTurn a i).lanes
          freeCtr := a.draws i (ls.foldl (fun m i => a.draws i m) s.freeCtr)
          almanac := { s.almanac with events := s.almanac.events ++ ls.flatMap a.notes ++ a.notes i } } := rfl
    _ = s.takesTurns a (ls ++ [i]) := by
      rw [hlanes, hctr, hnotes]
      rfl

/-- An operation that is a turn for each of different lanes, whatever lanes have had theirs. -/
theorem foldl_takesTurns {s : State} {a : LaneTurn} {step : State → LaneId → State}
    (hstep : ∀ ls i, i ∉ ls → step (s.takesTurns a ls) i = (s.takesTurns a ls).takesTurn a i) {ls : List LaneId} (h : ls.Nodup) :
    ls.foldl step s = s.takesTurns a ls := by
  induction ls using List.reverseRecOn with
  | nil => exact (takesTurns_nil s a).symm
  | append_singleton ls i ih =>
    obtain ⟨hls, -, hdisjoint⟩ := List.nodup_append'.1 h
    have hi : i ∉ ls := fun hin => hdisjoint hin (List.mem_singleton_self i)
    rw [List.foldl_append, ih hls, ← takesTurns_concat s a hi, ← hstep ls i hi]
    rfl

/-! ## The turns of ARB_CONTROL -/

/-- A turn in which the arbiter of the lane in `s` is looked at, and then changed by `f`. -/
def State.looks (s : State) (f : Store → Store) (notes : LaneId → List Queued) : LaneTurn :=
  { draws := fun i n => (s.lane i).store.drawnUpTo n
    lane := fun i n l => { l with store := f ((s.lane i).store.caughtUp s.arbRules n) }
    notes := notes }

/-- A lane whose freeze bit is cleared, if it was set (R488). -/
def Lane.thawed (l : Lane) : Lane := if l.store.frozen = true then { l with store := { l.store with frozen := false, ringKept := [] } } else l

theorem thawed_mode (l : Lane) : l.thawed.mode = l.mode := by
  unfold Lane.thawed
  split <;> rfl

theorem thawed_inputs (l : Lane) (I : Inputs) : ({ l with inputs := I } : Lane).thawed = { l.thawed with inputs := I } := by
  unfold Lane.thawed
  split <;> rfl

/-- A turn in which the freeze bit of the lane is cleared. -/
def State.thaws (s : State) (x : Session) : LaneTurn :=
  { draws := fun _ n => n
    lane := fun _ _ l => l.thawed
    notes := fun i => if (s.lane i).store.frozen then [x.record 0x0407 [(24, 1, i.index), (25, 1, 0)]] else [] }

/-- The turn of a lane under ARB_CONTROL, by ACTION (Table 13.3). -/
def State.arbTurn (s : State) (now : Nat) (x : Session) (p : Bytes) : Nat → LaneTurn
  | 0 => s.looks (fun y => y.stopRounds now) (fun i => [x.record 0x0407 [(24, 1, i.index), (25, 1, 1)]])
  | 1 => s.thaws x
  | 2 => s.looks (fun y => y.setPriority (rd8 p 2) (bitsAt (rd8 p 3) 0 3)) (fun _ => [])
  | _ => s.looks Store.clearCounters (fun _ => [])

section
variable {s u : State} {i : LaneId} (hstore : (u.lane i).store = (s.lane i).store)
include hstore

theorem rounds_takesTurn (hrules : u.arbRules = s.arbRules) (f : Store → Store) :
    (u.rounds i).modLane i (fun l => { l with store := f l.store }) = u.takesTurn (s.looks f (fun _ => [])) i := by
  rw [rounds_eq, hstore, hrules]
  unfold State.takesTurn
  rw [show (s.looks f (fun _ => [])).notes i = [] from rfl, List.append_nil]
  cases i <;> rfl

theorem freeze_takesTurn (hrules : u.arbRules = s.arbRules) (x : Session) : u.freeze (Origin.ofSession x) i =
    u.takesTurn (s.looks (fun y => y.stopRounds u.now) (fun i => [x.record 0x0407 [(24, 1, i.index), (25, 1, 1)]])) i := by
  unfold State.freeze
  rw [rounds_eq, hstore, hrules]
  cases i <;> rfl

theorem unfreeze_takesTurn (x : Session) : u.unfreeze (Origin.ofSession x) 0 i = u.takesTurn (s.thaws x) i := by
  have hnotes : (s.thaws x).notes i = if (u.lane i).store.frozen then [x.record 0x0407 [(24, 1, i.index), (25, 1, 0)]] else [] := by
    rw [hstore]
    rfl
  unfold State.unfreeze State.takesTurn State.modLane
  rw [hnotes]
  by_cases hfrozen : (u.lane i).store.frozen = true
  · rw [show (s.thaws x).lane i u.freeCtr (u.lane i) = _ from if_pos hfrozen, if_pos hfrozen, if_pos hfrozen]
    rfl
  · rw [show (s.thaws x).lane i u.freeCtr (u.lane i) = _ from if_neg hfrozen, if_neg hfrozen, if_neg hfrozen, List.append_nil, setLane_self]
    rfl

end

theorem nodup_lanesNamed (n : Nat) : (lanesNamed n).Nodup := by
  unfold lanesNamed
  split
  · decide
  · cases laneOf n with
    | none => exact List.nodup_nil
    | some i => exact List.nodup_singleton i

/-! ## Acceptance -/

theorem accept_arbControl (s : State) {c : Cmd} (h : c.opcode = 0x0A01) : s.accept c = s.acceptArbControl c := by unfold State.accept; rw [h]; rfl

/-- ARB_CONTROL names a lane, an action or a requester that the part has not, or counters that are not kept (R408, R490). -/
abbrev State.arbBad (s : State) (p : Bytes) : Prop :=
  3 < rd8 p 0 ∨ 3 < rd8 p 1 ∨ s.identity.part.requesters ≤ rd8 p 2 ∨ (rd8 p 1 = 3 ∧ s.counts = false)

/-- The module is outside WARM or in RUN (R408). -/
abbrev State.arbStops (s : State) : Prop := s.control.power ≠ .warm ∨ s.control.mode = .run

/-- What the turn makes of a lane does not depend on the lane's inputs, in which the heard copy has counted its checks. -/
theorem arbTurn_inputs (s : State) (now : Nat) (x : Session) (p : Bytes) (action : Nat) (j : LaneId) (n : Nat) (l : Lane) (I : Inputs) :
    (s.arbTurn now x p action).lane j n { l with inputs := I } = { (s.arbTurn now x p action).lane j n l with inputs := I } := by
  match action with
  | 0 => rfl
  | 1 => exact thawed_inputs l I
  | 2 => rfl
  | _ + 3 => rfl

theorem arbTurn_mode (s : State) (now : Nat) (x : Session) (p : Bytes) (action : Nat) (j : LaneId) (n : Nat) (l : Lane) :
    ((s.arbTurn now x p action).lane j n l).mode = l.mode := by
  match action with
  | 0 => rfl
  | 1 => exact thawed_mode l
  | 2 => rfl
  | _ + 3 => rfl

theorem after_arbTurn_mode (s : State) (now : Nat) (x : Session) (p : Bytes) (action : Nat) (ls : List LaneId) (n : Nat) (j : LaneId) (l : Lane) :
    ((s.arbTurn now x p action).after ls n j l).mode = l.mode := by
  unfold LaneTurn.after
  split
  · exact arbTurn_mode ..
  · rfl

/-- ARB_CONTROL refused, its parameters first (R364, R408). -/
theorem acceptArbControl_refused {s : State} {cmd : Cmd} (hm : cmd.malformed = false) (h : s.arbBad cmd.params ∨ s.arbStops) :
    s.acceptArbControl cmd = s.acc (if s.arbBad cmd.params then stBadParam else stState) := by
  unfold State.acceptArbControl
  simp only [hm, Bool.false_or]
  unfold firstOf
  by_cases hbad : s.arbBad cmd.params
  · rw [if_pos hbad, List.find?_cons_of_pos]
    simp only [Bool.or_eq_true, decide_eq_true_eq, Bool.and_eq_true, beq_iff_eq, Bool.not_eq_true']
    tauto
  · have hstops := h.resolve_left hbad
    rw [if_neg hbad, List.find?_cons_of_neg, List.find?_cons_of_pos]
    · simpa using hstops
    · simp only [Bool.or_eq_true, decide_eq_true_eq, Bool.and_eq_true, beq_iff_eq, Bool.not_eq_true']
      tauto

/-- ARB_CONTROL accepted in a state whose arbiters are those of `s`: each lane that it names has its turn. -/
theorem acceptArbControl_takesTurns {s p : State} {cmd : Cmd} {x : Session} (hm : cmd.malformed = false) (horigin : cmd.origin = Origin.ofSession x)
    (hbad : ¬p.arbBad cmd.params) (hstops : ¬p.arbStops) (hstore : ∀ i, (p.lane i).store = (s.lane i).store) (hrules : p.arbRules = s.arbRules) :
    p.acceptArbControl cmd = (p.takesTurns (s.arbTurn p.now x cmd.params (rd8 cmd.params 1)) (lanesNamed (rd8 cmd.params 0))).acc stAccepted := by
  have hnodup := nodup_lanesNamed (rd8 cmd.params 0)
  have hstill : ∀ {a : LaneTurn} {ls : List LaneId} {i : LaneId}, i ∉ ls → ((p.takesTurns a ls).lane i).store = (s.lane i).store :=
    fun {a} {ls} {i} hi => by rw [takesTurns_lane_other p a hi, hstore]
  unfold State.acceptArbControl
  simp only [horigin]
  refine (firstOf_go ?_).trans (congrArg (fun v : State => v.acc stAccepted) ?_)
  · simp only [not_or] at hbad hstops
    obtain ⟨hlane, haction, hreq, hcounts⟩ := hbad
    obtain ⟨hpower, hmode⟩ := hstops
    simp [hm, hlane, haction, hreq, hmode, not_not.1 hpower]
    simpa using hcounts
  · generalize rd8 cmd.params 1 = action
    match action with
    | 0 => exact foldl_takesTurns (fun ls i hi => freeze_takesTurn (hstill hi) hrules x) hnodup
    | 1 => exact foldl_takesTurns (fun ls i hi => unfreeze_takesTurn (hstill hi) x) hnodup
    | 2 => exact foldl_takesTurns (fun ls i hi => rounds_takesTurn (hstill hi) hrules (fun y => y.setPriority _ _)) hnodup
    | _ + 3 => exact foldl_takesTurns (fun ls i hi => rounds_takesTurn (hstill hi) hrules _) hnodup

/-- ARB_CONTROL accepted once its second copy is heard (R408). -/
theorem arbControl_makes {s : State} {t : Nat} {x : Session} {c : HostCopy} {R : List HostRec} {L : Lanes Lane} {cmd : Cmd}
    (hl : s.sameLanes (s.withHeard t c R L)) (g : s.goodCopy 0x0A01 x c) (hcmd : cmd.OfCopy 0x0A01 x c) (hlen : c.params.length = 4)
    (hbad : ¬s.arbBad c.params) (hstops : ¬s.arbStops) :
    let a := s.arbTurn (max s.now t) x c.params (rd8 c.params 1)
    let ls := lanesNamed (rd8 c.params 0)
    ((s.withHeard t c R L).accept cmd).Makes s (s.takesTurns a ls) t c id L stAccepted [] (a.after ls s.freeCtr) := by
  intro a ls
  have hm := malformed_of_goodCopy g hcmd.opcode hcmd.params (by simp [lengthOk, hlen])
  refine ⟨R, ((s.withHeard t c R L).takesTurns a ls).lanes, ?_, fun i => ?_⟩
  · rw [accept_arbControl _ hcmd.opcode, acceptArbControl_takesTurns (p := s.withHeard t c R L) (s := s) hm (origin_ofCopy hcmd (number_of_sessionOf g.1))
      (by rw [hcmd.params]; exact hbad) hstops (fun i => by rw [hl i]) rfl, hcmd.params]
    rfl
  · refine (takesTurns_lane _ a ls i).trans ?_
    rw [sameLanes_inputs hl i]
    unfold LaneTurn.after
    split
    · exact arbTurn_inputs ..
    · rfl

/-- ARB_CONTROL decided: each lane that it names has had its turn. -/
theorem arbControl_made {s : State} {t : Nat} {x : Session} {c : HostCopy} (h : s.hostReady t) (hu : s.pair.role = .unpaired)
    (g : s.secondCopy 0x0A01 x c) (hlen : c.params.length = 4) (hbad : ¬s.arbBad c.params) (hstops : ¬s.arbStops) :
    let a := s.arbTurn (max s.now t) x c.params (rd8 c.params 1)
    let ls := lanesNamed (rd8 c.params 0)
    ∃ u, exec (.arbControl t c) s = .next u ∧ s.Made u (s.takesTurns a ls) t 0x0A01 x c stAccepted [] id (a.after ls s.freeCtr) := by
  have ⟨hphase, _⟩ := h
  exact second_copy_makes h g (by decide) (by decide) rfl rfl (Or.inr rfl) (fun _ _ _ hl hcmd => arbControl_makes hl g.1 hcmd hlen hbad hstops)
    (stores_id.serves _) (fun _ => by rw [after_arbTurn_mode]) hphase hu rfl

/-! ## A refused command -/

/-- The second copy of a permissive command that is refused: both networks are told, no record is made, and nothing else changes but that the
copy is heard. -/
theorem second_copy_refused {s : State} {t op st : Nat} {x : Session} {c : HostCopy} {row : OpRow} (h : s.hostReady t) (g : s.secondCopy op x c)
    (hop : op ≠ 0x0001) (hr : opOf op = some row) (hc : row.cls = .permissive) (hst : ¬(st = stOk ∨ st = stAccepted))
    (hacc : ∀ R L cmd, cmd.opcode = op → cmd.params = c.params → (s.withHeard t c R L).accept cmd = (s.withHeard t c R L).acc st) :
    ∃ u, run t (fun v => v.hostArrive op c) s = .next u ∧ s.decided u t op c st [] id laneKept [] ∧
      u = { s with now := u.now, host := u.host, lanes := u.lanes } := by
  obtain ⟨p, r, hp, hl, hrec, -, -, harrive⟩ := second_copy_decides h g hop hr hc
  obtain ⟨⟨hfound, -⟩, hnet, hpath, -⟩ := g
  obtain ⟨hphase, hvoting, -⟩ := h
  obtain ⟨R, L, rfl⟩ : ∃ R L, p = s.withHeard t c R L := ⟨_, _, hp⟩
  let v := (s.withHeard t c R L).putDecision r.key op
    { status := st, snapshot := (s.withHeard t c R L).replySnapshot, data := [], bytes := HostCopyHead op c }
  have hlanes : s.sameLanes v := hl
  obtain ⟨r1, r2, K, hsend, htold, hn1, hn2, hq⟩ := sendDecision_tells (v := v) (op := op) (c := c) (r := r) (st := st)
    (snap := (s.withHeard t c R L).replySnapshot) (d := []) hop hphase (sameLanes_mode hlanes hvoting) (heardHost_session t hfound) hnet
    (heard_otherPath (n := s.stampOf c) hnet hpath)
  have hdecide : (s.tick t).hostArrive op c = v.told [r1, r2] K := by
    rw [harrive, ← hsend]
    unfold State.decideCopy
    rw [show copyKey op c = .session c.session c.seq from if_neg hop]
    simp only [decideKey, hrec, hacc R L ((s.withHeard t c R L).cmdOf op c r none) rfl rfl]
    exact if_neg hst
  refine ⟨_, run_next (f := fun u => u.hostArrive op c) hdecide rfl rfl, ⟨⟨r1, r2, ?_, hn1, hn2, hq⟩, rfl, sameLanes_trans hlanes htold, rfl, ?_⟩, rfl⟩
  · rw [← heardHost_replies s t c]
    rfl
  · rw [List.append_nil]
    rfl

/-! ## The obligation -/

/-- A list with an entry for each element that `q` picks. -/
theorem flatMap_ite_singleton {α β : Type} (l : List α) (q : α → Bool) (f : α → β) :
    l.flatMap (fun i => if q i then [f i] else []) = (l.filter q).map f := by
  induction l with
  | nil => rfl
  | cons i l ih =>
    rw [List.flatMap_cons, ih, List.filter_cons]
    split <;> rfl

/-- Settles O43: a refusal leaves the arbiters as they were; else each lane named has its turn, by ACTION. That the traffic of an arbiter is free values (log entry
35) and that a freeze bit set again restarts its 10 ms (log entry 64) are the model's choices. -/
theorem arbiterControlByAction : Obligations.ArbiterControlByAction := by
  unfold Obligations.ArbiterControlByAction
  intro t x c s h hu g hlen ls action req bad stops
  refine ⟨fun hrefuse => ?_, fun hbad hstops => ?_⟩
  · have hst : ¬((if bad then stBadParam else stState) = stOk ∨ (if bad then stBadParam else stState) = stAccepted) := by
      split <;> decide
    refine second_copy_refused h g (by decide) rfl rfl hst (fun R L cmd hop hpar => ?_)
    rw [accept_arbControl _ hop,
      acceptArbControl_refused (malformed_of_goodCopy g.1 hop hpar (by simp [lengthOk, hlen])) (by rw [hpar]; exact hrefuse), hpar]
    rfl
  · obtain ⟨u, hrun, hmade⟩ := arbControl_made h hu g hlen hbad hstops
    generalize ha : s.arbTurn (max s.now t) x c.params (rd8 c.params 1) = a at hmade
    have hdecided : ∀ {k : LaneId → Lane → Lane} {evs : List Queued}, a.after ls s.freeCtr = k → ls.flatMap a.notes = evs →
        s.decided u t 0x0A01 c stAccepted [] id k (evs ++ [x.commandRecord 0x0A01 c]) := by
      rintro k evs rfl rfl
      exact hmade.decided rfl rfl
    have hctr : u.freeCtr = (s.takesTurns a ls).freeCtr := by rw [hmade.frame]
    have hturn : ∀ n, action = n → a = s.arbTurn (max s.now t) x c.params n := fun n hn => by rw [← ha, ← hn]
    refine ⟨u, fun j => (s.lane j).store.caughtUp s.arbRules (a.counterAt ls s.freeCtr j), hrun, by rw [hctr]; exact hmade.frame,
      fun j => caughtUp_eq _ _ _, fun haction => ?_, fun haction => ?_, fun haction => ?_, fun haction => ?_⟩
    · obtain rfl := hturn 0 haction
      exact hdecided rfl (List.map_eq_flatMap ..).symm
    · obtain rfl := hturn 1 haction
      exact hdecided (funext fun j => funext fun l => (ite_and ..).symm) (flatMap_ite_singleton ..)
    · obtain rfl := hturn 2 haction
      exact hdecided rfl (List.flatMap_eq_nil_iff.2 (fun _ _ => rfl))
    · obtain rfl := hturn 3 haction
      exact hdecided rfl (List.flatMap_eq_nil_iff.2 (fun _ _ => rfl))

end Sys2Proof.Machine
end

section
/-! # Safe outputs: marks, elements, terminals and test slots (R420 to R423, R427, R631) -/

namespace Sys2Proof.Machine

/-! ## Commands of the safe output stage -/

/-- Two states that differ at most in the safe output stage and in their lanes. -/
def StageOnly (s u : State) : Prop := u = { s with safeIo := u.safeIo, lanes := u.lanes }

theorem StageOnly.trans {s u v : State} (h : StageOnly s u) (g : StageOnly u v) : StageOnly s v := by
  unfold StageOnly at *
  rw [g, h]

theorem StageOnly.now {s u : State} (h : StageOnly s u) : u.now = s.now := by
  unfold StageOnly at h
  rw [h]

/-- The state after a command that changes nothing but the safe output stage and the lanes. -/
theorem run_stageOnly {s u : State} {t : Nat} {f : State → State} (hf : f (s.tick t) = u) (h : StageOnly (s.tick t) u) :
    run t f s = .next u ∧ u = { s with now := u.now, safeIo := u.safeIo, lanes := u.lanes } := by
  unfold StageOnly at h
  exact ⟨run_next hf (by rw [h]; rfl) (by rw [h]; rfl), by rw [h]; rfl⟩

/-! ## Marks (R219, R427) -/

/-- A lane forces output `o` to 0 at instant `t` and records a mark, if it has not done so already. -/
def Lane.findsMark (l : Lane) (t o : Nat) (k : Mark) : Lane :=
  if (l.pend t (.output o)).forces.marks.contains k then l.pend t (.output o)
  else { l.pend t (.output o) with forces := { (l.pend t (.output o)).forces with marks := (l.pend t (.output o)).forces.marks ++ [k] } }

theorem findsMark_keeps (l : Lane) (t o : Nat) (k : Mark) : l.findsMark t o k = { l with forces := (l.findsMark t o k).forces } := by
  obtain ⟨F, hF⟩ := pend_keeps l t (.output o)
  unfold Lane.findsMark
  rw [hF]
  split <;> rfl

theorem mem_pend_pending {l : Lane} {t : Nat} {f : Force} {p : Force × Nat} (h : p ∈ l.forces.pending) : p ∈ (l.pend t f).forces.pending := by
  unfold Lane.pend
  split
  · exact h
  · exact List.mem_append_left _ h

theorem pend_pends (l : Lane) (t : Nat) (f : Force) : ∃ u, (f, u) ∈ (l.pend t f).forces.pending := by
  unfold Lane.pend
  split
  · next h =>
    obtain ⟨⟨g, u⟩, hmem, hg⟩ := List.any_eq_true.1 h
    obtain rfl : g = f := beq_iff_eq.1 hg
    exact ⟨u, hmem⟩
  · exact ⟨t, List.mem_append_right _ (List.mem_singleton_self _)⟩

theorem pend_marks (l : Lane) (t : Nat) (f : Force) : (l.pend t f).forces.marks = l.forces.marks := by
  unfold Lane.pend
  split <;> rfl

theorem findsMark_pending (l : Lane) (t o : Nat) (k : Mark) :
    (l.findsMark t o k).forces.pending = (l.pend t (.output o)).forces.pending := by
  unfold Lane.findsMark
  split <;> rfl

theorem mem_findsMark_marks {l : Lane} {t o : Nat} {k m : Mark} : m ∈ (l.findsMark t o k).forces.marks ↔ m ∈ l.forces.marks ∨ m = k := by
  unfold Lane.findsMark
  rw [pend_marks]
  split
  · next h =>
    rw [pend_marks, or_iff_left_of_imp (fun hm => by rw [hm]; exact List.contains_iff_mem.1 h)]
  · simp

theorem findsMark_marked (l : Lane) (t o : Nat) (k : Mark) : (l.findsMark t o k).marked k o := by
  refine ⟨mem_findsMark_marks.2 (Or.inr rfl), ?_⟩
  rw [findsMark_pending]
  exact pend_pends l t _

theorem marked_findsMark {l : Lane} {t o q : Nat} {k m : Mark} (h : l.marked m q) : (l.findsMark t o k).marked m q := by
  obtain ⟨hmark, u, hpending⟩ := h
  refine ⟨mem_findsMark_marks.2 (Or.inl hmark), u, ?_⟩
  rw [findsMark_pending]
  exact mem_pend_pending hpending

/-- `u` is `s` but for what lanes have marked: their forces, and the lanes that found each mark first. -/
structure MarksOnly (s u : State) : Prop where
  frame : StageOnly s u
  safeIo : u.safeIo = { s.safeIo with marker := u.safeIo.marker }
  lane : ∀ j, u.lane j = { s.lane j with forces := (u.lane j).forces }
  keeps : ∀ j k o, (s.lane j).marked k o → (u.lane j).marked k o

theorem MarksOnly.refl (s : State) : MarksOnly s s := ⟨rfl, rfl, fun _ => rfl, fun _ _ _ h => h⟩

theorem MarksOnly.trans {s u v : State} (h : MarksOnly s u) (g : MarksOnly u v) : MarksOnly s v where
  frame := h.frame.trans g.frame
  safeIo := by rw [g.safeIo, h.safeIo]
  lane j := by rw [g.lane j, h.lane j]
  keeps j k o hk := g.keeps j k o (h.keeps j k o hk)

theorem MarksOnly.elements {s u : State} (h : MarksOnly s u) (j : LaneId) : (u.lane j).elements = (s.lane j).elements := by rw [h.lane j]

theorem MarksOnly.mode {s u : State} (h : MarksOnly s u) (j : LaneId) : (u.lane j).mode = (s.lane j).mode := by rw [h.lane j]

theorem MarksOnly.test {s u : State} (h : MarksOnly s u) : u.safeIo.test = s.safeIo.test := by rw [h.safeIo]

theorem MarksOnly.passed {s u : State} (h : MarksOnly s u) : u.safeIo.passed = s.safeIo.passed := by rw [h.safeIo]

theorem markOutput_eq (s : State) (i : LaneId) (o : Nat) (k : Mark) : s.markOutput i o k =
    { s.modLane i (fun l => l.findsMark s.now o k) with
      safeIo := { s.safeIo with marker := (s.markOutput i o k).safeIo.marker } } := by
  unfold State.markOutput
  split <;> rfl

theorem markOutput_lane (s : State) (i j : LaneId) (o : Nat) (k : Mark) :
    (s.markOutput i o k).lane j = if j = i then (s.lane j).findsMark s.now o k else s.lane j := by
  rw [markOutput_eq]
  exact modLane_lane s i j (fun l => l.findsMark s.now o k)

theorem markOutput_marks (s : State) (i : LaneId) (o : Nat) (k : Mark) : ((s.markOutput i o k).lane i).marked k o := by
  rw [markOutput_lane, if_pos rfl]
  exact findsMark_marked ..

theorem markOutput_marksOnly (s : State) (i : LaneId) (o : Nat) (k : Mark) : MarksOnly s (s.markOutput i o k) where
  frame := by rw [markOutput_eq]; rfl
  safeIo := by rw [markOutput_eq]
  lane j := by
    rw [markOutput_lane]
    split
    · exact findsMark_keeps ..
    · rfl
  keeps j m q h := by
    rw [markOutput_lane]
    split
    · exact marked_findsMark h
    · exact h

/-- Lanes that mark one after another: each holds the mark in the end. -/
theorem foldl_markOutput (o : Nat) (k : Mark) (l : List LaneId) (s : State) :
    MarksOnly s (l.foldl (fun u i => u.markOutput i o k) s) ∧ ∀ j ∈ l, ((l.foldl (fun u i => u.markOutput i o k) s).lane j).marked k o := by
  induction l generalizing s with
  | nil => exact ⟨MarksOnly.refl s, fun _ h => nomatch h⟩
  | cons i l ih =>
    obtain ⟨honly, hmarked⟩ := ih (s.markOutput i o k)
    refine ⟨(markOutput_marksOnly s i o k).trans honly, fun j hj => ?_⟩
    rcases List.mem_cons.1 hj with rfl | hj
    · exact honly.keeps _ _ _ (markOutput_marks s j o k)
    · exact hmarked j hj

theorem markAll_marksOnly (s : State) (o : Nat) (k : Mark) : MarksOnly s (s.markAll o k) := (foldl_markOutput o k s.voting s).1

theorem markAll_marks {s : State} {j : LaneId} (h : (s.lane j).mode = .voting) (o : Nat) (k : Mark) : ((s.markAll o k).lane j).marked k o :=
  (foldl_markOutput o k s.voting s).2 j (mem_voting.2 h)

theorem marksOnly_ite_markAll (c : Prop) [Decidable c] (s : State) (o : Nat) (k : Mark) : MarksOnly s (if c then s.markAll o k else s) := by
  split
  · exact markAll_marksOnly s o k
  · exact MarksOnly.refl s

/-! ## Elements and terminals (R420) -/

/-- The lane with its elements of output `o` closed or opened; only a voting lane closes them (Table 11.5). -/
def Lane.drives (l : Lane) (o : Nat) (on : Bool) : Lane := { l with elements := setBit l.elements o (on && l.mode == .voting) }

theorem drives_elements (l : Lane) {o : Nat} (ho : o < 32) (on : Bool) (k : Nat) :
    (l.drives o on).elements.getLsbD k = if k = o then on && l.mode == .voting else l.elements.getLsbD k := getLsbD_setBit _ ho k _

theorem driveOutput_eq (s : State) (o : Nat) (on : Bool) : s.driveOutput o on = s.mapLanes (fun l => l.drives o on) :=
  foldl_modLane_all s (fun _ l => l.drives o on)

theorem driveOutput_lane (s : State) (o : Nat) (on : Bool) (j : LaneId) : (s.driveOutput o on).lane j = (s.lane j).drives o on := by
  rw [driveOutput_eq, mapLanes_lane]

theorem driveOutput_stageOnly (s : State) (o : Nat) (on : Bool) : StageOnly s (s.driveOutput o on) := by
  rw [driveOutput_eq]
  rfl

theorem driveOutput_safeIo (s : State) (o : Nat) (on : Bool) : (s.driveOutput o on).safeIo = s.safeIo := by
  rw [driveOutput_eq, mapLanes_safeIo]

theorem getLsbD_foldl_setBit {n : Nat} {l : List Nat} (h : ∀ k ∈ l, k < n) (x : BitVec n) (j : Nat) :
    (l.foldl (fun x k => setBit x k true) x).getLsbD j = true ↔ j ∈ l ∨ x.getLsbD j = true := by
  induction l generalizing x with
  | nil => simp
  | cons k l ih =>
    obtain ⟨hk, hl⟩ := List.forall_mem_cons.1 h
    rw [List.foldl_cons, ih hl, getLsbD_setBit x hk, List.mem_cons]
    by_cases hj : j = k <;> simp [hj]

theorem getLsbD_bitSet {n : Nat} {l : List Nat} (h : ∀ k ∈ l, k < n) (j : Nat) : (bitSet n l).getLsbD j = true ↔ j ∈ l :=
  (getLsbD_foldl_setBit h 0 j).trans (by simp)

theorem terminals_bit (s : State) {o : Nat} (ho : o < 32) : s.terminals.getLsbD o = true ↔
    s.supplyOn = true ∧ ∃ p ∈ pairLanes, s.sideClosed p.1 true o = true ∧ s.sideClosed p.2 false o = true := by
  unfold State.terminals
  split
  · next hon =>
    rw [getLsbD_bitSet (fun k hk => List.mem_range.1 (List.mem_filter.1 hk).1)]
    simp [ho, hon]
  · next hoff => simp [hoff]

theorem darkClosed_of_none {s : State} (h : s.safeIo.test = none) : s.darkClosed = none := by
  unfold State.darkClosed
  rw [h]

theorem darkClosed_of_offPulse {s : State} {o start : Nat} {cut : Bool}
    (h : s.safeIo.test = some { output := o, start := start, kind := .offPulse cut }) : s.darkClosed = none := by
  unfold State.darkClosed
  rw [h]

theorem sideClosed_eq {s : State} (h : s.darkClosed = none) (i : LaneId) (side : Bool) (o : Nat) :
    s.sideClosed i side o = (s.lane i).elements.getLsbD o := by
  unfold State.sideClosed
  rw [h]
  exact Bool.or_false _

/-- With every element open the terminal is off. -/
theorem terminals_off {s : State} {o : Nat} (ho : o < 32) (hdark : s.darkClosed = none) (h : ∀ i, (s.lane i).elements.getLsbD o = false) :
    s.terminals.getLsbD o = false := by
  refine Bool.eq_false_iff.2 (fun hon => ?_)
  obtain ⟨-, p, -, hclosed, -⟩ := (terminals_bit s ho).1 hon
  rw [sideClosed_eq hdark, h] at hclosed
  cases hclosed

/-- Any two of the lanes are a pair. -/
theorem pair_of_voting {s : State} (h : 2 ≤ s.voting.length) : ∃ p ∈ pairLanes, p.1 ∈ s.voting ∧ p.2 ∈ s.voting := by
  rcases voting_two h with hv | hv | hv | hv <;> rw [hv] <;> decide

/-- With the elements of two voting lanes closed the terminal is on where the supply conducts. -/
theorem terminals_on {s : State} {o : Nat} (ho : o < 32) (hsupply : s.supplyOn = true) (htwo : 2 ≤ s.voting.length)
    (h : ∀ i, (s.lane i).mode = .voting → (s.lane i).elements.getLsbD o = true) : s.terminals.getLsbD o = true := by
  obtain ⟨p, hp, hfirst, hsecond⟩ := pair_of_voting htwo
  have hclosed : ∀ i side, i ∈ s.voting → s.sideClosed i side o = true := fun i side hi => by
    unfold State.sideClosed getBit
    rw [h i (mem_voting.1 hi), Bool.true_or]
  exact (terminals_bit s ho).2 ⟨hsupply, p, hp, hclosed _ _ hfirst, hclosed _ _ hsecond⟩

theorem supplyOn_congr {s u : State} (hlow : u.safeIo.outputLow = s.safeIo.outputLow) (h : ∀ i, (u.lane i).supplyClosed = (s.lane i).supplyClosed) :
    u.supplyOn = s.supplyOn := by
  unfold State.supplyOn
  simp only [hlow, h]

/-- The elements of an output that is driven in `u` as its lanes were in `s`. -/
theorem driven_elements {s u : State} {o : Nat} {on : Bool} (ho : o < 32)
    (h : ∀ i, u.lane i = { (s.lane i).drives o on with forces := (u.lane i).forces }) (i : LaneId) :
    (u.lane i).elements.getLsbD o = (on && (s.lane i).mode == .voting) := by
  rw [h i]
  exact (drives_elements _ ho on o).trans (if_pos rfl)

/-- The terminal of an output that two voting lanes close is on where the supply conducts. -/
theorem terminals_driven {s u : State} {o : Nat} (ho : o < 32) (h : ∀ i, u.lane i = { (s.lane i).drives o true with forces := (u.lane i).forces })
    (hlow : u.safeIo.outputLow = s.safeIo.outputLow) (hsupply : s.supplyOn = true) (htwo : 2 ≤ s.voting.length) : u.terminals.getLsbD o = true := by
  have hmode : ∀ i, (u.lane i).mode = (s.lane i).mode := fun i => by
    rw [h i]
    rfl
  have hconducts : u.supplyOn = s.supplyOn := supplyOn_congr hlow (fun i => by rw [h i]; rfl)
  refine terminals_on ho (hconducts.trans hsupply) (by rw [voting_same hmode]; exact htwo) (fun i hi => ?_)
  rw [driven_elements ho h, ← hmode, hi]
  rfl

/-! ## Test slots (R423, Table 11.4) -/

theorem driving_of {s : State} (hphase : s.control.phase = .running) (hpower : s.control.power = .live) (hsupply : s.safeIo.supply = .isClosed) :
    s.driving = true := by
  unfold State.driving
  rw [hphase, hpower, hsupply]
  rfl

/-- The module with a test of the safe output stage running, or with none. -/
def State.withTest (s : State) (r : Option TestRun) : State := { s with safeIo := { s.safeIo with test := r } }

theorem withTest_stageOnly (s : State) (r : Option TestRun) : StageOnly s (s.withTest r) := rfl

theorem withTest_lane (s : State) (r : Option TestRun) (j : LaneId) : (s.withTest r).lane j = s.lane j := rfl

/-- The slot of an output in LIVE in which no test runs. -/
theorem testSlot_due {s : State} {t o : Nat} (hdriving : s.driving = true) (hnone : s.safeIo.test = none) (ho : o < 32)
    (hslot : t % 100000000 = 3000000 * o + 10000) : s.testSlot t o =
      if s.safeIo.outputLow then { s with safeIo := { s.safeIo with abandoned := s.safeIo.abandoned + 1 } }
      else if s.snap.safeOut.getLsbD o then (s.withTest (some { output := o, start := t, kind := .offPulse false })).driveOutput o false
      else s.withTest (some { output := o, start := t, kind := .dark 0 }) := by
  have hof : slotOf o t = true := by simp [slotOf, ho, ms, us, hslot]
  refine (if_pos ?_).trans rfl
  rw [hdriving, hof, hnone]
  rfl

/-- Settles O14: without the output supply the slot is abandoned; else the committed value of the output says which test begins. -/
theorem testSlotBeginsTheTestOfItsOutput : Obligations.TestSlotBeginsTheTestOfItsOutput := by
  unfold Obligations.TestSlotBeginsTheTestOfItsOutput
  intro t o s hnow hphase hpower hsupply hnone ho hslot
  have hexec : exec (.testSlotStart t o) s = run t (fun u => u.testSlot t o) s := rfl
  have htick : s.tick t = { s with now := t } := by
    unfold State.tick
    rw [Nat.max_eq_right hnow]
  have hdue := testSlot_due (s := s.tick t) (driving_of hphase hpower hsupply) hnone ho hslot
  refine ⟨fun hlow hon => ?_, fun hlow hoff => ?_, fun hlow => ?_⟩
  · let v := (s.tick t).withTest (some { output := o, start := t, kind := .offPulse false })
    have heq : (s.tick t).testSlot t o = v.driveOutput o false := hdue.trans ((if_neg (by simp [hlow])).trans (if_pos hon))
    have hopen : ∀ i k, ((v.driveOutput o false).lane i).elements.getLsbD k = if k = o then false else (s.lane i).elements.getLsbD k :=
      fun i k => by rw [driveOutput_lane, drives_elements _ ho]; rfl
    have hclosed : ∀ i, ((v.driveOutput o false).lane i).elements.getLsbD o = false := fun i => by rw [hopen, if_pos rfl]
    have htest : (v.driveOutput o false).safeIo = v.safeIo := driveOutput_safeIo ..
    obtain ⟨hrun, hframe⟩ := run_stageOnly (f := fun u => u.testSlot t o) heq ((withTest_stageOnly ..).trans (driveOutput_stageOnly v o false))
    refine ⟨_, hexec.trans hrun, by rw [htest]; rfl, ?_, hclosed, fun i k hk => ?_, by rw [htest]; rfl, hframe⟩
    · exact terminals_off ho (darkClosed_of_offPulse (by rw [htest]; rfl)) hclosed
    · rw [hopen, if_neg hk]
  · have heq : (s.tick t).testSlot t o = _ := hdue.trans ((if_neg (by simp [hlow])).trans (if_neg (ne_true_of_eq_false hoff)))
    rw [hexec, (run_stageOnly (f := fun u => u.testSlot t o) heq rfl).1, htick]
    rfl
  · have heq : (s.tick t).testSlot t o = _ := hdue.trans (if_pos hlow)
    rw [hexec, (run_stageOnly (f := fun u => u.testSlot t o) heq rfl).1, htick]

end Sys2Proof.Machine
end

section
/-! # Safe outputs: what the tests and the other conditions show (R424 to R428, Tables 11.4 to 11.6) -/

namespace Sys2Proof.Machine

/-! ## Tests that pass -/

theorem testPassed_stageOnly (s : State) (o : Nat) (pulse shown : Bool) : StageOnly s (s.testPassed o pulse shown) := rfl

theorem testPassed_passed (s : State) (o : Nat) (pulse shown : Bool) :
    (s.testPassed o pulse shown).safeIo.passed = s.safeIo.passed + 1 := rfl

theorem testPassed_lastPulse (s : State) (o : Nat) (shown : Bool) : assoc (s.testPassed o true shown).safeIo.lastPulse o = some s.now :=
  (assoc_assocSet ..).trans (if_pos rfl)

theorem testPassed_untested (s : State) (o : Nat) (shown : Bool) : o ∉ (s.testPassed o true shown).safeIo.untested := by
  simp [State.testPassed]

/-- A test that may have passed leaves the lanes and the test that runs. -/
theorem passesIf_keeps (c : Prop) [Decidable c] (s : State) (o : Nat) (pulse shown : Bool) :
    let u := if c then s.testPassed o pulse shown else s
    StageOnly s u ∧ u.lanes = s.lanes ∧ u.safeIo.test = s.safeIo.test ∧ u.safeIo.outputLow = s.safeIo.outputLow := by
  intro u
  by_cases h : c
  · rw [show u = s.testPassed o pulse shown from if_pos h]
    exact ⟨testPassed_stageOnly .., rfl, rfl, rfl⟩
  · rw [show u = s from if_neg h]
    exact ⟨rfl, rfl, rfl, rfl⟩

/-! ## The off-pulse (R424, R425) -/

/-- The output takes its committed value again, and the element test follows where that is 1. -/
def State.endsPulse (s : State) (o start : Nat) (on : Bool) : State :=
  (s.withTest (if on then some { output := o, start := start, kind := .element (testLane start) .before } else none)).driveOutput o on

theorem endsPulse_lane (s : State) (o start : Nat) (on : Bool) (j : LaneId) : (s.endsPulse o start on).lane j = (s.lane j).drives o on := by
  unfold State.endsPulse
  rw [driveOutput_lane, withTest_lane]

theorem endsPulse_safeIo (s : State) (o start : Nat) (on : Bool) : (s.endsPulse o start on).safeIo = { s.safeIo with
    test := if on then some { output := o, start := start, kind := .element (testLane start) .before } else none } := driveOutput_safeIo ..

theorem endsPulse_stageOnly (s : State) (o start : Nat) (on : Bool) : StageOnly s (s.endsPulse o start on) :=
  (withTest_stageOnly ..).trans (driveOutput_stageOnly ..)

/-- A terminal that reads energised shows STUCK_ON (Table 11.6), but where the pulse was cut and the elements have closed again. -/
def State.judgesPulse (s : State) (o : Nat) (x : PulseSense) (again : Bool) : State :=
  if x.energised && !again then s.markAll o (.fault .stuckOn o) else s

theorem judgesPulse_marksOnly (s : State) (o : Nat) (x : PulseSense) (again : Bool) : MarksOnly s (s.judgesPulse o x again) :=
  marksOnly_ite_markAll _ s o _

theorem judgesPulse_fine {x : PulseSense} {again : Bool} (h : x.energised = false ∨ again = true) (s : State) (o : Nat) :
    s.judgesPulse o x again = s := if_neg (by rcases h with h | h <;> simp [h])

theorem judgesPulse_stuck {x : PulseSense} {again : Bool} (h : x.energised = true) (ha : again = false) (s : State) (o : Nat) :
    s.judgesPulse o x again = s.markAll o (.fault .stuckOn o) := if_pos (by simp [h, ha])

/-- Does an off-pulse count as passed (R424)? -/
def pulsePasses (x : PulseSense) (again : Bool) : Bool := x.offFor20us && (!x.energised || again)

theorem pulsePasses_iff (x : PulseSense) (again : Bool) :
    pulsePasses x again = true ↔ x.offFor20us = true ∧ (x.energised = false ∨ again = true) := by simp [pulsePasses]

theorem offPulseEnd_due {s : State} {o start : Nat} {cut on : Bool} (x : PulseSense)
    (htest : s.safeIo.test = some { output := o, start := start, kind := .offPulse cut }) (hdue : start + 250000 ≤ s.now)
    (hon : s.snap.safeOut.getLsbD o = on) : s.offPulseEnd o x =
      if pulsePasses x (cut && on) then ((s.endsPulse o start on).judgesPulse o x (cut && on)).testPassed o true true
      else (s.endsPulse o start on).judgesPulse o x (cut && on) := by
  unfold State.offPulseEnd
  rw [htest]
  refine (if_pos ⟨rfl, hdue⟩).trans ?_
  rw [show getBit s.snap.safeOut o = on from hon]
  rfl

theorem offPulseEnd_idle {s : State} {o : Nat} (x : PulseSense)
    (h : ∀ r, s.safeIo.test = some r → (∀ c, r.kind ≠ .offPulse c) ∨ r.output ≠ o ∨ s.now < r.start + 250000) : s.offPulseEnd o x = s := by
  unfold State.offPulseEnd
  split
  · next r hr =>
    split
    · next cut hkind =>
      refine if_neg (fun ⟨ho, hdue⟩ => ?_)
      rcases h r hr with hk | hout | hearly
      · exact hk cut hkind
      · exact hout ho
      · exact absurd hearly (Nat.not_lt.2 hdue)
    · rfl
  · rfl

/-- Settles O15: the output is driven as committed, then the senses are judged. That a pulse which a commit to 0 has cut is still judged at its
250 µs is the model's choice (log entry 97). -/
theorem offPulseIsJudged : Obligations.OffPulseIsJudged := by
  unfold Obligations.OffPulseIsJudged
  intro t o x s
  refine ⟨fun start cut on htest ho hdue hon => ?_, fun h => run_idle (f := fun u => u.offPulseEnd o x) (offPulseEnd_idle (s := s.tick t) x h)⟩
  intro again
  have hagain : again ↔ (cut && on) = true := Bool.and_eq_true_iff.symm
  clear_value again
  let p := (s.tick t).endsPulse o start on
  let q := p.judgesPulse o x (cut && on)
  have hmarks : MarksOnly p q := judgesPulse_marksOnly ..
  obtain ⟨hpassOnly, hlanes, htestKept, hlowKept⟩ := passesIf_keeps (pulsePasses x (cut && on) = true) q o true true
  obtain ⟨hrun, hframe⟩ := run_stageOnly (f := fun u => u.offPulseEnd o x) (offPulseEnd_due (s := s.tick t) x htest hdue hon)
    ((endsPulse_stageOnly ..).trans (hmarks.frame.trans hpassOnly))
  generalize hu : (if pulsePasses x (cut && on) = true then q.testPassed o true true else q) = u at *
  have hlane : ∀ i, u.lane i = q.lane i := fun i => congrArg (fun l : Lanes Lane => l.get i) hlanes
  have hdriven : ∀ i, p.lane i = (s.lane i).drives o on := endsPulse_lane (s.tick t) o start on
  have hown : ∀ i, u.lane i = { (s.lane i).drives o on with forces := (u.lane i).forces } := fun i => by
    rw [hlane, ← hdriven]
    exact hmarks.lane i
  have htested : u.safeIo.test = if on then some { output := o, start := start, kind := .element (testLane start) .before } else none := by
    rw [htestKept, hmarks.test, endsPulse_safeIo]
  have hsafe : q.safeIo = { s.safeIo with test := p.safeIo.test, marker := q.safeIo.marker } := by
    rw [hmarks.safeIo, endsPulse_safeIo]
    rfl
  refine ⟨u, hrun, fun hoff => ?_, fun h1 hsupply htwo => ?_, fun i hi => ?_, ?_, fun hoff h => ?_, fun h => ?_, fun h i => ?_, fun h ha i hi => ?_, hframe⟩
  · subst hoff
    exact terminals_off ho (darkClosed_of_none htested) (fun i => by rw [driven_elements ho hown, Bool.false_and])
  · subst h1
    exact terminals_driven ho hown (by rw [hlowKept, hsafe]) hsupply htwo
  · rw [driven_elements ho hown, hi]
    exact Bool.and_true on
  · rw [htested]
    cases on <;> simp
  · rw [← hu, if_pos ((pulsePasses_iff ..).2 ⟨hoff, h.imp_right hagain.1⟩)]
    refine ⟨?_, ?_, testPassed_untested q o true⟩
    · rw [testPassed_passed, hsafe]
    · rw [testPassed_lastPulse, hmarks.frame.now, (endsPulse_stageOnly ..).now, tick_now]
  · have hfails : ¬pulsePasses x (cut && on) = true := by
      rw [pulsePasses_iff, ← hagain]
      rcases h with h | ⟨h, ha⟩
      · simp [h]
      · simp [h, ha]
    rw [← hu, if_neg hfails, hsafe]
    exact ⟨rfl, rfl, rfl⟩
  · rw [hlane, show q = p from judgesPulse_fine (h.imp_right hagain.1) _ o, hdriven]
    rfl
  · rw [hlane, show q = p.markAll o _ from judgesPulse_stuck h (Bool.eq_false_iff.2 (fun hb => ha (hagain.2 hb))) _ o]
    exact markAll_marks (by rw [hdriven]; exact hi) o _

/-! ## The element test (Table 11.4) -/

/-- A pair with lane `i` has a current while the lane's elements are open. -/
def pairStuck (x : ElementSense) : LaneId → Bool
  | .A => x.openCurrent.a || x.openCurrent.c
  | .B => x.openCurrent.a || x.openCurrent.b
  | .C => x.openCurrent.b || x.openCurrent.c

/-- A pair has no current with every element closed. -/
def pairDead (x : ElementSense) : Bool := !(x.closedCurrent.a && x.closedCurrent.b && x.closedCurrent.c)

/-- What the lanes find in an element test is marked. -/
def State.findsElements (s : State) (o : Nat) (stuck dead : Bool) : State :=
  let u := if stuck then s.markAll o (.fault .elementClosed o) else s
  if dead then u.markAll o (.fault .elementOpen o) else u

theorem findsElements_marksOnly (s : State) (o : Nat) (stuck dead : Bool) : MarksOnly s (s.findsElements o stuck dead) :=
  (marksOnly_ite_markAll (stuck = true) s o _).trans (marksOnly_ite_markAll (dead = true) _ o _)

theorem findsElements_closed {s : State} {j : LaneId} (hj : (s.lane j).mode = .voting) (o : Nat) (dead : Bool) :
    ((s.findsElements o true dead).lane j).marked (.fault .elementClosed o) o :=
  (marksOnly_ite_markAll (dead = true) _ o _).keeps j _ _ (markAll_marks hj o _)

theorem findsElements_open {s : State} {j : LaneId} (hj : (s.lane j).mode = .voting) (o : Nat) (stuck : Bool) :
    ((s.findsElements o stuck true).lane j).marked (.fault .elementOpen o) o :=
  markAll_marks (by rw [(marksOnly_ite_markAll (stuck = true) s o (.fault .elementClosed o)).mode]; exact hj) o _

/-- With three voting lanes every pair is judged. -/
theorem judgeElements_all {s : State} (hmode : ∀ j, (s.lane j).mode = .voting) (i : LaneId) (o : Nat) (x : ElementSense) :
    s.judgeElements i o x = if pairStuck x i || pairDead x then s.findsElements o (pairStuck x i) (pairDead x) else s.testPassed o false false := by
  have hstuck : (s.pairSense x.openCurrent (some i)).any (fun b => b) = pairStuck x i := by
    cases i <;> simp [State.pairSense, pairLanes, pairBits, hmode, pairStuck]
  have hdead : (s.pairSense x.closedCurrent none).any (fun b => !b) = pairDead x := by
    simp [State.pairSense, pairLanes, pairBits, hmode, pairDead, Bool.or_assoc]
  unfold State.judgeElements
  rw [hstuck, hdead]
  cases pairStuck x i <;> cases pairDead x <;> rfl

theorem elementStage_lane (s : State) (r : TestRun) (i j : LaneId) (g : ElementStage) :
    (s.elementStage r i g).lane j = if j = i then (s.lane j).drives r.output (g != .opened) else s.lane j :=
  modLane_lane (s.withTest (some { r with kind := .element i g })) i j (fun l => l.drives r.output (g != .opened))

theorem elementStage_stageOnly (s : State) (r : TestRun) (i : LaneId) (g : ElementStage) : StageOnly s (s.elementStage r i g) := rfl

theorem elementStage_safeIo (s : State) (r : TestRun) (i : LaneId) (g : ElementStage) :
    (s.elementStage r i g).safeIo = { s.safeIo with test := some { r with kind := .element i g } } := rfl

/-- The stage of an element test by its time. -/
def stageFrom (start now : Nat) : ElementStage := if start + 1100000 ≤ now then .closedAgain else .opened

theorem stageFrom_closes (start now : Nat) : (stageFrom start now != .opened) = decide (start + 1100000 ≤ now) := by
  unfold stageFrom
  split
  · next h => simp [h]
  · next h => simp [h]

section
variable {s : State} {o start : Nat} {i : LaneId} {g : ElementStage}
  (htest : s.safeIo.test = some { output := o, start := start, kind := .element i g }) (hi : (s.lane i).mode = .voting)
include htest hi

theorem elementTest_runs (x : ElementSense) (hdue : start + 1000000 ≤ s.now) (hearly : s.now < start + 1200000) :
    s.elementTest o x = s.elementStage { output := o, start := start, kind := .element i g } i (stageFrom start s.now) := by
  unfold State.elementTest stageFrom
  rw [htest]
  refine (if_pos ⟨rfl, hdue⟩).trans ((if_neg (not_not.2 hi)).trans ?_)
  by_cases hclosed : start + 1100000 ≤ s.now
  · rw [if_pos hclosed]
    exact (if_neg (Nat.not_lt.2 hclosed)).trans (if_pos hearly)
  · rw [if_neg hclosed]
    exact if_pos (Nat.lt_of_not_le hclosed)

theorem elementTest_ends (x : ElementSense) (hdue : start + 1200000 ≤ s.now) : s.elementTest o x =
    ((s.elementStage { output := o, start := start, kind := .element i g } i .closedAgain).withTest none).judgeElements i o x := by
  unfold State.elementTest
  rw [htest]
  have h1 : start + 1000000 ≤ s.now := by omega
  have h2 : start + 1100000 ≤ s.now := by omega
  exact (if_pos ⟨rfl, h1⟩).trans ((if_neg (not_not.2 hi)).trans ((if_neg (Nat.not_lt.2 h2)).trans (if_neg (Nat.not_lt.2 hdue))))

end

theorem elementTest_idle {s : State} {o : Nat} (x : ElementSense)
    (h : ∀ r, s.safeIo.test = some r → (∀ i g, r.kind ≠ .element i g) ∨ r.output ≠ o ∨ s.now < r.start + 1000000) : s.elementTest o x = s := by
  unfold State.elementTest
  split
  · next r hr =>
    split
    · next i g hkind =>
      refine if_neg (fun ⟨ho, hdue⟩ => ?_)
      rcases h r hr with hk | hout | hearly
      · exact hk i g hkind
      · exact hout ho
      · exact absurd hearly (Nat.not_lt.2 hdue)
    · rfl
  · rfl

/-- `u` is `s` after an element test with what the two senses show: nothing but forces and the stage's counts differs. -/
structure ElementsJudged (s u : State) (o : Nat) (stuck dead : Bool) : Prop where
  frame : StageOnly s u
  elements : ∀ j, (u.lane j).elements = (s.lane j).elements
  test : u.safeIo.test = s.safeIo.test
  closed : stuck = true → ∀ j, (u.lane j).marked (.fault .elementClosed o) o
  opened : dead = true → ∀ j, (u.lane j).marked (.fault .elementOpen o) o
  fine : stuck = false → dead = false → u.safeIo.passed = s.safeIo.passed + 1 ∧ ∀ j, (u.lane j).forces = (s.lane j).forces
  faulty : (stuck = true ∨ dead = true) → u.safeIo.passed = s.safeIo.passed

theorem judgeElements_judges {s : State} (hmode : ∀ j, (s.lane j).mode = .voting) (i : LaneId) (o : Nat) (x : ElementSense) :
    ElementsJudged s (s.judgeElements i o x) o (pairStuck x i) (pairDead x) := by
  rw [judgeElements_all hmode]
  generalize pairStuck x i = stuck
  generalize pairDead x = dead
  by_cases h : (stuck || dead) = true
  · rw [if_pos h]
    have hmarks := findsElements_marksOnly s o stuck dead
    refine ⟨hmarks.frame, hmarks.elements, hmarks.test, fun hs j => ?_, fun hd j => ?_, fun hs hd => ?_, fun _ => hmarks.passed⟩
    · rw [hs]
      exact findsElements_closed (hmode j) o _
    · rw [hd]
      exact findsElements_open (hmode j) o _
    · rw [hs, hd] at h
      cases h
  · rw [if_neg h]
    have hfine := Bool.or_eq_true_iff.not.1 h
    exact ⟨testPassed_stageOnly .., fun _ => rfl, rfl, fun hs => absurd (Or.inl hs) hfine, fun hd => absurd (Or.inr hd) hfine,
      fun _ _ => ⟨rfl, fun _ => rfl⟩, fun hf => absurd hf hfine⟩

/-- Settles O16: before the end of the slot the lane's elements follow the time; at its end the currents are judged. -/
theorem elementTestFindsTheFault : Obligations.ElementTestFindsTheFault := by
  unfold Obligations.ElementTestFindsTheFault
  intro t o x s ho
  refine ⟨fun i start g htest hdue hmode => ?_, fun h => run_idle (f := fun u => u.elementTest o x) (elementTest_idle (s := s.tick t) x h)⟩
  intro stuck dead closed
  have hstuck : stuck = pairStuck x i := by cases i <;> rfl
  clear_value stuck
  subst hstuck
  let v := s.tick t
  let r : TestRun := { output := o, start := start, kind := .element i g }
  let p := v.elementStage r i (stageFrom start v.now)
  have hlane : ∀ j, p.lane j = if j = i then (s.lane j).drives o closed else s.lane j := fun j => by
    rw [elementStage_lane, stageFrom_closes]
    rfl
  have hother : ∀ j k, (j ≠ i ∨ k ≠ o) → (p.lane j).elements.getLsbD k = (s.lane j).elements.getLsbD k := fun j k h => by
    rw [hlane]
    split
    · next hj => rw [drives_elements _ ho, if_neg (h.resolve_left (not_not.2 hj))]
    · rfl
  have hown : (p.lane i).elements.getLsbD o = closed := by
    rw [hlane, if_pos rfl, drives_elements _ ho, if_pos rfl, hmode i]
    exact Bool.and_true closed
  have hforces : ∀ j, (p.lane j).forces = (s.lane j).forces := fun j => by
    rw [hlane]
    split <;> rfl
  have hpmode : ∀ j, (p.lane j).mode = .voting := fun j => by
    rw [hlane]
    split <;> exact hmode j
  by_cases hend : start + 1200000 ≤ max s.now t
  · have hclosed : stageFrom start v.now = .closedAgain := if_pos (by show start + 1100000 ≤ max s.now t; omega)
    have heq : v.elementTest o x = (p.withTest none).judgeElements i o x := by
      rw [elementTest_ends (s := v) htest (hmode i) x hend]
      simp only [p, hclosed]
      rfl
    have hjudged := judgeElements_judges (s := p.withTest none) hpmode i o x
    obtain ⟨hrun, hframe⟩ := run_stageOnly (f := fun u => u.elementTest o x) heq
      ((elementStage_stageOnly ..).trans ((withTest_stageOnly ..).trans hjudged.frame))
    refine ⟨_, hrun, hframe, fun j k h => ?_, ?_, fun hearly => absurd hend (Nat.not_le.2 hearly), fun _ =>
      ⟨hjudged.test, hjudged.closed, hjudged.opened, fun hs hd => ?_, hjudged.faulty⟩⟩
    · rw [hjudged.elements]
      exact hother j k h
    · rw [hjudged.elements]
      exact hown
    · obtain ⟨hpassed, hkept⟩ := hjudged.fine hs hd
      exact ⟨hpassed, fun j => (hkept j).trans (hforces j)⟩
  · obtain ⟨hrun, hframe⟩ := run_stageOnly (f := fun u => u.elementTest o x)
      (elementTest_runs (s := v) htest (hmode i) x hdue (Nat.lt_of_not_le hend)) (elementStage_stageOnly v r i (stageFrom start v.now))
    refine ⟨p, hrun, hframe, hother, hown, fun _ => ⟨hforces, ?_⟩, fun h => absurd h hend⟩
    simp only [p, elementStage_safeIo, stageFrom, closed, decide_eq_true_eq]
    rfl

/-! ## The dark test (Table 11.4) -/

/-- A good step leads to the next one, and the sixth passes the test. -/
def State.goesOnDark (s : State) (o k start : Nat) : State :=
  if k < 5 then s.withTest (some { output := o, start := start, kind := .dark (k + 1) }) else (s.withTest none).testPassed o false true

theorem goesOnDark_counts (s : State) (o k start : Nat) : let u := s.goesOnDark o k start
    StageOnly s u ∧ u.lanes = s.lanes ∧ u.safeIo.test = (if k < 5 then some { output := o, start := start, kind := .dark (k + 1) } else none) ∧
      u.safeIo.passed = if k < 5 then s.safeIo.passed else s.safeIo.passed + 1 := by
  unfold State.goesOnDark
  split <;> exact ⟨rfl, rfl, rfl, rfl⟩

/-- With three voting lanes every step is judged. -/
theorem darkStep_all {s : State} {o k start : Nat} (x : DarkSense) (htest : s.safeIo.test = some { output := o, start := start, kind := .dark k })
    (hk : k < 6) (hdue : start + 25000 * k + 20000 ≤ s.now) (hmode : ∀ j, (s.lane j).mode = .voting) : s.darkStep o k x =
      if x.left && x.returned && x.terminalOff then s.goesOnDark o k start
      else (s.withTest none).markAll o (.fault (if x.returned && x.terminalOff then .elementOpen else .elementClosed) o) := by
  have hok : ((s.lane (darkLane k)).mode != .voting || (x.left && x.returned && x.terminalOff)) = (x.left && x.returned && x.terminalOff) := by
    rw [hmode]
    rfl
  unfold State.darkStep
  rw [htest]
  refine (if_pos ⟨rfl, rfl, hk, hdue⟩).trans ?_
  simp only [hok]
  by_cases hgood : (x.left && x.returned && x.terminalOff) = true
  · rw [if_pos hgood, if_pos hgood, hgood]
    unfold State.goesOnDark
    by_cases hlast : k < 5 <;> simp only [hlast] <;> rfl
  · rw [if_neg hgood, if_neg hgood, Bool.eq_false_iff.2 hgood]
    split <;> rfl

theorem darkStep_idle {s : State} {o k : Nat} (x : DarkSense)
    (h : ∀ r, s.safeIo.test = some r → r.kind ≠ .dark k ∨ r.output ≠ o ∨ s.now < r.start + 25000 * k + 20000) : s.darkStep o k x = s := by
  unfold State.darkStep
  split
  · next r hr =>
    split
    · next j hkind =>
      refine if_neg (fun ⟨ho, hj, _, hdue⟩ => ?_)
      rcases h r hr with hk | hout | hearly
      · exact hk (by rw [hkind, hj])
      · exact hout ho
      · exact absurd hearly (Nat.not_lt.2 hdue)
    · rfl
  · rfl

/-- Settles O17: a good step by whether it is the last one, any other by the fault that it shows. -/
theorem darkTestStepByStep : Obligations.DarkTestStepByStep := by
  unfold Obligations.DarkTestStepByStep
  intro t o k x s
  refine ⟨fun start htest hk hdue hmode => ?_, fun h => run_idle (f := fun u => u.darkStep o k x) (darkStep_idle (s := s.tick t) x h)⟩
  intro good
  have hgood : good ↔ (x.left && x.returned && x.terminalOff) = true := by simp [good, and_assoc]
  have heq := darkStep_all (s := s.tick t) x htest hk hdue hmode
  by_cases h : (x.left && x.returned && x.terminalOff) = true
  · obtain ⟨hl, hr, ho⟩ := hgood.2 h
    obtain ⟨honly, hlanes, htest', hpassed⟩ := goesOnDark_counts (s.tick t) o k start
    obtain ⟨hrun, hframe⟩ := run_stageOnly (f := fun u => u.darkStep o k x) (heq.trans (if_pos h)) honly
    exact ⟨_, hrun, hframe, fun _ => ⟨hlanes, htest', hpassed⟩, absurd (hgood.2 h), fun hf => absurd hl (by simp [hf]),
      fun hf => absurd hf (by simp [hr, ho])⟩
  · rw [if_neg h] at heq
    obtain ⟨hrun, hframe⟩ := run_stageOnly (f := fun u => u.darkStep o k x) heq ((withTest_stageOnly ..).trans (markAll_marksOnly ..).frame)
    have hmarked := fun j fault => markAll_marks (s := (s.tick t).withTest none) (hmode j) o (.fault fault o)
    refine ⟨_, hrun, hframe, fun hg => absurd (hgood.1 hg) h, fun _ => ⟨(markAll_marksOnly ..).test, (markAll_marksOnly ..).passed⟩,
      fun _ hr ho j => ?_, fun hf j => ?_⟩
    · rw [hr, ho]
      exact hmarked j .elementOpen
    · have hbad : (x.returned && x.terminalOff) = false := by rcases hf with hf | hf <;> simp [hf]
      rw [hbad]
      exact hmarked j .elementClosed

/-! ## Conditions outside the test slots (R426 to R428, Table 11.6) -/

theorem mem_insertSorted (l : List Nat) (k : Nat) : k ∈ insertSorted l k := by
  induction l with
  | nil => exact List.mem_singleton_self k
  | cons x l ih =>
    unfold insertSorted
    split
    · exact List.mem_cons_self
    · split
      · next h => rw [h]; exact List.mem_cons_self
      · exact List.mem_cons_of_mem x ih

theorem untested_due {s : State} {o : Nat} (hdriving : s.driving = true) (hon : s.snap.safeOut.getLsbD o = true)
    (henergised : s.energisedSince o + 1000000000 ≤ s.now) (hpulse : assocD s.safeIo.lastPulse o 0 + 1000000000 ≤ s.now)
    (hnew : o ∉ s.safeIo.untested) : s.untested o = ({ s with safeIo := { s.safeIo with untested := insertSorted s.safeIo.untested o } } : State).event
      0x0702 Origin.internal [(24, 1, o), (25, 1, 1)] :=
  if_pos (by simp [hdriving, getBit, hon, second, henergised, hpulse, hnew])

theorem allOpen_of {s : State} {o : Nat} (hnone : s.safeIo.test = none) (h : ∀ l, (s.lane l).elements.getLsbD o = false) : s.allOpen o = true := by
  unfold State.allOpen
  simp [sideClosed_eq (darkClosed_of_none hnone), h]

/-- The faults that the senses can show: those of the element test at its stage, and STUCK_ON outside a test. -/
theorem faultPossible_of {s : State} {o start : Nat} {k : OutFault} {j : LaneId} (hlow : s.safeIo.outputLow = false)
    (h : k = OutFault.elementClosed ∧ s.safeIo.test = some { output := o, start := start, kind := .element j .opened } ∨
      k = OutFault.elementOpen ∧ s.safeIo.test = some { output := o, start := start, kind := .element j .closedAgain } ∨
      k = OutFault.stuckOn ∧ s.safeIo.test = none ∧ (∀ l, (s.lane l).elements.getLsbD o = false) ∧ assocD s.safeIo.openedAt o 0 + 250000 ≤ s.now) :
    s.faultPossible o k = true := by
  unfold State.faultPossible
  rcases h with ⟨rfl, htest⟩ | ⟨rfl, htest⟩ | ⟨rfl, hnone, hopen, hsince⟩
  · simp [hlow, htest]
  · simp [hlow, htest]
  · simp [allOpen_of hnone hopen, State.openSince, hnone, us, hsince]

theorem outputFault_marks {s : State} {i : LaneId} {o : Nat} {k : OutFault} (hdriving : s.driving = true) (hmode : (s.lane i).mode = .voting)
    (ho : o < 32) (hpossible : s.faultPossible o k = true) : s.outputFault i o k = s.markOutput i o (.fault k o) :=
  if_pos (by simp [hdriving, hmode, ho, hpossible])

/-- The module that has counted a short, unless one of the output is marked already. -/
def State.countsShort (s : State) (o : Nat) : State :=
  if (assoc s.safeIo.marker (markKey (.short o))).isSome then s else { s with safeIo := { s.safeIo with shorts := inc s.safeIo.shorts } }

theorem countsShort_stageOnly (s : State) (o : Nat) : StageOnly s (s.countsShort o) := by
  unfold State.countsShort
  split <;> rfl

theorem countsShort_lane (s : State) (o : Nat) (j : LaneId) : (s.countsShort o).lane j = s.lane j := by
  unfold State.countsShort
  split <;> rfl

theorem shortFound_marks {s : State} {i : LaneId} {o : Nat} (hdriving : s.driving = true) (hlow : s.safeIo.outputLow = false)
    (hmode : (s.lane i).mode = .voting) (hon : s.snap.safeOut.getLsbD o = true) (henergised : s.energisedSince o + 2000000 ≤ s.now)
    (hother : ∀ r, s.safeIo.test = some r → r.output ≠ o) : s.shortFound i o = (s.countsShort o).markOutput i o (.short o) := by
  have htest : s.safeIo.test.any (fun r => r.output == o) = false := by
    rw [Option.any_eq_false]
    exact fun r hr => beq_eq_false_iff_ne.2 (hother r hr)
  exact if_pos (by simp [hdriving, hlow, hmode, getBit, hon, ms, henergised, htest])

theorem shortExit_due {s : State} {o z : Nat} (hset : s.leadLane.engine.shortSet.getLsbD o = true) (hzero : assoc s.safeIo.zeroSince o = some z)
    (hdue : z + 100000000 ≤ s.now) : s.shortExit o =
      (s.mapLanes (fun l => l.mapEngines (fun e => { e with shortSet := setBit e.shortSet o false }))).event 0x0702 Origin.internal
        [(24, 1, o), (25, 1, 0)] := by
  have hheld : decide (z + 100 * ms ≤ s.now) = true := decide_eq_true (by simpa [ms] using hdue)
  unfold State.shortExit
  rw [hzero, Option.any_some, hheld, Bool.and_true]
  exact if_pos hset

/-- Settles O18: each condition is one of the facts above at the instant of the command. -/
theorem outputConditionsOutsideTheSlots : Obligations.OutputConditionsOutsideTheSlots := by
  unfold Obligations.OutputConditionsOutsideTheSlots
  intro t o i s hphase hpower hsupply hlow ho
  have hdriving : (s.tick t).driving = true := driving_of hphase hpower hsupply
  refine ⟨fun hon henergised hpulse hnew => ?_, fun hmode k start j hcase => ?_, fun hmode hon henergised hother => ?_, fun hset z hzero hdue => ?_⟩
  · exact ⟨_, run_next (f := fun u => u.untested o) (untested_due hdriving hon henergised hpulse hnew) rfl rfl, mem_insertSorted _ o,
      ⟨_, rfl, rfl, rfl⟩, rfl⟩
  · have hmarks := markOutput_marksOnly (s.tick t) i o (.fault k o)
    obtain ⟨hrun, hframe⟩ := run_stageOnly (f := fun u => u.outputFault i o k)
      (outputFault_marks hdriving hmode ho (faultPossible_of (s := s.tick t) hlow hcase)) hmarks.frame
    exact ⟨_, hrun, markOutput_marks _ i o _, fun l hl => (markOutput_lane ..).trans (if_neg hl), hframe⟩
  · have hmarks := markOutput_marksOnly ((s.tick t).countsShort o) i o (.short o)
    obtain ⟨hrun, hframe⟩ := run_stageOnly (f := fun u => u.shortFound i o) (shortFound_marks (s := s.tick t) hdriving hlow hmode hon henergised hother)
      ((countsShort_stageOnly ..).trans hmarks.frame)
    exact ⟨_, hrun, markOutput_marks _ i o _, fun l hl => (markOutput_lane ..).trans ((if_neg hl).trans (countsShort_lane ..)), hframe⟩
  · have hlane : ∀ j k, (((s.tick t).shortExit o).lane j).engine.shortSet.getLsbD k = if k = o then false else (s.lane j).engine.shortSet.getLsbD k :=
      fun j k => by
        rw [shortExit_due (s := s.tick t) hset hzero hdue, event_lane, mapLanes_lane]
        exact getLsbD_setBit _ ho k false
    have heq := shortExit_due (s := s.tick t) hset hzero hdue
    refine ⟨_, run_next (f := fun u => u.shortExit o) rfl (by rw [heq]; rfl) (by rw [heq]; rfl), fun j => ?_, fun j k hk => ?_, by rw [heq]; rfl⟩
    · rw [hlane, if_pos rfl]
    · rw [hlane, if_neg hk]

end Sys2Proof.Machine
end

section
/-! # The state copy of a pair (R462 to R465, Table 12.4)

A COPY_REQ asks for a copy, grants it or refuses it; its COPY frames come in two copies, and a copy set that is held has a catch-up. -/

namespace Sys2Proof.Machine

/-! ## COPY_REQ (R462) -/

section
variable {s v : State} {link : PairLink} {f : PairFrame} (haccept : s.acceptPair link f = (v, true))
include haccept

/-- The pair controller of an active unit that grants a copy for the Change Point `point`. -/
def Pair.grantsCopy (p : Pair) (point : Nat) : Pair := { p with
  copyPoint := some point
  peerStandby := .copying }

theorem copyReq_grants (hrole : s.pair.role = .active) (hkind : rd8 f.payload 0 = 0) (hfree : s.pair.copyPoint = none) (hgrant : s.copyRefusal = none) :
    s.copyReq link f = (({ v with pair := v.pair.grantsCopy s.nextPoint } : State).sendBoth 5 (copyReqPayload 1 0 s.nextPoint)).event 0x0805
      Origin.internal [(24, 1, 0)] := by
  unfold State.copyReq
  simp only [haccept, hrole, hkind, hfree, hgrant, Bool.true_eq_false, ne_eq, not_true_eq_false, or_self, if_false]
  rfl

theorem copyReq_refuses {n : Nat} (hrole : s.pair.role = .active) (hkind : rd8 f.payload 0 = 0) (hfree : s.pair.copyPoint = none)
    (hrefuse : s.copyRefusal = some n) :
    s.copyReq link f = (v.sendBoth 5 (copyReqPayload 2 n 0)).event 0x0805 Origin.internal [(24, 1, 1), (25, 1, n)] := by
  unfold State.copyReq
  simp only [haccept, hrole, hkind, hfree, hrefuse, Bool.true_eq_false, ne_eq, not_true_eq_false, or_self, if_false]

/-- The pair controller of a standby whose copy is granted for the Change Point `point`. -/
def Pair.startsCopy (p : Pair) (point : Nat) : Pair := { p with
  standby := .copying
  copyAsked := false
  copyPoint := some point
  copyBytes := []
  copyNext := 0
  copyHash := none
  copyDone := false
  caughtUp := false
  differs := 0
  matchSince := none }

theorem copyReq_starts (hrole : s.pair.role = .standby) (hasked : s.pair.copyAsked = true) (hkind : rd8 f.payload 0 = 1) :
    s.copyReq link f = ({ v with pair := v.pair.startsCopy (rd64 f.payload 8) } : State).pairEvent 1 := by
  unfold State.copyReq
  simp only [haccept, hrole, hasked, hkind, Bool.true_eq_false, if_false, if_true]
  rfl

end

theorem pairEvent_copying {s : State} (hrole : s.pair.role = .standby) (hstandby : s.pair.standby = .copying) (row : Nat) :
    s.pairEvent row = { s with almanac := { s.almanac with events := s.almanac.events ++ [pairRecord 2 1 row] } } := by
  unfold State.pairEvent
  rw [hrole, hstandby]
  rfl

/-- A frame on both standby links, of a module that has heard one: its pair controller is `p`. -/
theorem hears_sendBoth {s : State} {t : Nat} {L : Lanes Lane} (hlanes : ∀ p, s.sameLanes (s.hears t L p)) {p : Pair} (hepoch : p.epoch = s.pair.epoch)
    (hseq0 : p.txSeq0 = s.pair.txSeq0) (hseq1 : p.txSeq1 = s.pair.txSeq1) (kind : Nat) (b : Bytes) :
    (s.hears t L p).sendBoth kind b = { s.hears t L { p with txSeq0 := s.pairSeq .sl0, txSeq1 := s.pairSeq .sl1 } with
      sent := s.sent ++ s.pairSent .sl0 kind b ++ s.pairSent .sl1 kind b } := by
  obtain ⟨hsl0, hnext0⟩ := hears_pairSent hlanes p hepoch hseq0 hseq1 .sl0 kind b
  obtain ⟨hsl1, hnext1⟩ := hears_pairSent hlanes p hepoch hseq0 hseq1 .sl1 kind b
  rw [sendBoth_eq, hsl0, hsl1]
  unfold State.pairToldBoth
  rw [hnext0, hnext1]
  rfl

/-! ## Both copies of a COPY frame (R463) -/

/-- The pair controller after a frame on each standby link. -/
def State.heardBoth (s : State) (t : Nat) (a b : PairFrame) : Pair := (s.heardPair t .sl0 a).heard .sl1 b.seq (max s.now t)

/-- A frame on SL1 stays good when one on SL0 has been heard. -/
theorem goodPairFrame_hears {s : State} {t : Nat} {L : Lanes Lane} (hlanes : ∀ p, s.sameLanes (s.hears t L p)) {a b : PairFrame}
    (h : s.goodPairFrame .sl1 b) : (s.hears t L (s.heardPair t .sl0 a)).goodPairFrame .sl1 b := by
  obtain ⟨hpair, hki40, hvoting, hrx, hp, hq, hseq, hsender, hheld⟩ := h
  have hsame := hlanes (s.heardPair t .sl0 a)
  have hunexcluded : (s.hears t L (s.heardPair t .sl0 a)).unexcluded = s.unexcluded := by
    unfold State.unexcluded
    simp only [sameLanes_laneMode hsame]
  refine ⟨hpair, hki40, sameLanes_mode hsame hvoting, hrx, hp, hq, hseq, hsender, fun i hi => ?_⟩
  rw [hunexcluded] at hi
  rw [hsame i]
  exact hheld i hi

/-- Both copies of a good frame are accepted. -/
theorem acceptPair_both {s : State} {a b : PairFrame} (t : Nat) (ha : s.goodPairFrame .sl0 a) (hb : s.goodPairFrame .sl1 b) :
    ∃ v L, (∀ p, s.sameLanes (s.hears t L p)) ∧ (State.tick t s).acceptPair .sl0 a = (v, true) ∧
      v.acceptPair .sl1 b = (s.hears t L (s.heardBoth t a b), true) := by
  obtain ⟨K, hfirst, haccept⟩ := acceptPair_good t ha
  obtain ⟨L, hsecond, hchecks⟩ := acceptPair_accepts (goodPairFrame_hears (a := a) hfirst hb)
  exact ⟨_, L, fun p => sameLanes_trans (hfirst p) (sameLanes_checkUnits (u := s.hears t L p) hchecks), haccept, hsecond⟩

/-- The module once it holds the copy set `b` of the Change Point `point`, whose hash is `hash`. -/
def State.holdsCopy (s : State) (b : Bytes) (point : Nat) (hash : Bytes) : State :=
  let l := s.loadCopy b point
  { l with pair := { l.pair with copyDone := true, copyBytes := [], copyHash := some hash } }

section
variable {s v w : State} {a b : PairFrame} (hfirst : s.acceptPair .sl0 a = (v, true)) (hsecond : v.acceptPair .sl1 b = (w, true))
  (hrole : s.pair.role = .standby) (hcopying : s.pair.standby = .copying) (hopen : s.pair.copyDone = false)
include hfirst hsecond hrole hcopying hopen

/-- A part missed, or two copies that differ. -/
theorem copyFrame_misses (h : ¬(a.payload = b.payload ∧ rd64 a.payload 0 = s.pair.copyNext)) : s.copyFrame a b = w.copyFails 2 := by
  unfold State.copyFrame
  simp only [hfirst, hsecond]
  refine (if_neg (by simp [hrole, hcopying, hopen])).trans (if_pos ?_)
  simpa only [Bool.and_self, Bool.not_true, Bool.false_or, Bool.or_eq_true, bne_iff_ne, ne_eq, not_and_or] using h

variable (hsame : a.payload = b.payload) (hnext : rd64 a.payload 0 = s.pair.copyNext)
include hsame hnext

/-- A part in its order: the last one completes the copy set, whose hash decides; any other is collected. -/
theorem copyFrame_takes :
    let all := s.pair.copyBytes ++ a.payload.drop 64
    let d := a.payload.drop 16
    s.copyFrame a b =
      if rd64 a.payload 8 = 1 then
        if sha384 all = slice a.payload 16 48 then w.holdsCopy all (s.pair.copyPoint.getD 0) (slice a.payload 16 48) else w.copyFails 3
      else { w with pair := { w.pair with copyBytes := s.pair.copyBytes ++ d, copyNext := s.pair.copyNext + d.length } } := by
  unfold State.copyFrame
  simp only [hfirst, hsecond]
  exact (if_neg (by simp [hrole, hcopying, hopen])).trans (if_neg (by simp [← hsame, hnext]))

end

section
variable (s : State) (b : Bytes) (point : Nat) (hash : Bytes)

@[simp] theorem holdsCopy_now : (s.holdsCopy b point hash).now = s.now := by simp only [State.holdsCopy, State.loadCopy]
@[simp] theorem holdsCopy_pending : (s.holdsCopy b point hash).pending = s.pending := by simp only [State.holdsCopy, State.loadCopy]
@[simp] theorem holdsCopy_almanac : (s.holdsCopy b point hash).almanac = s.almanac := by simp only [State.holdsCopy, State.loadCopy]
@[simp] theorem holdsCopy_standby : (s.holdsCopy b point hash).pair.standby = s.pair.standby := by simp only [State.holdsCopy, State.loadCopy]
@[simp] theorem holdsCopy_copyDone : (s.holdsCopy b point hash).pair.copyDone = true := rfl
@[simp] theorem holdsCopy_copyHash : (s.holdsCopy b point hash).pair.copyHash = some hash := rfl

end

section
variable {s : State} {t : Nat} {L : Lanes Lane} (hlanes : ∀ p, s.sameLanes (s.hears t L p)) (p : Pair) (b : Bytes) (point : Nat) (hash : Bytes)

include hlanes in
/-- What a lane takes from a copy set does not change with the frames that are heard. -/
theorem hears_holdsCopy_lane (i : LaneId) :
    let l := ((s.hears t L p).holdsCopy b point hash).lane i
    let k := ((State.tick t s).loadCopy b point).lane i
    l.engine = k.engine ∧ l.program = k.program ∧ l.inputs.streams = k.inputs.streams := by
  have hlane : L.get i = _ := hlanes p i
  simp only [State.holdsCopy, State.loadCopy, State.lane, Lanes.get_mapI]
  rw [show (s.hears t L p).lanes = L from rfl, hlane]
  exact ⟨rfl, rfl, rfl⟩

/-- Nor does what the module takes from it. -/
theorem hears_holdsCopy_module :
    let u := (s.hears t L p).holdsCopy b point hash
    let w := (State.tick t s).loadCopy b point
    u.images.params = w.images.params ∧ u.nextNumber = w.nextNumber ∧ u.pair.epoch = w.pair.epoch := by
  simp only [State.holdsCopy, State.loadCopy]
  exact ⟨rfl, rfl, rfl⟩

end

/-! ## The catch-up (R464, R465) -/

/-- Does a standby that holds the copy set catch up? -/
def Pair.catchesUp (p : Pair) : Prop := p.role = .standby ∧ p.standby = .copying ∧ p.copyDone = true ∧ p.caughtUp = false

theorem catchUp_inTime {s : State} (h : s.pair.catchesUp) (htime : s.now ≤ s.pair.copyPoint.getD 0 + 200 * ms) :
    s.catchUp = { s with pair := { s.pair with caughtUp := true, matchSince := none } } :=
  (if_pos h).trans (if_neg (Nat.not_lt.2 htime))

theorem catchUp_late {s : State} (h : s.pair.catchesUp) (htime : s.pair.copyPoint.getD 0 + 200 * ms < s.now) : s.catchUp = s.copyFails 5 :=
  (if_pos h).trans (if_pos htime)

theorem catchUp_keeps {s : State} (h : ¬s.pair.catchesUp) : s.catchUp = s := if_neg h

/-! ## The obligation -/

/-- Settles O51. The codes of the reasons and the layouts of the payloads are those of log entry 22. -/
theorem stateCopyOfAPair : Obligations.StateCopyOfAPair := by
  unfold Obligations.StateCopyOfAPair
  intro t s now copying failed notes
  refine ⟨fun link f h => ?_, fun a b ha hb hcopies hopen => ?_, fun hcopies hdone hbehind => ?_, fun hno => ?_⟩
  · obtain ⟨L, hlanes, haccept⟩ := acceptPair_good t h
    intro p
    have hepoch : p.epoch = s.pair.epoch := heard_epoch ..
    have hseq0 : p.txSeq0 = s.pair.txSeq0 := heard_txSeq0 ..
    have hseq1 : p.txSeq1 = s.pair.txSeq1 := heard_txSeq1 ..
    refine ⟨fun hrole hkind hfree hgrant => ?_, fun n hrole hkind hfree hrefuse => ?_, fun hrole hasked hkind => ?_⟩
    · intro point
      have hreq := (copyReq_grants haccept hrole hkind hfree hgrant).trans (congrArg (fun u : State => u.event 0x0805 Origin.internal [(24, 1, 0)])
        (hears_sendBoth hlanes (p := p.grantsCopy point) hepoch hseq0 hseq1 5 (copyReqPayload 1 0 point)))
      exact ⟨_, run_next (f := fun u => u.copyReq link f) hreq rfl rfl, hlanes p, rfl, rfl, rfl, rfl⟩
    · have hreq := copyReq_refuses haccept hrole hkind hfree hrefuse
      rw [hears_sendBoth hlanes hepoch hseq0 hseq1] at hreq
      exact ⟨_, run_next (f := fun u => u.copyReq link f) hreq rfl rfl, hlanes p, rfl, rfl, rfl, rfl⟩
    · have hstandby : p.role = .standby := (heard_role ..).trans hrole
      have hreq := (copyReq_starts haccept hrole hasked hkind).trans
        (pairEvent_copying (s := s.hears t L (p.startsCopy (rd64 f.payload 8))) hstandby rfl 1)
      exact ⟨_, run_next (f := fun u => u.copyReq link f) hreq rfl rfl, hlanes p, rfl, rfl, rfl⟩
  · intro d ok all
    obtain ⟨hrole, hcopying⟩ := hcopies
    obtain ⟨v, L, hlanes, hfirst, hsecond⟩ := acceptPair_both t ha hb
    let p := s.heardBoth t a b
    have hfails := copyFails_eq (s := s.hears t L p) hrole
    have htakes := fun hok : ok => copyFrame_takes hfirst hsecond hrole hcopying hopen hok.1 hok.2
    refine ⟨fun hok hmore => ?_, fun hok hlast hhash => ?_, fun hmissed => ?_, fun hok hlast hhash => ?_⟩
    · have hframe := (htakes hok).trans (if_neg (by rw [hmore]; decide))
      exact ⟨_, run_next (f := fun u => u.copyFrame a b) hframe rfl rfl, hlanes p, rfl, rfl, hcopying, rfl, rfl, rfl⟩
    · have hframe := (htakes hok).trans ((if_pos hlast).trans (if_pos hhash))
      obtain ⟨hparams, hnumber, hepoch⟩ := hears_holdsCopy_module (s := s) (t := t) (L := L) p all (s.pair.copyPoint.getD 0) (slice a.payload 16 48)
      exact ⟨_, run_next (f := fun u => u.copyFrame a b) hframe (holdsCopy_now ..) (holdsCopy_pending ..), holdsCopy_copyDone ..,
        (holdsCopy_standby ..).trans hcopying, holdsCopy_copyHash .., hears_holdsCopy_lane hlanes p all _ _, hparams, hnumber, hepoch,
        holdsCopy_almanac ..⟩
    · have hframe := (copyFrame_misses hfirst hsecond hrole hcopying hopen hmissed).trans (hfails 2)
      exact ⟨_, run_next (f := fun u => u.copyFrame a b) hframe rfl rfl, hlanes p, rfl, rfl, rfl⟩
    · have hframe := (htakes hok).trans ((if_pos hlast).trans ((if_neg hhash).trans (hfails 3)))
      exact ⟨_, run_next (f := fun u => u.copyFrame a b) hframe rfl rfl, hlanes p, rfl, rfl, rfl⟩
  · obtain ⟨hrole, hcopying⟩ := hcopies
    have hcatches : (State.tick t s).pair.catchesUp := ⟨hrole, hcopying, hdone, hbehind⟩
    exact ⟨fun htime => run_next (f := State.catchUp) (catchUp_inTime hcatches htime) rfl rfl,
      fun htime => run_next (f := State.catchUp) ((catchUp_late hcatches htime).trans (copyFails_eq (s := State.tick t s) hrole 5)) rfl rfl⟩
  · exact run_idle (f := State.catchUp) (catchUp_keeps (s := State.tick t s) fun hcatches =>
      let ⟨hrole, hcopying, hdone, hbehind⟩ := hcatches
      hno ⟨⟨hrole, hcopying⟩, hdone, hbehind⟩)

end Sys2Proof.Machine
end

section
/-! # Roles, paths and epochs of a pair (R440, R448, R449, R456, R458, R459, R466, Tables 12.3, 12.5) -/

namespace Sys2Proof.Machine

/-! ## Heartbeats (R448) -/

theorem heartbeatSend_sends {s : State} {t : Nat} (hsends : s.sendsBeats = true) (ht : t % 100000 = 0) :
    s.heartbeatSend t = s.sendBoth 1 s.heartbeatBytes :=
  if_pos (by simp [hsends, ht])

theorem heartbeatSend_keeps {s : State} {t : Nat} (h : s.sendsBeats = false ∨ t % 100000 ≠ 0) : s.heartbeatSend t = s :=
  if_neg (by rcases h with h | h <;> simp [h])

/-! ## The epoch that a unit takes (R456) -/

/-- It has the unit's parity and is the smallest such above every given one. -/
theorem nextEpoch_smallest (lower : Bool) (es : List Nat) :
    nextEpoch lower es % 2 = (if lower then 0 else 1) ∧ es.foldl max 0 < nextEpoch lower es ∧ nextEpoch lower es ≤ es.foldl max 0 + 2 := by
  unfold nextEpoch
  cases lower <;> simp only [if_true, Bool.false_eq_true, if_false] <;> split <;> omega

/-- The highest epoch that a unit knows: its own, that of its peer, the one in flash, and the one prepared for a switchover. -/
def Pair.knownEpoch (p : Pair) : Nat := max (max p.epoch p.heardEpoch) (max p.epochFlash (p.epochNext.getD 0))

theorem newEpoch_smallest (s : State) :
    s.newEpoch % 2 = (if s.isLower then 0 else 1) ∧ s.pair.knownEpoch < s.newEpoch ∧ s.newEpoch ≤ s.pair.knownEpoch + 2 := by
  have hknown : [s.pair.epoch, s.pair.heardEpoch, s.pair.epochFlash, s.pair.epochNext.getD 0].foldl max 0 = s.pair.knownEpoch := by
    simp [Pair.knownEpoch, max_assoc]
  rw [← hknown]
  exact nextEpoch_smallest _ _

/-! ## The end of the pair listen (R449, Table 12.3) -/

/-- The pair controller of a unit that stands by at the end of its listen. -/
def Pair.standsBy (p : Pair) : Pair := { p with role := .standby, standby := .notReady, epoch := p.heardEpoch }

/-- The pair controller of a unit that becomes active at the end of its listen, with the epoch `e`. -/
def Pair.becomesActive (p : Pair) (e : Nat) (alarm : Bool) : Pair := { p with role := .active, epoch := e, epochPending := true, pairAlarm := alarm }

/-- An alarm record of the pair (0x0803). -/
def pairAlarmNote (kind : Nat) : Queued := queuedOf 0x0803 0 0 Origin.internal [payloadFields [(24, 1, kind)]]

/-- The role of Table 12.3, and the records of its choice. -/
def State.listenRole (s : State) : Pair × List Queued :=
  match s.pair.heardRole with
  | some 1 => (s.pair.standsBy, [pairRecord 2 0 1])
  | some _ => if s.isLower then (s.pair.becomesActive s.newEpoch false, [pairRecord 1 0xFF 3]) else (s.pair.standsBy, [pairRecord 2 0 2])
  | none => (s.pair.becomesActive s.newEpoch true, [pairRecord 1 0xFF 4, pairAlarmNote 2])

theorem listenRole_activePeer {s : State} (h : s.pair.heardRole = some 1) : s.listenRole = (s.pair.standsBy, [pairRecord 2 0 1]) := by
  simp only [State.listenRole, h]

theorem listenRole_alone {s : State} (h : s.pair.heardRole = none) :
    s.listenRole = (s.pair.becomesActive s.newEpoch true, [pairRecord 1 0xFF 4, pairAlarmNote 2]) := by
  simp only [State.listenRole, h]

section
variable {s : State} {r : Nat} (h : s.pair.heardRole = some r) (hr : r ≠ 1)
include h hr

theorem listenRole_upper (hupper : s.isLower = false) : s.listenRole = (s.pair.standsBy, [pairRecord 2 0 2]) := by
  simp only [State.listenRole, h, hupper, Bool.false_eq_true, if_false]

theorem listenRole_lower (hlower : s.isLower = true) : s.listenRole = (s.pair.becomesActive s.newEpoch false, [pairRecord 1 0xFF 3]) := by
  simp only [State.listenRole, h, hlower, if_true]

end

/-- At the end of its listen a unit is active with its new epoch, or stands by. -/
theorem listenRole_cases (s : State) :
    (∃ alarm, s.listenRole.1 = s.pair.becomesActive s.newEpoch alarm) ∨ s.listenRole.1 = s.pair.standsBy := by
  unfold State.listenRole
  split
  · exact .inr rfl
  · split
    · exact .inl ⟨false, rfl⟩
    · exact .inr rfl
  · exact .inl ⟨true, rfl⟩

theorem listenRole_paired (s : State) : s.listenRole.1.role ≠ .unpaired := by
  rcases listenRole_cases s with ⟨alarm, h⟩ | h <;> rw [h] <;> exact nofun

section
variable {s : State} {q : Pair} {notes : List Queued}

theorem listenRole_taken (h : s.listenRole = (q, notes)) : s.listenRole.1 = q ∧
    ({ s.almanac with events := s.almanac.events ++ s.listenRole.2 } : Almanac) = { s.almanac with events := s.almanac.events ++ notes } := by
  rw [h]
  exact ⟨rfl, rfl⟩

theorem listenRole_activated {alarm : Bool} (h : s.listenRole = (s.pair.becomesActive s.newEpoch alarm, notes)) :
    s.listenRole.1 = s.pair.becomesActive s.listenRole.1.epoch alarm := by
  rw [h]
  rfl

end

/-- A unit that becomes active takes its new epoch. -/
theorem listenRole_epoch {s : State} (h : s.listenRole.1.role = .active) : s.listenRole.1.epoch = s.newEpoch := by
  rcases listenRole_cases s with ⟨alarm, hactive⟩ | hstandby
  · rw [hactive]
    rfl
  · rw [hstandby] at h
    cases h

/-- The module with its pair controller `q` and the records `notes`. -/
def State.takesRole (s : State) (q : Pair) (notes : List Queued) : State := { s with
  pair := q
  almanac := { s.almanac with events := s.almanac.events ++ notes } }

theorem takesRole_alarms (s : State) (q : Pair) (notes : List Queued) (kind : Nat) :
    (s.takesRole q notes).pairAlarmEvent kind = s.takesRole q (notes ++ [pairAlarmNote kind]) := by
  unfold State.takesRole
  rw [← List.append_assoc]
  rfl

theorem listenEnd_decides {s : State} (himage : s.hasImage = true) (hrole : s.pair.role = .undecided)
    (htime : s.pair.listenSince + 50 * ms ≤ s.now) (hdawn : s.ndezo.dawn = .joined) :
    s.listenEnd = (s.takesRole s.listenRole.1 s.listenRole.2).tellStaged true := by
  unfold State.listenEnd
  refine (if_pos (by simp [himage, hrole, htime, hdawn])).trans (congrArg (fun u : State => u.tellStaged true) ?_)
  split
  · next hactive =>
    rw [listenRole_activePeer hactive]
    rfl
  · next r hr hother =>
    split
    · next hlower =>
      rw [listenRole_lower hother hr hlower]
      rfl
    · next hupper =>
      rw [listenRole_upper hother hr (Bool.eq_false_iff.2 hupper)]
      rfl
  · next hnone =>
    rw [listenRole_alone hnone]
    exact takesRole_alarms s (s.pair.becomesActive s.newEpoch true) [pairRecord 1 0xFF 4] 2

theorem listenEnd_early {s : State} (h : s.hasImage = false ∨ s.now < s.pair.listenSince + 50 * ms ∨ s.ndezo.dawn ≠ .joined) : s.listenEnd = s :=
  if_neg (by rcases h with h | h | h <;> simp [h])

theorem listenEnd_decided {s : State} (h : s.pair.role ≠ .undecided) : s.listenEnd = s := if_neg (by simp [h])

/-- The payload that asks the peer for its staged images (log entry 22). -/
def State.stagedQuery (s : State) : Bytes :=
  b16 0x0405 ++ b8 s.stagedImages.length ++ b8 1 ++ (s.stagedImages.map (fun x => b64 x.1 ++ b8 x.2)).flatten

/-- A unit of a pair in its role asks for the images staged at its peer. -/
theorem takesRole_asks {s : State} {q : Pair} (himage : s.hasImage = true) (hrole : q.role ≠ .unpaired) (notes : List Queued) :
    (s.takesRole q notes).tellStaged true = { s.takesRole q notes with
      sent := s.sent ++ State.pairSent { s with pair := q } .sl0 4 s.stagedQuery ++ State.pairSent { s with pair := q } .sl1 4 s.stagedQuery
      pair := State.pairToldBoth { s with pair := q } } := by
  have hpair : (s.takesRole q notes).inPair = true := by
    show (s.hasImage && q.role != .unpaired) = true
    simp [himage, hrole]
  have hlinks := fun link => pairSent_same (s := { s with pair := q }) (u := s.takesRole q notes) (link := link)
    (sender_same rfl rfl (fun _ => rfl) _) rfl rfl rfl rfl 4 s.stagedQuery
  refine (tellStaged_eq hpair true).trans ?_
  show ({ s.takesRole q notes with
    sent := s.sent ++ (s.takesRole q notes).pairSent .sl0 4 s.stagedQuery ++ (s.takesRole q notes).pairSent .sl1 4 s.stagedQuery
    pair := { q with txSeq0 := (s.takesRole q notes).pairSeq .sl0, txSeq1 := (s.takesRole q notes).pairSeq .sl1 } } : State) = _
  rw [(hlinks .sl0).1, (hlinks .sl1).1, (hlinks .sl0).2, (hlinks .sl1).2]
  rfl

/-! ## Silent paths and the quarantine (R458, R459) -/

theorem pathSilent_alone {s : State} (h : s.inPair = false) (p : PairPath) : s.pathSilent p = s := if_pos (by simp [h])

section
variable {s : State} (h : s.inPair = true)
include h

theorem pathSilent_path1 (htime : s.pair.last1 + 3 * ms ≤ s.now) : s.pathSilent .path1 = { s with pair := { s.pair with silent1 := true } } :=
  (if_neg (by simp [h])).trans (if_pos htime)

theorem pathSilent_path1_heard (htime : s.now < s.pair.last1 + 3 * ms) : s.pathSilent .path1 = s :=
  (if_neg (by simp [h])).trans (if_neg (Nat.not_le.2 htime))

/-- Path 2 alone is silent at a READY standby (Table 12.5). -/
theorem pathSilent_path2 (htime : s.pair.last2 + 3 * ms ≤ s.now) (hnew : s.pair.silent2 = false) : s.pathSilent .path2 = { s with
    pair := { s.pair with silent2 := true }
    almanac := { s.almanac with events := s.almanac.events ++
      if s.pair.role = .standby ∧ s.pair.standby = .ready ∧ s.pair.silent1 = false then [pairAlarmNote 1] else [] } } := by
  refine (if_neg (by simp [h])).trans ((if_pos ⟨htime, hnew⟩).trans ?_)
  by_cases hlone : s.pair.role = .standby ∧ s.pair.standby = .ready ∧ s.pair.silent1 = false
  · exact (if_pos hlone).trans (by rw [if_pos hlone]; rfl)
  · exact (if_neg hlone).trans (by rw [if_neg hlone, List.append_nil])

theorem pathSilent_path2_heard (htime : s.now < s.pair.last2 + 3 * ms) : s.pathSilent .path2 = s :=
  (if_neg (by simp [h])).trans (if_neg (fun hsilent => Nat.not_le.2 htime hsilent.1))

end

section
variable {s : State} {q : Nat} (h : s.pair.quarantineFrom = some q)
include h

theorem quarantineEnd_ends (htime : s.quarantineEnds q ≤ s.now) : s.quarantineEnd = { s with pair := { s.pair with quarantineFrom := none } } := by
  unfold State.quarantineEnd
  rw [h]
  exact if_pos htime

theorem quarantineEnd_keeps (htime : s.now < s.quarantineEnds q) : s.quarantineEnd = s := by
  unfold State.quarantineEnd
  rw [h]
  exact if_neg (Nat.not_le.2 htime)

end

/-! ## Epochs and switchovers (R456, R466) -/

theorem epochWritten_own {s : State} (hpending : s.pair.epochPending = true) (h : s.pair.epochNext = none ∨ s.pair.switchAt = none) :
    s.epochWritten = { s with pair := { s.pair with epochFlash := s.pair.epoch, epochPending := false } } := by
  refine (if_pos hpending).trans ?_
  split
  · next e c hnext hswitch =>
    rw [hnext, hswitch] at h
    exact h.elim nofun nofun
  · rfl

theorem epochWritten_next {s : State} {e c : Nat} (hpending : s.pair.epochPending = true) (hnext : s.pair.epochNext = some e)
    (hswitch : s.pair.switchAt = some c) :
    s.epochWritten = { s with pair := { s.pair with epochFlash := e, epochPending := false, switchAck := c } } := by
  refine (if_pos hpending).trans ?_
  rw [hnext, hswitch]

theorem epochWritten_keeps {s : State} (h : s.pair.epochPending = false) : s.epochWritten = s := if_neg (by simp [h])

section
variable {s : State} {c : Nat} (hrole : s.pair.role = .active) (hswitch : s.pair.switchAt = some c)
include hrole hswitch

theorem switchAbandoned_abandons (hack : s.pair.switchAck ≠ c) (htime : c ≤ s.now + ms) : s.switchAbandoned =
    ({ s.settledOp 0x0902 with pair := { s.pair with switchAt := none } } : State).switchEvent 2 s.pair.epoch s.pair.epoch s.snap.number := by
  unfold State.switchAbandoned
  rw [hrole, hswitch]
  exact if_pos ⟨hack, htime⟩

theorem switchAbandoned_keeps (h : s.pair.switchAck = c ∨ s.now + ms < c) : s.switchAbandoned = s := by
  unfold State.switchAbandoned
  rw [hrole, hswitch]
  refine if_neg (fun hlate => ?_)
  obtain ⟨hack, htime⟩ := hlate
  exact h.elim hack (Nat.not_lt.2 htime)

end

theorem switchDueNow_sets {s : State} (hpair : s.inPair = true) (hlast : s.pair.lastSwitch ≠ 0) (hnew : s.pair.switchDue = false)
    (hhours : s.param 11 ≤ s.hoursSince) : s.switchDueNow = { s with
      pair := { s.pair with switchDue := true }
      almanac := { s.almanac with events := s.almanac.events ++ [pairAlarmNote 5] } } := if_pos ⟨hpair, hlast, hnew, hhours⟩

theorem switchDueNow_keeps {s : State} (h : s.inPair = false ∨ s.pair.lastSwitch = 0 ∨ s.pair.switchDue = true ∨ s.hoursSince < s.param 11) :
    s.switchDueNow = s :=
  if_neg (by rcases h with h | h | h | h <;> simp [h])

/-! ## The obligation -/

/-- Settles O52, command by command. That a unit asks its peer for the images staged there is the model's choice (log entry 22). -/
theorem rolesPathsAndEpochsOfAPair : Obligations.RolesPathsAndEpochsOfAPair := by
  unfold Obligations.RolesPathsAndEpochsOfAPair
  intro t s now p alarm quiet asks
  refine ⟨fun hsends ht => ?_, fun hno => ?_, fun himage hrole htime hdawn => ?_, fun hno => ?_, fun hrole => ?_, fun hpair => ?_, fun halone => ?_,
    fun q hq => ?_, fun hpending hnone => ?_, fun e c hpending hnext hswitch => ?_, fun hpending => ?_, fun c hrole hswitch => ?_,
    fun hpair hlast hnew hhours => ?_, fun hno => ?_⟩
  · exact run_next (f := fun u => u.heartbeatSend t) ((heartbeatSend_sends (s := s.tick t) hsends ht).trans (sendBoth_eq ..)) rfl rfl
  · exact run_idle (f := fun u => u.heartbeatSend t) (heartbeatSend_keeps (s := s.tick t) hno)
  · have hdecides := (listenEnd_decides (s := s.tick t) himage hrole htime hdawn).trans
      (takesRole_asks (s := s.tick t) himage (listenRole_paired s) s.listenRole.2)
    refine ⟨_, s.listenRole.1, run_next (f := State.listenEnd) hdecides rfl rfl, rfl, rfl, rfl, fun hactive => ?_, fun r hr hother hupper => ?_,
      fun r hr hother hlower => ?_, fun hnone => ?_, fun hactive => ?_⟩
    · exact listenRole_taken (listenRole_activePeer hactive)
    · exact listenRole_taken (listenRole_upper hr hother hupper)
    · have hlisten := listenRole_lower hr hother hlower
      exact ⟨listenRole_activated hlisten, (listenRole_taken hlisten).2⟩
    · have hlisten := listenRole_alone hnone
      exact ⟨listenRole_activated hlisten, (listenRole_taken hlisten).2⟩
    · rw [listenRole_epoch hactive]
      exact newEpoch_smallest s
  · exact run_idle (f := State.listenEnd) (listenEnd_early (s := s.tick t) hno)
  · exact run_idle (f := State.listenEnd) (listenEnd_decided (s := s.tick t) hrole)
  · exact ⟨fun htime => run_next (f := fun u => u.pathSilent .path1) (pathSilent_path1 (s := s.tick t) hpair htime) rfl rfl,
      fun htime => run_idle (f := fun u => u.pathSilent .path1) (pathSilent_path1_heard (s := s.tick t) hpair htime),
      fun htime hnew => run_next (f := fun u => u.pathSilent .path2) (pathSilent_path2 (s := s.tick t) hpair htime hnew) rfl rfl,
      fun htime => run_idle (f := fun u => u.pathSilent .path2) (pathSilent_path2_heard (s := s.tick t) hpair htime)⟩
  · exact ⟨run_idle (f := fun u => u.pathSilent .path1) (pathSilent_alone (s := s.tick t) halone _),
      run_idle (f := fun u => u.pathSilent .path2) (pathSilent_alone (s := s.tick t) halone _)⟩
  · exact ⟨fun htime => run_next (f := State.quarantineEnd) (quarantineEnd_ends (s := s.tick t) hq htime) rfl rfl,
      fun htime => run_idle (f := State.quarantineEnd) (quarantineEnd_keeps (s := s.tick t) hq htime)⟩
  · exact run_next (f := State.epochWritten) (epochWritten_own (s := s.tick t) hpending hnone) rfl rfl
  · exact run_next (f := State.epochWritten) (epochWritten_next (s := s.tick t) hpending hnext hswitch) rfl rfl
  · exact run_idle (f := State.epochWritten) (epochWritten_keeps (s := s.tick t) hpending)
  · exact ⟨fun hack htime => ⟨_, run_next (f := State.switchAbandoned) (switchAbandoned_abandons (s := s.tick t) hrole hswitch hack htime) rfl rfl, rfl⟩,
      fun hno => run_idle (f := State.switchAbandoned) (switchAbandoned_keeps (s := s.tick t) hrole hswitch hno)⟩
  · exact run_next (f := State.switchDueNow) (switchDueNow_sets (s := s.tick t) hpair hlast hnew hhours) rfl rfl
  · exact run_idle (f := State.switchDueNow) (switchDueNow_keeps (s := s.tick t) hno)

end Sys2Proof.Machine
end
section
/-! # The memories stay canonical: what holds a memory, and what stores into one (R494)

`State.memWf` speaks of the exchange RAM, the regions and flash areas of the images, and the block data of each lane. Here stands one
lemma for each way in which an operation builds a memory; the sections after this one follow the operations of the model. -/

namespace Sys2Proof.Machine

/-! ## Memories -/

/-- A part of a canonical memory that keeps its order is canonical. -/
theorem Mem.wf_sublist {m n : Mem} (h : n.Sublist m) (hm : Mem.wf m = true) : Mem.wf n = true := by
  induction h with
  | slnil => exact hm
  | cons c _ ih => exact ih (Mem.wf_cons.1 hm).2.2
  | cons_cons c hs ih =>
    obtain ⟨h0, h1, h2⟩ := Mem.wf_cons.1 hm
    exact Mem.wf_cons.2 ⟨h0, fun d hd => h1 d (hs.subset hd), ih h2⟩

theorem Mem.wf_window {m : Mem} {a n : Nat} (hm : Mem.wf m = true) : Mem.wf (Mem.window m a n) = true :=
  Mem.wf_sublist ((List.takeWhile_sublist _).trans (List.dropWhile_sublist _)) hm

theorem Mem.wf_cutToImage {m : Mem} (hm : Mem.wf m = true) : Mem.wf m.cutToImage = true := by
  unfold Mem.cutToImage
  split
  · exact Mem.wf_window hm
  · exact hm

/-- What holds of both branches holds of the branch taken. -/
theorem ite_holds {α : Sort*} {P : α → Prop} {c : Prop} [Decidable c] {a b : α} (ha : P a) (hb : P b) : P (if c then a else b) :=
  iteInduction (fun _ => ha) (fun _ => hb)

/-- What holds at first and is kept by each turn holds after a fold. -/
theorem foldl_holds {α β : Type} {P : α → Prop} {f : α → β → α} {l : List β} {a : α} (h : P a) (hf : ∀ u k, P u → P (f u k)) : P (l.foldl f a) :=
  List.foldlRecOn l f h (fun u hu k _ => hf u k hu)

/-! ## Lists of memories -/

/-- Every memory of a list is canonical. -/
def allWf (l : List Mem) : Prop := ∀ m ∈ l, Mem.wf m = true

theorem allWf_listSet {l : List Mem} {k : Nat} {m : Mem} (hl : allWf l) (hm : Mem.wf m = true) : allWf (listSet l k m) := fun n hn =>
  (List.mem_or_eq_of_mem_set hn).elim (hl n) (fun e => e ▸ hm)

theorem allWf_replicate {n : Nat} : allWf (List.replicate n []) := fun m hm => by rw [(List.mem_replicate.1 hm).2]; rfl

theorem wf_getD {l : List Mem} {k : Nat} (hl : allWf l) : Mem.wf (l.getD k []) = true := by
  rw [List.getD_eq_getElem?_getD]
  cases hk : l[k]? with
  | none => rfl
  | some m => exact hl m (List.mem_of_getElem? hk)

/-! ## Programs and lanes -/

/-- The block data of a program side is canonical. -/
def Program.dataWf (p : Program) : Prop := Mem.wf p.data = true

/-- The block data of a lane is canonical. -/
def Lane.dataWf (l : Lane) : Prop := l.program.dataWf

/-- A program side with the block data of `p`. -/
theorem Program.dataWf.same {p q : Program} (hp : p.dataWf) (hq : q.data = p.data) : q.dataWf :=
  (congrArg (fun d => Mem.wf d = true) hq).mpr hp

/-- A lane with the block data of `l`. -/
theorem Lane.dataWf.same {l m : Lane} (hl : l.dataWf) (hm : m.program.data = l.program.data) : m.dataWf := Program.dataWf.same hl hm

/-- A lane whose block data is a canonical memory. -/
theorem Lane.dataWf_of {l : Lane} {d : Mem} (hd : Mem.wf d = true) (h : l.program.data = d) : l.dataWf :=
  (congrArg (fun m => Mem.wf m = true) h).mpr hd

theorem instanceInit_wf {m : Mem} : Mem.wf (instanceInit m) = true := foldl_holds (P := fun d => Mem.wf d = true) rfl (fun _ _ => Mem.wf_store _ _)

theorem carryInst_wf {old : Mem} {o i : Inst} {d : Mem} (hd : Mem.wf d = true) : Mem.wf (carryInst old o i d) = true := Mem.wf_store _ _ hd

theorem carryData_wf {old new d : Mem} : Mem.wf (carryData old new d) = true :=
  foldl_holds (P := fun d => Mem.wf d = true) instanceInit_wf (fun d i hd => by
    split
    · exact carryInst_wf hd
    · exact hd)

theorem dataWf_fresh : Program.fresh.dataWf := rfl

theorem dataWf_restart {p : Program} {m : Mem} : (p.restart m).dataWf := instanceInit_wf (m := m)

theorem dataWf_carry {p : Program} {old new : Mem} {keep : Nat → Bool} : (p.carry old new keep).dataWf :=
  carryData_wf (old := old) (new := new) (d := p.data)

theorem dataWf_writeData {p : Program} {i : Inst} {l : List (Nat × Nat)} (hp : p.dataWf) : (p.writeData i l).dataWf :=
  foldl_holds (P := fun d => Mem.wf d = true) hp (fun _ _ => Mem.wf_store _ _)

theorem dataWf_timerExec {p : Program} {i : Inst} {delta k : Nat} {x : TimerType × Bool} (hp : p.dataWf) : (p.timerExec i delta k x).dataWf :=
  Mem.wf_store _ _ hp

theorem dataWf_edgeExec {p : Program} {i : Inst} {k : Nat} {x : Word} (hp : p.dataWf) : (p.edgeExec i k x).dataWf := Mem.wf_store _ _ hp

/-! ## The state -/

theorem State.memWf.xramWf {s : State} (h : s.memWf) : Mem.wf s.xram.mem = true := h.1

theorem State.memWf.regionsWf {s : State} (h : s.memWf) : allWf s.images.regions := h.2.1

theorem State.memWf.flashWf {s : State} (h : s.memWf) : allWf s.images.flash := h.2.2.1

theorem State.memWf.lane {s : State} (h : s.memWf) (i : LaneId) : (s.lane i).dataWf := h.2.2.2 i

theorem State.memWf.staging {s : State} (h : s.memWf) (k : Nat) : Mem.wf (s.images.stagingMem k) = true := wf_getD h.regionsWf

/-- A record of a state's fields with the memories and the lanes of `s`. The fields stand one by one, so that `s` is read off the record. -/
theorem memWf_mk {s : State} {now control snapshots nextNumber wallOffset pendingWall host ndezo safeIo pair almanac sealBank startup ki40 identity freeCtr sent
    pending} (h : s.memWf) :
    (State.mk now control s.lanes snapshots nextNumber wallOffset pendingWall s.images host ndezo safeIo pair s.xram almanac sealBank startup ki40 identity
      freeCtr sent pending).memWf := h

/-- The same with images whose regions and flash areas are those of `s`. -/
theorem memWf_mkImages {s : State} {now control snapshots nextNumber wallOffset pendingWall host ndezo safeIo pair almanac sealBank startup ki40 identity
    freeCtr sent pending profiles stagingRegions staging runningSlot recordedSlot lastCheck pendingProfile takenProfile takenAt mapPending oldMap lostImage
    params pendingParams pendingArm displaced} (h : s.memWf) :
    (State.mk now control s.lanes snapshots nextNumber wallOffset pendingWall
      (Images.mk s.images.regions s.images.flash profiles stagingRegions staging runningSlot recordedSlot lastCheck pendingProfile takenProfile takenAt mapPending
        oldMap lostImage params pendingParams pendingArm displaced)
      host ndezo safeIo pair s.xram almanac sealBank startup ki40 identity freeCtr sent pending).memWf := h

/-- The same with lanes that are those of `s`, each changed by `f`. -/
theorem memWf_mkLanes {s : State} {f : LaneId → Lane → Lane} {now control snapshots nextNumber wallOffset pendingWall images host ndezo safeIo pair xram almanac
    sealBank startup ki40 identity freeCtr sent pending}
    (h : (State.mk now control s.lanes snapshots nextNumber wallOffset pendingWall images host ndezo safeIo pair xram almanac sealBank startup ki40 identity
      freeCtr sent pending).memWf)
    (hf : ∀ i l, l.dataWf → (f i l).dataWf) :
    (State.mk now control (s.lanes.mapI f) snapshots nextNumber wallOffset pendingWall images host ndezo safeIo pair xram almanac sealBank startup ki40 identity
      freeCtr sent pending).memWf := by
  refine ⟨h.xramWf, h.regionsWf, h.flashWf, fun i => ?_⟩
  have hi : (s.lanes.mapI f).get i = f i (s.lane i) := Lanes.get_mapI ..
  exact (congrArg Lane.dataWf hi).mpr (hf i _ (h.lane i))

/-- A state with the exchange RAM and the lanes of `s` whose regions and flash areas are canonical. -/
theorem memWf_of_images {s u : State} (h : s.memWf) (hu : (u.xram.mem, u.lanes) = (s.xram.mem, s.lanes)) (hr : allWf u.images.regions)
    (hf : allWf u.images.flash) : u.memWf := by
  simp only [Prod.mk.injEq] at hu
  obtain ⟨hx, hl⟩ := hu
  refine ⟨hx ▸ h.xramWf, hr, hf, fun i => ?_⟩
  have hi : u.lane i = s.lane i := by
    unfold State.lane
    rw [hl]
  exact hi ▸ h.lane i

/-- A state with the images and the lanes of `s` whose exchange RAM is canonical. -/
theorem memWf_of_xram {s u : State} (h : s.memWf) (hu : (u.images.regions, u.images.flash, u.lanes) = (s.images.regions, s.images.flash, s.lanes))
    (hx : Mem.wf u.xram.mem = true) : u.memWf := by
  simp only [Prod.mk.injEq] at hu
  obtain ⟨hr, hf, hl⟩ := hu
  refine ⟨hx, hr ▸ h.regionsWf, hf ▸ h.flashWf, fun i => ?_⟩
  have hi : u.lane i = s.lane i := by
    unfold State.lane
    rw [hl]
  exact hi ▸ h.lane i

theorem memWf_setLane {s : State} {i : LaneId} {l : Lane} (h : s.memWf) (hl : l.dataWf) : (s.setLane i l).memWf := by
  refine ⟨h.xramWf, h.regionsWf, h.flashWf, fun j => ?_⟩
  have hj : (s.setLane i l).lane j = if j = i then l else s.lane j := Lanes.get_put ..
  rw [hj]
  exact ite_holds (P := Lane.dataWf) hl (h.lane j)

theorem memWf_modLane {s : State} {i : LaneId} {f : Lane → Lane} (h : s.memWf) (hf : ∀ l, l.dataWf → (f l).dataWf) :
    (s.modLane i f).memWf :=
  memWf_setLane h (hf _ (h.lane i))

theorem memWf_mapLanes {s : State} {f : Lane → Lane} (h : s.memWf) (hf : ∀ l, l.dataWf → (f l).dataWf) :
    (s.mapLanes f).memWf :=
  memWf_mkLanes h (fun _ => hf)

theorem memWf_mapVoting {s : State} {f : Lane → Lane} (h : s.memWf) (hf : ∀ l, l.dataWf → (f l).dataWf) :
    (s.mapVoting f).memWf :=
  memWf_mkLanes h (fun _ l hl => ite_holds (hf l hl) hl)

theorem memWf_firstOf {l : List (Bool × Nat)} {s : State} {a : Acc} (h : s.memWf) (ha : a.st.memWf) : (firstOf l s a).st.memWf := by
  unfold firstOf
  split
  · exact h
  · exact ha

/-! ## The exchange RAM -/

theorem memWf_xramStore {s : State} {a : Nat} {b : Bytes} (h : s.memWf) : (s.xramStore a b).memWf :=
  memWf_of_xram h rfl (Mem.wf_store _ _ h.xramWf)

theorem memWf_claimGuard {s : State} (h : s.memWf) : s.claimGuard.1.memWf := by
  unfold State.claimGuard
  split
  · split
    · exact memWf_of_xram h rfl (Mem.wf_store _ _ h.xramWf)
    · exact h
  · exact h

theorem memWf_releaseGuard {s : State} {g : CopyRun} (h : s.memWf) : (s.releaseGuard g).memWf := by
  unfold State.releaseGuard
  split
  · split
    · exact ite_holds (memWf_of_xram h rfl (Mem.wf_store _ _ h.xramWf)) h
    · exact h
  · exact h

theorem memWf_clearLockWord {s : State} {k : Nat} (h : s.memWf) : (s.clearLockWord k).memWf :=
  foldl_holds h (fun _ _ hu => ite_holds (memWf_of_xram hu rfl (Mem.wf_store _ _ hu.xramWf)) hu)

theorem Xram.wf_put {x : Xram} {a : Nat} {b : Bytes} (hx : Mem.wf x.mem = true) : Mem.wf (x.put a b).mem = true := Mem.wf_store _ _ hx

theorem memWf_writeBlocks {s : State} (h : s.memWf) : s.writeBlocks.memWf := by
  have hx : Mem.wf (s.voting.foldl (fun x i => x.put (0xFFE00 + 64 * i.index) (s.memoryBlock i)) s.xram).mem = true :=
    foldl_holds (P := fun x : Xram => Mem.wf x.mem = true) h.xramWf (fun _ _ => Xram.wf_put)
  refine memWf_of_xram h rfl ?_
  unfold State.writeBlocks
  dsimp only
  split
  · exact Xram.wf_put hx
  · exact hx

theorem memWf_perhaps {s : State} {f : State → State} (h : s.memWf) (hf : ∀ u, u.memWf → (f u).memWf) : (s.perhaps f).memWf :=
  ite_holds (hf _ h) h

theorem memWf_busOperate {s : State} {a : Nat} {d : Half} {w : Bool} (h : s.memWf) : (s.busOperate a d w).memWf := memWf_xramStore (s := s.unload) h

theorem memWf_cutShort {s : State} {c : BusCycle} (h : s.memWf) : (s.cutShort c).memWf := by
  unfold State.cutShort
  split
  · split
    · exact h
    · exact memWf_perhaps h (fun _ => memWf_xramStore)
    · exact memWf_perhaps h (fun _ hu => hu)
    · split
      · exact memWf_perhaps h (fun _ => memWf_busOperate)
      · exact h
    · exact h
  · exact h

end Sys2Proof.Machine
end

section
/-! # Every operation of the model keeps the memories canonical (R494)

One lemma for each operation that stores into a memory or calls one that does, in the order of the model. Those that write no memory close
by `h`; the rest name the operations that they call. -/

namespace Sys2Proof.Machine

/-! ## The lanes' work and the replies -/

theorem dataWf_close {p : Program} {all : Bool} (hp : p.dataWf) : (p.close all).dataWf := ite_holds (hp.same rfl) (hp.same rfl)

theorem memWf_keepRings {s : State} (h : s.memWf) : s.keepRings.memWf := ite_holds (memWf_mapLanes h (fun _ hl => ite_holds (hl.same rfl) hl)) h

theorem memWf_sendReply {s : State} {r : Reply} (h : s.memWf) : (s.sendReply r).memWf := ite_holds h h

theorem dataWf_enqueue {l : Lane} {q : Queued} (hl : l.dataWf) : (l.enqueue q).dataWf := by
  unfold Lane.enqueue
  refine ite_holds ?_ ?_
  · exact hl.same rfl
  · split <;> exact hl.same rfl

theorem memWf_laneEvent {s : State} {i : LaneId} {code : Nat} {l : List (Nat × Nat × Nat)} (h : s.memWf) : (s.laneEvent i code l).memWf :=
  memWf_modLane h (fun _ => dataWf_enqueue)

theorem memWf_flushEvents {s : State} {wall : Nat} (h : s.memWf) : (s.flushEvents wall).memWf :=
  foldl_holds h (fun _ _ hu => memWf_modLane hu (fun _ hl => foldl_holds hl (fun _ _ hv => dataWf_enqueue hv)))

theorem memWf_rounds {s : State} {i : LaneId} (h : s.memWf) : (s.rounds i).memWf := ite_holds h (memWf_mk (memWf_modLane h (fun _ hl => hl)))

theorem memWf_loaderWrite {s : State} {addr len : Nat} {i : LaneId} (h : s.memWf) : (s.loaderWrite addr len i).memWf := by
  unfold State.loaderWrite
  split
  · exact memWf_modLane h (fun _ hl => hl)
  · exact memWf_laneEvent (memWf_modLane h (fun _ hl => hl))

theorem memWf_setRegion {s : State} {r off len : Nat} {m : Mem} (h : s.memWf) (hm : Mem.wf m = true) : (s.setRegion r m off len).memWf :=
  foldl_holds (memWf_of_images h rfl (allWf_listSet h.regionsWf hm) h.flashWf) (fun _ _ => memWf_loaderWrite)

theorem dataWf_fbExec {p : Program} {m : Mem} {task : Task} {x : FbExec} (hp : p.dataWf) : (p.fbExec m task x).dataWf := by
  unfold Program.fbExec
  extract_lets now
  split
  · exact hp
  · refine foldl_holds (foldl_holds (dataWf_writeData hp) (fun _ _ hu => dataWf_timerExec hu)) ?_
    intro _ _ hu
    split
    · exact dataWf_edgeExec hu
    · exact hu

theorem dataWf_runBlocks {p : Program} {m : Mem} {task : Task} {b : BodyRun} (hp : p.dataWf) : (p.runBlocks m task b).dataWf :=
  foldl_holds hp (fun _ _ hu => dataWf_fbExec hu)

theorem dataWf_teDone {p : Program} {b : BodyRun} (hp : p.dataWf) : (p.teDone b).dataWf := by
  unfold Program.teDone
  split
  · exact hp
  · exact hp.same rfl

theorem dataWf_bodyDone {l : Lane} {s : State} {m : Mem} {task : Task} {p : Snapshot} {b : BodyRun} (hl : l.dataWf) :
    (l.bodyDone s m task p b).dataWf := by
  have hp : (l.program.runBlocks m task b).dataWf := dataWf_runBlocks hl
  unfold Lane.bodyDone
  extract_lets prog
  have hprog : prog.dataWf := hp
  split
  · exact hprog
  · exact hprog
  · exact hprog
  · exact dataWf_teDone hprog
  · exact hprog

theorem memWf_taskBody {s : State} {i : LaneId} {task : Task} {b : BodyRun} (h : s.memWf) : (s.taskBody i task b).memWf := by
  unfold State.taskBody
  extract_lets l s1 met _ _
  have hs : l.dataWf := State.memWf.lane h _
  have h1 : s1.memWf := memWf_setLane h (dataWf_bodyDone hs)
  refine ite_holds ?_ ?_
  · split
    · exact ite_holds (memWf_mk (foldl_holds h1 (fun _ _ hu => hu))) h1
    · exact h1
  · exact h

theorem dataWf_closeEngine {l : Lane} (hl : l.dataWf) : l.closeEngine.dataWf := by
  unfold Lane.closeEngine
  split <;> exact hl.same rfl

theorem memWf_settledKey {s : State} {k : Option RecKey} (h : s.memWf) : (s.settledKey k).memWf := by
  cases k with
  | none => exact h
  | some k => exact h

theorem memWf_sendVia {s : State} {port : Nat} {x : Tx} (h : s.memWf) : (s.sendVia port x).memWf := ite_holds h h

theorem memWf_replyWith {s : State} {f : Fold} {r : Reply} (h : s.memWf) : (s.replyWith f r).memWf := by
  unfold State.replyWith
  refine ite_holds ?_ ?_
  · exact h
  · split
    · exact h
    · exact ite_holds (memWf_sendReply h) (memWf_mkLanes h (fun _ _ hl => ite_holds (hl.same rfl) hl))

theorem memWf_txHold {s : State} {i : LaneId} {port stream : Nat} (h : s.memWf) : (s.txHold i port stream).memWf :=
  memWf_mk (memWf_modLane h (fun _ hl => hl))

theorem memWf_expireReplies {s : State} (h : s.memWf) : s.expireReplies.memWf := by
  unfold State.expireReplies
  refine foldl_holds h ?_
  intro _ _ hu
  dsimp only
  split
  · exact memWf_txHold (memWf_mk (memWf_mapLanes hu (fun _ hl => hl)))
  · exact memWf_mk (memWf_mapLanes hu (fun _ hl => hl))

theorem memWf_answerAt {s : State} {t : Nat} {r : HostRec} {nets : List Net} {late repeated : Bool} {status snapshot : Nat} {data : Bytes} (h :
    s.memWf) : (s.answerAt t r nets late repeated status snapshot data).memWf :=
  foldl_holds h (fun _ _ hu => ite_holds hu (memWf_replyWith hu))

theorem memWf_discardKey {s : State} {k : RecKey} (h : s.memWf) : (s.discardKey k).memWf := by
  unfold State.discardKey
  split
  · exact h
  · exact ite_holds (memWf_mk (memWf_answerAt h)) h

theorem memWf_discardKeys {s : State} {ks : List RecKey} (h : s.memWf) : (s.discardKeys ks).memWf :=
  foldl_holds h (fun _ _ hu => memWf_discardKey hu)

/-! ## Upsets, switchover and the copy of the pair -/

theorem memWf_isolate {s : State} {i : LaneId} {missing : Bool} (h : s.memWf) : (s.isolate i missing).memWf :=
  ite_holds (memWf_modLane (memWf_laneEvent h) (fun _ hl => hl)) h

theorem memWf_oddLane {s : State} {i : LaneId} {c : Cause} (h : s.memWf) : (s.oddLane i c).memWf := memWf_isolate (memWf_modLane h (fun _ hl => hl))

theorem memWf_standbyFalls {s : State} {row : Nat} (h : s.memWf) : (s.standbyFalls row).memWf := ite_holds h h

theorem memWf_abortArmed {s : State} {cause : Nat} (h : s.memWf) : (s.abortArmed cause).memWf := by
  unfold State.abortArmed
  extract_lets s1
  have h1 : s1.memWf := foldl_holds h (fun u k hu => by
    dsimp only
    split
    · refine ite_holds (memWf_mk ?_) hu
      exact memWf_of_images (memWf_settledKey hu) rfl hu.regionsWf hu.flashWf
    · exact hu)
  exact ite_holds h1 h1

theorem memWf_dropArm {s : State} (h : s.memWf) : s.dropArm.memWf := by
  unfold State.dropArm
  split
  · exact memWf_mkImages (memWf_discardKey h)
  · exact h

theorem memWf_abortProfile {s : State} (h : s.memWf) : s.abortProfile.memWf := by
  unfold State.abortProfile
  split
  · exact memWf_mk (memWf_mkImages (memWf_discardKeys h))
  · exact h

theorem memWf_dropPending {s : State} (h : s.memWf) : s.dropPending.memWf := memWf_mk (memWf_discardKeys h)

theorem memWf_discardWork {s : State} (h : s.memWf) : s.discardWork.memWf := memWf_mkLanes (memWf_mk (memWf_discardKeys h)) (fun _ _ hl => hl)

theorem memWf_upsetDiscard {s : State} (h : s.memWf) : s.upsetDiscard.memWf := memWf_mkLanes (memWf_mk (memWf_discardWork h)) (fun _ _ hl => hl)

theorem memWf_abortChange {s : State} {cause : Nat} (h : s.memWf) : (s.abortChange cause).memWf :=
  ite_holds (memWf_upsetDiscard (memWf_abortArmed h)) h

theorem memWf_upsetStop {s : State} {reason : Nat} (h : s.memWf) : (s.upsetStop reason).memWf :=
  memWf_mkLanes (memWf_mkImages (memWf_discardKeys (memWf_discardWork h))) (fun _ _ hl => hl)

theorem memWf_clearLockWords {s : State} (h : s.memWf) : s.clearLockWords.memWf := foldl_holds h (fun _ _ hu => memWf_clearLockWord hu)

theorem memWf_excludeLane {s : State} {i : LaneId} {c : Cause} (h : s.memWf) : (s.excludeLane i c).memWf :=
  memWf_mk (memWf_modLane (memWf_mk (ite_holds h (memWf_isolate h))) (fun _ hl => hl))

theorem memWf_ownIsolation {s : State} {i : LaneId} {missing : Bool} (h : s.memWf) : (s.ownIsolation i missing).memWf :=
  memWf_modLane (memWf_laneEvent h) (fun _ hl => hl)

theorem memWf_loseLoad {s : State} (h : s.memWf) : s.loseLoad.memWf := by
  unfold State.loseLoad
  split
  · exact memWf_discardKeys h
  · exact h

theorem memWf_loseCopies {s : State} (h : s.memWf) : s.loseCopies.memWf := by
  unfold State.loseCopies
  refine foldl_holds (memWf_loseLoad h) ?_
  intro _ _ hu
  split
  · split
    · dsimp only
      split
      · exact memWf_discardKey hu
      · exact hu
    · exact hu
  · exact hu

theorem memWf_endReintegration {s : State} (h : s.memWf) : s.endReintegration.memWf :=
  foldl_holds h (fun _ _ hu => ite_holds (memWf_mk (memWf_modLane hu (fun _ hl => hl))) hu)

theorem memWf_exclusionEffects {s : State} (h : s.memWf) : s.exclusionEffects.memWf :=
  memWf_standbyFalls (memWf_endReintegration (memWf_loseCopies (memWf_upsetDiscard (memWf_abortProfile (memWf_abortArmed (memWf_dropArm
    (memWf_dropPending h)))))))

theorem memWf_enterNadir {s : State} {row : Nat} (h : s.memWf) : (s.enterNadir row).memWf :=
  ite_holds h (memWf_mk (memWf_mkLanes (memWf_mk (memWf_standbyFalls (memWf_endReintegration (memWf_loseCopies (memWf_upsetStop (memWf_abortProfile
    (memWf_abortArmed (memWf_dropArm (memWf_dropPending h))))))))) (fun _ _ hl => hl)))

theorem memWf_applyBallot {s : State} {ex : List (LaneId × Cause)} {row : Option Nat} (h : s.memWf) : (s.applyBallot ex row).memWf := by
  unfold State.applyBallot
  extract_lets s1 s2 s3 s4
  have h1 : s1.memWf := foldl_holds h (fun _ _ hu => memWf_excludeLane hu)
  have h2 : s2.memWf := ite_holds h1 (memWf_clearLockWords h1)
  have h3 : s3.memWf := memWf_exclusionEffects h2
  have h4 : s4.memWf := memWf_mk (memWf_mk h3)
  split
  · exact ite_holds (memWf_enterNadir h2) (memWf_enterNadir (memWf_exclusionEffects h2))
  · exact ite_holds h2 (ite_holds (ite_holds (memWf_enterNadir h4) h4) (ite_holds (memWf_enterNadir h3) h3))

theorem memWf_dropOpenSlots {s : State} (h : s.memWf) : s.dropOpenSlots.memWf :=
  memWf_of_images h rfl (foldl_holds h.regionsWf (fun _ _ hu => ite_holds (allWf_listSet hu rfl) hu)) h.flashWf

theorem memWf_endAllSessions {s : State} (h : s.memWf) : s.endAllSessions.memWf :=
  ite_holds (memWf_mk (memWf_dropOpenSlots h)) (memWf_dropOpenSlots h)

theorem memWf_safeOffFor {s : State} {cause : Lane → Nat} (h : s.memWf) : (s.safeOffFor cause).memWf :=
  memWf_mkLanes (memWf_mk (foldl_holds (memWf_mkLanes (memWf_mk (memWf_endAllSessions (memWf_discardWork (memWf_abortProfile (memWf_abortArmed
    (memWf_dropArm (memWf_dropPending h))))))) (fun _ _ hl => hl)) (fun _ _ hu => memWf_laneEvent hu))) (fun _ _ hl => hl)

theorem memWf_checkSafeOff {s : State} (h : s.memWf) : s.checkSafeOff.memWf := ite_holds (memWf_safeOffFor h) h

theorem memWf_modStaging {s : State} {k : Nat} {f : Staging → Staging} (h : s.memWf) : (s.modStaging k f).memWf := h

theorem memWf_settledAll {s : State} {ks : List RecKey} (h : s.memWf) : (s.settledAll ks).memWf := foldl_holds h (fun _ _ hu => hu)

theorem memWf_commitChange {s : State} {k : Nat} (h : s.memWf) : (s.commitChange k).memWf :=
  ite_holds (memWf_mk (memWf_mk (memWf_mkLanes (memWf_mkImages (memWf_mkLanes h (fun _ _ hl => hl))) (fun _ _ _ => dataWf_carry.same rfl))))
    (memWf_mk (memWf_mkLanes h (fun _ _ hl => hl)))

theorem memWf_commitProfile {s : State} {p : ProfileRequest} (h : s.memWf) : (s.commitProfile p).memWf :=
  memWf_mk (memWf_mk (memWf_mkLanes (memWf_mkImages (memWf_upsetDiscard (memWf_settledAll h))) (fun _ _ _ => dataWf_restart.same rfl)))

theorem memWf_toDawn {s : State} {d : Dawn} (h : s.memWf) : (s.toDawn d).memWf := ite_holds h h

theorem memWf_enterWarmAt {s : State} {k : Nat} (h : s.memWf) : (s.enterWarmAt k).memWf := by
  unfold State.enterWarmAt
  extract_lets new switched old keepRoutes evs _ s0 _ _ _ _ s1 s2
  have h0 : s0.memWf := memWf_toDawn h
  have h1 : s1.memWf := memWf_mkLanes ⟨h0.xramWf, h.regionsWf, h.flashWf, h.lane⟩ (fun _ _ _ => Lane.dataWf_of instanceInit_wf rfl)
  have h2 : s2.memWf := ite_holds h1 h1
  exact memWf_mapLanes (memWf_mk h2) (fun _ hl => hl)

theorem memWf_dropLock {s : State} {o : Origin} {kind : Nat} (h : s.memWf) : (s.dropLock o kind).memWf := memWf_mk (memWf_dropOpenSlots h)

theorem memWf_endSession {s : State} {n kind : Nat} (h : s.memWf) : (s.endSession n kind).memWf := by
  unfold State.endSession
  split
  · exact h
  · exact ite_holds (memWf_dropLock h) h

theorem memWf_discardAccepted {s : State} (h : s.memWf) : s.discardAccepted.memWf :=
  memWf_upsetDiscard (memWf_abortProfile (memWf_abortArmed (memWf_dropArm (memWf_dropPending h))))

theorem memWf_takeover {s : State} (h : s.memWf) : s.takeover.memWf := memWf_mk (memWf_mk (memWf_mk (memWf_discardAccepted h)))

theorem memWf_dropRequest {s : State} (h : s.memWf) : s.dropRequest.memWf := memWf_mkImages (memWf_discardKeys h)

theorem memWf_stepDown {s : State} (h : s.memWf) : s.stepDown.memWf :=
  memWf_mk (memWf_endAllSessions (memWf_mk (memWf_dropRequest (memWf_discardAccepted h))))

theorem memWf_pairDecision {s : State} (h : s.memWf) : s.pairDecision.memWf := by
  unfold State.pairDecision
  extract_lets _
  split
  · split
    · exact memWf_takeover h
    · exact h
    · exact h
    · exact h
  · refine ite_holds ?_ ?_
    · exact memWf_stepDown h
    · split
      · exact ite_holds h h
      · exact ite_holds h h
      · exact h
  · exact h

theorem memWf_switchover {s : State} (h : s.memWf) : s.switchover.memWf := by
  unfold State.switchover
  split
  · exact ite_holds (memWf_mk (memWf_mk (memWf_endAllSessions (memWf_mk (memWf_dropRequest (memWf_upsetDiscard (memWf_dropArm (memWf_dropPending
      h)))))))) h
  · exact ite_holds (memWf_mk (memWf_mk (memWf_mk (memWf_upsetDiscard (memWf_dropArm (memWf_dropPending h)))))) h
  · exact h

theorem memWf_commitReady {s : State} (h : s.memWf) : s.commitReady.memWf := ite_holds h h

/-! ## The vote -/

theorem memWf_stuckOn {s : State} {marks : List (Mark × Nat)} {records : Bool} (h : s.memWf) : (s.stuckOn marks records).memWf :=
  ite_holds h (memWf_safeOffFor (ite_holds (foldl_holds h (fun _ _ hu => hu)) h))

theorem memWf_evaluateProfile {s : State} {t : Nat} {p : ProfileRequest} (h : s.memWf) : (s.evaluateProfile t p).memWf := by
  unfold State.evaluateProfile
  split
  · exact h
  · exact h
  · exact h
  · extract_lets s1
    have h1 : ∀ ks, (s1.settledAll ks).memWf := fun _ => memWf_settledAll h
    exact ite_holds h ⟨(h1 _).xramWf, h.regionsWf, h.flashWf, (h1 _).lane⟩

theorem memWf_takeProfile {s : State} {t target : Nat} {fromPins : Bool} (h : s.memWf) : (s.takeProfile t target fromPins).memWf := by
  unfold State.takeProfile
  refine ite_holds ?_ ?_
  · exact memWf_evaluateProfile h
  · split
    · exact ite_holds (memWf_evaluateProfile h) h
    · exact h

theorem memWf_takeModule {t : Nat} {s : State} {i : Intake} (h : s.memWf) : (State.takeModule t s i).memWf := by
  unfold State.takeModule
  split
  · exact h
  · exact h
  · exact h
  · exact memWf_takeProfile h
  · exact h

theorem memWf_takeIn {s : State} {t : Nat} {l : List Intake} (h : s.memWf) : (s.takeIn t l).memWf :=
  memWf_mk (foldl_holds h (fun _ _ hu => memWf_takeModule hu))

theorem memWf_sendPair {s : State} {link : PairLink} {kind : Nat} {payload : Bytes} (h : s.memWf) : (s.sendPair link kind payload).memWf := by
  unfold State.sendPair
  split
  · exact ite_holds h h
  · exact ite_holds h h
  · exact h

theorem memWf_sendBoth {s : State} {kind : Nat} {payload : Bytes} (h : s.memWf) : (s.sendBoth kind payload).memWf :=
  memWf_sendPair (memWf_sendPair h)

theorem memWf_tellStaged {s : State} {ask : Bool} (h : s.memWf) : (s.tellStaged ask).memWf := ite_holds (memWf_sendBoth h) h

theorem memWf_intakeCommands {s : State} {t : Nat} (h : s.memWf) : (s.intakeCommands t).memWf := by
  unfold State.intakeCommands
  extract_lets agreed keep _ s1 ready rest _ s2 s3 list s4 _ due s2'
  have h1 : s1.memWf := memWf_mkLanes h (fun _ _ hl => hl)
  have h2 : s2.memWf := memWf_takeIn (memWf_mk h1)
  have h3 : s3.memWf := ite_holds (memWf_mk h2) h2
  have h4 : s4.memWf := ite_holds (foldl_holds h3 (fun _ _ hu => memWf_sendBoth hu)) h3
  have h2' : s2'.memWf := memWf_mk h1
  split
  · exact ite_holds (memWf_mk h4) (memWf_takeIn h1)
  · exact memWf_takeIn h2'
  · exact memWf_takeIn h1

theorem memWf_intakeMarks {s : State} {t : Nat} (h : s.memWf) : (s.intakeMarks t).memWf :=
  ite_holds (memWf_mk (memWf_mkLanes (memWf_mk (memWf_mkLanes (memWf_mk (memWf_stuckOn h)) (fun _ _ hl => hl))) (fun _ _ hl => hl))) (memWf_mk
    (memWf_mkLanes (memWf_mk (memWf_stuckOn h)) (fun _ _ hl => hl)))

theorem memWf_intakeProfile {s : State} {t : Nat} (h : s.memWf) : (s.intakeProfile t).memWf := by
  unfold State.intakeProfile
  refine ite_holds ?_ ?_
  · exact h
  · split
    · exact memWf_evaluateProfile h
    · exact h

theorem memWf_intake {s : State} {t : Nat} (h : s.memWf) : (s.intake t).memWf := memWf_intakeProfile (memWf_intakeMarks (memWf_intakeCommands h))

theorem memWf_captureCopy {s : State} {t : Nat} (h : s.memWf) : (s.captureCopy t).memWf := by
  unfold State.captureCopy
  split
  · exact ite_holds (memWf_mk (foldl_holds h (fun _ _ hu => memWf_sendBoth hu))) h
  · exact h

theorem memWf_loadCopy {s : State} {b : Bytes} {point : Nat} (h : s.memWf) : (s.loadCopy b point).memWf :=
  memWf_mkLanes (memWf_mkImages h) (fun _ _ _ => Lane.dataWf_of (Mem.wf_store (m := []) 0 _ rfl) (by rfl))

theorem memWf_closeT1 {s : State} {i : LaneId} (h : s.memWf) : (s.closeT1 i).memWf := by
  unfold State.closeT1
  split
  · exact h
  · exact memWf_mkLanes (memWf_mkImages (memWf_settledAll h)) (fun _ _ hl => dataWf_closeEngine hl)

theorem memWf_toStop {s : State} {cause : Nat} {o : Origin} (h : s.memWf) : (s.toStop cause o).memWf := memWf_mk (memWf_upsetStop h)

theorem memWf_saveStash {s : State} (h : s.memWf) : s.saveStash.memWf := ite_holds (memWf_mapLanes h (fun _ hl => hl)) h

theorem memWf_beginDusk {s : State} {i : LaneId} (h : s.memWf) : (s.beginDusk i).memWf := memWf_mk (memWf_modLane h (fun _ hl => hl))

theorem memWf_shutDown {s : State} {test again : Bool} (h : s.memWf) : (s.shutDown test again).memWf := by
  unfold State.shutDown
  extract_lets s1 _ _ _ s2
  have h1 : s1.memWf := memWf_saveStash (memWf_mkLanes h (fun _ _ hl => hl))
  have h2 : s2.memWf := memWf_mkLanes (memWf_mk h1) (fun _ _ hl => hl)
  exact ite_holds (memWf_beginDusk h2) h2

theorem memWf_restartLanes {s : State} (h : s.memWf) : s.restartLanes.memWf :=
  memWf_mkLanes (memWf_mk (memWf_mkLanes h (fun _ _ hl => hl))) (fun _ _ hl => hl)

theorem memWf_putPower {s : State} {p : Power} {o : Origin} (h : s.memWf) : (s.putPower p o).memWf := by
  unfold State.putPower
  refine ite_holds ?_ ?_
  · exact memWf_restartLanes h
  · dsimp only
    split
    · exact memWf_shutDown (ite_holds (memWf_abortChange h) (memWf_toStop (memWf_abortChange h)))
    · exact memWf_mk (memWf_abortChange (ite_holds h (memWf_toStop h)))
    · exact ite_holds (memWf_mkLanes h (fun _ _ hl => hl)) (memWf_enterWarmAt h)
    · exact h

theorem memWf_dropPower {s : State} {k : Option RecKey} (h : s.memWf) : (s.dropPower k).memWf := memWf_mk (memWf_discardKeys h)

theorem memWf_commitPower {s : State} {t : Nat} (h : s.memWf) : (s.commitPower t).memWf := by
  unfold State.commitPower
  split
  · exact ite_holds (memWf_dropPower h) (ite_holds h (memWf_mk (memWf_settledAll (memWf_putPower h))))
  · exact h

theorem dataWf_leaveStop {p : Program} {old : Mode} {rule : StopRule} (hp : p.dataWf) : (p.leaveStop old rule).dataWf :=
  ite_holds (hp.same rfl) (hp.same rfl)

theorem memWf_closeAll {s : State} (h : s.memWf) : s.closeAll.memWf := memWf_closeT1 (memWf_mkLanes h (fun _ _ hl => (dataWf_close hl).same rfl))

theorem memWf_toMode {s : State} {m : Mode} {cause : Nat} {o : Origin} (h : s.memWf) : (s.toMode m cause o).memWf := by
  unfold State.toMode
  split
  · exact memWf_toStop h
  · exact memWf_mkLanes (memWf_mk (memWf_mk (memWf_mk (ite_holds (memWf_closeAll h) h)))) (fun _ _ hl => (dataWf_leaveStop hl).same rfl)
  · exact memWf_mkLanes (memWf_mk (memWf_mk (memWf_mk (memWf_standbyFalls (memWf_abortChange h))))) (fun _ _ hl => (dataWf_leaveStop hl).same rfl)

theorem memWf_commitSealStop {s : State} (h : s.memWf) : s.commitSealStop.memWf := ite_holds (memWf_toStop h) h

theorem memWf_commitSeals {s : State} (h : s.memWf) : s.commitSeals.memWf := by
  unfold State.commitSeals
  extract_lets old
  split
  · exact h
  · extract_lets changed opens s1 s2 s3 _ s4
    have h2 : s2.memWf := ite_holds (memWf_abortChange h) h
    have h3 : s3.memWf := ite_holds (foldl_holds h2 (fun _ _ hu => memWf_endSession hu)) h2
    have h4 : s4.memWf := ite_holds (memWf_mk h3) h3
    split
    · split
      · exact ite_holds (memWf_mk (memWf_mkImages h4)) h4
      · exact h4
    · exact h4

theorem memWf_commitPins {s : State} (h : s.memWf) : s.commitPins.memWf := by
  unfold State.commitPins
  split <;> exact h

theorem memWf_pinRequest {s : State} (h : s.memWf) : s.pinRequest.memWf := by
  unfold State.pinRequest
  refine ite_holds ?_ ?_
  · exact h
  · refine memWf_mkImages ?_
    split
    · exact ite_holds h (memWf_discardKeys h)
    · exact h

theorem memWf_toModeAt {s : State} {m : Mode} {t : Nat} {o : Origin} (h : s.memWf) : (s.toModeAt m t o).memWf :=
  ite_holds (memWf_mapLanes (memWf_toMode h) (fun _ hl => hl)) (memWf_toMode h)

theorem memWf_dropMode {s : State} {k : Option RecKey} (h : s.memWf) : (s.dropMode k).memWf := memWf_mk (memWf_discardKeys h)

theorem memWf_commitMode {s : State} {t : Nat} (h : s.memWf) : (s.commitMode t).memWf := by
  unfold State.commitMode
  split
  · exact ite_holds (memWf_dropMode h) (ite_holds (memWf_mk (memWf_settledAll (ite_holds h (memWf_toModeAt h)))) h)
  · exact h

theorem memWf_commitStep {s : State} (h : s.memWf) : s.commitStep.memWf :=
  ite_holds (memWf_mk (memWf_mk (ite_holds h (memWf_mapLanes h (fun _ hl => hl))))) h

theorem memWf_commitArm {s : State} {t : Nat} (h : s.memWf) : (s.commitArm t).memWf := by
  unfold State.commitArm
  split
  · exact ite_holds (memWf_dropArm h) h
  · exact h

theorem memWf_commitWall {s : State} {t : Nat} (h : s.memWf) : (s.commitWall t).memWf := by
  unfold State.commitWall
  split <;> exact h

theorem memWf_dropUntrusted {s : State} {keys : List Bytes} (h : s.memWf) : (s.dropUntrusted keys).memWf :=
  foldl_holds h (fun _ _ hu => ite_holds hu hu)

theorem memWf_commitKeys {s : State} (h : s.memWf) : s.commitKeys.memWf := by
  unfold State.commitKeys
  split
  · exact memWf_dropUntrusted h
  · exact h

theorem memWf_commitShadow {s : State} (h : s.memWf) : s.commitShadow.memWf := by
  refine foldl_holds h (fun u i hu => ?_)
  extract_lets l lead _ u1 u2
  have h1 : u1.memWf := memWf_mk (memWf_modLane hu (fun _ _ => (State.memWf.lane hu _).same rfl))
  have h2 : u2.memWf := memWf_mk (memWf_mk h1)
  exact ite_holds (ite_holds (memWf_mk (memWf_clearLockWords h2)) h1) hu

theorem memWf_commitStash {s : State} (h : s.memWf) : s.commitStash.memWf := ite_holds (memWf_mkLanes h (fun _ _ hl => hl)) h

theorem memWf_captureCycle {s : State} (h : s.memWf) : s.captureCycle.memWf := ite_holds h h

theorem memWf_changePoint {s : State} {t passed aborts : Nat} (h : s.memWf) : (s.changePoint t passed aborts).memWf := by
  unfold State.changePoint
  extract_lets s1 s2 _
  have h1 : s1.memWf := foldl_holds h (fun _ _ hu => ite_holds (ite_holds (memWf_abortChange hu) (ite_holds (memWf_commitChange (memWf_settledKey
    hu)) (memWf_abortChange hu))) hu)
  have h2 : s2.memWf := by
    unfold s2
    split
    · exact ite_holds (memWf_commitProfile h1) h1
    · exact h1
  exact ite_holds h2 (memWf_mk h2)

theorem memWf_changeMissed {s : State} {t : Nat} (h : s.memWf) : (s.changeMissed t).memWf := by
  unfold State.changeMissed
  split
  · exact ite_holds (ite_holds h (memWf_standbyFalls h)) h
  · exact h

theorem memWf_intakeModes {s : State} {t : Nat} (h : s.memWf) : (s.intakeModes t).memWf := ite_holds (memWf_mk (memWf_intakeCommands h)) h

theorem memWf_shadowsFollow {s : State} {n : Nat} (h : s.memWf) : (s.shadowsFollow n).memWf :=
  memWf_mapLanes h (fun _ hl => ite_holds (hl.same rfl) hl)

theorem memWf_firstCommit {s : State} {i : LaneId} {v : Vector} {ex : List (LaneId × Cause)} {row : Option Nat} (h : s.memWf) :
    (s.firstCommit i v ex row).memWf := by
  unfold State.firstCommit
  extract_lets t isCP m box passes aborts s1 s2 clean s2s s3 s4 s5 s6 held outs p _ wrote s6b s7 s8 s9 exec s9' s10 tooMany s11 _ s12 s12b s13
  have h2 : s2.memWf := memWf_applyBallot (memWf_mk (memWf_closeT1 h))
  have h2s : s2s.memWf := memWf_commitPins (memWf_commitSeals (memWf_commitSealStop h2))
  have h3 : s3.memWf := ite_holds (memWf_commitArm (memWf_commitMode (memWf_commitPower h2s))) h2s
  have h4 : s4.memWf := memWf_pinRequest (memWf_mk (memWf_commitKeys (memWf_commitWall (memWf_commitStep h3))))
  have h5 : s5.memWf := ite_holds (memWf_pairDecision h4) h4
  have h6 : s6.memWf := ite_holds (memWf_switchover h5) h5
  have h6b : s6b.memWf := memWf_keepRings (memWf_shadowsFollow h6)
  have h8 : s8.memWf := memWf_mk (memWf_mk (memWf_mk h6b))
  have h9 : s9.memWf := ite_holds (memWf_writeBlocks (memWf_captureCopy (memWf_commitReady (memWf_commitShadow (memWf_changeMissed
    (ite_holds (memWf_changePoint h8) h8)))))) h8
  have h9' : s9'.memWf := memWf_mapVoting h9 (fun _ hl => hl)
  have h10 : s10.memWf := ite_holds (memWf_intake h9') (ite_holds (memWf_intake h9') (ite_holds (memWf_intakeModes h9') h9'))
  have h11 : s11.memWf := foldl_holds h10 (fun _ _ hu => hu)
  have h12 : s12.memWf := h11
  have h12b : s12b.memWf := ite_holds h12 (memWf_tellStaged h12)
  have h13 : s13.memWf := memWf_captureCycle (memWf_commitStash h12b)
  exact memWf_flushEvents h13

theorem dataWf_commit {l : Lane} {i : LaneId} {s : State} {p : Snapshot} {straddled : Bool} (hl : l.dataWf) : (l.commit i s p straddled).dataWf :=
  ite_holds (hl.same rfl) (hl.same rfl)

theorem memWf_laneCommit {s : State} {i : LaneId} {straddled : Bool} (h : s.memWf) : (s.laneCommit i straddled).memWf :=
  memWf_mk (memWf_modLane h (fun _ => dataWf_commit))

theorem memWf_amend {s : State} {p words : Snapshot} {ex : List (LaneId × Cause)} {row : Option Nat} (h : s.memWf) : (s.amend p words ex row).memWf
    :=
  memWf_flushEvents (memWf_mk (memWf_mk (memWf_mk (memWf_applyBallot h))))

theorem memWf_commitLane {s : State} {i : LaneId} {v : Vector} {ex : List (LaneId × Cause)} {row : Option Nat} {straddled : Bool} (h : s.memWf) :
    (s.commitLane i v ex row straddled).memWf := by
  unfold State.commitLane
  extract_lets t _ s1
  have h1 : s1.memWf := ite_holds (ite_holds h (memWf_amend h)) (memWf_firstCommit h)
  exact ite_holds (memWf_laneCommit h1) h1

theorem memWf_settleVote {s : State} {i : LaneId} (h : s.memWf) : (s.settleVote i).memWf := by
  unfold State.settleVote
  refine ite_holds ?_ ?_
  · exact memWf_ownIsolation h
  · split
    · exact memWf_commitLane h
    · exact ite_holds (memWf_laneCommit (memWf_amend h)) (memWf_commitLane h)
    · exact memWf_isolate h
    · exact memWf_checkSafeOff (foldl_holds h (fun _ _ hu => memWf_isolate hu))

theorem dataWf_pend {l : Lane} {t : Nat} {f : Force} (hl : l.dataWf) : (l.pend t f).dataWf := ite_holds hl (hl.same rfl)

theorem dataWf_pendAll {l : Lane} {t : Nat} {fs : List Force} (hl : l.dataWf) : (l.pendAll t fs).dataWf :=
  foldl_holds hl (fun _ _ hu => dataWf_pend hu)

theorem memWf_reevaluate {s : State} {i : LaneId} {new : List (Nat × Nat)} (h : s.memWf) : (s.reevaluate i new).memWf :=
  ite_holds h (memWf_modLane h (fun _ => dataWf_pendAll))

theorem memWf_commandForce {s : State} {es : List Nat} (h : s.memWf) : (s.commandForce es).memWf :=
  ite_holds (memWf_mapVoting h (fun _ => dataWf_pendAll)) h

theorem memWf_payloadIn {s : State} {i : LaneId} {id : Nat} {new : BitVec 8192} {stamp : Nat} (h : s.memWf) : (s.payloadIn i id new stamp).memWf :=
    by
  unfold State.payloadIn
  extract_lets m x old ch s1 s2 mapped seen _
  have h1 : s1.memWf := memWf_modLane h (fun _ hl => dataWf_pendAll (hl.same rfl))
  have h2 : s2.memWf := memWf_reevaluate h1
  exact ite_holds (memWf_mk (memWf_mk h2)) h2

theorem memWf_inputIn {s : State} {i : LaneId} {input : Nat} {level : Bool} (h : s.memWf) : (s.inputIn i input level).memWf :=
  ite_holds (memWf_reevaluate (memWf_modLane (memWf_modLane h (fun _ hl => hl)) (fun _ hl => hl))) (memWf_modLane h (fun _ hl => hl))

theorem dataWf_misses {l : Lane} {js : List LaneId} (hl : l.dataWf) : (l.misses js).dataWf := foldl_holds hl (fun _ _ hu => hu.same rfl)

theorem memWf_countMissing {s : State} {i : LaneId} (h : s.memWf) : (s.countMissing i).memWf := memWf_modLane h (fun _ => dataWf_misses)

theorem memWf_finishVotes {s : State} (h : s.memWf) : s.finishVotes.memWf :=
  foldl_holds h (fun _ _ hu => ite_holds (memWf_settleVote (memWf_countMissing hu)) (ite_holds (memWf_ownIsolation hu) hu))

theorem memWf_supplyTest {s : State} {x : SupplySense} (h : s.memWf) : (s.supplyTest x).memWf :=
  ite_holds h (ite_holds (memWf_mk (memWf_mkLanes h (fun _ _ hl => ite_holds (hl.same rfl) hl))) h)

theorem memWf_intakeCrcs {s : State} (h : s.memWf) : s.intakeCrcs.memWf := by
  unfold State.intakeCrcs
  extract_lets e _
  split
  · exact ite_holds (ite_holds h (memWf_oddLane h)) (ite_holds (memWf_oddLane h) (ite_holds (memWf_oddLane h) h))
  · exact ite_holds h h
  · exact h

theorem memWf_applyLinkRule {s : State} (h : s.memWf) : s.applyLinkRule.memWf :=
  ite_holds (foldl_holds h (fun _ _ hu => memWf_modLane hu (fun _ hl => hl))) h

theorem memWf_verdictsLack {s : State} (h : s.memWf) : s.verdictsLack.memWf := by
  unfold State.verdictsLack
  split
  · exact ite_holds (memWf_isolate (memWf_modLane h (fun _ hl => hl))) h
  · exact h

theorem dataWf_plan {l : Lane} {s : State} {i : LaneId} {t : Nat} (hl : l.dataWf) : (l.plan s i t).dataWf :=
  ite_holds (dataWf_close hl) (hl.same rfl)

theorem memWf_countStep {s : State} (h : s.memWf) : s.countStep.memWf := ite_holds h h

theorem memWf_shadowFails {s : State} {i : LaneId} {c : Cause} (h : s.memWf) : (s.shadowFails i c).memWf :=
  memWf_mk (memWf_modLane h (fun _ hl => hl))

theorem memWf_compareShadow {s : State} {t : Nat} (h : s.memWf) : (s.compareShadow t).memWf := by
  unfold State.compareShadow
  refine foldl_holds h ?_
  intro _ _ hu
  refine ite_holds ?_ ?_
  · split
    · exact memWf_shadowFails hu
    · exact ite_holds hu (memWf_shadowFails hu)
    · exact hu
  · exact hu

theorem memWf_drift {s : State} {d : Lanes ℤ} (h : s.memWf) : (s.drift d).memWf :=
  memWf_mkLanes (memWf_mk (memWf_mkLanes h (fun _ _ hl => hl))) (fun _ _ hl => hl)

theorem memWf_plannedStart {s0 : State} {t : Nat} {supply : SupplySense} {d : Lanes ℤ} (h : s0.memWf) : (s0.plannedStart t supply d).memWf := by
  unfold State.plannedStart
  extract_lets s s1 s2 s3 s4 s5
  have hs : s.memWf := memWf_expireReplies (memWf_finishVotes h)
  have h1 : s1.memWf := memWf_supplyTest (memWf_drift hs)
  have h2 : s2.memWf := ite_holds (memWf_intakeCrcs h1) h1
  have h3 : s3.memWf := memWf_verdictsLack (memWf_applyLinkRule h2)
  have h4 : s4.memWf := memWf_countStep h3
  have h5 : s5.memWf := memWf_mkLanes (memWf_mk h4) (fun _ _ hl => ite_holds (dataWf_plan hl) hl)
  exact ite_holds h (ite_holds hs (memWf_compareShadow h5))

theorem memWf_voteVector {s : State} {dst src : LaneId} {f : LinkFault} (h : s.memWf) : (s.voteVector dst src f).memWf := by
  unfold State.voteVector
  split
  · exact memWf_modLane h (fun _ hl => hl)
  · exact ite_holds (memWf_modLane h (fun _ hl => hl)) h
  · exact h

theorem memWf_faultNotice {s : State} {dst src : LaneId} {f : LinkFault} (h : s.memWf) : (s.faultNotice dst src f).memWf := by
  unfold State.faultNotice
  split
  · exact memWf_modLane h (fun _ hl => hl)
  · exact ite_holds (memWf_modLane h (fun _ hl => hl)) h
  · exact h

theorem memWf_verdictWord {s : State} {dst src : LaneId} {f : LinkFault} (h : s.memWf) : (s.verdictWord dst src f).memWf := by
  unfold State.verdictWord
  extract_lets b late
  split
  · exact h
  · exact memWf_modLane h (fun _ hl => hl)
  · refine ite_holds ?_ ?_
    · exact h
    · refine ite_holds ?_ ?_
      · exact memWf_modLane h (fun _ hl => hl)
      · split
        · exact ite_holds (memWf_modLane h (fun _ hl => hl)) h
        · exact h
  · exact ite_holds (memWf_modLane h (fun _ hl => hl)) h
  · exact h

theorem memWf_voteCommit {s : State} {i : LaneId} (h : s.memWf) : (s.voteCommit i).memWf := ite_holds (memWf_settleVote h) h

theorem memWf_voteDeadline {s : State} {i : LaneId} (h : s.memWf) : (s.voteDeadline i).memWf :=
  ite_holds (memWf_settleVote (memWf_countMissing h)) h

theorem dataWf_receiveMini {l : Lane} {src : LaneId} {r : Received} {now : Nat} (hl : l.dataWf) : (l.receiveMini src r now).dataWf :=
  ite_holds hl (hl.same rfl)

theorem memWf_miniJoin {s : State} {i src : LaneId} {f : LinkFault} (h : s.memWf) : (s.miniJoin i src f).memWf := by
  unfold State.miniJoin
  extract_lets r s1
  have h1 : s1.memWf := ite_holds (memWf_modLane h (fun _ hl => hl)) h
  refine ite_holds ?_ ?_
  · exact h
  · split
    · exact memWf_modLane h (fun _ hl => hl)
    · exact ite_holds h (ite_holds h1 (memWf_modLane h1 (fun _ => dataWf_receiveMini)))
    · exact h

theorem memWf_miniCommit {s : State} {forced : List Group} {ex : List (LaneId × Cause)} {row : Option Nat} (h : s.memWf) : (s.miniCommit forced ex
    row).memWf :=
  memWf_flushEvents (memWf_mk (memWf_mk (memWf_mk (memWf_keepRings (memWf_shadowsFollow (memWf_applyBallot h))))))

theorem dataWf_miniDone {l : Lane} {i : LaneId} {s : State} (hl : l.dataWf) : (l.miniDone i s).dataWf := (hl.same rfl)

theorem memWf_miniDecide {s0 : State} {i : LaneId} (h : s0.memWf) : (s0.miniDecide i).memWf := by
  unfold State.miniDecide
  extract_lets s gs b held bad good faults k forced row ex s1 s1'
  have hs : s.memWf := memWf_modLane h (fun _ => dataWf_misses)
  have h1 : s1.memWf := ite_holds hs (memWf_amend hs)
  have h1' : s1'.memWf := memWf_miniCommit hs
  split
  · exact h
  · exact ite_holds (memWf_ownIsolation hs) (memWf_isolate hs)
  · refine ite_holds (memWf_ownIsolation hs) (ite_holds (memWf_isolate hs) (ite_holds ?_ (ite_holds ?_ ?_)))
    · exact ite_holds (memWf_modLane h1 (fun _ hl => dataWf_miniDone hl)) h1
    · exact memWf_modLane hs (fun _ hl => hl.same rfl)
    · exact ite_holds (memWf_modLane h1' (fun _ hl => dataWf_miniDone hl)) h1'

theorem memWf_forceDrop {s : State} {i : LaneId} {f : Force} (h : s.memWf) : (s.forceDrop i f).memWf := by
  unfold State.forceDrop
  split
  · exact h
  · exact ite_holds h (memWf_modLane h (fun _ hl => hl))

theorem memWf_isolationEnd {s : State} {i : LaneId} (h : s.memWf) : (s.isolationEnd i).memWf :=
  ite_holds (ite_holds (memWf_laneEvent (memWf_modLane h (fun _ hl => hl))) (memWf_applyBallot h)) h

theorem memWf_watchdog {s : State} {i : LaneId} (h : s.memWf) : (s.watchdog i).memWf :=
  ite_holds (memWf_isolate (memWf_modLane h (fun _ hl => hl))) h

theorem memWf_elementDrop {s : State} {i : LaneId} {d : DynSignal} (h : s.memWf) : (s.elementDrop i d).memWf :=
  ite_holds (memWf_checkSafeOff (memWf_modLane h (fun _ hl => hl))) h

theorem memWf_reducedExpiry {s : State} (h : s.memWf) : s.reducedExpiry.memWf := ite_holds h h

theorem memWf_reducedWarn {s : State} (h : s.memWf) : s.reducedWarn.memWf := ite_holds h h

theorem memWf_countMiss {s : State} {lanes : List LaneId} {j : LaneId} (h : s.memWf) : (s.countMiss lanes j).memWf :=
  foldl_holds h (fun _ _ hu => memWf_modLane hu (fun _ hl => hl))

theorem memWf_checkTelegram {s : State} {lanes : List LaneId} {host port unit stream : Nat} {p q : Bool} {f : RxFault} (h : s.memWf) :
    (s.checkTelegram lanes host port unit stream p q f).1.memWf := by
  unfold State.checkTelegram
  extract_lets found s1 o
  have h1 : s1.memWf := foldl_holds h (fun _ _ hu => memWf_modLane hu (fun _ hl => hl))
  split
  · split
    · exact h1
    · exact memWf_mk (foldl_holds h1 (fun _ _ hu => memWf_modLane hu (fun _ hl => hl)))
  · exact memWf_mk (foldl_holds h1 (fun _ _ hu => memWf_countMiss hu))

/-! ## The host commands -/

theorem memWf_lapseSession {s : State} {n : Nat} (h : s.memWf) : (s.lapseSession n).memWf := by
  unfold State.lapseSession
  split
  · exact ite_holds (memWf_endSession h) h
  · exact h

theorem memWf_lapseLock {s : State} (h : s.memWf) : s.lapseLock.memWf := by
  unfold State.lapseLock
  split
  · exact ite_holds (memWf_dropLock h) h
  · exact h

theorem memWf_lapseDue {s : State} (h : s.memWf) : s.lapseDue.memWf := memWf_lapseLock (foldl_holds h (fun _ _ hu => memWf_lapseSession hu))

theorem memWf_changeNonce {s : State} (h : s.memWf) : s.changeNonce.memWf := ite_holds h h

theorem memWf_acceptSessionOpen {s : State} {c : Cmd} (h : s.memWf) : (s.acceptSessionOpen c).st.memWf := by
  unfold State.acceptSessionOpen
  dsimp only
  split
  · exact h
  · split
    · exact h
    · split
      · exact h
      · split
        · exact h
        · split <;> exact h

theorem memWf_acceptSessionClose {s : State} {c : Cmd} (h : s.memWf) : (s.acceptSessionClose c).st.memWf := memWf_firstOf h h

theorem memWf_acceptSessionKeep {s : State} {c : Cmd} (h : s.memWf) : (s.acceptSessionKeep c).st.memWf := by
  unfold State.acceptSessionKeep
  split
  · exact h
  · exact memWf_firstOf h h

theorem memWf_acceptLockAcquire {s : State} {c : Cmd} (h : s.memWf) : (s.acceptLockAcquire c).st.memWf := memWf_firstOf h h

theorem memWf_acceptLockRelease {s : State} {c : Cmd} (h : s.memWf) : (s.acceptLockRelease c).st.memWf := memWf_firstOf h (memWf_dropLock h)

theorem memWf_acceptCreditSet {s : State} {c : Cmd} (h : s.memWf) : (s.acceptCreditSet c).st.memWf := memWf_firstOf h h

theorem memWf_acceptRouteSet {s : State} {c : Cmd} (h : s.memWf) : (s.acceptRouteSet c).st.memWf := memWf_firstOf h h

theorem memWf_removeRouteSet {s : State} {r : Nat} (h : s.memWf) : (s.removeRouteSet r).memWf := memWf_mk (memWf_settledAll h)

theorem memWf_acceptRouteCancel {s : State} {c : Cmd} (h : s.memWf) : (s.acceptRouteCancel c).st.memWf :=
  memWf_firstOf h (memWf_commandForce (memWf_mk (memWf_removeRouteSet h)))

theorem memWf_acceptRouteReleaseTimed {s : State} {c : Cmd} (h : s.memWf) : (s.acceptRouteReleaseTimed c).st.memWf := memWf_firstOf h h

theorem memWf_acceptRouteQuery {s : State} {c : Cmd} (h : s.memWf) : (s.acceptRouteQuery c).st.memWf := memWf_firstOf h h

theorem memWf_acceptSignalStop {s : State} {c : Cmd} (h : s.memWf) : (s.acceptSignalStop c).st.memWf := memWf_firstOf h (memWf_commandForce h)

theorem memWf_acceptAllStop {s : State} {c : Cmd} (h : s.memWf) : (s.acceptAllStop c).st.memWf := memWf_firstOf h (memWf_commandForce h)

theorem memWf_acceptPointMove {s : State} {c : Cmd} (h : s.memWf) : (s.acceptPointMove c).st.memWf := memWf_firstOf h h

theorem memWf_acceptPointBlock {s : State} {c : Cmd} (h : s.memWf) : (s.acceptPointBlock c).st.memWf := memWf_firstOf h (memWf_commandForce h)

theorem memWf_acceptPointUnblock {s : State} {c : Cmd} (h : s.memWf) : (s.acceptPointUnblock c).st.memWf := memWf_firstOf h h

theorem memWf_acceptSectionReset {s : State} {c : Cmd} (h : s.memWf) : (s.acceptSectionReset c).st.memWf := memWf_firstOf h h

theorem memWf_acceptElementQuery {s : State} {c : Cmd} (h : s.memWf) : (s.acceptElementQuery c).st.memWf := memWf_firstOf h h

theorem memWf_acceptSnapshotRead {s : State} {c : Cmd} (h : s.memWf) : (s.acceptSnapshotRead c).st.memWf := by
  unfold State.acceptSnapshotRead
  dsimp only
  split
  · exact h
  · exact memWf_firstOf h h

theorem memWf_acceptStatusRead {s : State} {c : Cmd} (h : s.memWf) : (s.acceptStatusRead c).st.memWf := memWf_firstOf h h

theorem memWf_acceptPaceRead {s : State} {c : Cmd} (h : s.memWf) : (s.acceptPaceRead c).st.memWf := memWf_firstOf h h

theorem memWf_acceptCountersRead {s : State} {c : Cmd} (h : s.memWf) : (s.acceptCountersRead c).st.memWf := memWf_firstOf h h

theorem memWf_dropWaitingMode {s : State} (h : s.memWf) : s.dropWaitingMode.memWf := memWf_mk (memWf_settledAll h)

theorem memWf_acceptModeSet {s : State} {c : Cmd} (h : s.memWf) : (s.acceptModeSet c).st.memWf :=
  memWf_firstOf h (ite_holds (memWf_mk (memWf_dropWaitingMode h)) (memWf_mk (memWf_dropWaitingMode h)))

theorem memWf_acceptProfileSelect {s : State} {c : Cmd} (h : s.memWf) : (s.acceptProfileSelect c).st.memWf :=
  memWf_firstOf h (memWf_mkImages (memWf_settledAll h))

theorem memWf_dropCopy {s : State} {k : Nat} (h : s.memWf) : (s.dropCopy k).memWf := by
  unfold State.dropCopy
  split
  · exact memWf_releaseGuard (memWf_settledAll h)
  · exact h

theorem memWf_acceptStageOpen {s : State} {c : Cmd} (h : s.memWf) : (s.acceptStageOpen c).st.memWf :=
  memWf_firstOf h (memWf_mk (memWf_mkImages (memWf_setRegion (memWf_dropCopy h) rfl)))

theorem memWf_acceptStageWrite {s : State} {c : Cmd} (h : s.memWf) : (s.acceptStageWrite c).st.memWf := by
  unfold State.acceptStageWrite
  extract_lets p k g off len high direct claim copied
  refine memWf_firstOf h ?_
  split
  · exact memWf_mkImages (memWf_setRegion h (Mem.wf_store _ _ (State.memWf.staging h _)))
  · exact memWf_mkImages (memWf_claimGuard h)

theorem memWf_acceptStageVerify {s : State} {c : Cmd} (h : s.memWf) : (s.acceptStageVerify c).st.memWf := by
  unfold State.acceptStageVerify
  refine memWf_firstOf h ?_
  split <;> exact h

theorem memWf_tellPeer {s : State} {kind : Nat} {c : Cmd} (h : s.memWf) : (s.tellPeer kind c).memWf := ite_holds (memWf_sendBoth h) h

theorem memWf_tellArm {s : State} {k : Nat} (h : s.memWf) : (s.tellArm k).memWf := ite_holds (memWf_sendBoth h) h

theorem memWf_acceptChangeArm {s : State} {c : Cmd} (h : s.memWf) : (s.acceptChangeArm c).st.memWf := ite_holds (memWf_tellArm h) h

theorem memWf_tellAbort {s : State} {k : Nat} (h : s.memWf) : (s.tellAbort k).memWf := ite_holds (memWf_sendBoth h) h

theorem memWf_acceptChangeAbort {s : State} {c : Cmd} (h : s.memWf) : (s.acceptChangeAbort c).st.memWf := memWf_firstOf h (memWf_tellAbort h)

theorem memWf_acceptParamWrite {s : State} {c : Cmd} (h : s.memWf) : (s.acceptParamWrite c).st.memWf := by
  unfold State.acceptParamWrite
  dsimp only
  split
  · exact h
  · split
    · exact h
    · split
      · exact h
      · exact memWf_firstOf h h

theorem memWf_acceptParamRead {s : State} {c : Cmd} (h : s.memWf) : (s.acceptParamRead c).st.memWf := memWf_firstOf h h

theorem memWf_dropWaitingPower {s : State} (h : s.memWf) : s.dropWaitingPower.memWf := memWf_mk (memWf_settledAll h)

theorem memWf_acceptPowerStateSet {s : State} {c : Cmd} (h : s.memWf) : (s.acceptPowerStateSet c).st.memWf :=
  memWf_firstOf h (memWf_standbyFalls (ite_holds (memWf_mk (memWf_dropWaitingPower h)) (memWf_mk (memWf_dropWaitingPower h))))

theorem memWf_acceptDuskRun {s : State} {c : Cmd} (h : s.memWf) : (s.acceptDuskRun c).st.memWf :=
  memWf_firstOf h (memWf_mk (memWf_dropWaitingPower h))

theorem memWf_acceptRepairFuse {s : State} {c : Cmd} (h : s.memWf) : (s.acceptRepairFuse c).st.memWf :=
  memWf_firstOf h (memWf_modLane h (fun _ hl => hl))

theorem memWf_acceptAlmanacCursor {s : State} {c : Cmd} (h : s.memWf) : (s.acceptAlmanacCursor c).st.memWf := memWf_firstOf h h

theorem memWf_acceptAlmanacRead {s : State} {c : Cmd} (h : s.memWf) : (s.acceptAlmanacRead c).st.memWf := by
  unfold State.acceptAlmanacRead
  refine memWf_firstOf h ?_
  split
  · exact memWf_xramStore h
  · exact h

theorem memWf_acceptAlmanacQuota {s : State} {c : Cmd} (h : s.memWf) : (s.acceptAlmanacQuota c).st.memWf := by
  unfold State.acceptAlmanacQuota
  dsimp only
  split
  · exact memWf_firstOf h h
  · exact h

theorem memWf_acceptTimeSet {s : State} {c : Cmd} (h : s.memWf) : (s.acceptTimeSet c).st.memWf := by
  unfold State.acceptTimeSet
  refine memWf_firstOf h ?_
  refine memWf_mk ?_
  split <;> exact h

theorem dataWf_stashPut {l : Lane} {r : Record} (hl : l.dataWf) : (l.stashPut r).dataWf := by
  unfold Lane.stashPut
  refine ite_holds ?_ ?_
  · exact hl.same rfl
  · dsimp only
    split <;> exact hl.same rfl

theorem dataWf_noteLoss {l : Lane} {writer wall now : Nat} {timeUnset : Bool} (hl : l.dataWf) : (l.noteLoss writer wall now timeUnset).dataWf := by
  unfold Lane.noteLoss
  extract_lets l1
  have h1 : l1.dataWf := foldl_holds (hl.same rfl) (fun _ _ => dataWf_stashPut)
  exact ite_holds h1 hl

theorem dataWf_stashAppend {l : Lane} {i : LaneId} {q : Queued} {now : Nat} {timeUnset : Bool} (hl : l.dataWf) : (l.stashAppend i q now
    timeUnset).dataWf := by
  unfold Lane.stashAppend
  split
  · exact hl.same rfl
  · exact dataWf_noteLoss (foldl_holds (hl.same rfl) (fun _ _ hu => dataWf_stashPut hu))

theorem memWf_noteQueueLoss {s : State} {i : LaneId} (h : s.memWf) : (s.noteQueueLoss i).memWf :=
  ite_holds (memWf_setLane h (dataWf_enqueue (((State.memWf.lane h _).same rfl)))) h

theorem memWf_resaveStash {s : State} {i : LaneId} (h : s.memWf) : (s.resaveStash i).memWf := ite_holds (memWf_modLane h (fun _ hl => hl)) h

theorem memWf_readout {s : State} (h : s.memWf) : s.readout.memWf := ite_holds (memWf_xramStore h) h

theorem memWf_almanacAppend {s : State} {i : LaneId} {fault : AppendFault} (h : s.memWf) : (s.almanacAppend i fault).memWf := by
  unfold State.almanacAppend
  extract_lets _
  split
  · exact h
  · refine ite_holds ?_ ?_
    · exact h
    · refine ite_holds ?_ ?_
      · exact memWf_readout (memWf_noteQueueLoss (memWf_resaveStash (memWf_modLane (memWf_modLane h (fun _ hl => hl)) (fun _ =>
          dataWf_stashAppend))))
      · split
        · exact memWf_readout (memWf_noteQueueLoss (memWf_mk (memWf_modLane h (fun _ hl => hl))))
        · exact h

theorem memWf_openRecordClose {s : State} {seq : Nat} (h : s.memWf) : (s.openRecordClose seq).memWf :=
  ite_holds (memWf_mapLanes h (fun _ hl => hl)) h

theorem memWf_acceptIdentityRead {s : State} {c : Cmd} (h : s.memWf) : (s.acceptIdentityRead c).st.memWf := memWf_firstOf h h

theorem memWf_acceptAttestQuote {s : State} {c : Cmd} (h : s.memWf) : (s.acceptAttestQuote c).st.memWf := by
  unfold State.acceptAttestQuote
  refine memWf_firstOf h ?_
  split
  · exact ite_holds h h
  · exact h

theorem memWf_acceptKeyListUpdate {s : State} {c : Cmd} (h : s.memWf) : (s.acceptKeyListUpdate c).st.memWf := by
  unfold State.acceptKeyListUpdate
  refine memWf_firstOf h ?_
  refine memWf_mk ?_
  split <;> exact h

theorem memWf_toListen {s : State} (h : s.memWf) : s.toListen.memWf := memWf_mk (memWf_toDawn h)

theorem memWf_acceptConstellationRequest {s : State} {c : Cmd} (h : s.memWf) : (s.acceptConstellationRequest c).st.memWf := memWf_firstOf h h

theorem memWf_acceptNdezoStatus {s : State} {c : Cmd} (h : s.memWf) : (s.acceptNdezoStatus c).st.memWf := memWf_firstOf h h

theorem memWf_acceptPortEnable {s : State} {c : Cmd} (h : s.memWf) : (s.acceptPortEnable c).st.memWf := memWf_firstOf h h

/-! ## The NDEZO network, the pair and the diagnosis -/

theorem memWf_raiseEpoch {s : State} {stream epoch : Nat} (h : s.memWf) : (s.raiseEpoch stream epoch).memWf := ite_holds h h

theorem memWf_frameOk {s : State} {is : List LaneId} {port : Nat} {offsetNs : ℤ} (h : s.memWf) : (s.frameOk is port offsetNs).memWf := h

theorem memWf_acceptFrame {s : State} {i : LaneId} {r : RxPending} (h : s.memWf) : (s.acceptFrame i r).memWf := by
  unfold State.acceptFrame
  extract_lets first s0 s1 t1 t2 dup
  have h1 : s1.memWf := ite_holds h h
  have h2 : t2.memWf := memWf_raiseEpoch (memWf_frameOk h)
  refine ite_holds (memWf_frameOk h) (ite_holds (ite_holds (foldl_holds h1 (fun _ _ hu => memWf_modLane hu (fun _ hl => hl))) h1) ?_)
  exact ite_holds (memWf_mk h2) (foldl_holds h2 (fun _ _ hu => memWf_modLane (memWf_payloadIn hu) (fun _ hl => hl)))

theorem memWf_rejectFrame {s : State} {i : LaneId} {r : RxPending} {o : RxOutcome} {missing : List LaneId} (h : s.memWf) : (s.rejectFrame i r o
    missing).memWf :=
  foldl_holds (memWf_modLane (ite_holds h (memWf_mapLanes h (fun _ hl => hl))) (fun _ hl => hl)) (fun _ _ hu => memWf_modLane hu (fun _ hl => hl))

theorem memWf_decideFrame {s : State} {i : LaneId} {r : RxPending} (h : s.memWf) : (s.decideFrame i r).memWf :=
  ite_holds (memWf_acceptFrame (memWf_modLane h (fun _ hl => hl))) (memWf_rejectFrame (memWf_modLane h (fun _ hl => hl)))

theorem memWf_decideReady {s : State} {i : LaneId} (h : s.memWf) : (s.decideReady i).memWf := foldl_holds h (fun _ _ hu => memWf_decideFrame hu)

theorem memWf_rxVerdict {s : State} {dst src : LaneId} {x : Word} {f : LinkFault} (h : s.memWf) : (s.rxVerdict dst src x f).memWf := by
  unfold State.rxVerdict
  split
  · exact ite_holds (memWf_decideReady (memWf_modLane h (fun _ hl => hl))) h
  · exact h

theorem memWf_rxDeadline {s : State} {i : LaneId} {port stream : Nat} (h : s.memWf) : (s.rxDeadline i port stream).memWf :=
  foldl_holds h (fun _ _ hu => memWf_decideFrame hu)

theorem memWf_releaseReply {s : State} {session : Nat} (h : s.memWf) : (s.releaseReply session).memWf := by
  unfold State.releaseReply
  extract_lets lanes _ _ gone
  have hgone : gone.memWf := memWf_mk (memWf_mapLanes h (fun _ hl => hl))
  split
  · exact h
  · split
    · exact h
    · split
      · exact h
      · exact ite_holds (memWf_sendReply hgone) (ite_holds (memWf_txHold hgone) h)

theorem memWf_txValue {s : State} {dst src : LaneId} {host : Bool} {stream : Nat} {isP : Bool} {value : Option Word} (h : s.memWf) : (s.txValue dst
    src host stream isP value).memWf := by
  unfold State.txValue
  extract_lets u due test
  have hu : u.memWf := memWf_expireReplies h
  split
  · exact ite_holds (ite_holds (memWf_releaseReply (memWf_modLane hu (fun _ hl => hl))) (memWf_modLane hu (fun _ hl => hl))) hu
  · exact hu

theorem memWf_takeVerify {u : State} {dst src : LaneId} {w : CheckWord} (h : u.memWf) : (u.takeVerify dst src w).memWf :=
  ite_holds (ite_holds (memWf_releaseReply (memWf_modLane (ite_holds (memWf_modLane h (fun _ hl => hl)) h) (fun _ hl => hl))) (memWf_modLane
    (ite_holds (memWf_modLane h (fun _ hl => hl)) h) (fun _ hl => hl))) h

theorem memWf_txVerify {s : State} {dst src : LaneId} {x : Option Word} (h : s.memWf) : (s.txVerify dst src x).memWf := by
  unfold State.txVerify
  dsimp only
  split
  · exact ite_holds (memWf_takeVerify (memWf_expireReplies h)) (memWf_expireReplies h)
  · exact memWf_expireReplies h

theorem memWf_stepBase {s : State} {d : Int} (h : s.memWf) : (s.stepBase d).memWf :=
  memWf_mkLanes (memWf_of_images h rfl h.regionsWf h.flashWf) (fun _ _ hl => hl)

theorem memWf_slew {s : State} {theta bound : ℤ} (h : s.memWf) : (s.slew theta bound).memWf :=
  memWf_mk (memWf_mkLanes (memWf_mk (memWf_mkLanes h (fun _ _ hl => hl))) (fun _ _ hl => hl))

theorem memWf_stepTo {s : State} {theta : ℤ} (h : s.memWf) : (s.stepTo theta).memWf :=
  memWf_stepBase (memWf_mkLanes (memWf_mk (memWf_mkLanes h (fun _ _ hl => hl))) (fun _ _ hl => hl))

theorem memWf_judged {s : State} {port : Nat} {r : FrameCheck} (h : s.memWf) : (s.judged port r).memWf := ite_holds h h

theorem memWf_takesFrame {s : State} {port stamp len : Nat} {h : FrameHead} {fcsOk cut : Bool} (hs : s.memWf) : (s.takesFrame port stamp len h
    fcsOk cut).1.memWf := by
  unfold State.takesFrame
  split
  · exact memWf_judged hs
  · exact hs

theorem memWf_sendLinks {s : State} {t : Nat} (h : s.memWf) : (s.sendLinks t).memWf := ite_holds (foldl_holds h (fun _ _ hu => hu)) h

theorem memWf_endCycle {s : State} {t : Nat} (h : s.memWf) : (s.endCycle t).memWf := ite_holds (memWf_mk (memWf_toDawn h)) h

theorem memWf_reportReady {s : State} (h : s.memWf) : s.reportReady.memWf := by
  unfold State.reportReady
  split
  · exact ite_holds h h
  · exact h

theorem memWf_cycleBegin {s : State} {t : Nat} (h : s.memWf) : (s.cycleBegin t).memWf :=
  ite_holds (memWf_sendLinks (memWf_mk (memWf_reportReady (memWf_mapLanes (foldl_holds (memWf_endCycle h) (fun _ _ hu => hu)) (fun _ hl => hl))))) h

theorem memWf_abortSwitch {s : State} (h : s.memWf) : s.abortSwitch.memWf := ite_holds (memWf_upsetDiscard (memWf_abortProfile h)) h

theorem memWf_runConstel {s : State} {k cycle : Nat} (h : s.memWf) : (s.runConstel k cycle).memWf :=
  memWf_mk (memWf_mk (memWf_abortSwitch (memWf_abortChange h)))

theorem memWf_applySignal {s : State} {g : Nat × Nat} (h : s.memWf) : (s.applySignal g).memWf := by
  unfold State.applySignal
  split
  · exact h
  · exact memWf_runConstel h
  · exact h
  · exact h

theorem memWf_syncSend {s : State} (h : s.memWf) : s.syncSend.memWf := ite_holds (foldl_holds (memWf_mk (memWf_applySignal h)) (fun _ _ hu => hu)) h

theorem memWf_yieldCold {s : State} {node : Nat} (h : s.memWf) : (s.yieldCold node).memWf := memWf_mk (memWf_toListen h)

theorem memWf_heardFrame {s : State} {port : Nat} {broken : Bool} (h : s.memWf) : (s.heardFrame port broken).memWf := by
  unfold State.heardFrame
  refine ite_holds ?_ ?_
  · split
    · exact ite_holds h h
    · exact ite_holds (memWf_yieldCold h) h
    · exact h
  · exact h

theorem memWf_duplicateId {s : State} {port : Nat} (h : s.memWf) : (s.duplicateId port).memWf := memWf_mk (memWf_toListen h)

theorem memWf_linkFrame {s : State} {port : Nat} {f : LinkFrame} (h : s.memWf) : (s.linkFrame port f).memWf := by
  unfold State.linkFrame
  extract_lets s1 r
  have h1 : s1.memWf := memWf_heardFrame h
  exact ite_holds h1 (ite_holds (memWf_takesFrame h1) (ite_holds (memWf_duplicateId (memWf_takesFrame h1)) (memWf_mk (memWf_takesFrame h1))))

theorem memWf_delayUnknown {s : State} {port : Nat} (h : s.memWf) : (s.delayUnknown port).memWf := ite_holds h h

theorem memWf_forwardSync {s : State} {port : Nat} {f : SyncFrame} (h : s.memWf) : (s.forwardSync port f).memWf := by
  unfold State.forwardSync
  extract_lets out s1 _
  have h1 : s1.memWf := foldl_holds h (fun _ _ hu => hu)
  exact ite_holds (ite_holds (ite_holds (memWf_mk h1) (memWf_mk h1)) h1) h

theorem memWf_dawnMismatch {s : State} {port : Nat} {f : SyncFrame} (h : s.memWf) : (s.dawnMismatch port f).memWf := ite_holds h h

theorem memWf_startAligning {s : State} {port : Nat} {f : SyncFrame} (h : s.memWf) : (s.startAligning port f).memWf := memWf_mk (memWf_toDawn h)

theorem memWf_aligned {s : State} (h : s.memWf) : s.aligned.memWf := ite_holds (memWf_mk (memWf_mk (memWf_toDawn h))) (memWf_mk (memWf_toDawn h))

theorem memWf_leaveDomain {s : State} {port : Nat} {f : SyncFrame} (h : s.memWf) : (s.leaveDomain port f).memWf :=
  memWf_mk (memWf_dawnMismatch (memWf_toListen h))

theorem memWf_hearAnnounce {s : State} {f : SyncFrame} (h : s.memWf) : (s.hearAnnounce f).memWf := ite_holds h h

theorem memWf_hearSignal {s : State} {port : Nat} {f : SyncFrame} (h : s.memWf) : (s.hearSignal port f).memWf := by
  unfold State.hearSignal
  extract_lets s1 s2 _
  have h1 : s1.memWf := memWf_runConstel h
  have h2 : s2.memWf := memWf_toDawn h1
  split
  · exact ite_holds (ite_holds h1 (memWf_mk h2)) (memWf_leaveDomain h)
  · exact h
  · exact memWf_hearAnnounce h

theorem memWf_alignStep {s : State} {port : Nat} {f : SyncFrame} (h : s.memWf) : (s.alignStep port f).memWf := by
  unfold State.alignStep
  extract_lets stopped s1 _
  have h1 : s1.memWf := memWf_mk (memWf_stepTo h)
  split
  · exact ite_holds (memWf_hearAnnounce (memWf_mk h1)) (memWf_hearAnnounce h)
  · next d _ =>
    extract_lets th t1 t2
    have h1 : t1.memWf := ite_holds (memWf_mk (memWf_stepTo h)) (ite_holds h (memWf_slew h))
    exact memWf_hearSignal (ite_holds (memWf_aligned (memWf_mk h1)) (memWf_mk h1))

theorem memWf_adoptPolestar {s : State} {f : SyncFrame} (h : s.memWf) : (s.adoptPolestar f).memWf :=
  ite_holds h (memWf_mk (memWf_mk (ite_holds h h)))

theorem memWf_unusedCopy {s : State} {port : Nat} {f : SyncFrame} (h : s.memWf) : (s.unusedCopy port f).memWf :=
  ite_holds (memWf_hearAnnounce (memWf_mk (ite_holds (memWf_adoptPolestar h) h))) h

theorem memWf_followSync {s : State} {port : Nat} {f : SyncFrame} {d : Nat} (h : s.memWf) : (s.followSync port f d).memWf := by
  unfold State.followSync
  extract_lets n th lower s1 s2 s3 _ s4 _
  have h1 : s1.memWf := ite_holds (memWf_adoptPolestar h) h
  have h2 : s2.memWf := memWf_mk (memWf_mk (memWf_mk h1))
  have h3 : s3.memWf := ite_holds h2 (memWf_slew h2)
  have h4 : s4.memWf := memWf_hearSignal (ite_holds (memWf_mk h3) h3)
  exact ite_holds h (ite_holds h (ite_holds (memWf_mk h4) h4))

theorem memWf_validSync {s : State} {port : Nat} {f : SyncFrame} (h : s.memWf) : (s.validSync port f).memWf := by
  unfold State.validSync
  split
  · exact h
  · exact ite_holds (memWf_alignStep (memWf_startAligning h)) (memWf_dawnMismatch h)
  · exact ite_holds h (memWf_alignStep h)
  · split
    · exact memWf_unusedCopy h
    · exact memWf_followSync h

theorem memWf_syncFrame {s : State} {port : Nat} {f : SyncFrame} (h : s.memWf) : (s.syncFrame port f).memWf := by
  unfold State.syncFrame
  extract_lets s1 r inTime whole s2
  have h1 : s1.memWf := memWf_heardFrame h
  have h2 : s2.memWf := ite_holds (memWf_forwardSync (memWf_takesFrame h1)) (memWf_takesFrame h1)
  exact ite_holds h1 (ite_holds h2 (ite_holds (ite_holds h2 (memWf_duplicateId h2)) (memWf_validSync h2)))

theorem memWf_coldFrame {s : State} {port : Nat} {f : SyncFrame} (h : s.memWf) : (s.coldFrame port f).memWf :=
  ite_holds (memWf_heardFrame h) (ite_holds (memWf_yieldCold (memWf_takesFrame (memWf_heardFrame h))) (memWf_takesFrame (memWf_heardFrame h)))

theorem memWf_openFrame {s : State} {port k : Nat} {f : NdFrame} {x : Slot} (h : s.memWf) : (s.openFrame port k f x).memWf :=
  foldl_holds (foldl_holds h (fun _ _ hu => memWf_modLane hu (fun _ hl => ite_holds hl (hl.same rfl)))) (fun _ _ hu => memWf_decideReady hu)

theorem memWf_dataFrame {s : State} {port : Nat} {f : NdFrame} (h : s.memWf) : (s.dataFrame port f).memWf := by
  unfold State.dataFrame
  extract_lets s1 r s2
  have h1 : s1.memWf := memWf_heardFrame h
  have h2 : s2.memWf := memWf_judged h1
  refine ite_holds h1 ?_
  clear_value s2
  cases r with
  | passes k x => exact ite_holds (memWf_openFrame h2) (memWf_frameOk h2)
  | _ => exact h2

theorem memWf_forwardFrame {s : State} {port : Nat} {f : NdFrame} (h : s.memWf) : (s.forwardFrame port f).memWf := by
  unfold State.forwardFrame
  refine ite_holds ?_ ?_
  · exact h
  · dsimp only
    split
    · exact h
    · exact ite_holds h (foldl_holds h (fun _ _ hu => hu))

theorem memWf_fillBuffer {s : State} {k : Nat} (h : s.memWf) : (s.fillBuffer k).memWf := by
  unfold State.fillBuffer
  split
  · exact h
  · split
    · exact h
    · exact ite_holds (memWf_mapVoting h (fun _ hl => hl)) h

theorem memWf_sendOn {s : State} {k : Nat} {x : Slot} {b : TxBuffer} {n : Nat} (h : s.memWf) : (s.sendOn k x b n).memWf := by
  unfold State.sendOn
  split
  · exact h
  · split
    · exact memWf_txHold h
    · exact ite_holds h (memWf_txHold h)

theorem memWf_slotSend {s : State} {k : Nat} (h : s.memWf) : (s.slotSend k).memWf := by
  unfold State.slotSend
  split
  · exact ite_holds h (memWf_mapLanes (memWf_mk (ite_holds (foldl_holds h (fun _ _ hu => memWf_sendOn hu)) h)) (fun _ hl => hl))
  · exact h

theorem memWf_slotClose {s : State} {stream : Nat} (h : s.memWf) : (s.slotClose stream).memWf := ite_holds (memWf_mapLanes h (fun _ hl => hl)) h

theorem memWf_listenExpiry {s : State} (h : s.memWf) : s.listenExpiry.memWf :=
  ite_holds (foldl_holds (memWf_mk (memWf_stepBase (memWf_mk (memWf_toDawn h)))) (fun _ _ hu => hu)) h

theorem memWf_coldEnd {s : State} (h : s.memWf) : s.coldEnd.memWf := ite_holds (memWf_toDawn h) h

theorem memWf_claimPolestar {s : State} (h : s.memWf) : s.claimPolestar.memWf := ite_holds h h

theorem memWf_leaveStep {s : State} (h : s.memWf) : s.leaveStep.memWf := ite_holds (memWf_mk (memWf_toDawn h)) h

theorem memWf_mergeDomain {s : State} (h : s.memWf) : s.mergeDomain.memWf := ite_holds (memWf_mk (memWf_toListen h)) h

theorem memWf_dawnJoin {s : State} (h : s.memWf) : s.dawnJoin.memWf := ite_holds (memWf_mk (memWf_toDawn h)) h

theorem memWf_dawnFail {s : State} (h : s.memWf) : s.dawnFail.memWf := ite_holds (memWf_toListen h) h

theorem memWf_acceptPairStatus {s : State} {c : Cmd} (h : s.memWf) : (s.acceptPairStatus c).st.memWf := memWf_firstOf h h

theorem memWf_acceptSwitchover {s : State} {c : Cmd} (h : s.memWf) : (s.acceptSwitchover c).st.memWf := memWf_firstOf h (memWf_sendBoth h)

theorem memWf_acceptStandbySync {s : State} {c : Cmd} (h : s.memWf) : (s.acceptStandbySync c).st.memWf := memWf_firstOf h (memWf_sendBoth h)

theorem memWf_acceptPair {s : State} {link : PairLink} {f : PairFrame} (h : s.memWf) : (s.acceptPair link f).1.memWf := by
  unfold State.acceptPair
  split
  · exact h
  · dsimp only
    split
    · exact memWf_mk (memWf_checkTelegram h)
    · exact memWf_checkTelegram h

theorem memWf_heartbeatSend {s : State} {t : Nat} (h : s.memWf) : (s.heartbeatSend t).memWf := ite_holds (memWf_sendBoth h) h

theorem memWf_compareDigest {s : State} {b : Beat} (h : s.memWf) : (s.compareDigest b).memWf := by
  unfold State.compareDigest
  split
  · exact h
  · exact ite_holds h (ite_holds h (ite_holds h h))

theorem memWf_compareStates {s : State} {old : Option Beat} {b : Beat} (h : s.memWf) : (s.compareStates old b).memWf := by
  unfold State.compareStates
  extract_lets fell hold _
  refine ite_holds ?_ ?_
  · exact h
  · refine ite_holds ?_ ?_
    · exact h
    · refine ite_holds ?_ ?_
      · exact h
      · split
        · exact h
        · exact ite_holds h h

theorem memWf_heartbeat {s : State} {link : PairLink} {f : PairFrame} (h : s.memWf) : (s.heartbeat link f).memWf :=
  ite_holds (memWf_acceptPair h) (ite_holds (memWf_compareStates (memWf_compareDigest (memWf_mk (memWf_acceptPair h)))) (memWf_mk (memWf_acceptPair
    h)))

theorem memWf_listenEnd {s : State} (h : s.memWf) : s.listenEnd.memWf := by
  unfold State.listenEnd
  refine ite_holds ?_ ?_
  · refine memWf_tellStaged ?_
    split
    · exact h
    · exact ite_holds h h
    · exact h
  · exact h

theorem memWf_pathSilent {s : State} {p : PairPath} (h : s.memWf) : (s.pathSilent p).memWf := by
  unfold State.pathSilent
  refine ite_holds ?_ ?_
  · exact h
  · split
    · exact ite_holds h h
    · exact ite_holds (ite_holds h h) h

theorem memWf_quarantineEnd {s : State} (h : s.memWf) : s.quarantineEnd.memWf := by
  unfold State.quarantineEnd
  split
  · exact ite_holds h h
  · exact h

theorem memWf_intakeFrame {s : State} {link : PairLink} {f : PairFrame} (h : s.memWf) : (s.intakeFrame link f).memWf :=
  ite_holds (memWf_mk (memWf_acceptPair h)) (memWf_acceptPair h)

theorem memWf_forceFrame {s : State} {link : PairLink} {f : PairFrame} (h : s.memWf) : (s.forceFrame link f).memWf :=
  ite_holds (memWf_commandForce (memWf_acceptPair h)) (memWf_acceptPair h)

theorem memWf_armWith {s : State} {image target c : Nat} (h : s.memWf) : (s.armWith image target c).memWf := by
  unfold State.armWith
  dsimp only
  split
  · exact ite_holds h h
  · exact h

theorem memWf_abortWith {s : State} {image target : Nat} (h : s.memWf) : (s.abortWith image target).memWf := by
  unfold State.abortWith
  split <;> exact h

theorem memWf_changeFrame {s : State} {link : PairLink} {f : PairFrame} (h : s.memWf) : (s.changeFrame link f).memWf := by
  unfold State.changeFrame
  extract_lets r op target image _ _ s1
  have hr : r.1.memWf := memWf_acceptPair h
  have h1 : s1.memWf := memWf_mk hr
  exact ite_holds hr (ite_holds (ite_holds (memWf_tellStaged h1) h1) (ite_holds hr (ite_holds (memWf_armWith hr)
    (ite_holds (memWf_abortWith hr) hr))))

theorem memWf_copyReq {s : State} {link : PairLink} {f : PairFrame} (h : s.memWf) : (s.copyReq link f).memWf := by
  unfold State.copyReq
  extract_lets r kind c _ _ s1
  have h1 : s1.memWf := memWf_mk (memWf_acceptPair h)
  refine ite_holds ?_ ?_
  · exact memWf_acceptPair h
  · split
    · refine ite_holds ?_ ?_
      · exact memWf_acceptPair h
      · split
        · exact memWf_mk (memWf_sendBoth (memWf_acceptPair h))
        · exact memWf_mk (memWf_sendBoth h1)
    · exact ite_holds (memWf_acceptPair h) (ite_holds (memWf_mk (memWf_mk (memWf_acceptPair h))) (ite_holds (memWf_mk (memWf_acceptPair h))
        (memWf_acceptPair h)))
    · exact memWf_acceptPair h

theorem memWf_copyFrame {s : State} {a b : PairFrame} (h : s.memWf) : (s.copyFrame a b).memWf := by
  unfold State.copyFrame
  extract_lets r1 r2 s1 all s2 _ d _
  have h1 : s1.memWf := memWf_acceptPair (memWf_acceptPair h)
  have h2 : s2.memWf := memWf_loadCopy h1
  exact ite_holds h1 (ite_holds (memWf_mk (memWf_mk (memWf_mk h1))) (ite_holds (ite_holds (memWf_mk h2) (memWf_mk (memWf_mk (memWf_mk h1))))
    (memWf_mk h1)))

theorem memWf_catchUp {s : State} (h : s.memWf) : s.catchUp.memWf := ite_holds (ite_holds h h) h

theorem memWf_switchFrame {s : State} {link : PairLink} {f : PairFrame} (h : s.memWf) : (s.switchFrame link f).memWf :=
  ite_holds (memWf_mk (memWf_acceptPair h)) (memWf_acceptPair h)

theorem memWf_epochWritten {s : State} (h : s.memWf) : s.epochWritten.memWf := by
  unfold State.epochWritten
  refine ite_holds ?_ ?_
  · split <;> exact h
  · exact h

theorem memWf_switchAbandoned {s : State} (h : s.memWf) : s.switchAbandoned.memWf := by
  unfold State.switchAbandoned
  split
  · exact ite_holds h h
  · exact h

theorem memWf_switchDueNow {s : State} (h : s.memWf) : s.switchDueNow.memWf := ite_holds h h

theorem memWf_chargeOdd {s : State} {o : Agreement} (h : s.memWf) : (s.chargeOdd o).memWf := by
  unfold State.chargeOdd
  split
  · exact ite_holds (memWf_oddLane h) h
  · exact h

theorem memWf_settleVerify {s : State} {k : Nat} {agreed : Bool} (h : s.memWf) : (s.settleVerify k agreed).memWf := by
  unfold State.settleVerify
  extract_lets m found check s1 kept record _ s2 s3
  have hkept : Mem.wf kept = true := Mem.wf_cutToImage (h.staging k)
  have h1 : s1.memWf := ite_holds h h
  have h2 : s2.memWf := memWf_setRegion (memWf_of_images h1 rfl h1.regionsWf (allWf_listSet h1.flashWf hkept)) hkept
  have hrecord : ∀ u : State, u.memWf → (record u).memWf := fun _ hu => hu
  have h3 : s3.memWf := hrecord _ (memWf_modStaging (memWf_mkImages h1))
  exact ite_holds (memWf_tellStaged (hrecord _ (memWf_modStaging h2))) (ite_holds (memWf_mk (memWf_mkImages h3)) h3)

theorem memWf_verifyComplete {s : State} {k : Nat} {o : Agreement} (h : s.memWf) : (s.verifyComplete k o).memWf :=
  ite_holds (memWf_chargeOdd (memWf_settleVerify h)) h

theorem memWf_settleAdmission {s : State} {k : Nat} {agreed : Bool} (h : s.memWf) : (s.settleAdmission k agreed).memWf :=
  ite_holds (memWf_mkImages (ite_holds h h)) (memWf_mk (memWf_mkImages (memWf_mkImages (ite_holds h h))))

theorem memWf_admissionComplete {s : State} {k : Nat} {o : Agreement} (h : s.memWf) : (s.admissionComplete k o).memWf :=
  ite_holds (memWf_chargeOdd (memWf_settleAdmission h)) h

theorem memWf_slotMapWrite {s : State} {i : LaneId} (h : s.memWf) : (s.slotMapWrite i).memWf :=
  ite_holds (ite_holds (memWf_mkImages (memWf_modLane h (fun _ hl => hl))) (memWf_modLane h (fun _ hl => hl))) h

theorem memWf_guardFor {s : State} {g : CopyRun} {r : State × CopyRun} (h : s.memWf) (hr : s.guardFor g = some r) : r.1.memWf := by
  unfold State.guardFor at hr
  split at hr
  · cases hr; exact h
  · dsimp only at hr
    split at hr
    · cases hr; exact memWf_claimGuard h
    · exact absurd hr nofun

theorem memWf_unguard {s : State} {g : CopyRun} (h : s.memWf) : (s.unguard g).1.memWf := by
  unfold State.unguard
  split <;> exact h

theorem memWf_stageCopied {s : State} {k : Nat} {g : CopyRun} (h : s.memWf) : (s.stageCopied k g).memWf :=
  memWf_settledAll (memWf_releaseGuard (memWf_mkImages (memWf_setRegion h (Mem.wf_store _ _ (State.memWf.staging h _)))))

theorem memWf_stageCopy {s : State} {k : Nat} (h : s.memWf) : (s.stageCopy k).memWf := by
  unfold State.stageCopy
  split
  · exact h
  · dsimp only
    split
    · exact h
    · next r hr => exact memWf_stageCopied (memWf_guardFor (memWf_unguard h) hr)

theorem memWf_giveUpGuards {s : State} (h : s.memWf) : s.giveUpGuards.memWf := by
  unfold State.giveUpGuards
  extract_lets s1 _
  have h1 : s1.memWf := by
    unfold s1
    refine foldl_holds h ?_
    intro _ _ hu
    split
    · exact memWf_mkImages (memWf_unguard hu)
    · exact hu
  split
  · exact memWf_mk (memWf_unguard h1)
  · exact h1

theorem memWf_freeze {s : State} {o : Origin} {i : LaneId} (h : s.memWf) : (s.freeze o i).memWf :=
  memWf_mk (memWf_modLane (memWf_rounds h) (fun _ hl => hl))

theorem memWf_unfreeze {s : State} {o : Origin} {kind : Nat} {i : LaneId} (h : s.memWf) : (s.unfreeze o kind i).memWf :=
  ite_holds (memWf_mk (memWf_modLane h (fun _ hl => hl))) h

theorem memWf_acceptArbControl {s : State} {c : Cmd} (h : s.memWf) : (s.acceptArbControl c).st.memWf := by
  unfold State.acceptArbControl
  refine memWf_firstOf h ?_
  split
  · exact foldl_holds h (fun _ _ hu => memWf_freeze hu)
  · exact foldl_holds h (fun _ _ hu => memWf_unfreeze hu)
  · exact foldl_holds h (fun _ _ hu => memWf_modLane (memWf_rounds hu) (fun _ hl => hl))
  · exact foldl_holds h (fun _ _ hu => memWf_modLane (memWf_rounds hu) (fun _ hl => hl))

theorem memWf_acceptArbCounters {s : State} {c : Cmd} (h : s.memWf) : (s.acceptArbCounters c).st.memWf := memWf_firstOf h (memWf_rounds h)

theorem memWf_acceptXramRead {s : State} {c : Cmd} (h : s.memWf) : (s.acceptXramRead c).st.memWf := by
  unfold State.acceptXramRead
  refine memWf_firstOf h ?_
  split <;> exact h

theorem memWf_acceptXramWrite {s : State} {c : Cmd} (h : s.memWf) : (s.acceptXramWrite c).st.memWf := memWf_firstOf h (memWf_xramStore h)

theorem memWf_acceptXramAtomic {s : State} {c : Cmd} (h : s.memWf) : (s.acceptXramAtomic c).st.memWf := memWf_firstOf h (memWf_xramStore h)

theorem memWf_acceptLaneDiag {s : State} {c : Cmd} (h : s.memWf) : (s.acceptLaneDiag c).st.memWf := memWf_firstOf h h

theorem memWf_laneStage {s : State} {o : Origin} {i : LaneId} {m : LaneMode} {cause : Option Cause} (h : s.memWf) : (s.laneStage o i m cause).memWf
    :=
  memWf_mk (memWf_modLane h (fun _ hl => hl))

theorem memWf_acceptLaneReintegrate {s : State} {c : Cmd} (h : s.memWf) : (s.acceptLaneReintegrate c).st.memWf := by
  unfold State.acceptLaneReintegrate
  dsimp only
  split
  · exact h
  · split
    · exact h
    · exact memWf_modLane (memWf_laneStage h) (fun _ hl => hl)

/-! ## Host copies and KI-40 -/

/-- Every opcode's acceptance keeps the memories canonical. -/
theorem acceptTable_memWf : ∀ r ∈ acceptTable, ∀ (s : State) (c : Cmd), s.memWf → (r.2 s c).st.memWf := by
  simp only [acceptTable, List.cons_append, List.nil_append, List.forall_mem_cons]
  exact ⟨fun _ _ => memWf_acceptSessionOpen, fun _ _ => memWf_acceptSessionClose, fun _ _ => memWf_acceptSessionKeep,
    fun _ _ => memWf_acceptLockAcquire, fun _ _ => memWf_acceptLockRelease, fun _ _ => memWf_acceptCreditSet, fun _ _ => memWf_acceptRouteSet,
    fun _ _ => memWf_acceptRouteCancel, fun _ _ => memWf_acceptRouteReleaseTimed, fun _ _ => memWf_acceptRouteQuery,
    fun _ _ => memWf_acceptSignalStop, fun _ _ => memWf_acceptAllStop, fun _ _ => memWf_acceptPointMove, fun _ _ => memWf_acceptPointBlock,
    fun _ _ => memWf_acceptPointUnblock, fun _ _ => memWf_acceptSectionReset, fun _ _ => memWf_acceptElementQuery,
    fun _ _ => memWf_acceptSnapshotRead, fun _ _ => memWf_acceptStatusRead, fun _ _ => memWf_acceptPaceRead, fun _ _ => memWf_acceptCountersRead,
    fun _ _ => memWf_acceptModeSet, fun _ _ => memWf_acceptProfileSelect, fun _ _ => memWf_acceptStageOpen, fun _ _ => memWf_acceptStageWrite,
    fun _ _ => memWf_acceptStageVerify, fun _ _ => memWf_acceptChangeArm, fun _ _ => memWf_acceptChangeAbort, fun _ _ => memWf_acceptParamWrite,
    fun _ _ => memWf_acceptParamRead, fun _ _ => memWf_acceptPowerStateSet, fun _ _ => memWf_acceptDuskRun, fun _ _ => memWf_acceptRepairFuse,
    fun _ _ => memWf_acceptAlmanacCursor, fun _ _ => memWf_acceptAlmanacRead, fun _ _ => memWf_acceptAlmanacQuota, fun _ _ => memWf_acceptTimeSet,
    fun _ _ => memWf_acceptIdentityRead, fun _ _ => memWf_acceptAttestQuote, fun _ _ => memWf_acceptKeyListUpdate,
    fun _ _ => memWf_acceptConstellationRequest, fun _ _ => memWf_acceptNdezoStatus, fun _ _ => memWf_acceptPortEnable,
    fun _ _ => memWf_acceptPairStatus, fun _ _ => memWf_acceptSwitchover, fun _ _ => memWf_acceptStandbySync, fun _ _ => memWf_acceptArbControl,
    fun _ _ => memWf_acceptArbCounters, fun _ _ => memWf_acceptXramRead, fun _ _ => memWf_acceptXramWrite, fun _ _ => memWf_acceptXramAtomic,
    fun _ _ => memWf_acceptLaneDiag, fun _ _ => memWf_acceptLaneReintegrate, nofun⟩

theorem memWf_accept {s : State} {c : Cmd} (h : s.memWf) : (s.accept c).st.memWf := by
  unfold State.accept
  split
  · next r hr => exact acceptTable_memWf r (List.mem_of_find?_eq_some hr) s c h
  · exact h

theorem memWf_countNet {s : State} {n : Net} {f : NetCounters → NetCounters} (h : s.memWf) : (s.countNet n f).memWf := by
  unfold State.countNet
  split <;> exact h

theorem memWf_refuseCheck {s : State} {op : Nat} {c : HostCopy} {x : Option Session} (h : s.memWf) : (s.refuseCheck op c x).memWf :=
  memWf_replyWith (memWf_mapVoting h (fun _ hl => hl))

theorem memWf_afterAccept {s : State} {op : Nat} {c : HostCopy} {cmd : Cmd} {data : Bytes} (h : s.memWf) : (s.afterAccept op c cmd data).memWf := by
  unfold State.afterAccept
  extract_lets o s1 s2
  have h1 : s1.memWf := ite_holds (memWf_tellPeer h) (ite_holds (memWf_tellStaged h) h)
  have h2 : s2.memWf := ite_holds (memWf_endSession h1) h1
  exact ite_holds (memWf_mk h2) h2

theorem memWf_sendDecision {s : State} {op : Nat} {c : HostCopy} {r : HostRec} {nets : List Net} {status snapshot : Nat} {data : Bytes} (h :
    s.memWf) : (s.sendDecision op c r nets status snapshot data).memWf :=
  foldl_holds h (fun _ _ hu => memWf_replyWith hu)

theorem memWf_decideCopy {s : State} {op : Nat} {c : HostCopy} {content : Option Word} {nets : List Net} (h : s.memWf) : (s.decideCopy op c content
    nets).memWf := by
  unfold State.decideCopy
  split
  · exact h
  · exact ite_holds (memWf_afterAccept (memWf_sendDecision (memWf_mk (memWf_accept h)))) (memWf_sendDecision (memWf_mk (memWf_accept h)))

theorem memWf_rejectCopy {s : State} {op : Nat} {c : HostCopy} {status : Nat} (h : s.memWf) : (s.rejectCopy op c status).memWf := by
  unfold State.rejectCopy
  split
  · exact h
  · exact memWf_sendDecision h

theorem memWf_expireRec {s : State} {key : RecKey} (h : s.memWf) : (s.expireRec key).memWf := by
  unfold State.expireRec
  split
  · exact h
  · exact ite_holds (memWf_answerAt (memWf_mk (memWf_mk (memWf_countNet h)))) h

theorem memWf_repeatCopy {s : State} {op : Nat} {c : HostCopy} {d : Decision} (h : s.memWf) : (s.repeatCopy op c d).memWf :=
  memWf_replyWith (memWf_countNet h)

theorem memWf_firstCopy {s : State} {op : Nat} {cls : OpClass} {c : HostCopy} (h : s.memWf) : (s.firstCopy op cls c).memWf :=
  ite_holds (memWf_rejectCopy h) (ite_holds (memWf_decideCopy h) h)

theorem memWf_obeyAnew {s : State} {op : Nat} {c : HostCopy} {r : HostRec} (h : s.memWf) : (s.obeyAnew op c r).memWf :=
  memWf_decideCopy (memWf_mk (memWf_mk (memWf_countNet h)))

theorem memWf_laterCopy {s : State} {op : Nat} {cls : OpClass} {c : HostCopy} {r : HostRec} (h : s.memWf) : (s.laterCopy op cls c r).memWf := by
  unfold State.laterCopy
  extract_lets bytes s1
  have h1 : s1.memWf := h
  split
  · exact memWf_repeatCopy h
  · exact ite_holds (memWf_obeyAnew h) (ite_holds (ite_holds (memWf_countNet h) (ite_holds (memWf_decideCopy h1) (memWf_rejectCopy (memWf_mk
      (memWf_mk (memWf_countNet h1)))))) (memWf_replyWith (memWf_mk (memWf_countNet h))))

theorem memWf_compareCopy {s : State} {op : Nat} {cls : OpClass} {c : HostCopy} (h : s.memWf) : (s.compareCopy op cls c).memWf := by
  unfold State.compareCopy
  extract_lets _ s1 s2
  have h1 : s1.memWf := h
  have h2 : s2.memWf := by
    unfold s2
    split
    · exact ite_holds (memWf_expireRec (memWf_mk h1)) h1
    · exact h1
  split
  · exact memWf_firstCopy h2
  · exact memWf_laterCopy h2

theorem memWf_answerQuery {s : State} {op : Nat} {c : HostCopy} (h : s.memWf) : (s.answerQuery op c).memWf :=
  ite_holds (memWf_afterAccept (memWf_replyWith (memWf_accept h))) (memWf_replyWith (memWf_accept h))

theorem memWf_judgeHeader {s : State} {op : Nat} {c : HostCopy} (h : s.memWf) : (s.judgeHeader op c).memWf := by
  unfold State.judgeHeader
  extract_lets s1
  have h1 : s1.memWf := memWf_countNet h
  refine ite_holds ?_ ?_
  · exact memWf_replyWith h
  · split
    · exact memWf_replyWith h
    · exact ite_holds (memWf_replyWith h) (ite_holds (memWf_replyWith (memWf_countNet h)) (ite_holds (memWf_replyWith (memWf_countNet h))
        (ite_holds (memWf_answerQuery h1) (memWf_compareCopy h1))))

theorem memWf_heardFrom {s : State} {op : Nat} {c : HostCopy} (h : s.memWf) : (s.heardFrom op c).memWf := ite_holds h h

theorem memWf_judge {s : State} {op : Nat} {c : HostCopy} (h : s.memWf) : (s.judge op c).memWf := by
  unfold State.judge
  extract_lets x known m r s1
  have h1 : s1.memWf := memWf_heardFrom (memWf_checkTelegram h)
  exact ite_holds (memWf_refuseCheck (memWf_checkTelegram h)) (ite_holds (memWf_judgeHeader h1) (memWf_replyWith h1))

theorem memWf_overrunCopy {s : State} {n : Net} {restrictive : Bool} (h : s.memWf) : (s.overrunCopy n restrictive).memWf := by
  unfold State.overrunCopy
  extract_lets s1 s2 _
  have h1 : s1.memWf := memWf_countNet h
  have h2 : s2.memWf := ite_holds h1 (memWf_mk h1)
  split <;> exact memWf_mk h2

theorem memWf_queueCopy {s : State} {op : Nat} {c : HostCopy} (h : s.memWf) : (s.queueCopy op c).memWf :=
  ite_holds (ite_holds h (memWf_overrunCopy h)) (ite_holds h (memWf_overrunCopy h))

theorem memWf_admitCopy {s : State} {op : Nat} {c : HostCopy} (h : s.memWf) : (s.admitCopy op c).memWf := by
  unfold State.admitCopy
  extract_lets s1
  have h1 : s1.memWf := h
  exact ite_holds (ite_holds (memWf_countNet h) h) (ite_holds (memWf_countNet h) (ite_holds (memWf_countNet h) (ite_holds (memWf_queueCopy h1)
    (memWf_judge h1))))

theorem memWf_svcSeen {s : State} {net : Net} (h : s.memWf) : (s.svcSeen net).memWf := ite_holds h h

theorem memWf_hostArrive {s : State} {op : Nat} {c : HostCopy} (h : s.memWf) : (s.hostArrive op c).memWf :=
  ite_holds (memWf_admitCopy (memWf_lapseDue (memWf_svcSeen h))) (memWf_svcSeen h)

theorem memWf_dequeueCopy {s : State} (h : s.memWf) : s.dequeueCopy.memWf := by
  unfold State.dequeueCopy
  dsimp only
  split
  · exact memWf_judge (memWf_lapseDue h)
  · exact memWf_judge (memWf_lapseDue h)
  · exact h

theorem memWf_ki40Answer {s : State} {op : Nat} {c : Ki40Copy} {nets : List Net} {status cycle : Nat} {data : Bytes} (h : s.memWf) : (s.ki40Answer
    op c nets status cycle data).memWf :=
  foldl_holds h (fun _ _ hu => hu)

theorem memWf_beginLoad {s : State} {c : Cmd} (h : s.memWf) : (s.beginLoad c).memWf :=
  memWf_mk (memWf_claimGuard (ite_holds (memWf_setRegion h rfl) h))

theorem memWf_acceptDataLoad {s : State} {c : Cmd} (h : s.memWf) : (s.acceptDataLoad c).st.memWf :=
  memWf_firstOf h (ite_holds (memWf_beginLoad h) h)

theorem memWf_loadCopied {s : State} {g : CopyRun} (h : s.memWf) : (s.loadCopied g).memWf :=
  memWf_settledAll (memWf_releaseGuard (memWf_mk (memWf_setRegion h (Mem.wf_store _ _ (State.memWf.staging h _)))))

theorem memWf_loadCopyComplete {s : State} (h : s.memWf) : s.loadCopyComplete.memWf := by
  unfold State.loadCopyComplete
  split
  · exact h
  · dsimp only
    split
    · exact h
    · next r hr => exact memWf_loadCopied (memWf_guardFor (memWf_unguard h) hr)

theorem memWf_settleLoad {s : State} {agreed : Bool} (h : s.memWf) : (s.settleLoad agreed).memWf := by
  unfold State.settleLoad
  extract_lets m found check s1 kept region s2
  have hkept : Mem.wf kept = true := Mem.wf_cutToImage (h.staging 0)
  have h1 : s1.memWf := ite_holds h h
  have h2 : s2.memWf := memWf_setRegion h1 hkept
  exact ite_holds (memWf_of_images h2 rfl h2.regionsWf (allWf_listSet h2.flashWf hkept)) h1

theorem memWf_ki40Decide {s : State} {op native : Nat} {c : Ki40Copy} {content : Option Word} (h : s.memWf) :
    (s.ki40Decide op native c content).memWf := by
  unfold State.ki40Decide
  extract_lets cmd a taken data s1 s2
  have ha : a.st.memWf := ite_holds (P := fun a : Acc => a.st.memWf) (memWf_acceptDataLoad h) (memWf_accept h)
  have h2 : s2.memWf := memWf_ki40Answer (memWf_mk (memWf_mk ha))
  exact ite_holds (memWf_mk h2) h2

theorem memWf_ki40Differ {s : State} {c : Ki40Copy} {r : HostRec} (h : s.memWf) : (s.ki40Differ c r).memWf := memWf_mk (memWf_countNet h)

theorem memWf_ki40Later {s : State} {op native : Nat} {cls : OpClass} {c : Ki40Copy} {r : HostRec} (h : s.memWf) : (s.ki40Later op native cls c
    r).memWf := by
  unfold State.ki40Later
  extract_lets bytes
  split
  · exact memWf_mk (memWf_countNet h)
  · exact ite_holds (memWf_ki40Decide (memWf_mk (memWf_ki40Differ h))) (ite_holds (ite_holds (memWf_countNet h) (ite_holds (memWf_ki40Decide h)
      (memWf_ki40Answer (memWf_mk (memWf_mk (memWf_ki40Differ h)))))) (memWf_mk (memWf_ki40Differ h)))

theorem memWf_ki40Compare {s : State} {op native : Nat} {cls : OpClass} {c : Ki40Copy} (h : s.memWf) : (s.ki40Compare op native cls c).memWf := by
  unfold State.ki40Compare
  extract_lets s1
  have h1 : s1.memWf := by
    unfold s1
    split
    · exact ite_holds (memWf_expireRec h) h
    · exact h
  split
  · exact ite_holds (memWf_ki40Decide (memWf_mk h1)) (memWf_mk h1)
  · exact memWf_ki40Later h1

theorem memWf_ki40Heard {s : State} {c : Ki40Copy} (h : s.memWf) : (s.ki40Heard c).memWf := ite_holds h h

theorem memWf_ki40Judge {s : State} {op : Nat} {c : Ki40Copy} (h : s.memWf) : (s.ki40Judge op c).memWf := by
  unfold State.ki40Judge
  extract_lets head r s1 s2 q
  have h1 : s1.memWf := memWf_ki40Heard (memWf_checkTelegram h)
  have h2 : s2.memWf := memWf_countNet h1
  refine ite_holds ?_ ?_
  · exact memWf_mapVoting (memWf_checkTelegram h) (fun _ hl => hl)
  · refine ite_holds ?_ ?_
    · exact memWf_mk h1
    · refine ite_holds ?_ ?_
      · exact memWf_mk h1
      · split
        · exact memWf_mk h1
        · exact ite_holds (memWf_mk h2) (memWf_ki40Compare h2)

theorem memWf_ki40Queue {s : State} {op : Nat} {c : Ki40Copy} (h : s.memWf) : (s.ki40Queue op c).memWf := ite_holds h (memWf_overrunCopy h)

theorem memWf_ki40Arrive {s : State} {op : Nat} {lengthOk : Bool} {c : Ki40Copy} (h : s.memWf) : (s.ki40Arrive op lengthOk c).memWf := by
  unfold State.ki40Arrive
  extract_lets s1
  have h1 : s1.memWf := memWf_mk (memWf_lapseDue h)
  exact ite_holds h (ite_holds (memWf_countNet h) (ite_holds h (ite_holds (memWf_countNet h) (ite_holds (memWf_ki40Queue h1) (memWf_ki40Judge
    h1)))))

theorem memWf_ki40Datagram {s : State} {d : Datagram} (h : s.memWf) : (s.ki40Datagram d).memWf :=
  ite_holds (ite_holds (memWf_countNet h) h) (memWf_ki40Arrive h)

theorem memWf_dequeue {s : State} (h : s.memWf) : s.dequeue.memWf := by
  unfold State.dequeue
  split
  · exact memWf_ki40Judge (memWf_lapseDue h)
  · exact memWf_dequeueCopy h

theorem memWf_releaseHeld {s : State} (h : s.memWf) : s.releaseHeld.memWf := foldl_holds h (fun _ _ hu => memWf_replyWith hu)

theorem memWf_startCycle {s : State} (h : s.memWf) : s.startCycle.memWf := ite_holds (memWf_captureCycle h) h

theorem memWf_startRound {s : State} (h : s.memWf) : s.startRound.memWf := ite_holds h h

theorem memWf_sendPoll {s : State} {port : Nat} (h : s.memWf) : (s.sendPoll port).memWf := by
  unfold State.sendPoll
  dsimp only
  split
  · exact h
  · exact ite_holds (memWf_sendVia (memWf_mk (memWf_mapLanes h (fun _ hl => hl)))) h

theorem memWf_fillAnswer {s : State} {port : Nat} {f : AnswerFrame} (h : s.memWf) : (s.fillAnswer port f).memWf :=
  foldl_holds h (fun _ _ hu => memWf_modLane (memWf_payloadIn hu) (fun _ hl => hl))

theorem memWf_judgeAnswer {s : State} {port : Nat} {f : AnswerFrame} (h : s.memWf) : (s.judgeAnswer port f).memWf := by
  unfold State.judgeAnswer
  extract_lets head r s1 s1'
  have h1 : s1.memWf := memWf_mk (memWf_checkTelegram h)
  have h1' : s1'.memWf := memWf_mk (memWf_checkTelegram h)
  exact ite_holds (memWf_mapVoting h1 (fun _ hl => hl)) (ite_holds (memWf_mk h1') (memWf_fillAnswer h1'))

theorem memWf_takeAnswer {s : State} {port : Nat} {f : AnswerFrame} (h : s.memWf) : (s.takeAnswer port f).memWf :=
  ite_holds (ite_holds (memWf_judgeAnswer h) h) h

theorem memWf_closeAnswer {s : State} {port : Nat} (h : s.memWf) : (s.closeAnswer port).memWf := by
  unfold State.closeAnswer
  split
  · exact ite_holds (memWf_mk (memWf_mapLanes h (fun _ hl => hl))) h
  · exact h

theorem memWf_arpRequest {s : State} {port ip mac : Nat} (h : s.memWf) : (s.arpRequest port ip mac).memWf :=
  ite_holds (ite_holds (memWf_mk (memWf_mk (ite_holds h h))) (memWf_sendVia (ite_holds h h))) (ite_holds h h)

/-! ## The bus, the safe side, the supplies and the start -/

theorem memWf_laneAccess {s : State} {addr : Nat} {a : LaneAccess} (h : s.memWf) : (s.laneAccess addr a).memWf := by
  unfold State.laneAccess
  split
  · exact memWf_xramStore h
  · exact h

theorem memWf_warn {s : State} {addr : Nat} {w : Window} {conflict : Bool} (h : s.memWf) : (s.warn addr w conflict).memWf :=
  ite_holds (ite_holds (memWf_modLane h (fun _ hl => hl)) h) h

theorem memWf_busRead {s : State} {addr : Nat} {w : Window} (h : s.memWf) : (s.busRead addr w).memWf :=
  ite_holds h (ite_holds h (ite_holds (memWf_mk (memWf_mk (memWf_laneAccess (memWf_warn h)))) (memWf_mk (memWf_laneAccess (memWf_warn h)))))

theorem memWf_busWrite {s : State} {addr : Nat} {data : Half} {w : Window} (h : s.memWf) : (s.busWrite addr data w).memWf :=
  ite_holds h (ite_holds h (memWf_mk (memWf_laneAccess (memWf_xramStore (memWf_warn h)))))

theorem memWf_busLoad {s : State} {addr : Nat} {data : Half} (h : s.memWf) : (s.busLoad addr data).memWf := ite_holds h (ite_holds h h)

theorem memWf_busExecute {s : State} {addr : Nat} {data : Half} {swap : Bool} (h : s.memWf) : (s.busExecute addr data swap).memWf :=
  ite_holds h (ite_holds (memWf_mk (memWf_busOperate h)) h)

theorem memWf_busResult {s : State} {addr : Nat} {high : Bool} (h : s.memWf) : (s.busResult addr high).memWf := ite_holds h (ite_holds h h)

theorem dataWf_inBody {l : Lane} {f : Work → Work} (hl : l.dataWf) : (l.inBody f).dataWf := ite_holds (hl.same rfl) hl

theorem memWf_bodies {s : State} {due : Lane → Bool} {f : Work → Work} (h : s.memWf) : (s.bodies due f).memWf :=
  memWf_mapVoting h (fun _ hl => ite_holds (dataWf_inBody hl) hl)

theorem memWf_detectTimeout {s : State} {o : CallOwner} (h : s.memWf) : (s.detectTimeout o).memWf := by
  unfold State.detectTimeout
  split <;> exact memWf_bodies h

theorem memWf_safeInputChange {s : State} {i : LaneId} {input : Nat} {x : InputSense} (h : s.memWf) : (s.safeInputChange i input x).memWf :=
  ite_holds (memWf_inputIn h) h

theorem dataWf_paceFault {l : Lane} (hl : l.dataWf) : l.paceFault.dataWf := ite_holds (hl.same rfl) hl

theorem memWf_paceMeasured {s : State} {i : LaneId} {pace : Nat} (h : s.memWf) : (s.paceMeasured i pace).memWf := by
  unfold State.paceMeasured
  extract_lets l low s1
  have h1 : s1.memWf := memWf_modLane h (fun _ hl => dataWf_paceFault (hl.same rfl))
  exact ite_holds h (ite_holds (memWf_laneEvent h1) h1)

theorem memWf_paceClear {s : State} {i : LaneId} (h : s.memWf) : (s.paceClear i).memWf := memWf_modLane h (fun _ hl => ite_holds (hl.same rfl) hl)

theorem memWf_markOutput {s : State} {i : LaneId} {o : Nat} {k : Mark} (h : s.memWf) : (s.markOutput i o k).memWf := by
  unfold State.markOutput
  extract_lets s1 _
  have h1 : s1.memWf := memWf_modLane h (fun _ hl => ite_holds (dataWf_pend hl) (((dataWf_pend hl).same rfl)))
  exact ite_holds h1 (memWf_mk h1)

theorem memWf_markAll {s : State} {o : Nat} {k : Mark} (h : s.memWf) : (s.markAll o k).memWf := foldl_holds h (fun _ _ hu => memWf_markOutput hu)

theorem memWf_driveOutput {s : State} {o : Nat} {on : Bool} (h : s.memWf) : (s.driveOutput o on).memWf :=
  foldl_holds h (fun _ _ hu => memWf_modLane hu (fun _ hl => hl))

theorem memWf_testSlot {s : State} {t o : Nat} (h : s.memWf) : (s.testSlot t o).memWf :=
  ite_holds (ite_holds h (ite_holds (memWf_driveOutput h) h)) h

theorem memWf_offPulseEnd {s : State} {o : Nat} {x : PulseSense} (h : s.memWf) : (s.offPulseEnd o x).memWf := by
  unfold State.offPulseEnd
  split
  · split
    · extract_lets on again _ s1 s2 s3
      have h2 : s2.memWf := memWf_driveOutput h
      have h3 : s3.memWf := ite_holds (memWf_markAll h2) h2
      exact ite_holds (ite_holds (memWf_mk h3) h3) h
    · exact h
  · exact h

theorem memWf_judgeElements {s : State} {i : LaneId} {o : Nat} {x : ElementSense} (h : s.memWf) : (s.judgeElements i o x).memWf := by
  unfold State.judgeElements
  extract_lets stuck dead s2 s3
  have h2 : s2.memWf := ite_holds (memWf_markAll h) h
  have h3 : s3.memWf := ite_holds (memWf_markAll h2) h2
  exact ite_holds h3 (memWf_mk h3)

theorem memWf_elementTest {s : State} {o : Nat} {x : ElementSense} (h : s.memWf) : (s.elementTest o x).memWf := by
  unfold State.elementTest
  extract_lets _
  split
  · split
    · exact ite_holds (ite_holds h (ite_holds (memWf_modLane h (fun _ hl => hl)) (ite_holds (memWf_modLane h (fun _ hl => hl)) (memWf_judgeElements
        (memWf_mk (memWf_modLane h (fun _ hl => hl))))))) h
    · exact h
  · exact h

theorem memWf_darkStep {s : State} {o k : Nat} {x : DarkSense} (h : s.memWf) : (s.darkStep o k x).memWf := by
  unfold State.darkStep
  split
  · split
    · exact ite_holds (ite_holds (ite_holds h h) (ite_holds (memWf_markAll h) (memWf_markAll h))) h
    · exact h
  · exact h

theorem memWf_untested {s : State} {o : Nat} (h : s.memWf) : (s.untested o).memWf := ite_holds h h

theorem memWf_outputFault {s : State} {i : LaneId} {o : Nat} {k : OutFault} (h : s.memWf) : (s.outputFault i o k).memWf :=
  ite_holds (memWf_markOutput h) h

theorem memWf_shortFound {s : State} {i : LaneId} {o : Nat} (h : s.memWf) : (s.shortFound i o).memWf :=
  ite_holds (memWf_markOutput (ite_holds h h)) h

theorem memWf_shortExit {s : State} {o : Nat} (h : s.memWf) : (s.shortExit o).memWf := ite_holds (memWf_mk (memWf_mapLanes h (fun _ hl => hl))) h

theorem memWf_sealChange {s : State} {k : Nat} {x : Lanes Reading} (h : s.memWf) : (s.sealChange k x).memWf :=
  ite_holds (memWf_mkLanes (memWf_mk (ite_holds (memWf_mkLanes h (fun _ _ hl => hl)) (memWf_mk (memWf_mkLanes h (fun _ _ hl => hl))))) (fun _ _ hl
    => hl)) h

theorem memWf_sealDisagrees {s : State} {i : LaneId} {k : Nat} (h : s.memWf) : (s.sealDisagrees i k).memWf := by
  unfold State.sealDisagrees
  split
  · exact ite_holds (memWf_modLane (memWf_laneEvent h) (fun _ hl => hl)) h
  · exact h

theorem memWf_pselChange {s : State} {x : Lanes Nat} (h : s.memWf) : (s.pselChange x).memWf := ite_holds (memWf_mkLanes h (fun _ _ hl => hl)) h

theorem memWf_holdReset {s : State} (h : s.memWf) : s.holdReset.memWf :=
  memWf_mkLanes (memWf_mk (memWf_mkLanes h (fun _ _ hl => hl))) (fun _ _ hl => hl)

theorem memWf_beginRelease {s : State} (h : s.memWf) : s.beginRelease.memWf := ite_holds h h

theorem memWf_supplyReturn {s : State} (h : s.memWf) : s.supplyReturn.memWf := by
  unfold State.supplyReturn
  extract_lets long _ _ s1 _
  have h1 : s1.memWf := h
  split
  · exact memWf_mk h1
  · exact ite_holds (memWf_beginRelease (memWf_holdReset h1)) h1
  · exact ite_holds (memWf_beginRelease (memWf_holdReset h1)) h1
  · exact memWf_beginRelease h1

theorem memWf_powerFail {s : State} (h : s.memWf) : s.powerFail.memWf := by
  unfold State.powerFail
  split
  · exact memWf_holdReset (memWf_safeOffFor h)
  · exact memWf_holdReset h
  · exact memWf_holdReset h
  · exact memWf_holdReset h
  · exact memWf_holdReset h
  · exact h

theorem memWf_assertReset {s : State} (h : s.memWf) : s.assertReset.memWf := memWf_mk (memWf_holdReset h)

theorem memWf_releaseReset {s : State} (h : s.memWf) : s.releaseReset.memWf := ite_holds (memWf_beginRelease h) h

theorem memWf_coreUndervoltage {s : State} {i : LaneId} (h : s.memWf) : (s.coreUndervoltage i).memWf :=
  memWf_modLane (ite_holds h h) (fun _ hl => hl)

theorem memWf_outputSupplyLow {s : State} (h : s.memWf) : s.outputSupplyLow.memWf := memWf_mkLanes h (fun _ _ hl => ite_holds (hl.same rfl) hl)

theorem memWf_cold {s : State} (h : s.memWf) : s.cold.memWf :=
  ⟨h.xramWf, allWf_replicate, h.flashWf, fun i => by cases i <;> exact dataWf_fresh⟩

theorem memWf_lostEvent {s : State} {g : Images} (h : s.memWf) : (s.lostEvent g).memWf := ite_holds h h

theorem memWf_judgeDusk {s : State} (h : s.memWf) : s.judgeDusk.memWf := memWf_mk (memWf_mkLanes h (fun _ _ hl => hl))

theorem memWf_beginStart {s : State} (h : s.memWf) : s.beginStart.memWf := memWf_lostEvent (memWf_judgeDusk (memWf_mk (memWf_cold h)))

theorem memWf_softRepair {s : State} {i : LaneId} {m : March} {record : Bool} (h : s.memWf) : (s.softRepair i m record).memWf :=
  ite_holds (memWf_mk (memWf_modLane h (fun _ hl => hl))) (memWf_modLane h (fun _ hl => hl))

theorem memWf_bistComplete {s : State} {i : LaneId} {r : BistResult} (h : s.memWf) : (s.bistComplete i r).memWf :=
  ite_holds (memWf_mk (memWf_modLane (memWf_softRepair h) (fun _ hl => hl))) h

theorem memWf_katRecord {s : State} {i : LaneId} {fail : Option Nat} (h : s.memWf) : (s.katRecord i fail).memWf := by
  unfold State.katRecord
  split
  · exact memWf_laneEvent h
  · exact h

theorem memWf_katRecords {s : State} {r : StartResult} (h : s.memWf) : (s.katRecords r).memWf := foldl_holds h (fun _ _ hu => memWf_katRecord hu)

theorem memWf_joinLanes {s : State} {r : StartResult} (h : s.memWf) : (s.joinLanes r).memWf := memWf_katRecords (memWf_mkLanes h (fun _ _ hl => hl))

theorem memWf_excludeFailed {s : State} (h : s.memWf) : s.excludeFailed.memWf := by
  unfold State.excludeFailed
  extract_lets _ s0 s1 d s2 _
  have h0 : s0.memWf := h
  have h1 : s1.memWf := foldl_holds h0 (fun _ _ hu => memWf_excludeLane hu)
  have h2 : s2.memWf := ite_holds h1 (memWf_mk (memWf_mk h1))
  exact ite_holds (memWf_mk h2) h2

theorem memWf_readSeals {s : State} {r : StartResult} (h : s.memWf) : (s.readSeals r).memWf := memWf_mkLanes h (fun _ _ hl => hl)

theorem memWf_restoreStash {s : State} {mramOk : Bool} (h : s.memWf) : (s.restoreStash mramOk).memWf := memWf_mkLanes h (fun _ _ hl => hl)

theorem memWf_loadProfiles {s : State} (h : s.memWf) : s.loadProfiles.memWf :=
  memWf_of_images h rfl (foldl_holds allWf_replicate (fun _ _ hu => allWf_listSet hu (Mem.wf_cutToImage (wf_getD h.flashWf)))) h.flashWf

theorem memWf_startRecords {s : State} {pass : Lanes Bool} (h : s.memWf) : (s.startRecords pass).memWf := by
  unfold State.startRecords
  refine memWf_mk ?_
  refine memWf_mk ?_
  split
  · refine memWf_mk ?_
    split
    · exact memWf_mk (memWf_mk (ite_holds h h))
    · exact memWf_mk (ite_holds h h)
  · split
    · exact memWf_mk (memWf_mk (ite_holds h h))
    · exact memWf_mk (ite_holds h h)

theorem memWf_enterIdle {s : State} {r : StartResult} (h : s.memWf) : (s.enterIdle r).memWf := by
  unfold State.enterIdle
  extract_lets pass s0 s1 s2
  have h1 : s1.memWf := memWf_loadProfiles (memWf_restoreStash (memWf_readSeals (memWf_joinLanes h)))
  exact memWf_excludeFailed (memWf_startRecords (memWf_of_xram h1 rfl rfl))

theorem memWf_enterRestarted {s : State} {r : StartResult} (h : s.memWf) : (s.enterRestarted r).memWf :=
  memWf_enterWarmAt (memWf_excludeFailed (memWf_mkLanes (memWf_mk (ite_holds (memWf_joinLanes h) (memWf_mk (memWf_mk (memWf_joinLanes h))))) (fun _
    _ hl => hl)))

theorem memWf_startComplete {s : State} {r : StartResult} (h : s.memWf) : (s.startComplete r).memWf :=
  ite_holds (ite_holds (ite_holds (memWf_enterRestarted h) (memWf_enterIdle h)) (ite_holds (memWf_mk (memWf_katRecords (memWf_mkLanes h (fun _ _ hl
    => hl)))) (memWf_mk (memWf_katRecords (memWf_mkLanes h (fun _ _ hl => hl)))))) h

theorem memWf_startRetry {s : State} (h : s.memWf) : s.startRetry.memWf := ite_holds (memWf_mkLanes h (fun _ _ hl => hl)) h

theorem memWf_endDusk {s : State} (h : s.memWf) : s.endDusk.memWf := ite_holds (memWf_mk (memWf_endAllSessions h)) (memWf_beginStart h)

theorem memWf_duskLaneComplete {s : State} {i : LaneId} {r : DuskResult} (h : s.memWf) : (s.duskLaneComplete i r).memWf := by
  unfold State.duskLaneComplete
  extract_lets s1
  have h1 : s1.memWf := memWf_modLane (memWf_softRepair h) (fun _ hl => hl)
  refine ite_holds ?_ ?_
  · split
    · exact memWf_beginDusk h1
    · exact memWf_endDusk h1
  · exact h

theorem memWf_duskConditions {s : State} {i : LaneId} {patterns clockKhz supplyMv : Nat} (h : s.memWf) : (s.duskConditions i patterns clockKhz
    supplyMv).memWf :=
  ite_holds (memWf_mk (memWf_modLane h (fun _ hl => hl))) h

theorem memWf_selfTestDone {s : State} {i : LaneId} {r : SelfTestResult} (h : s.memWf) : (s.selfTestDone i r).memWf :=
  ite_holds (ite_holds (memWf_modLane (memWf_laneStage h) (fun _ hl => hl)) (memWf_katRecord (memWf_modLane (memWf_laneStage h) (fun _ hl => hl))))
    h

theorem memWf_copyingComplete {s : State} {i : LaneId} {equal : Bool} (h : s.memWf) : (s.copyingComplete i equal).memWf :=
  ite_holds (ite_holds (memWf_modLane (memWf_laneStage h) (fun _ _ => (State.memWf.lane h _).same rfl)) (memWf_laneStage h)) h

theorem memWf_fuseRepair {s : State} {i : LaneId} (h : s.memWf) : (s.fuseRepair i).memWf :=
  ite_holds (memWf_mk (memWf_modLane h (fun _ hl => hl))) h

theorem memWf_scrub {s : State} {i : LaneId} {m : Memory} {e : ReadErrors} (h : s.memWf) : (s.scrub i m e).memWf := by
  unfold State.scrub
  refine ite_holds ?_ ?_
  · split
    · exact memWf_modLane h (fun _ hl => hl)
    · exact memWf_laneEvent (memWf_modLane h (fun _ hl => hl))
    · exact memWf_laneEvent (memWf_modLane (memWf_modLane h (fun _ hl => hl)) (fun _ hl => hl))
  · exact h

end Sys2Proof.Machine
end

section
/-! # The commands and the block (O57 to O60): what a command is, and what every step keeps -/

namespace Sys2Proof.Machine

/-! ## Every command -/

/-- An effect that keeps the memories canonical. -/
def Keeps (f : State → State) : Prop := ∀ s, s.memWf → (f s).memWf

/-- The halfword address of the bus cycle that a command is (Table 13.5). -/
def busAddressOf : Instr → Option Nat
  | .mbRead _ a _ | .mbWrite _ a _ _ | .atomicLoad _ a _ | .atomicExecute _ a _ _ | .atomicResult _ a _ => some a
  | .cycleCutShort _ y => some (cycleAddr y)
  | _ => none

/-- The two commands that set the time base (R288, R293). -/
def setsTimeBase : Instr → Bool
  | .syncFrame .. | .listenTimeExpiry .. => true
  | _ => false

/-- What a command is: an effect at its instant, one that may set the time base, or a cycle of the maintenance bus, which has an effect at an
address of the bus only. The effect keeps the memories canonical. -/
inductive Course (c : Instr) : Prop
  | effect {t : Nat} {f : State → State} (he : ∀ s, exec c s = run t f s) (hf : Keeps f) (hb : busAddressOf c = none)
  | timed {t : Nat} {f : State → State} (he : ∀ s, exec c s = runTimed t f s) (hf : Keeps f) (hb : busAddressOf c = none)
      (ht : setsTimeBase c = true)
  | cycle {t a : Nat} {f : State → State} (he : ∀ s, exec c s = if busRange a then run t f s else .fault .noSuchAddress) (hf : Keeps f)
      (hb : busAddressOf c = some a)

/-- Every command takes its course, by the lemma about its effect. -/
theorem course (c : Instr) : Course c := by
  cases c with
  | sessionOpen | sessionClose | sessionKeep | lockAcquire | lockRelease | creditSet | routeSet | routeCancel | routeReleaseTimed | routeQuery
    | signalStop | allStop | pointMove | pointBlock | pointUnblock | sectionReset | elementQuery | snapshotRead | statusRead | paceRead
    | countersRead | modeSet | profileSelect | stageOpen | stageWrite | stageVerify | changeArm | changeAbort | paramWrite | paramRead
    | powerStateSet | duskRun | repairFuse | almanacCursor | almanacRead | almanacQuota | timeSet | identityRead | attestQuote | keyListUpdate
    | constellationRequest | ndezoStatus | portEnable | pairStatus | switchover | standbySync | arbControl | arbCounters | xramRead | xramWrite
    | xramAtomic | laneDiag | laneReintegrate | hostCopyRejected => exact .effect (fun _ => rfl) (fun _ => memWf_hostArrive) rfl
  | skewWindowExpiry => exact .effect (fun _ => rfl) (fun _ h => memWf_expireRec (memWf_lapseDue h)) rfl
  | copyDequeued => exact .effect (fun _ => rfl) (fun _ => memWf_dequeue) rfl
  | sessionLeaseLapse => exact .effect (fun _ => rfl) (fun _ => memWf_lapseSession) rfl
  | lockLeaseLapse => exact .effect (fun _ => rfl) (fun _ => memWf_lapseLock) rfl
  | openNonceChange => exact .effect (fun _ => rfl) (fun _ => memWf_changeNonce) rfl
  | plannedStart => exact .effect (fun _ => rfl) (fun _ => memWf_plannedStart) rfl
  | voteVector => exact .effect (fun _ => rfl) (fun _ => memWf_voteVector) rfl
  | voteCommit => exact .effect (fun _ => rfl) (fun _ => memWf_voteCommit) rfl
  | voteDeadline => exact .effect (fun _ => rfl) (fun _ => memWf_voteDeadline) rfl
  | verdictWord => exact .effect (fun _ => rfl) (fun _ => memWf_verdictWord) rfl
  | faultNotice => exact .effect (fun _ => rfl) (fun _ => memWf_faultNotice) rfl
  | miniVote t lane => exact .effect (fun s => (rfl : execMiniVote t lane s = _)) (fun _ h => ite_holds (memWf_modLane h (fun _ hl => hl)) h) rfl
  | miniVoteJoin => exact .effect (fun _ => rfl) (fun _ => memWf_miniJoin) rfl
  | miniVoteDeadline t lane => exact .effect (fun s => (rfl : execMiniVoteDeadline t lane s = _)) (fun _ h => ite_holds (memWf_miniDecide h) h) rfl
  | forcePendingDrop => exact .effect (fun _ => rfl) (fun _ => memWf_forceDrop) rfl
  | isolationTimeout => exact .effect (fun _ => rfl) (fun _ => memWf_isolationEnd) rfl
  | watchdogExpiry => exact .effect (fun _ => rfl) (fun _ => memWf_watchdog) rfl
  | supplyElementDrop => exact .effect (fun _ => rfl) (fun _ => memWf_elementDrop) rfl
  | reducedLimitExpiry => exact .effect (fun _ => rfl) (fun _ => memWf_reducedExpiry) rfl
  | reducedWarn => exact .effect (fun _ => rfl) (fun _ => memWf_reducedWarn) rfl
  | taskBodyComplete => exact .effect (fun _ => rfl) (fun _ => memWf_taskBody) rfl
  | detectTimeout => exact .effect (fun _ => rfl) (fun _ => memWf_detectTimeout) rfl
  | approachTimerExpiry t route => exact .effect (fun s => (rfl : execApproachTimerExpiry t route s = _)) (fun _ h => memWf_bodies h) rfl
  | emergTimerExpiry t route => exact .effect (fun s => (rfl : execEmergTimerExpiry t route s = _)) (fun _ h => memWf_bodies h) rfl
  | overlapTimerExpiry t route => exact .effect (fun s => (rfl : execOverlapTimerExpiry t route s = _)) (fun _ h => memWf_bodies h) rfl
  | sectionResetEnd t element => exact .effect (fun s => (rfl : execSectionResetEnd t element s = _)) (fun _ h => memWf_bodies h) rfl
  | safeInputChange => exact .effect (fun _ => rfl) (fun _ => memWf_safeInputChange) rfl
  | paceMeasurement => exact .effect (fun _ => rfl) (fun _ => memWf_paceMeasured) rfl
  | paceMarginClear => exact .effect (fun _ => rfl) (fun _ => memWf_paceClear) rfl
  | rxVerdict => exact .effect (fun _ => rfl) (fun _ => memWf_rxVerdict) rfl
  | rxDecisionDeadline => exact .effect (fun _ => rfl) (fun _ => memWf_rxDeadline) rfl
  | txValue => exact .effect (fun _ => rfl) (fun _ => memWf_txValue) rfl
  | txVerify => exact .effect (fun _ => rfl) (fun _ => memWf_txVerify) rfl
  | domainCycleStart => exact .effect (fun _ => rfl) (fun _ => memWf_cycleBegin) rfl
  | syncSend => exact .effect (fun _ => rfl) (fun _ => memWf_syncSend) rfl
  | linkFrame => exact .effect (fun _ => rfl) (fun _ => memWf_linkFrame) rfl
  | syncFrame => exact .timed (fun _ => rfl) (fun _ => memWf_syncFrame) rfl rfl
  | coldFrame => exact .effect (fun _ => rfl) (fun _ => memWf_coldFrame) rfl
  | dataFrame => exact .effect (fun _ => rfl) (fun _ => memWf_dataFrame) rfl
  | forward => exact .effect (fun _ => rfl) (fun _ => memWf_forwardFrame) rfl
  | transmitBufferFill => exact .effect (fun _ => rfl) (fun _ => memWf_fillBuffer) rfl
  | slotSend => exact .effect (fun _ => rfl) (fun _ => memWf_slotSend) rfl
  | slotClose => exact .effect (fun _ => rfl) (fun _ => memWf_slotClose) rfl
  | delayUnknown => exact .effect (fun _ => rfl) (fun _ => memWf_delayUnknown) rfl
  | listenTimeExpiry => exact .timed (fun _ => rfl) (fun _ => memWf_listenExpiry) rfl rfl
  | coldStartCycleEnd => exact .effect (fun _ => rfl) (fun _ => memWf_coldEnd) rfl
  | polestarClaim => exact .effect (fun _ => rfl) (fun _ => memWf_claimPolestar) rfl
  | outOfStep => exact .effect (fun _ => rfl) (fun _ => memWf_leaveStep) rfl
  | domainMerge => exact .effect (fun _ => rfl) (fun _ => memWf_mergeDomain) rfl
  | dawnJoin => exact .effect (fun _ => rfl) (fun _ => memWf_dawnJoin) rfl
  | dawnFail => exact .effect (fun _ => rfl) (fun _ => memWf_dawnFail) rfl
  | testSlotStart => exact .effect (fun _ => rfl) (fun _ => memWf_testSlot) rfl
  | offPulseEnd => exact .effect (fun _ => rfl) (fun _ => memWf_offPulseEnd) rfl
  | elementTest => exact .effect (fun _ => rfl) (fun _ => memWf_elementTest) rfl
  | darkTestStep => exact .effect (fun _ => rfl) (fun _ => memWf_darkStep) rfl
  | untested => exact .effect (fun _ => rfl) (fun _ => memWf_untested) rfl
  | outputFault => exact .effect (fun _ => rfl) (fun _ => memWf_outputFault) rfl
  | short => exact .effect (fun _ => rfl) (fun _ => memWf_shortFound) rfl
  | shortSetExit => exact .effect (fun _ => rfl) (fun _ => memWf_shortExit) rfl
  | sealChange => exact .effect (fun _ => rfl) (fun _ => memWf_sealChange) rfl
  | sealDisagreement => exact .effect (fun _ => rfl) (fun _ => memWf_sealDisagrees) rfl
  | pselChange => exact .effect (fun _ => rfl) (fun _ => memWf_pselChange) rfl
  | verifyComplete => exact .effect (fun _ => rfl) (fun _ => memWf_verifyComplete) rfl
  | admissionComplete => exact .effect (fun _ => rfl) (fun _ => memWf_admissionComplete) rfl
  | slotMapWrite => exact .effect (fun _ => rfl) (fun _ => memWf_slotMapWrite) rfl
  | stageWriteCopyComplete => exact .effect (fun _ => rfl) (fun _ => memWf_stageCopy) rfl
  | xramUnguarded => exact .effect (fun _ => rfl) (fun _ => memWf_giveUpGuards) rfl
  | heartbeatSend => exact .effect (fun _ => rfl) (fun _ => memWf_heartbeatSend) rfl
  | heartbeat => exact .effect (fun _ => rfl) (fun _ => memWf_heartbeat) rfl
  | pairListenEnd => exact .effect (fun _ => rfl) (fun _ => memWf_listenEnd) rfl
  | pathSilent => exact .effect (fun _ => rfl) (fun _ => memWf_pathSilent) rfl
  | intakeFrame => exact .effect (fun _ => rfl) (fun _ => memWf_intakeFrame) rfl
  | forceFrame => exact .effect (fun _ => rfl) (fun _ => memWf_forceFrame) rfl
  | changeFrame => exact .effect (fun _ => rfl) (fun _ => memWf_changeFrame) rfl
  | copyReq => exact .effect (fun _ => rfl) (fun _ => memWf_copyReq) rfl
  | copyFrame => exact .effect (fun _ => rfl) (fun _ => memWf_copyFrame) rfl
  | catchUpComplete => exact .effect (fun _ => rfl) (fun _ => memWf_catchUp) rfl
  | switchFrame => exact .effect (fun _ => rfl) (fun _ => memWf_switchFrame) rfl
  | switchAbandoned => exact .effect (fun _ => rfl) (fun _ => memWf_switchAbandoned) rfl
  | quarantineEnd => exact .effect (fun _ => rfl) (fun _ => memWf_quarantineEnd) rfl
  | epochFlashWrite => exact .effect (fun _ => rfl) (fun _ => memWf_epochWritten) rfl
  | switchDue => exact .effect (fun _ => rfl) (fun _ => memWf_switchDueNow) rfl
  | scrubBurst | sramScrub => exact .effect (fun _ => rfl) (fun _ => memWf_scrub) rfl
  | freezeTimeout t lane => exact .effect (fun s => (rfl : execFreezeTimeout t lane s = _)) (fun _ h => ite_holds (memWf_unfreeze h) h) rfl
  | mbRead => exact .cycle (fun _ => rfl) (fun _ => memWf_busRead) rfl
  | mbWrite => exact .cycle (fun _ => rfl) (fun _ => memWf_busWrite) rfl
  | atomicLoad => exact .cycle (fun _ => rfl) (fun _ => memWf_busLoad) rfl
  | atomicExecute => exact .cycle (fun _ => rfl) (fun _ => memWf_busExecute) rfl
  | atomicResult => exact .cycle (fun _ => rfl) (fun _ => memWf_busResult) rfl
  | cycleCutShort => exact .cycle (fun _ => rfl) (fun _ => memWf_cutShort) rfl
  | almanacAppend => exact .effect (fun _ => rfl) (fun _ => memWf_almanacAppend) rfl
  | openRecordClose => exact .effect (fun _ => rfl) (fun _ => memWf_openRecordClose) rfl
  | supplyBelow t => exact .effect (fun s => (rfl : execSupplyBelow t s = _)) (fun _ h => ite_holds h h) rfl
  | supplyReturn t => exact .effect (fun s => (rfl : execSupplyReturn t s = _)) (fun _ h => ite_holds (memWf_supplyReturn h) h) rfl
  | powerFail t => exact .effect (fun s => (rfl : execPowerFail t s = _)) (fun _ h => ite_holds (memWf_powerFail h) h) rfl
  | mrstAssert => exact .effect (fun _ => rfl) (fun _ => memWf_assertReset) rfl
  | mrstRelease => exact .effect (fun _ => rfl) (fun _ => memWf_releaseReset) rfl
  | mseatHigh t => exact .effect (fun s => (rfl : execMseatHigh t s = _)) (fun _ h => memWf_mk (memWf_holdReset h)) rfl
  | resetStuck t => exact .effect (fun s => (rfl : execResetStuck t s = _)) (fun _ h => ite_holds h h) rfl
  | coreUndervoltage => exact .effect (fun _ => rfl) (fun _ h => memWf_checkSafeOff (memWf_coreUndervoltage h)) rfl
  | start t => exact .effect (fun s => (rfl : execStart t s = _)) (fun _ h => ite_holds (memWf_beginStart h) h) rfl
  | laneBistComplete => exact .effect (fun _ => rfl) (fun _ => memWf_bistComplete) rfl
  | startComplete => exact .effect (fun _ => rfl) (fun _ => memWf_startComplete) rfl
  | startRetry => exact .effect (fun _ => rfl) (fun _ => memWf_startRetry) rfl
  | duskLaneComplete => exact .effect (fun _ => rfl) (fun _ => memWf_duskLaneComplete) rfl
  | duskConditions => exact .effect (fun _ => rfl) (fun _ => memWf_duskConditions) rfl
  | reintegrationSelfTestDone => exact .effect (fun _ => rfl) (fun _ => memWf_selfTestDone) rfl
  | copyingComplete => exact .effect (fun _ => rfl) (fun _ => memWf_copyingComplete) rfl
  | ki40Status | ki40RouteSet | ki40RouteCancel | ki40RouteReleaseTimed | ki40SignalStop | ki40AllStop | ki40PointMove | ki40PointBlock
    | ki40PointUnblock | ki40SectionReset | ki40RouteQuery | ki40ElementQuery | ki40Mode | ki40Power | eventRead | ki40TimeSet | dataLoadPhase0
    | dataLoadPhase1 => exact .effect (fun _ => rfl) (fun _ => memWf_ki40Arrive) rfl
  | ki40LoadComplete t outcome =>
    exact .effect (fun s => (rfl : execKi40LoadComplete t outcome s = _)) (fun _ h => ite_holds (memWf_chargeOdd (memWf_settleLoad h)) h) rfl
  | ki40DatagramDiscarded => exact .effect (fun _ => rfl) (fun _ => memWf_ki40Datagram) rfl
  | ki40ReplyWindow => exact .effect (fun _ => rfl) (fun _ => memWf_releaseHeld) rfl
  | ki40CycleStart => exact .effect (fun _ => rfl) (fun _ => memWf_startCycle) rfl
  | pollRoundStart => exact .effect (fun _ => rfl) (fun _ => memWf_startRound) rfl
  | poll => exact .effect (fun _ => rfl) (fun _ => memWf_sendPoll) rfl
  | answer => exact .effect (fun _ => rfl) (fun _ => memWf_takeAnswer) rfl
  | answerWindowClose => exact .effect (fun _ => rfl) (fun _ => memWf_closeAnswer) rfl
  | arpRequest => exact .effect (fun _ => rfl) (fun _ => memWf_arpRequest) rfl
  | quoteReady t session => exact .effect (fun s => (rfl : execQuoteReady t session s = _)) (fun _ h => h) rfl
  | fuseRepairComplete => exact .effect (fun _ => rfl) (fun _ => memWf_fuseRepair) rfl
  | dataLoadCopyComplete => exact .effect (fun _ => rfl) (fun _ => memWf_loadCopyComplete) rfl
  | moduleSeated t => exact .effect (fun s => (rfl : execModuleSeated t s = _)) (fun _ h => ite_holds (memWf_beginRelease h) h) rfl
  | outputSupplyLow => exact .effect (fun _ => rfl) (fun _ => memWf_outputSupplyLow) rfl

theorem memWf_of_run {t : Nat} {f : State → State} {s u : State} (hf : Keeps f) (h : s.memWf) (hu : run t f s = .next u) : u.memWf := by
  cases hu
  exact hf (s.tick t) h

theorem memWf_of_runTimed {t : Nat} {f : State → State} {s u : State} (hf : Keeps f) (h : s.memWf) (hu : runTimed t f s = .next u) : u.memWf := by
  cases hu
  exact hf (s.tick t) h

/-- No command leaves a memory out of canonical form. -/
theorem memWf_exec {c : Instr} {s u : State} (h : s.memWf) (hu : exec c s = .next u) : u.memWf := by
  cases course c with
  | effect he hf => exact memWf_of_run hf h (he s ▸ hu)
  | timed he hf => exact memWf_of_runTimed hf h (he s ▸ hu)
  | cycle he hf =>
    rw [he] at hu
    split at hu
    · exact memWf_of_run hf h hu
    · exact absurd hu nofun

/-- Settles O59, by the course of the command in front of the queue. -/
theorem everyStepKeepsTheMemoriesCanonical : Obligations.EveryStepKeepsTheMemoriesCanonical := by
  intro s u h hu
  unfold step at hu
  split at hu
  · cases hu
    exact h
  · next c rest _ => exact memWf_exec (s := { s with pending := rest }) h hu

/-! ## The block -/

/-- A command off the bus is a bus cycle at an address above its lines (Table 13.5). -/
theorem offTheBus_iff {c : Instr} :
    (∃ (t a : Nat) (d : Half) (w : Window) (b : Bool) (y : BusCycle), 524288 ≤ a ∧
      (c ∈ [Instr.mbRead t a w, .mbWrite t a d w, .atomicLoad t a d, .atomicExecute t a d b, .atomicResult t a b] ∨
        (c = .cycleCutShort t y ∧ cycleAddr y = a))) ↔
      ∃ a, busAddressOf c = some a ∧ 524288 ≤ a := by
  simp only [List.mem_cons, List.not_mem_nil, or_false]
  constructor
  · rintro ⟨t, a, d, w, b, y, ha, (rfl | rfl | rfl | rfl | rfl) | ⟨rfl, rfl⟩⟩
    all_goals exact ⟨_, rfl, ha⟩
  · rintro ⟨a, hc, ha⟩
    unfold busAddressOf at hc
    split at hc
    · cases hc
      exact ⟨_, _, 0, _, false, .read 0, ha, .inl (.inl rfl)⟩
    · cases hc
      exact ⟨_, _, _, _, false, .read 0, ha, .inl (.inr (.inl rfl))⟩
    · cases hc
      exact ⟨_, _, _, ⟨.none, false⟩, false, .read 0, ha, .inl (.inr (.inr (.inl rfl)))⟩
    · cases hc
      exact ⟨_, _, _, ⟨.none, false⟩, _, .read 0, ha, .inl (.inr (.inr (.inr (.inl rfl))))⟩
    · cases hc
      exact ⟨_, _, 0, ⟨.none, false⟩, _, .read 0, ha, .inl (.inr (.inr (.inr (.inr rfl))))⟩
    · cases hc
      exact ⟨_, _, 0, ⟨.none, false⟩, false, _, ha, .inr ⟨rfl, rfl⟩⟩
    · exact absurd hc nofun

theorem setsTimeBase_iff {c : Instr} : setsTimeBase c = true ↔ (∃ t p f, c = .syncFrame t p f) ∨ ∃ t, c = .listenTimeExpiry t := by
  constructor
  · intro h
    unfold setsTimeBase at h
    split at h
    · exact .inl ⟨_, _, _, rfl⟩
    · exact .inr ⟨_, rfl⟩
    · exact absurd h nofun
  · rintro (⟨t, p, f, rfl⟩ | ⟨t, rfl⟩) <;> rfl

/-- Settles O58, by the course of the command. -/
theorem everyCommandIsAnswered : Obligations.EveryCommandIsAnswered := by
  intro c s
  dsimp only
  rw [offTheBus_iff]
  cases course c with
  | @effect t f he _ hb =>
    refine ⟨fun _ => ⟨_, he s, rfl, fun _ _ => Nat.le_max_left ..⟩, ?_⟩
    rintro ⟨a, ha, -⟩
    exact absurd (hb.symm.trans ha) nofun
  | @timed t f he _ hb ht =>
    refine ⟨fun _ => ⟨_, he s, rfl, fun hs hl => ?_⟩, ?_⟩
    · rcases setsTimeBase_iff.1 ht with ⟨t', p, f', hc⟩ | ⟨t', hc⟩
      · exact absurd hc (hs t' p f')
      · exact absurd hc (hl t')
    · rintro ⟨a, ha, -⟩
      exact absurd (hb.symm.trans ha) nofun
  | @cycle t a f he _ hb =>
    constructor
    · intro hoff
      have ha : a < 524288 := not_le.1 (fun ha => hoff ⟨a, hb, ha⟩)
      exact ⟨_, (he s).trans (if_pos (decide_eq_true ha)), rfl, fun _ _ => Nat.le_max_left ..⟩
    · rintro ⟨b, hb', ha⟩
      cases Option.some.inj (hb.symm.trans hb')
      have hr : busRange a = false := decide_eq_false (not_lt.2 ha)
      rw [he, hr]
      rfl

/-- Settles O57, by the two cases of `step`. -/
theorem stepRunsTheCommandInFront : Obligations.StepRunsTheCommandInFront := by
  refine ⟨fun c rest s h => ?_, fun s h => ?_⟩ <;> unfold step <;> rw [h]

/-- Settles O60: `State.reset` is written out field by field, and each lane of it is a lane at reset. -/
theorem resetIsRestrictive : Obligations.ResetIsRestrictive :=
  ⟨⟨rfl, allWf_replicate, allWf_replicate, fun i => by cases i <;> exact dataWf_fresh⟩, rfl, rfl, rfl, rfl, rfl, rfl, rfl, rfl,
    fun i => by cases i <;> exact ⟨rfl, rfl⟩⟩

end Sys2Proof.Machine
end

section
/-! # The maintenance bus (R493, R499, R500, R639, R640; O2 to O4)

A cycle is its effect on the exchange RAM and its acknowledgement. The first section says once what each effect does; the obligations then
follow by the cases of the cycle. -/

namespace Sys2Proof.Machine

/-! ## The lines of the bus -/

theorem busRange_of_lt {a : Nat} (h : a < 524288) : busRange a = true := decide_eq_true h

theorem busRange_of_le {a : Nat} (h : 524288 ≤ a) : busRange a = false := decide_eq_false (not_lt.2 h)

/-- A bus cycle at an address of the bus runs its effect. -/
theorem cycle_next {a t : Nat} {f : State → State} {s : State} (h : a < 524288) :
    (if busRange a then run t f s else .fault .noSuchAddress) = .next ((f (s.tick t)).close (max s.now t) s.pending) := by
  rw [busRange_of_lt h]
  rfl

/-- A bus cycle above MA19:1 stops on its address. -/
theorem cycle_fault {a t : Nat} {f : State → State} {s : State} (h : 524288 ≤ a) :
    (if busRange a then run t f s else .fault .noSuchAddress) = .fault .noSuchAddress := by
  rw [busRange_of_le h]
  rfl

/-! ## The holding register -/

theorem setField_low (x : Word) (d : Half) : (setField x 0 16 d.toNat).setWidth 16 = d := by
  have hd : d.toNat % 65536 = d.toNat := Nat.mod_eq_of_lt d.isLt
  ext k hk
  simp [setField, hd]

theorem getField_low (x : Word) : getField x 0 16 = (x.setWidth 16).toNat := by simp [getField, bitsAt]

theorem resultHalf_eq (x : Word) (high : Bool) :
    BitVec.ofNat 16 (getField x (if high then 16 else 0) 16) = BitVec.ofNat 16 (x.toNat / if high then 65536 else 1) := by
  refine BitVec.eq_of_toNat_eq ?_
  cases high <;> simp [getField, bitsAt, Nat.shiftRight_eq_div_pow]

/-! ## Bytes of a store -/

theorem leBytes_len (k n : Nat) : (leBytes k n).length = k := by
  induction k generalizing n with
  | zero => rfl
  | succ k ih => rw [leBytes, List.length_cons, ih]

/-- The bytes of the exchange RAM after a number of `k` bytes is stored in it. -/
theorem xramByte_storeNumber {s : State} {a k n : Nat} (h : Mem.wf s.xram.mem = true) (b : Nat) :
    (s.xramStore a (leBytes k n)).xramByte b = if a ≤ b ∧ b < a + k then BitVec.ofNat 8 (n / 256 ^ (b - a)) else s.xramByte b := by
  have hread := Mem.read_store a b (leBytes k n) h
  rw [leBytes_len] at hread
  refine hread.trans ?_
  split
  · next hb => exact leBytes_getD n (by omega)
  · rfl

/-- A halfword store is its two bytes (R500). -/
theorem xramByte_putHalf {s : State} {a : Nat} {d : Half} (h : Mem.wf s.xram.mem = true) (b : Nat) :
    (s.putHalf a d).xramByte b =
      if b = 2 * a then BitVec.ofNat 8 d.toNat else if b = 2 * a + 1 then BitVec.ofNat 8 (d.toNat / 256) else s.xramByte b := by
  refine (xramByte_storeNumber h b).trans ?_
  rcases eq_or_ne b (2 * a) with rfl | h0
  · simp
  · rcases eq_or_ne b (2 * a + 1) with rfl | h1
    · simp
    · rw [if_neg (by omega), if_neg h0, if_neg h1]

/-- The word after an operation: the operand in a swap, the sum otherwise, over the bytes before (R500). -/
theorem xramByte_busOperate {s : State} {a : Nat} {d : Half} {swap : Bool} (h : Mem.wf s.xram.mem = true) (b : Nat) :
    let old := Mem.le s.xram.mem (4 * (a / 2)) 4
    let operand := (s.xram.holding.setWidth 16).toNat + 65536 * d.toNat
    (s.busOperate a d swap).xramByte b = if 4 * (a / 2) ≤ b ∧ b < 4 * (a / 2) + 4 then
      BitVec.ofNat 8 ((if swap then operand else old + operand) / 256 ^ (b - 4 * (a / 2))) else s.xramByte b := by
  rw [← getField_low]
  exact xramByte_storeNumber (s := s.unload) h b

/-- The four bytes of the word. -/
theorem busOperate_word {s : State} {a k : Nat} {d : Half} {swap : Bool} (h : Mem.wf s.xram.mem = true) (hk : k < 4) :
    let old := Mem.le s.xram.mem (4 * (a / 2)) 4
    let operand := (s.xram.holding.setWidth 16).toNat + 65536 * d.toNat
    (s.busOperate a d swap).xramByte (4 * (a / 2) + k) = BitVec.ofNat 8 ((if swap then operand else old + operand) / 256 ^ k) := by
  intro old operand
  rw [xramByte_busOperate h, if_pos (by omega), Nat.add_sub_cancel_left]

/-- The bytes around the word. -/
theorem busOperate_around {s : State} {a b : Nat} {d : Half} {swap : Bool} (h : Mem.wf s.xram.mem = true)
    (hb : b < 4 * (a / 2) ∨ 4 * (a / 2) + 4 ≤ b) : (s.busOperate a d swap).xramByte b = s.xramByte b := by
  rw [xramByte_busOperate h, if_neg (by omega)]

/-! ## What each cycle does in a module that answers -/

section
variable {s : State} {a : Nat} (ha : s.busAnswers = true)
include ha

theorem busLoad_filled (hf : s.xram.filled = true) (d : Half) : s.busLoad a d = (s.holdOperand a d).busAck false none := by
  simp [State.busLoad, ha, hf]

theorem busExecute_of_may (hm : s.mayExecute a = true) (d : Half) (swap : Bool) :
    s.busExecute a d swap = (s.busOperate a d swap).busAck false none := by
  simp [State.busExecute, ha, hm]

theorem busExecute_of_not (hm : s.mayExecute a = false) (d : Half) (swap : Bool) : s.busExecute a d swap = s.unload.busAck true none := by
  simp [State.busExecute, ha, hm]

theorem busResult_held (hf : s.xram.filled = true) (ho : s.xram.hasOld = true) (haddr : s.xram.holdingAddr = a / 2) (high : Bool) :
    s.busResult a high = s.unload.busAck false (some (BitVec.ofNat 16 (s.xram.holding.toNat / if high then 65536 else 1))) := by
  simp [State.busResult, ha, hf, ho, haddr, resultHalf_eq]

theorem busRead_unfilled (hf : s.xram.filled = false) (w : Window) : s.busRead a w = (s.unload.drawn).busAck true (some s.freeHalf) := by
  simp [State.busRead, ha, hf]

theorem busWrite_unfilled (hf : s.xram.filled = false) (d : Half) (w : Window) : s.busWrite a d w = s.unload.busAck true none := by
  simp [State.busWrite, ha, hf]

end

theorem busRead_silent {s : State} (ha : s.busAnswers = false) (a : Nat) (w : Window) : s.busRead a w = s := by simp [State.busRead, ha]

theorem busWrite_silent {s : State} (ha : s.busAnswers = false) (a : Nat) (d : Half) (w : Window) : s.busWrite a d w = s := by
  simp [State.busWrite, ha]

/-! ## What a read and a write leave of the bank -/

/-- Nothing of the bank differs but its words and the access that it keeps of a conflict. -/
def Xram.SameRegister (x y : Xram) : Prop := y = { x with mem := y.mem, clash := y.clash }

theorem Xram.SameRegister.trans {x y z : Xram} (h : x.SameRegister y) (g : y.SameRegister z) : x.SameRegister z := by
  unfold Xram.SameRegister at *
  rw [g, h]

theorem warn_sameRegister (s : State) (a : Nat) (w : Window) (c : Bool) : s.xram.SameRegister (s.warn a w c).xram := by
  unfold State.warn
  split
  · dsimp only
    split <;> rfl
  · rfl

theorem laneAccess_sameRegister (s : State) (a : Nat) (x : LaneAccess) : s.xram.SameRegister (s.laneAccess a x).xram := by
  cases x <;> rfl

/-- A read or write of the bus parts a load from its execute and leaves the holding register (R499). -/
theorem busRead_parts {s : State} (ha : s.busAnswers = true) (hf : s.xram.filled = true) (a : Nat) (w : Window) :
    (s.busRead a w).xram = { s.xram with mem := (s.busRead a w).xram.mem, loaded := false, clash := (s.busRead a w).xram.clash } := by
  have h : s.unload.xram.SameRegister (s.busRead a w).xram := by
    have h1 := (warn_sameRegister s.unload a w (windowConflicts w false)).trans (laneAccess_sameRegister _ a w.lane)
    simp only [State.busRead, ha, hf, Bool.not_true, Bool.false_eq_true, if_false]
    split <;> exact h1
  exact h

theorem busWrite_parts {s : State} (ha : s.busAnswers = true) (hf : s.xram.filled = true) (a : Nat) (d : Half) (w : Window) :
    (s.busWrite a d w).xram = { s.xram with mem := (s.busWrite a d w).xram.mem, loaded := false, clash := (s.busWrite a d w).xram.clash } := by
  have h : s.unload.xram.SameRegister (s.busWrite a d w).xram := by
    have h1 : s.unload.xram.SameRegister ((s.unload.warn a w (windowConflicts w true)).putHalf a d).xram :=
      (warn_sameRegister s.unload a w (windowConflicts w true)).trans rfl
    simp only [State.busWrite, ha, hf]
    exact h1.trans (laneAccess_sameRegister _ a w.lane)
  exact h

/-! ## The atomic operation -/

theorem mayExecute_iff {s : State} {a : Nat} (hf : s.xram.filled = true) :
    s.mayExecute a = true ↔ s.xram.loaded = true ∧ s.xram.holdingAddr = a / 2 := by
  simp [State.mayExecute, hf]

/-- Settles O2, by the effect of each cycle. -/
theorem atomicOperationOnAWord : Obligations.AtomicOperationOnAWord := by
  intro t a lo hi swap high s hrange ha hf hwf
  refine ⟨⟨_, cycle_next hrange, ?_⟩, fun hl haddr => ⟨_, cycle_next hrange, ?_⟩, fun hn => ⟨_, cycle_next hrange, ?_⟩,
    fun ho haddr => ⟨_, cycle_next hrange, ?_⟩, fun w => ⟨⟨_, cycle_next hrange, ?_⟩, _, cycle_next hrange, ?_⟩⟩
  · rw [busLoad_filled (s := s.tick t) ha hf]
    exact ⟨rfl, rfl, setField_low _ lo, rfl⟩
  · have hm : (s.tick t).mayExecute a = true := (mayExecute_iff (s := s.tick t) hf).2 ⟨hl, haddr⟩
    rw [busExecute_of_may (s := s.tick t) ha hm]
    exact ⟨rfl, fun k hk => busOperate_word (s := s.tick t) hwf hk, fun b hb => busOperate_around (s := s.tick t) hwf hb, rfl, rfl, rfl⟩
  · have hm : (s.tick t).mayExecute a = false := by
      refine Bool.eq_false_iff.2 fun h => ?_
      obtain ⟨hl, haddr⟩ := (mayExecute_iff (s := s.tick t) hf).1 h
      exact hn.elim (fun h => absurd (h.symm.trans hl) nofun) (fun h => h haddr)
    rw [busExecute_of_not (s := s.tick t) ha hm]
    exact ⟨rfl, rfl⟩
  · rw [busResult_held (s := s.tick t) ha hf ho haddr]
    exact ⟨rfl, rfl⟩
  · exact busRead_parts (s := s.tick t) ha hf a w
  · exact busWrite_parts (s := s.tick t) ha hf a lo w

/-! ## No bank -/

/-- Settles O3, by the effect of a cycle before the fill and in a module that does not answer. -/
theorem maintenanceBusWhereThereIsNoBank : Obligations.MaintenanceBusWhereThereIsNoBank := by
  refine ⟨fun t a d w s hrange => ⟨fun ha hf => ⟨⟨_, cycle_next hrange, ?_⟩, _, (s.tick t).freeHalf, cycle_next hrange, ?_⟩,
    fun ha => ⟨⟨_, cycle_next hrange, ?_⟩, _, cycle_next hrange, ?_⟩⟩, fun t a d w swap high s h => ?_⟩
  · rw [busWrite_unfilled (s := s.tick t) ha hf]
    exact ⟨rfl, rfl⟩
  · rw [busRead_unfilled (s := s.tick t) ha hf]
    exact ⟨rfl, rfl⟩
  · rw [busWrite_silent (s := s.tick t) ha]
    exact ⟨rfl, rfl⟩
  · rw [busRead_silent (s := s.tick t) ha]
    exact ⟨rfl, rfl⟩
  · exact ⟨cycle_fault h, cycle_fault h, cycle_fault h, cycle_fault h, cycle_fault h, cycle_fault h⟩

/-! ## Cycles cut short -/

/-- An effect that Table 18.10 leaves open leaves what it leaves in both cases. -/
theorem perhaps_cases (s : State) (f : State → State) : s.perhaps f = f s.drawn ∨ s.perhaps f = s.drawn := by
  unfold State.perhaps
  dsimp only
  split
  · exact .inl rfl
  · exact .inr rfl

/-- Where the module does not answer, or the fill is not complete, a cycle cut short parts a load from its execute and does nothing else. -/
theorem cutShort_idle {s : State} (h : (s.busAnswers && s.xram.filled) = false) (y : BusCycle) : s.cutShort y = s.unload := by
  simp [State.cutShort, h]

/-- Nothing leaves the module on a cycle cut short, and what a cycle of the bank does is done or not. -/
theorem cutShort_bank {s : State} (h : (s.busAnswers && s.xram.filled) = true) (a : Nat) (d : Half) (swap high : Bool) :
    s.cutShort (.read a) = s.unload ∧ s.cutShort (.atomicResult a high) = s.unload ∧
    s.cutShort (.write a d) = s.unload.perhaps (fun u => u.putHalf a d) ∧
    s.cutShort (.atomicLoad a d) = s.unload.perhaps (fun u => u.holdOperand a d) ∧
    s.cutShort (.atomicExecute a d swap) = if s.mayExecute a then
      let s1 := s.perhaps (fun u => u.busOperate a d swap)
      { s1.drawn with xram := { s1.xram with holding := s1.freeWord, loaded := false, hasOld := true } } else s.unload := by
  simp [State.cutShort, h]

/-- The write is done or not. -/
theorem cutShort_write (s : State) (a : Nat) (d : Half) :
    (s.cutShort (.write a d)).sent = s.sent ∧ ((s.cutShort (.write a d)).xram.mem = s.xram.mem ∨
      (s.cutShort (.write a d)).xram.mem = (s.putHalf a d).xram.mem) := by
  cases h : s.busAnswers && s.xram.filled with
  | false =>
    rw [cutShort_idle h]
    exact ⟨rfl, .inl rfl⟩
  | true =>
    obtain ⟨-, -, hw, -⟩ := cutShort_bank h a d false false
    rw [hw]
    rcases perhaps_cases s.unload (fun u => u.putHalf a d) with hp | hp <;> rw [hp]
    · exact ⟨rfl, .inr rfl⟩
    · exact ⟨rfl, .inl rfl⟩

/-- The load is done or not. -/
theorem cutShort_load (s : State) (a : Nat) (d : Half) :
    (s.cutShort (.atomicLoad a d)).sent = s.sent ∧ (s.cutShort (.atomicLoad a d)).xram.mem = s.xram.mem ∧
      ((s.cutShort (.atomicLoad a d)).xram.holding = s.xram.holding ∨ (s.cutShort (.atomicLoad a d)).xram.holding.setWidth 16 = d) := by
  cases h : s.busAnswers && s.xram.filled with
  | false =>
    rw [cutShort_idle h]
    exact ⟨rfl, rfl, .inl rfl⟩
  | true =>
    obtain ⟨-, -, -, hl, -⟩ := cutShort_bank h a d false false
    rw [hl]
    rcases perhaps_cases s.unload (fun u => u.holdOperand a d) with hp | hp <;> rw [hp]
    · exact ⟨rfl, rfl, .inr (setField_low _ d)⟩
    · exact ⟨rfl, rfl, .inl rfl⟩

/-- The operation is performed or not. -/
theorem cutShort_execute (s : State) (a : Nat) (d : Half) (swap : Bool) :
    (s.cutShort (.atomicExecute a d swap)).sent = s.sent ∧ ((s.cutShort (.atomicExecute a d swap)).xram.mem = s.xram.mem ∨
      (s.cutShort (.atomicExecute a d swap)).xram.mem = (s.busOperate a d swap).xram.mem) := by
  cases h : s.busAnswers && s.xram.filled with
  | false =>
    rw [cutShort_idle h]
    exact ⟨rfl, .inl rfl⟩
  | true =>
    obtain ⟨-, -, -, -, he⟩ := cutShort_bank h a d swap false
    rw [he]
    split
    · rcases perhaps_cases s (fun u => u.busOperate a d swap) with hp | hp <;> rw [hp]
      · exact ⟨rfl, .inr rfl⟩
      · exact ⟨rfl, .inl rfl⟩
    · exact ⟨rfl, .inl rfl⟩

/-- A read and a result change no byte. -/
theorem cutShort_reads (s : State) (a : Nat) (high : Bool) :
    s.cutShort (.read a) = s.unload ∧ s.cutShort (.atomicResult a high) = s.unload := by
  cases h : s.busAnswers && s.xram.filled with
  | false => exact ⟨cutShort_idle h _, cutShort_idle h _⟩
  | true =>
    obtain ⟨hr, hres, -⟩ := cutShort_bank h a 0 false high
    exact ⟨hr, hres⟩

/-- Settles O4, by the two outcomes of each cycle. -/
theorem cutShortCycleIsDoneOrNot : Obligations.CutShortCycleIsDoneOrNot := by
  intro t a d swap high s hrange hwf
  obtain ⟨hread, hresult⟩ := cutShort_reads (s.tick t) a high
  refine ⟨⟨_, cycle_next hrange, ?_⟩, ⟨_, cycle_next hrange, ?_⟩, ⟨_, cycle_next hrange, ?_⟩, ⟨_, cycle_next hrange, ?_⟩, _, cycle_next hrange, ?_⟩
  · rw [hread]
    exact ⟨rfl, rfl⟩
  · rw [hresult]
    exact ⟨rfl, rfl⟩
  · obtain ⟨hsent, hmem⟩ := cutShort_write (s.tick t) a d
    refine ⟨hsent, hmem.imp (fun h b => congrArg (Mem.read · b) h) (fun h b => ?_)⟩
    exact (congrArg (Mem.read · b) h).trans (xramByte_putHalf (s := s.tick t) hwf b)
  · exact cutShort_load (s.tick t) a d
  · obtain ⟨hsent, hmem⟩ := cutShort_execute (s.tick t) a d swap
    refine ⟨hsent, fun b hb => ?_, hmem.imp (fun h b => congrArg (Mem.read · b) h) (fun h k hk => ?_)⟩
    · rcases hmem with h | h
      · exact congrArg (Mem.read · b) h
      · exact (congrArg (Mem.read · b) h).trans (busOperate_around (s := s.tick t) hwf hb)
    · exact (congrArg (Mem.read · (4 * (a / 2) + k)) h).trans (busOperate_word (s := s.tick t) hwf hk)

end Sys2Proof.Machine
end

section
/-! # The scrubbers and the freeze bit (R471, R475, R477, R478, R488; O5)

A scrubber read ends in one of three ways. One lemma says what each leaves of the lane, for either memory; the obligation reads it off for the
table store and the SRAM. -/

namespace Sys2Proof.Machine

/-! ## How a read ends -/

theorem readEnd_cases (e : ReadErrors) :
    (e.first = false ∧ readEnd e = .clean) ∨ ((e.first = true ∧ (e.second = false ∨ e.third = false)) ∧ readEnd e = .replayed) ∨
      ((e.first = true ∧ e.second = true ∧ e.third = true) ∧ readEnd e = .fault) := by
  obtain ⟨x, y, z⟩ := e
  cases x <;> cases y <;> cases z <;> simp [readEnd]

/-! ## A scrubber that does not read -/

theorem burstGood_false {x : Store} {m : Memory} (h : ∃ w ∈ x.bad m, w / 16 = x.pos m) : x.burstGood m (x.pos m) = false := by
  obtain ⟨w, hw, hpos⟩ := h
  exact List.all_eq_false.2 ⟨w, hw, by simp [hpos]⟩

theorem burstGood_true {x : Store} {m : Memory} (h : ∀ w ∈ x.bad m, w / 16 ≠ x.pos m) : x.burstGood m (x.pos m) = true :=
  List.all_eq_true.2 fun w hw => bne_iff_ne.2 (h w hw)

theorem scrub_stalled {s : State} {i : LaneId} {m : Memory} (e : ReadErrors)
    (h : (s.lane i).store.frozen = true ∨ ∃ w ∈ (s.lane i).store.bad m, w / 16 = (s.lane i).store.pos m) : s.scrub i m e = s := by
  refine if_neg fun hread => ?_
  obtain ⟨hscrubs, hgood⟩ := (Bool.and_eq_true _ _).mp hread
  rcases h with hfrozen | hbad
  · simp [State.scrubs, hfrozen] at hscrubs
  · exact absurd ((burstGood_false hbad).symm.trans hgood) nofun

/-! ## A scrubber that reads -/

/-- The lane's scrubber runs and the burst holds no word known to be wrong (R478). -/
structure ScrubReads (s : State) (i : LaneId) (m : Memory) : Prop where
  running : s.control.phase = .running
  tested : (s.lane i).mode ≠ .restarting
  free : (s.lane i).held = false
  thawed : (s.lane i).store.frozen = false
  good : ∀ w ∈ (s.lane i).store.bad m, w / 16 ≠ (s.lane i).store.pos m

theorem scrub_reads {s : State} {i : LaneId} {m : Memory} (h : ScrubReads s i m) :
    s.scrubs i = true ∧ (s.lane i).store.burstGood m ((s.lane i).store.pos m) = true := by
  refine ⟨?_, burstGood_true h.good⟩
  simp [State.scrubs, h.running, h.tested, h.free, h.thawed]

theorem scrub_clean {s : State} {i : LaneId} {m : Memory} {e : ReadErrors} (h : ScrubReads s i m) (he : readEnd e = .clean) :
    s.scrub i m e = s.modLane i (fun l => { l with store := (s.lane i).store.advance m }) := by
  simp [State.scrub, scrub_reads h, he]

theorem scrub_replayed {s : State} {i : LaneId} {m : Memory} {e : ReadErrors} (h : ScrubReads s i m) (he : readEnd e = .replayed) :
    let x := (s.lane i).store
    let addr := m.address (x.pos m)
    s.scrub i m e = (s.modLane i (fun l => { l with store := (x.replay m addr s.now).advance m })).memoryEvent i m 0xFE true addr := by
  simp [State.scrub, scrub_reads h, he]

theorem scrub_fault {s : State} {i : LaneId} {m : Memory} {e : ReadErrors} (h : ScrubReads s i m) (he : readEnd e = .fault) :
    let x := (s.lane i).store
    let y := x.setBad m (x.bad m ++ [16 * x.pos m + s.freeByte.toNat % 16])
    s.scrub i m e = ((s.drawn.modLane i (fun l => { l with store := y })).faultLane i .memory).memoryEvent i m 0xFE false (m.address (x.pos m)) := by
  simp [State.scrub, scrub_reads h, he, Store.spoil]

/-! ## The lane after a read -/

theorem memoryEvent_onlyLane (s : State) (i : LaneId) (m : Memory) (req : Nat) (cleared : Bool) (addr : Nat) :
    OnlyLane s i (s.memoryEvent i m req cleared addr) := by
  unfold State.memoryEvent State.laneEvent
  exact onlyLane_modLane s i _

/-- A store written in a lane, with the lane's record. -/
theorem storeRecord_lane (s : State) (i : LaneId) (y : Store) (m : Memory) (req : Nat) (cleared : Bool) (addr : Nat) :
    let u := (s.modLane i (fun l => { l with store := y })).memoryEvent i m req cleared addr
    OnlyLane s i u ∧ (u.lane i).store = y ∧ (u.lane i).localFault = (s.lane i).localFault := by
  refine ⟨(onlyLane_modLane s i _).trans (memoryEvent_onlyLane ..), ?_⟩
  unfold State.memoryEvent
  rw [laneEvent_lane_same, modLane_lane_same]
  generalize queuedOf _ _ _ _ _ = q
  obtain ⟨Q, n, b, h⟩ := enqueue_keeps { s.lane i with store := y } q
  rw [h]
  exact ⟨rfl, rfl⟩

/-- A fault of the lane leaves its store. -/
theorem faultRecord_lane (s : State) (i : LaneId) (y : Store) (c : Cause) (m : Memory) (req : Nat) (cleared : Bool) (addr : Nat) :
    let u := ((s.modLane i (fun l => { l with store := y })).faultLane i c).memoryEvent i m req cleared addr
    OnlyLane s i u ∧ (u.lane i).store = y ∧ (u.lane i).localFault = some ((s.lane i).localFault.getD c) := by
  refine ⟨(onlyLane_modLane s i _).trans ((onlyLane_modLane _ i _).trans (memoryEvent_onlyLane ..)), ?_⟩
  unfold State.memoryEvent State.faultLane
  rw [laneEvent_lane_same, modLane_lane_same, modLane_lane_same]
  generalize queuedOf _ _ _ _ _ = q
  obtain ⟨Q, n, b, h⟩ := enqueue_keeps { s.lane i with store := y, localFault := some ((s.lane i).localFault.getD c) } q
  rw [h]
  exact ⟨rfl, rfl⟩

/-- What a read of the scrubber leaves: `u` differs from `s` in lane `i` and in the free choices. -/
structure Scrubbed (s : State) (i : LaneId) (m : Memory) (e : ReadErrors) (u : State) : Prop where
  others : ∀ j, j ≠ i → u.lane j = s.lane j
  frame : u = { s with lanes := u.lanes, freeCtr := u.freeCtr }
  clean : e.first = false → u.lane i = { s.lane i with store := (s.lane i).store.advance m } ∧ u.freeCtr = s.freeCtr
  replayed : e.first = true ∧ (e.second = false ∨ e.third = false) →
    (u.lane i).store = ((s.lane i).store.replay m (m.address ((s.lane i).store.pos m)) s.now).advance m ∧
      (u.lane i).localFault = (s.lane i).localFault ∧ u.freeCtr = s.freeCtr
  failed : e.first = true ∧ e.second = true ∧ e.third = true →
    (u.lane i).localFault = some ((s.lane i).localFault.getD .memory) ∧
      ∃ w, w / 16 = (s.lane i).store.pos m ∧ (u.lane i).store = (s.lane i).store.setBad m ((s.lane i).store.bad m ++ [w])

theorem scrub_scrubbed {s : State} {i : LaneId} {m : Memory} (e : ReadErrors) (h : ScrubReads s i m) : Scrubbed s i m e (s.scrub i m e) := by
  rcases readEnd_cases e with ⟨h0, he⟩ | ⟨h1, he⟩ | ⟨h2, he⟩
  · rw [scrub_clean h he]
    exact ⟨fun _ => modLane_lane_other s _, rfl, fun _ => ⟨modLane_lane_same s i _, rfl⟩, fun h => absurd (h0.symm.trans h.1) nofun,
      fun h => absurd (h0.symm.trans h.1) nofun⟩
  · rw [scrub_replayed h he]
    obtain ⟨honly, hstore, hfault⟩ := storeRecord_lane s i _ m 0xFE true (m.address ((s.lane i).store.pos m))
    exact ⟨honly.2, rfl, fun h => absurd (h.symm.trans h1.1) nofun, fun _ => ⟨hstore, hfault, rfl⟩, fun ⟨_, h, g⟩ =>
      h1.2.elim (fun h' => absurd (h'.symm.trans h) nofun) (fun h' => absurd (h'.symm.trans g) nofun)⟩
  · rw [scrub_fault h he]
    obtain ⟨honly, hstore, hfault⟩ := faultRecord_lane s.drawn i _ .memory m 0xFE false (m.address ((s.lane i).store.pos m))
    exact ⟨honly.2, rfl, fun h => absurd (h.symm.trans h2.1) nofun,
      fun h => h.2.elim (fun h' => absurd (h'.symm.trans h2.2.1) nofun) (fun h' => absurd (h'.symm.trans h2.2.2) nofun),
      fun _ => ⟨hfault, _, by omega, hstore⟩⟩

/-- The read runs at its instant. -/
theorem run_scrub {s : State} {t : Nat} {i : LaneId} {m : Memory} (e : ReadErrors) (h : ScrubReads s i m) :
    ∃ u, run t (fun s => s.scrub i m e) s = .next u ∧ Scrubbed (s.tick t) i m e u := by
  have hs : Scrubbed (s.tick t) i m e ((s.tick t).scrub i m e) := scrub_scrubbed e ⟨h.running, h.tested, h.free, h.thawed, h.good⟩
  exact ⟨_, run_next rfl (by rw [hs.frame]; rfl) (by rw [hs.frame]; rfl), hs⟩

/-! ## The freeze bit -/

theorem unfreeze_frozen {s : State} {o : Origin} {kind : Nat} {i : LaneId} (h : (s.lane i).store.frozen = true) :
    s.unfreeze o kind i = (s.modLane i (fun l => { l with store := { l.store with frozen := false, ringKept := [] } })).event 0x0407 o
      [(24, 1, i.index), (25, 1, kind)] := if_pos h

theorem freezeTimeout_run (s : State) (t : Nat) (i : LaneId) : exec (.freezeTimeout t i) s =
    run t (fun u => if (u.lane i).store.frozenSince + 10000000 ≤ u.now then u.unfreeze Origin.internal 2 i else u) s := rfl

theorem freezeTimeout_due {s : State} {t : Nat} {i : LaneId} (hd : (s.lane i).store.frozenSince + 10000000 ≤ max s.now t) :
    exec (.freezeTimeout t i) s = run t (fun u => u.unfreeze Origin.internal 2 i) s := by
  rw [freezeTimeout_run, run_eq, run_eq, tick_lane, tick_now, if_pos hd]

theorem freezeTimeout_early {s : State} {t : Nat} {i : LaneId} (hd : max s.now t < (s.lane i).store.frozenSince + 10000000) :
    exec (.freezeTimeout t i) s = .next (State.tick t s) := by
  rw [freezeTimeout_run, run_eq, tick_lane, tick_now, if_neg (not_le.2 hd)]
  rfl

/-- The freeze bit clears with its record (R488). -/
theorem run_unfreeze {s : State} {t : Nat} {i : LaneId} (hf : (s.lane i).store.frozen = true) :
    ∃ u, run t (fun u => u.unfreeze Origin.internal 2 i) s = .next u ∧
      u.lane i = { s.lane i with store := { (s.lane i).store with frozen := false, ringKept := [] } } ∧
      (∀ j, j ≠ i → u.lane j = s.lane j) ∧ (∃ q, q.code = 0x0407 ∧ u.almanac = { s.almanac with events := s.almanac.events ++ [q] }) ∧
      u = { s with now := u.now, lanes := u.lanes, almanac := u.almanac } :=
  ⟨_, run_next (unfreeze_frozen (s := s.tick t) hf) rfl rfl, (event_lane ..).trans (modLane_lane_same (s.tick t) i _),
    fun _ hj => (event_lane ..).trans (modLane_lane_other (s.tick t) _ hj), ⟨_, rfl, rfl⟩, rfl⟩

/-- Settles O5, by the end of a scrubber's read and of a freeze. -/
theorem scrubbersAndTheFreezeBit : Obligations.ScrubbersAndTheFreezeBit := by
  refine ⟨fun t i e s hrun hmode hheld => ⟨fun h => run_idle (scrub_stalled (s := s.tick t) (m := .tableStore) e h),
    fun h => run_idle (scrub_stalled (s := s.tick t) (m := .sram) e h), fun hf hg => ?_, fun hf hg => ?_⟩,
    fun t i s => ⟨fun hf hd => ?_, fun hd => freezeTimeout_early hd⟩⟩
  · obtain ⟨u, hu, hs⟩ := run_scrub (t := t) (m := .tableStore) e ⟨hrun, hmode, hheld, hf, hg⟩
    exact ⟨u, hu, hs.others, hs.frame, hs.clean, hs.replayed, hs.failed⟩
  · obtain ⟨u, hu, hs⟩ := run_scrub (t := t) (m := .sram) e ⟨hrun, hmode, hheld, hf, hg⟩
    exact ⟨u, hu, hs.others, hs.frame, hs.clean, hs.replayed, hs.failed⟩
  · rw [freezeTimeout_due hd]
    exact run_unfreeze hf

end Sys2Proof.Machine
end

section
/-! # Seal switches and profile pins (R553, R557, R559, R562; O13) -/

namespace Sys2Proof.Machine

/-! ## The vote of the three lanes -/

section
variable {s : State} (hmode : ∀ i, (s.lane i).mode = .voting)
include hmode

theorem voteReading_all (x : Lanes Reading) :
    s.voteReading x = if x.a = x.b ∨ x.a = x.c then x.a else if x.b = x.c then x.b else .discrepant := by
  unfold State.voteReading
  rw [voting_all hmode]
  rfl

/-- Two equal readings are the voted one. -/
theorem voteReading_majority {x : Lanes Reading} {v : Reading} (h : x.a = v ∧ x.b = v ∨ x.a = v ∧ x.c = v ∨ x.b = v ∧ x.c = v) :
    s.voteReading x = v := by
  rw [voteReading_all hmode]
  rcases h with ⟨ha, hb⟩ | ⟨ha, hc⟩ | ⟨hb, hc⟩
  · rw [if_pos (.inl (ha.trans hb.symm)), ha]
  · rw [if_pos (.inr (ha.trans hc.symm)), ha]
  · rw [hb, hc, if_pos rfl]
    split
    · next h => exact h.elim id id
    · rfl

theorem voteReading_discrepant {x : Lanes Reading} (hab : x.a ≠ x.b) (hac : x.a ≠ x.c) (hbc : x.b ≠ x.c) : s.voteReading x = .discrepant := by
  rw [voteReading_all hmode, if_neg (not_or.2 ⟨hab, hac⟩), if_neg hbc]

/-- Pins on which the lanes agree. -/
theorem votePins_agreed {p : Lanes Nat} (hab : p.a = p.b) (hbc : p.b = p.c) (hp : p.a < 4) : s.votePins p = p.a := by
  have hpin : ∀ b old, votePin (s.voting.map (fun i => bitAt (p.get i) b)) old = bitAt p.a b := by
    intro b old
    rw [voting_all hmode]
    have hget : allLanes.map (fun i => bitAt (p.get i) b) = [bitAt p.a b, bitAt p.b b, bitAt p.c b] := rfl
    rw [hget, ← hbc, ← hab]
    cases bitAt p.a b <;> rfl
  unfold State.votePins
  simp only [hpin]
  generalize p.a = n at hp ⊢
  interval_cases n <;> rfl

end

/-! ## A change of a switch -/

/-- The voted readings that the lanes exchange after a vote on switch `k`. -/
theorem sealChange_current {s : State} {k : Nat} (hk : k < 16) (hrun : s.control.phase = .running) (x : Lanes Reading) :
    (s.sealChange k x).sealBank.current = if s.sealBank.current.getD k .isOpen = s.voteReading x then s.sealBank.current
      else s.sealBank.current.set k (s.voteReading x) := by
  unfold State.sealChange
  rw [if_pos ⟨hk, hrun⟩]
  dsimp only
  split <;> rfl

theorem sealChange_voted (s : State) (k : Nat) (x : Lanes Reading) :
    (s.sealChange k x).sealBank.voted = s.sealBank.voted ∧
      s.sealChange k x = { s with lanes := (s.sealChange k x).lanes, sealBank := (s.sealChange k x).sealBank } := by
  unfold State.sealChange
  split
  · dsimp only
    split <;> exact ⟨rfl, rfl⟩
  · exact ⟨rfl, rfl⟩

theorem sealChange_seals {s : State} {k : Nat} (hk : k < 16) (hrun : s.control.phase = .running) (x : Lanes Reading) (i : LaneId) :
    ((s.sealChange k x).lane i).inputs.seals = (s.lane i).inputs.seals.set k (x.get i) := by
  unfold State.sealChange State.lane
  rw [if_pos ⟨hk, hrun⟩]
  dsimp only
  rw [Lanes.get_mapI]
  split <;> exact congrArg (fun l : Lane => l.inputs.seals) (Lanes.get_mapI ..)

/-! ## A disagreement -/

theorem sealDisagrees_idle {s : State} {i : LaneId} {k : Nat} {e : Differ} (he : assoc (s.lane i).inputs.differs k = some e)
    (h : e.recorded = true ∨ s.now < e.since + second) : s.sealDisagrees i k = s := by
  unfold State.sealDisagrees
  rw [he]
  refine if_neg fun hd => ?_
  obtain ⟨-, hrec, hnow⟩ := hd
  rcases h with h | h
  · exact absurd (h.symm.trans hrec) nofun
  · exact absurd hnow (not_le.2 h)

theorem sealDisagrees_due {s : State} {i : LaneId} {k : Nat} {e : Differ} (he : assoc (s.lane i).inputs.differs k = some e)
    (hagreed : e.agreed = none) (hrec : e.recorded = false) (hnow : e.since + second ≤ s.now) :
    s.sealDisagrees i k = (s.laneEvent i 0x0902 [(24, 2, readingWord s.sealBank.current), (26, 2, readingWord (s.lane i).inputs.seals)]).modLane i
      (fun l => { l with inputs := { l.inputs with differs := assocSet l.inputs.differs k { e with recorded := true } } }) := by
  unfold State.sealDisagrees
  rw [he]
  exact if_pos ⟨hagreed, hrec, hnow⟩

theorem sealDisagrees_onlyLane (s : State) (i : LaneId) (k : Nat) : OnlyLane s i (s.sealDisagrees i k) := by
  unfold State.sealDisagrees
  split
  · split
    · exact (onlyLane_modLane s i _).trans (onlyLane_modLane _ i _)
    · exact OnlyLane.refl s i
  · exact OnlyLane.refl s i

/-- The lane's record of a disagreement, and the mark that it is written. -/
theorem sealDisagrees_lane {s : State} {i : LaneId} {k : Nat} {e : Differ} (he : assoc (s.lane i).inputs.differs k = some e)
    (hagreed : e.agreed = none) (hrec : e.recorded = false) (hnow : e.since + second ≤ s.now) (hq : (s.lane i).queue = []) :
    (∃ q, ((s.sealDisagrees i k).lane i).queue = [q] ∧ q.code = 0x0902 ∧ q.writer = i.index + 1) ∧
      assoc ((s.sealDisagrees i k).lane i).inputs.differs k = some { e with recorded := true } := by
  rw [sealDisagrees_due he hagreed hrec hnow, modLane_lane_same, laneEvent_lane_same]
  refine ⟨⟨_, enqueue_empty _ hq rfl, rfl, rfl⟩, ?_⟩
  rw [assoc_assocSet, if_pos rfl]

/-! ## The statement -/

/-- Settles O13, by the vote of the three lanes and the lane's own record. -/
theorem sealAndPinReadingsAreVoted : Obligations.SealAndPinReadingsAreVoted := by
  refine ⟨fun t k x p s hrun => ⟨fun hk hA hB hC => ?_, fun hab hbc hA hB hC hp => ?_⟩, fun t k i e s he hagreed => ⟨fun hrec hnow hq => ?_, fun h => ?_⟩⟩
  · have hmode : ∀ i, ((s.tick t).lane i).mode = .voting := fun i => by cases i <;> assumption
    obtain ⟨hvoted, hframe⟩ := sealChange_voted (s.tick t) k x
    have hcurrent := sealChange_current (s := s.tick t) hk hrun x
    refine ⟨_, run_next (v := (s.tick t).sealChange k x) rfl (by rw [hframe]; rfl) (by rw [hframe]; rfl), sealChange_seals (s := s.tick t) hk hrun x,
      fun v hv => ?_, fun hab hac hbc => ?_, hvoted, ?_⟩
    · rwa [voteReading_majority hmode hv] at hcurrent
    · rwa [voteReading_discrepant hmode hab hac hbc] at hcurrent
    · rw [hframe]
      rfl
  · have hmode : ∀ i, ((s.tick t).lane i).mode = .voting := fun i => by cases i <;> assumption
    have hpins := votePins_agreed hmode hab hbc hp
    refine ⟨_, run_next (if_pos hrun) rfl rfl, ?_, rfl, fun i => congrArg (fun l : Lane => l.inputs.psel) (Lanes.get_mapI ..), rfl⟩
    rw [hpins]
    dsimp only
    split
    · next h => exact h
    · rfl
  · obtain ⟨⟨q, hqueue, hcode, hwriter⟩, hmark⟩ := sealDisagrees_lane (s := s.tick t) he hagreed hrec hnow hq
    obtain ⟨u, hu, ⟨hother, hframe⟩, hlane⟩ := run_onlyLane (t := t) (f := fun u => u.sealDisagrees i k) (sealDisagrees_onlyLane (s.tick t) i k)
    refine ⟨u, q, hu, by rw [hlane]; exact hqueue, hcode, hwriter, by rw [hlane]; exact hmark, hother, ?_⟩
    rw [hframe]
  · exact run_idle (f := fun u => u.sealDisagrees i k) (sealDisagrees_idle (s := s.tick t) he h)

end Sys2Proof.Machine
end

section
/-! # Reset pin, seat and supplies (R588 to R590, R620, R626, R631, R645; O7 and O6)

What holding the module in reset leaves, the time of an assertion of MRST_N, and what a fall of the supplies keeps on its way into reset. -/

namespace Sys2Proof.Machine

/-! ## Held in reset -/

theorem holdReset_lane (s : State) (i : LaneId) : (s.holdReset.lane i).elements = 0 ∧ (s.holdReset.lane i).supplyClosed = false ∧
    (s.holdReset.lane i).mode = (s.lane i).mode ∧ (s.holdReset.lane i).queue = (s.lane i).queue ∧
    (s.holdReset.lane i).engine = (s.lane i).engine := by
  have h : s.holdReset.lane i = { s.lane i with
      elements := 0
      supplyClosed := false
      meridianToggles := false
      supervisionToggles := false
      program := (s.lane i).program.abandon
      vote := { (s.lane i).vote with decided := true } } := by
    unfold State.holdReset State.openSupply State.lane
    dsimp only
    rw [Lanes.get_mapI, Lanes.get_mapI]
    rfl
  rw [h]
  exact ⟨rfl, rfl, rfl, rfl, rfl⟩

/-- No output conducts in a module held in reset (R588). -/
theorem holdReset_terminals (s : State) : s.holdReset.terminals = 0 := terminals_of_open fun i => (holdReset_lane s i).2.1

/-- The release begins where nothing holds the lanes. -/
theorem beginRelease_free {s : State} (hp : s.control.phase = .reset) (hr : s.sealBank.resetAsserted = false) (hu : s.sealBank.unseated = false)
    (hb : s.sealBank.below = false) : s.beginRelease = { s with
      control := { s.control with phase := .release }
      sealBank := { s.sealBank with releaseSince := s.now } } := if_pos ⟨hp, hr, hu, hb⟩

/-- It does not begin while MRST_N is low. -/
theorem beginRelease_held {s : State} (hr : s.sealBank.resetAsserted = true) : s.beginRelease = s :=
  if_neg fun ⟨_, h, _⟩ => Bool.noConfusion (hr.symm.trans h)

/-! ## The pins -/

theorem releaseReset_free {s : State} (hp : s.control.phase = .reset) (hr : s.sealBank.resetAsserted = true) (hu : s.sealBank.unseated = false)
    (hb : s.sealBank.below = false) : ∃ x : Startup, s.releaseReset = { s with
      control := { s.control with phase := .release }
      sealBank := { s.sealBank with resetAsserted := false, releaseSince := s.now }
      startup := x } := by
  unfold State.releaseReset
  rw [if_pos hr]
  exact ⟨_, beginRelease_free hp rfl hu hb⟩

theorem seatedUntil_unseated {s : State} (hu : s.sealBank.unseated = true) (hle : s.sealBank.resetSince ≤ s.sealBank.unseatedSince)
    (hnow : s.sealBank.unseatedSince ≤ s.now) : s.seatedUntil = s.sealBank.unseatedSince := by
  unfold State.seatedUntil
  rw [if_pos hu, Nat.max_eq_right hle, Nat.min_eq_right hnow]

theorem seatedUntil_seated {s : State} (hu : s.sealBank.unseated = false) : s.seatedUntil = s.now := by simp [State.seatedUntil, hu]

/-- The bank of a module that is seated again: a length of MRST_N that is still measured leaves out the time unseated (R620). -/
def State.seated (s : State) : State := { s with sealBank := { s.sealBank with
    unseated := false
    resetSince := if s.sealBank.resetAsserted then s.sealBank.resetSince + (s.now - s.seatedUntil) else s.sealBank.resetSince } }

theorem moduleSeated_run (s : State) (t : Nat) :
    exec (.moduleSeated t) s = run t (fun s => if s.sealBank.unseated then s.seated.beginRelease else s) s := rfl

theorem moduleSeated_free {s : State} (t : Nat) (hp : s.control.phase = .reset) (hu : s.sealBank.unseated = true)
    (hr : s.sealBank.resetAsserted = false) (hb : s.sealBank.below = false) : exec (.moduleSeated t) s = .next { s with
      now := max s.now t
      control := { s.control with phase := .release }
      sealBank := { s.sealBank with unseated := false, releaseSince := max s.now t } } := by
  have hfree := beginRelease_free (s := (s.tick t).seated) hp hr rfl hb
  have hsince : (s.tick t).seated.sealBank = { s.sealBank with unseated := false } := by simp [State.seated, hr]
  rw [hsince] at hfree
  exact run_next ((if_pos hu).trans hfree) rfl rfl

/-- The time unseated is left out of the length (R620). -/
theorem moduleSeated_measuring {s : State} (t : Nat) (hr : s.sealBank.resetAsserted = true) (hu : s.sealBank.unseated = true)
    (hle : s.sealBank.resetSince ≤ s.sealBank.unseatedSince) (hnow : s.sealBank.unseatedSince ≤ s.now) :
    exec (.moduleSeated t) s = .next { s with
      now := max s.now t
      sealBank := { s.sealBank with
        unseated := false
        resetSince := s.sealBank.resetSince + (max s.now t - s.sealBank.unseatedSince) } } := by
  have huntil := seatedUntil_unseated (s := s.tick t) hu hle (hnow.trans (Nat.le_max_left ..))
  have hheld := beginRelease_held (s := (s.tick t).seated) hr
  refine run_next ((if_pos hu).trans hheld) rfl rfl |>.trans ?_
  simp [State.seated, hr, huntil]

theorem resetStuck_run (s : State) (t : Nat) : exec (.resetStuck t) s = run t (fun s =>
    if s.resetSinceLong then { s with startup := { s.startup with resetStuck := some s.resetLength } } else s) s := rfl

/-- An assertion of more than 5 s latches with its length (R590). -/
theorem resetStuck_long {s : State} {t : Nat} (hr : s.sealBank.resetAsserted = true) (hu : s.sealBank.unseated = false)
    (h : s.sealBank.resetSince + 5000000000 < max s.now t) : exec (.resetStuck t) s = .next { s with
      now := max s.now t
      startup := { s.startup with resetStuck := some (min 0xFFFFFFFF ((max s.now t - s.sealBank.resetSince) / 1000000)) } } := by
  have huntil : (s.tick t).seatedUntil = max s.now t := seatedUntil_seated (s := s.tick t) hu
  have hlong : (s.tick t).resetSinceLong = true := by simp [State.resetSinceLong, huntil, hr, h]
  have hlength : (s.tick t).resetLength = min 0xFFFFFFFF ((max s.now t - s.sealBank.resetSince) / 1000000) := by
    simp [State.resetLength, huntil]
  rw [resetStuck_run]
  refine run_next ((if_pos hlong).trans ?_) rfl rfl
  rw [hlength]
  rfl

theorem resetStuck_short {s : State} {t : Nat} (hu : s.sealBank.unseated = false) (h : max s.now t ≤ s.sealBank.resetSince + 5000000000) :
    exec (.resetStuck t) s = .next (State.tick t s) := by
  have huntil : (s.tick t).seatedUntil = max s.now t := seatedUntil_seated (s := s.tick t) hu
  have hshort : (s.tick t).resetSinceLong = false := by simp [State.resetSinceLong, huntil, not_lt.2 h]
  rw [resetStuck_run, run_eq, hshort]
  rfl

theorem supplyReturn_free {s : State} (hp : s.control.phase = .reset) (hr : s.sealBank.resetAsserted = false) (hu : s.sealBank.unseated = false) :
    s.supplyReturn.control = { s.control with phase := .release } ∧
      s.supplyReturn.sealBank = { s.sealBank with below := false, releaseSince := s.now } := by
  unfold State.supplyReturn
  extract_lets long _ _ s1
  have h1 : s1.beginRelease = _ := beginRelease_free (s := s1) hp hr hu rfl
  simp only [hp, h1]
  exact ⟨rfl, rfl⟩

/-- Settles O7, by what holds the module in reset and what releases it. -/
theorem resetPinAndSeatHoldTheModule : Obligations.ResetPinAndSeatHoldTheModule := by
  refine ⟨fun t s => ⟨⟨_, run_next (f := State.assertReset) rfl rfl rfl, ?_⟩, ⟨_, rfl, ?_⟩, fun hp hr hu hb => ?_,
    fun hp hu hr hb => moduleSeated_free t hp hu hr hb, fun hp hb hr hu => ?_⟩, fun t s hr hu hle hnow => ?_,
    fun t s hr hu => ⟨resetStuck_long hr hu, resetStuck_short hu⟩⟩
  · have hlane := holdReset_lane (s.tick t)
    refine ⟨rfl, rfl, rfl, rfl, rfl, holdReset_terminals (s.tick t), rfl, fun i => ?_, rfl, rfl, rfl, rfl⟩
    obtain ⟨helements, hsupply, hmode, -⟩ := hlane i
    exact ⟨helements, hsupply, hmode⟩
  · exact ⟨rfl, rfl, rfl, rfl, holdReset_terminals (s.tick t), fun i => (holdReset_lane (s.tick t) i).1, rfl, rfl⟩
  · obtain ⟨x, hx⟩ := releaseReset_free (s := s.tick t) hp hr hu hb
    exact ⟨_, run_next (f := State.releaseReset) hx rfl rfl, rfl, rfl, rfl, rfl⟩
  · obtain ⟨hcontrol, hbank⟩ := supplyReturn_free (s := s.tick t) hp hr hu
    exact ⟨_, congrArg (fun u : State => Host.Outcome.next (u.close (max s.now t) s.pending)) (if_pos hb), hcontrol, hbank⟩
  · exact ⟨_, moduleSeated_measuring t hr hu hle hnow, rfl, rfl⟩

/-! ## What a fall to safe-off keeps -/

/-- The parts of the state, and of lane `i`, that no discard and no abort touches. -/
def State.retained (s : State) (i : LaneId) : List Snapshot × Xram × Seal × List Queued × List (Nat × RouteEntry) :=
  (s.snapshots, s.xram, s.sealBank, (s.lane i).queue, (s.lane i).engine.routes)

theorem retained_of_lane {s u : State} {i : LaneId} {l : Lane} (hu : u.snapshots = s.snapshots ∧ u.xram = s.xram ∧ u.sealBank = s.sealBank)
    (hlane : u.lane i = l) (hl : l.queue = (s.lane i).queue ∧ l.engine.routes = (s.lane i).engine.routes) : u.retained i = s.retained i := by
  obtain ⟨hsnap, hxram, hseal⟩ := hu
  obtain ⟨hqueue, hroutes⟩ := hl
  unfold State.retained
  rw [hsnap, hxram, hseal, hlane, hqueue, hroutes]

theorem retained_foldl {α : Type} {i : LaneId} (f : State → α → State) (hf : ∀ u x, (f u x).retained i = u.retained i) (l : List α) (s : State) :
    (l.foldl f s).retained i = s.retained i := by
  induction l generalizing s with
  | nil => rfl
  | cons x l ih => exact (ih (f s x)).trans (hf s x)

section
variable (s : State) (i : LaneId)

theorem retained_sendReply (r : Reply) : (s.sendReply r).retained i = s.retained i := by unfold State.sendReply; split <;> rfl

theorem retained_reply (r : Reply) : (s.reply r).retained i = s.retained i := by
  unfold State.reply State.replyWith
  split
  · rfl
  · split
    · rfl
    · dsimp only
      split
      · exact retained_sendReply s i _
      · refine retained_of_lane ⟨rfl, rfl, rfl⟩ (Lanes.get_mapI s.lanes _ i) ?_
        split <;> exact ⟨rfl, rfl⟩

theorem retained_discardKey (k : RecKey) : (s.discardKey k).retained i = s.retained i := by
  have hanswer : ∀ (r : HostRec) (nets : List Net) (st snap : Nat) (data : Bytes), (s.answer r nets true false st snap data).retained i = s.retained i := by
    refine fun r nets st snap data => retained_foldl _ (fun u n => ?_) nets s
    dsimp only
    split
    · rfl
    · exact retained_reply u i _
  unfold State.discardKey
  split
  · rfl
  · dsimp only
    split
    · exact hanswer _ _ _ _ _
    · rfl

theorem retained_discardKeys (ks : List RecKey) : (s.discardKeys ks).retained i = s.retained i :=
  retained_foldl State.discardKey (fun u k => retained_discardKey u i k) ks s

theorem retained_dropPending : s.dropPending.retained i = s.retained i := by
  unfold State.dropPending
  exact retained_discardKeys s i _

theorem retained_dropArm : s.dropArm.retained i = s.retained i := by
  unfold State.dropArm
  split
  · exact retained_discardKey s i _
  · rfl

theorem retained_abortArmed (cause : Nat) : (s.abortArmed cause).retained i = s.retained i := by
  unfold State.abortArmed
  extract_lets s1
  have h1 : s1.retained i = s.retained i := by
    refine retained_foldl _ (fun u k => ?_) _ s
    split
    · next g _ =>
      split
      · cases g.abortKey <;> rfl
      · rfl
    · rfl
  split <;> exact h1

theorem retained_abortProfile : s.abortProfile.retained i = s.retained i := by
  unfold State.abortProfile
  split
  · exact retained_discardKeys s i _
  · rfl

theorem retained_discardWork : s.discardWork.retained i = s.retained i := by
  unfold State.discardWork
  extract_lets flying waiting s1
  have h1 : s1.retained i = s.retained i := retained_discardKeys s i _
  rw [← h1]
  exact retained_of_lane ⟨rfl, rfl, rfl⟩ (Lanes.get_mapI s1.lanes _ i) ⟨rfl, rfl⟩

theorem retained_endAllSessions : s.endAllSessions.retained i = s.retained i := by
  unfold State.endAllSessions
  dsimp only
  split <;> rfl

theorem retained_openSupply : s.openSupply.retained i = s.retained i :=
  retained_of_lane ⟨rfl, rfl, rfl⟩ (Lanes.get_mapI s.lanes _ i) ⟨rfl, rfl⟩

theorem retained_fallen : s.fallen.retained i = s.retained i := by
  simp only [State.fallen, retained_openSupply, retained_endAllSessions, retained_discardWork, retained_abortProfile, retained_abortArmed,
    retained_dropArm, retained_dropPending]
  rfl

end

/-- One record of each lane: it is queued in its own writer. -/
theorem laneRecords_lane (s : State) (code : Nat) (f : LaneId → List (Nat × Nat × Nat)) (i : LaneId) :
    ∃ w, (allLanes.foldl (fun u j => u.laneEvent j code (f j)) s).lane i =
      (s.lane i).enqueue (queuedOf code (i.index + 1) w Origin.internal [payloadFields (f i)]) := by
  have hlanes : ∀ j k l, j ≠ i → k ≠ i → l = i → ((s.laneEvent j code (f j)).laneEvent k code (f k)).lane l = s.lane l := by
    rintro j k l hj hk rfl
    rw [laneEvent_lane_other _ _ _ hk.symm, laneEvent_lane_other _ _ _ hj.symm]
  show ∃ w, (((s.laneEvent .A code (f .A)).laneEvent .B code (f .B)).laneEvent .C code (f .C)).lane i = _
  cases i with
  | A =>
    rw [laneEvent_lane_other _ _ _ (by decide), laneEvent_lane_other _ _ _ (by decide), laneEvent_lane_same]
    exact ⟨_, rfl⟩
  | B =>
    rw [laneEvent_lane_other _ _ _ (by decide), laneEvent_lane_same, laneEvent_lane_other _ _ _ (by decide)]
    exact ⟨_, rfl⟩
  | C =>
    rw [laneEvent_lane_same, hlanes .A .B .C (by decide) (by decide) rfl]
    exact ⟨_, rfl⟩

/-- The power failure: the module held in reset after a safe-off in which each lane wrote cause 3 (R626). -/
theorem powerFail_running {s : State} (hrun : s.control.phase = .running) : s.powerFail = (s.safeOffFor (fun _ => 3)).holdReset := by
  unfold State.powerFail
  rw [hrun]

theorem powerFail_keeps {s : State} (hrun : s.control.phase = .running) :
    s.powerFail.snapshots = s.snapshots ∧ s.powerFail.xram = s.xram ∧ s.powerFail.sealBank = s.sealBank ∧
      ∀ i, (s.powerFail.lane i).engine.routes = (s.lane i).engine.routes ∧
        ((s.lane i).queue = [] → ∃ q, (s.powerFail.lane i).queue = [q] ∧ q.code = 0x0405 ∧ q.writer = i.index + 1 ∧
          q.payloads = [payloadFields [(24, 1, i.index), (25, 1, 3)]]) := by
  have hfallen : ∀ i, s.fallen.snapshots = s.snapshots ∧ s.fallen.xram = s.xram ∧ s.fallen.sealBank = s.sealBank ∧
      (s.fallen.lane i).queue = (s.lane i).queue ∧ (s.fallen.lane i).engine.routes = (s.lane i).engine.routes := fun i => by
    simpa only [State.retained, Prod.mk.injEq] using retained_fallen s i
  obtain ⟨hsnap, hxram, hseal, -⟩ := hfallen .A
  rw [powerFail_running hrun, safeOffFor_eq]
  generalize s.fallen = f at hfallen hsnap hxram hseal ⊢
  refine ⟨hsnap, hxram, hseal, fun i => ?_⟩
  obtain ⟨-, -, -, hqueue, hroutes⟩ := hfallen i
  obtain ⟨w, hw⟩ := laneRecords_lane f 0x0405 (fun i => [(24, 1, i.index), (25, 1, 3)]) i
  generalize allLanes.foldl (fun u j => u.laneEvent j 0x0405 [(24, 1, j.index), (25, 1, 3)]) f = v at hw ⊢
  obtain ⟨-, -, -, hq, he⟩ := holdReset_lane (v.mapLanes Lane.shutDown) i
  rw [hq, he, mapLanes_lane]
  have hshut : ((v.lane i).shutDown.queue = (v.lane i).queue) ∧ (v.lane i).shutDown.engine = (v.lane i).engine := ⟨rfl, rfl⟩
  rw [hshut.1, hshut.2, hw]
  refine ⟨?_, fun hempty => ⟨_, enqueue_empty _ (hqueue.trans hempty) rfl, rfl, rfl, rfl⟩⟩
  obtain ⟨Q, n, b, hkeep⟩ := enqueue_keeps (f.lane i)
    (queuedOf 0x0405 (i.index + 1) w Origin.internal [payloadFields [(24, 1, i.index), (25, 1, 3)]])
  rw [hkeep]
  exact hroutes

/-! ## Core supply and output supply -/

theorem coreUndervoltage_voting {s : State} {i : LaneId} (hmode : (s.lane i).mode = .voting) :
    OnlyLane s i (s.coreUndervoltage i) ∧ ((s.coreUndervoltage i).lane i).mode = .isolated ∧ ((s.coreUndervoltage i).lane i).held = true ∧
      ((s.coreUndervoltage i).lane i).elements = 0 ∧ ((s.coreUndervoltage i).lane i).supplyClosed = false ∧
      ((s.coreUndervoltage i).lane i).vote.sent = none := by
  have hstage : (s.control.phase == .running && ((s.lane i).mode == .restarting || (s.lane i).mode == .copying || (s.lane i).mode == .shadow)) = false := by
    simp [hmode]
  unfold State.coreUndervoltage
  simp only [hstage]
  refine ⟨onlyLane_modLane s i _, ?_⟩
  simp [hmode]

theorem coreUndervoltage_run (s : State) (t : Nat) (i : LaneId) :
    exec (.coreUndervoltage t i) s = run t (fun u => (u.coreUndervoltage i).checkSafeOff) s := rfl

/-- The low output supply takes the terminals off (R631). -/
theorem outputSupplyLow_terminals (s : State) : s.outputSupplyLow.terminals = 0 := by
  have hoff : s.outputSupplyLow.supplyOn = false := rfl
  exact if_neg (by simp [hoff])

/-! ## The supply inputs -/

theorem supplyBelow_run (s : State) (t : Nat) : exec (.supplyBelow t) s = run t (fun s =>
    if s.sealBank.below then s else { s with sealBank := { s.sealBank with below := true, belowSince := s.now } }) s := rfl

theorem supplyReturn_run (s : State) (t : Nat) : exec (.supplyReturn t) s = run t (fun s => if s.sealBank.below then s.supplyReturn else s) s := rfl

theorem powerFail_run (s : State) (t : Nat) :
    exec (.powerFail t) s = run t (fun s => if s.sealBank.below && decide (10000000 ≤ s.belowFor) then s.powerFail else s) s := rfl

/-- An input that returns in time changes nothing but that (R626). -/
theorem supplyReturn_running {s : State} (hrun : s.control.phase = .running) (h : ¬ 10000000 ≤ s.belowFor) :
    s.supplyReturn = { s with sealBank := { s.sealBank with below := false } } := by
  unfold State.supplyReturn State.beginRelease
  simp [hrun, h]

theorem belowFor_iff {s : State} {t : Nat} : 10000000 ≤ (s.tick t).belowFor ↔ s.sealBank.belowSince + 10000000 ≤ max s.now t := by
  have h : (s.tick t).belowFor = max s.now t - s.sealBank.belowSince := rfl
  rw [h]
  omega

/-- Settles O6, by the fall to safe-off and into reset, and the two monitors. -/
theorem suppliesThatFall : Obligations.SuppliesThatFall := by
  refine ⟨fun t s => ⟨fun hb => ?_, fun hb hrun hd => ⟨?_, ?_⟩, fun hb hrun hd => ?_⟩, fun t i s => ⟨fun hrun hothers hmode => ?_, ?_⟩⟩
  · rw [supplyBelow_run]
    exact run_next (if_neg (by simp [hb])) rfl rfl
  · rw [supplyReturn_run]
    have hreturn := supplyReturn_running (s := s.tick t) hrun (belowFor_iff.not.2 (not_le.2 hd))
    exact run_next ((if_pos hb).trans hreturn) rfl rfl
  · rw [powerFail_run]
    refine run_idle (if_neg ?_)
    rw [decide_eq_false (belowFor_iff.not.2 (not_le.2 hd)), Bool.and_false]
    exact Bool.false_ne_true
  · have hfails : ((s.tick t).sealBank.below && decide (10000000 ≤ (s.tick t).belowFor)) = true := by
      rw [decide_eq_true (belowFor_iff.2 hd), Bool.and_true]
      exact hb
    obtain ⟨hsnap, hxram, hseal, hlanes⟩ := powerFail_keeps (s := s.tick t) hrun
    have hheld := powerFail_running (s := s.tick t) hrun
    rw [powerFail_run, run_eq, if_pos hfails]
    rw [hheld] at hsnap hxram hseal hlanes ⊢
    generalize (s.tick t).safeOffFor (fun _ => 3) = x at hsnap hxram hseal hlanes ⊢
    refine ⟨_, rfl, rfl, rfl, rfl, holdReset_terminals x, hsnap, hxram, hseal, fun i => ?_⟩
    obtain ⟨helements, hsupply, -⟩ := holdReset_lane x i
    obtain ⟨hroutes, hqueue⟩ := hlanes i
    exact ⟨helements, hsupply, hroutes, hqueue⟩
  · have hrun' : (s.tick t).control.phase = .running := hrun
    obtain ⟨⟨hsame, hother⟩, hmode', hheld, helements, hsupply, hsent⟩ := coreUndervoltage_voting (s := s.tick t) hmode
    have hon : ((s.tick t).coreUndervoltage i).checkSafeOff = (s.tick t).coreUndervoltage i :=
      checkSafeOff_goes_on (holders_of_others fun j hj => by rw [hother j hj]; simp [Lane.holds, hothers j hj])
    rw [coreUndervoltage_run, run_sameButLanes (f := fun u => (u.coreUndervoltage i).checkSafeOff) (by rw [hon]; exact hsame), hon]
    exact ⟨_, rfl, hmode', hheld, helements, hsupply, hsent, hother, rfl⟩
  · refine ⟨_, run_next (f := State.outputSupplyLow) rfl rfl rfl, rfl, outputSupplyLow_terminals (s.tick t), rfl, rfl, rfl, rfl, fun j => ?_⟩
    exact Lanes.get_mapI ..

end Sys2Proof.Machine
end

section
/-! # The power-up BIST and Dusk (R572, R574, R578 to R580, R584; O9 and O11) -/

namespace Sys2Proof.Machine

/-! ## Repairs -/

/-- The repairs of a march enter the repair map of one lane; a start records them. -/
theorem softRepair_keeps (s : State) (i : LaneId) (m : March) (record : Bool) :
    s.softRepair i m record = { s with lanes := (s.softRepair i m record).lanes, almanac := (s.softRepair i m record).almanac } ∧
      ((s.softRepair i m record).lane i) = { s.lane i with softRepairs := (s.lane i).softRepairs ++ m.repairs } ∧
      ∀ j, j ≠ i → (s.softRepair i m record).lane j = s.lane j := by
  unfold State.softRepair
  dsimp only
  split
  · exact ⟨rfl, (event_lane ..).trans (modLane_lane_same s i _), fun j hj => (event_lane ..).trans (modLane_lane_other s _ hj)⟩
  · exact ⟨rfl, modLane_lane_same s i _, fun j hj => modLane_lane_other s _ hj⟩

/-! ## The power-up BIST -/

theorem nextBist_first (s : State) : s.nextBist = some .A ↔ (s.lane .A).bistNeeded = true := by
  have h : s.nextBist = if (s.lane .A).bistNeeded then some .A else if (s.lane .B).bistNeeded then some .B else
      if (s.lane .C).bistNeeded then some .C else none := by
    unfold State.nextBist allLanes
    simp only [List.find?_cons, List.find?_nil]
    cases (s.lane .A).bistNeeded <;> cases (s.lane .B).bistNeeded <;> cases (s.lane .C).bistNeeded <;> rfl
  rw [h]
  cases (s.lane .A).bistNeeded <;> cases (s.lane .B).bistNeeded <;> cases (s.lane .C).bistNeeded <;> decide

theorem nextBist_none (s : State) : s.nextBist = none ↔ ∀ j, (s.lane j).bistNeeded = false := by
  unfold State.nextBist
  rw [List.find?_eq_none]
  constructor
  · intro h j
    exact Bool.eq_false_iff.2 (h j (by cases j <;> decide))
  · intro h j _
    exact Bool.eq_false_iff.1 (h j)

/-- The BIST of the lane whose turn it is: its repairs, its verdict, and the turn of the next lane (R572, R574). -/
theorem bistComplete_turn {s : State} {i : LaneId} (r : BistResult) (hp : s.control.phase = .starting) (hturn : s.startup.bistTurn = some i) :
    ∃ w : State, s.bistComplete i r = { w with startup := { w.startup with bistTurn := w.nextBist } } ∧
      w.lane i = { s.lane i with
        bistNeeded := false
        startPassed := r.signatureOk && r.march.spareLeft
        softRepairs := (s.lane i).softRepairs ++ r.march.repairs } ∧
      (∀ j, j ≠ i → w.lane j = s.lane j) ∧ w = { s with lanes := w.lanes, almanac := w.almanac } := by
  obtain ⟨hframe, hlane, hother⟩ := softRepair_keeps s i r.march true
  refine ⟨_, if_pos ⟨hp, hturn⟩, ?_, fun j hj => (modLane_lane_other _ _ hj).trans (hother j hj), ?_⟩
  · rw [modLane_lane_same, hlane]
  · generalize s.softRepair i r.march true = v at hframe ⊢
    rw [hframe]
    rfl

/-- Settles O9, by the repairs of the lane and the search for the next one. -/
theorem powerUpBistLaneByLane : Obligations.PowerUpBistLaneByLane := by
  intro t i r s hp hturn
  obtain ⟨w, hdone, hlane, hother, hframe⟩ := bistComplete_turn (s := s.tick t) r hp hturn
  have hrun : exec (.laneBistComplete t i r) s = run t (fun u => u.bistComplete i r) s := rfl
  have hcontrol : w.control = s.control := by
    rw [hframe]
    rfl
  rw [hrun, run_eq, hdone]
  refine ⟨_, rfl, hlane, hother, hcontrol, nextBist_first w, nextBist_none w, ?_⟩
  rw [hframe]
  rfl

/-! ## Dusk -/

/-- The lane that seals its record and hands on (R578). -/
def Lane.sealDusk (l : Lane) (r : DuskResult) (stopped : Bool) : Lane :=
  { l with softRepairs := l.softRepairs ++ r.march.repairs, dusk := l.dusk.map (fun d => d.sealed r stopped) }

theorem ne_of_next {i j : LaneId} (h : laneOf (i.index + 1) = some j) : j ≠ i := by
  revert h
  cases i <;> cases j <;> decide

theorem beginDusk_lane_other (s : State) {i j : LaneId} (h : i ≠ j) : (s.beginDusk j).lane i = s.lane i :=
  Lanes.get_put_other s.lanes _ h

theorem beginDusk_runs (s : State) (j : LaneId) : ((s.beginDusk j).lane j).duskRuns = (s.lane j).duskRuns + 1 :=
  congrArg Lane.duskRuns (Lanes.get_put_same s.lanes j _)

/-- The lane seals its record, and the next one begins. -/
theorem duskLaneComplete_next {s : State} {i j : LaneId} (r : DuskResult) (hp : s.control.phase = .dusk) (hturn : s.startup.duskTurn = some i)
    (hj : laneOf (i.index + 1) = some j) :
    (s.duskLaneComplete i r).lane i = (s.lane i).sealDusk r s.startup.duskStop ∧
      ((s.duskLaneComplete i r).lane j).duskRuns = (s.lane j).duskRuns + 1 ∧
      (s.duskLaneComplete i r).startup = { s.startup with duskTurn := some j, duskStop := false } ∧
      s.duskLaneComplete i r = { s with lanes := (s.duskLaneComplete i r).lanes, startup := (s.duskLaneComplete i r).startup } := by
  have hrepair : s.softRepair i r.march false = s.modLane i (fun l => { l with softRepairs := l.softRepairs ++ r.march.repairs }) := rfl
  have hcomplete : s.duskLaneComplete i r = ((s.softRepair i r.march false).modLane i (fun l =>
      { l with dusk := l.dusk.map (fun d => d.sealed r s.startup.duskStop) })).beginDusk j := by
    unfold State.duskLaneComplete
    rw [if_pos ⟨hp, hturn⟩, hj]
  have hne := ne_of_next hj
  rw [hcomplete, hrepair]
  refine ⟨?_, ?_, rfl, rfl⟩
  · rw [beginDusk_lane_other _ hne.symm, modLane_lane_same, modLane_lane_same]
    rfl
  · rw [beginDusk_runs, modLane_lane_other _ _ hne, modLane_lane_other _ _ hne]

/-! ## Conditions out of range -/

theorem duskConditions_good {s : State} (i : LaneId) (n : Nat) {clock supply : Nat} (h1 : 49500 ≤ clock) (h2 : clock ≤ 50500) (h3 : 873 ≤ supply)
    (h4 : supply ≤ 927) : s.duskConditions i n clock supply = s := by
  refine if_neg fun h => ?_
  have hbad := h.2.2.2
  simp only [Bool.or_eq_true, decide_eq_true_eq] at hbad
  omega

theorem duskConditions_bad {s : State} {i : LaneId} (n : Nat) {clock supply : Nat} (hp : s.control.phase = .dusk) (hturn : s.startup.duskTurn = some i)
    (hstop : s.startup.duskStop = false) (h : clock < 49500 ∨ 50500 < clock ∨ supply < 873 ∨ 927 < supply) :
    s.duskConditions i n clock supply = { s.modLane i (fun l => { l with dusk := l.dusk.map (fun d =>
        { d with patterns := min n 1048576, clockKhz := clock, vmin := supply, vmax := supply }) }) with
      startup := { s.startup with duskStop := true } } := by
  refine if_pos ⟨hp, hturn, hstop, ?_⟩
  simp only [Bool.or_eq_true, decide_eq_true_eq]
  omega

/-- Settles O11, by the sealed record, the turn, and the conditions. -/
theorem duskTestSealsEachLane : Obligations.DuskTestSealsEachLane := by
  intro t i j r d s hp hturn hd
  refine ⟨fun hj => ?_, fun n clock supply hbad hstop => ?_, fun n clock supply h1 h2 h3 h4 => ?_⟩
  · obtain ⟨hlane, hruns, hstartup, hframe⟩ := duskLaneComplete_next (s := s.tick t) r hp hturn hj
    have hdusk : (((s.tick t).duskLaneComplete i r).lane i).dusk = some (d.sealed r s.startup.duskStop) := by
      rw [hlane]
      exact congrArg (Option.map fun d => DuskRecord.sealed d r s.startup.duskStop) hd
    have hrun : exec (.duskLaneComplete t i r) s = run t (fun u => u.duskLaneComplete i r) s := rfl
    rw [hrun, run_eq]
    generalize (s.tick t).duskLaneComplete i r = u at hlane hruns hstartup hframe hdusk ⊢
    refine ⟨_, d.sealed r s.startup.duskStop, rfl, hdusk, rfl, rfl, rfl, rfl, rfl, ?_, hstartup, hruns, ?_⟩
    · exact congrArg Lane.softRepairs hlane
    · rw [hframe]
      rfl
  · have hrun : exec (.duskConditions t i n clock supply) s = run t (fun u => u.duskConditions i n clock supply) s := rfl
    have hlane := modLane_lane_same (s.tick t) i (fun l => { l with dusk := l.dusk.map (fun d =>
      { d with patterns := min n 1048576, clockKhz := clock, vmin := supply, vmax := supply }) })
    rw [hrun, run_eq, duskConditions_bad (s := s.tick t) n hp hturn hstop hbad]
    exact ⟨_, rfl, rfl, (congrArg Lane.dusk hlane).trans (congrArg (Option.map _) hd), rfl⟩
  · exact run_idle (f := fun u => u.duskConditions i n clock supply) (duskConditions_good i n h1 h2 h3 h4)

end Sys2Proof.Machine
end

section
/-! # KI-40 mode: arrival and queries (R595 to R604, R612; O53)

What a good copy leaves on its way to its query or to the network rule; a query then has one held reply. -/

namespace Sys2Proof.Machine

/-! ## Arrival -/

/-- The state in which a good copy of a KI-40 command has been heard and counted, whatever its records of commands. -/
def State.heardKi40Copy (s p : State) (t : Nat) (c : Ki40Copy) : Prop :=
  p = { s with now := max s.now t, host := { s.countedHost t c.net with recs := p.host.recs }, ki40 := s.heldKi40 c [], lanes := p.lanes } ∧
  ∀ i, p.lane i = { s.lane i with inputs := { (s.lane i).inputs with checkUnits := (p.lane i).inputs.checkUnits } }

theorem countedHost_recs (s : State) (t : Nat) (n : Net) : (s.countedHost t n).recs = s.host.recs := by cases n <;> rfl

/-- Fewer than 128 copies within the last millisecond and nothing that waits: the copy is judged as it arrives (R600). -/
theorem crowded_of_ready {s : State} {t : Nat} (h : s.ki40Ready t) : (s.tick t).countArrival.crowded = false := by
  obtain ⟨-, -, -, -, hr, ho, -, ha, -, -, -⟩ := h
  have hle := List.length_filter_le (fun a => decide ((s.tick t).now < a + ms)) s.host.arrivals
  unfold State.crowded State.countArrival
  simp only [State.tick, hr, ho, List.isEmpty_nil, Bool.not_true, Bool.or_false, List.length_append, List.length_singleton,
    decide_eq_false_iff_not] at hle ⊢
  omega

/-- A good copy is heard, and then answered (a query) or compared under the network rule (Table 9.4, R598). -/
theorem ki40Copy_good {s : State} {t op native : Nat} {cls : OpClass} {c : Ki40Copy} (h : s.ki40Ready t) (g : s.goodKi40 op c)
    (ht : ki40Table.find? (fun x => x.1 == op) = some (op, cls, native)) :
    ∃ p, s.heardKi40Copy p t c ∧ p.host.recs = s.host.recs ∧ (s.tick t).ki40Copy op c =
      if cls = .query then p.ki40Reply op c c.net false (p.ki40Query op c.params).1 p.ki40Cycle (p.ki40Query op c.params).2
      else p.ki40Compare op native cls c := by
  have hcrowd := crowded_of_ready h
  obtain ⟨hrun, hvote, hki, hnode, -, -, hwait, -, hsess, hlock, hheld⟩ := h
  obtain ⟨hnet, hport, hlen, hstation, hrx, hcrcC, hcrcT, hfields⟩ := g
  have hlapse : (s.tick t).lapseDue = s.tick t := lapseDue_keeps (s := s.tick t) hsess hlock
  let q := (s.tick t).countArrival
  have hansw : q.answering = s.unexcluded := by
    have : q.control.phase = .running := hrun
    unfold State.answering
    rw [this]
    rfl
  obtain ⟨L, hcheck, hL⟩ := checkTelegram_healthy q s.unexcluded (unexcluded_two hvote) hheld 1 c.path.port 0x10000 0
  let p1 : State := { q with lanes := L }
  have hslice : slice c.params 0 48 = c.params := by
    simp [slice, List.take_of_length_le (le_of_eq hlen), hlen, zeros]
  refine ⟨(p1.ki40Heard c).countNet c.net (fun k => { k with copies := inc k.copies }), ⟨?_, ?_⟩, ?_, ?_⟩
  · cases hn : c.net
    · simp [State.countNet, State.ki40Heard, p1, q, State.countArrival, State.tick, State.countedHost, State.heldKi40, hn]
    · simp [State.countNet, State.ki40Heard, p1, q, State.countArrival, State.tick, State.countedHost, State.heldKi40, hn]
    · exact absurd hn hnet
  · intro i
    have : ((p1.ki40Heard c).countNet c.net (fun k => { k with copies := inc k.copies })).lane i = L.get i := by
      unfold State.ki40Heard
      split <;> cases c.net <;> rfl
    rw [this, hL i]
    rfl
  · unfold State.ki40Heard
    split <;> cases c.net <;> rfl
  · have hjudge : q.ki40Judge op c =
        (let s2 := (p1.ki40Heard c).countNet c.net (fun k => { k with copies := inc k.copies })
         if cls = .query then s2.ki40Reply op c c.net false (s2.ki40Query op c.params).1 s2.ki40Cycle (s2.ki40Query op c.params).2
         else s2.ki40Compare op native cls c) := by
      have hphase : (p1.ki40Heard c).control.phase = .running := by
        unfold State.ki40Heard
        split <;> exact hrun
      unfold State.ki40Judge
      simp only [hansw, hcrcC, hcrcT, beq_self_eq_true, hrx]
      rw [hcheck]
      simp only [Bool.true_eq_false, if_false, hfields, ht, hslice]
      rw [if_neg (fun e => e hphase)]
    have harr : (s.tick t).ki40Copy op c = q.ki40Judge op c := by
      unfold State.ki40Copy State.ki40Arrive
      have ha : (s.tick t).answers = true := by simp [State.answers, State.tick, hrun]
      rw [if_neg (by rw [ha]; simp [State.tick, hnode]), if_neg (by simp [State.tick, hki, hnet]),
        if_neg (by omega), if_neg (by rw [hlen, hstation]; simp [State.node, State.tick]), hlapse]
      have hw : (s.tick t).countArrival.ki40.waiting = [] := hwait
      simp only [hcrowd, hw, List.isEmpty_nil, Bool.not_true, Bool.or_false, Bool.false_eq_true, if_false]
      rfl
    rw [harr, hjudge]

/-! ## What a heard copy leaves -/

section Heard
variable {s p : State} {t : Nat} {c : Ki40Copy}

/-- A lane of a module that has heard a copy differs in its check units only. -/
theorem heardKi40Copy_lane (h : s.heardKi40Copy p t c) (i : LaneId) :
    ∃ k, p.lane i = { s.lane i with inputs := { (s.lane i).inputs with checkUnits := k } } := ⟨_, h.2 i⟩

theorem heardKi40Copy_lead (h : s.heardKi40Copy p t c) : p.lead = s.lead :=
  lead_same (fun i => by rw [h.2 i])

theorem heardKi40Copy_leadLane (h : s.heardKi40Copy p t c) :
    ∃ k, p.leadLane = { s.leadLane with inputs := { s.leadLane.inputs with checkUnits := k } } := by
  unfold State.leadLane
  rw [heardKi40Copy_lead h]
  exact heardKi40Copy_lane h _

theorem heardKi40Copy_cycle (h : s.heardKi40Copy p t c) : p.ki40Cycle = (s.tick t).ki40Cycle := by
  rw [h.1]; rfl

theorem heardKi40Copy_stamp (h : s.heardKi40Copy p t c) : p.ki40Stamp c = s.ki40Stamp c := by
  unfold State.ki40Stamp
  rw [heardKi40Copy_lead h]

theorem heardKi40Copy_sameLanes (h : s.heardKi40Copy p t c) : s.sameLanes p := fun i => by
  obtain ⟨k, hk⟩ := heardKi40Copy_lane h i
  rw [hk]

/-- The view from which replies are built is that of the module before the copy (R602). -/
theorem heardKi40Copy_view (h : s.heardKi40Copy p t c) : p.ki40View = (s.tick t).ki40View := by
  have hcycle := heardKi40Copy_cycle h
  obtain ⟨k, hlead⟩ := heardKi40Copy_leadLane h
  have hpace : ∀ i, (p.lane i).paceMargin = ((s.tick t).lane i).paceMargin := fun i => by rw [h.2 i]; rfl
  have hlead' : (s.tick t).leadLane = s.leadLane := rfl
  have hview : p.ki40.view = (s.tick t).ki40.view := by rw [h.1]; rfl
  have hcopy : p.ki40ViewOf p.ki40Cycle = (s.tick t).ki40ViewOf (s.tick t).ki40Cycle := by
    unfold State.ki40ViewOf
    simp only [hlead, hlead', hpace, hcycle]
    rw [h.1]
    rfl
  unfold State.ki40View
  rw [hview, hcopy]

/-- EVENT_READ reads the same records (R612). -/
theorem heardKi40Copy_eventData (h : s.heardKi40Copy p t c) (start : Nat) : p.eventData start = (s.tick t).eventData start := by
  obtain ⟨k, hlead⟩ := heardKi40Copy_leadLane h
  have hlead' : (s.tick t).leadLane = s.leadLane := rfl
  have halm : p.almanac = (s.tick t).almanac := by rw [h.1]; rfl
  unfold State.eventData State.readable State.oldestRecord
  rw [halm, hlead, hlead']

/-- The reply to a copy, from a module that knows the paths and the stamp of the copy (R599). -/
theorem ki40Reply_held {w : State} (hx : w.ki40.pathX = (s.heldKi40 c []).pathX) (hy : w.ki40.pathY = (s.heldKi40 c []).pathY)
    (hstamp : w.ki40Stamp c = s.ki40Stamp c) (hc : c.net ≠ .service) {net : Net} (hnet : net ≠ .service) (op status : Nat) (data : Bytes) :
    w.ki40Reply op c net false status (s.tick t).ki40Cycle data = w.holdReply (s.ki40ReplyTo t op c net status data) := by
  unfold State.ki40Reply State.ki40ReplyTo
  rw [hstamp, hx, hy]
  unfold State.heldKi40
  cases hn : c.net with
  | service => exact absurd hn hc
  | x => cases net with
    | service => exact absurd rfl hnet
    | x => rfl
    | y => rfl
  | y => cases net with
    | service => exact absurd rfl hnet
    | x => rfl
    | y => rfl

theorem heardKi40Copy_pathX (h : s.heardKi40Copy p t c) : p.ki40.pathX = (s.heldKi40 c []).pathX := by rw [h.1]
theorem heardKi40Copy_pathY (h : s.heardKi40Copy p t c) : p.ki40.pathY = (s.heldKi40 c []).pathY := by rw [h.1]

end Heard

/-! ## Queries -/

/-- A query of Table 17.4 has one held reply on its own network, and nothing else changes but the check units. -/
theorem ki40Query_answered {s : State} {t op native : Nat} {c : Ki40Copy} {status : Nat} {data : Bytes} (h : s.ki40Ready t) (g : s.goodKi40 op c)
    (ht : ki40Table.find? (fun x => x.1 == op) = some (op, .query, native))
    (hq : ∀ p, s.heardKi40Copy p t c → p.ki40Query op c.params = (status, data)) :
    ∃ u, run t (fun u => u.ki40Copy op c) s = .next u ∧ s.sameLanes u ∧ u = { s with
      now := max s.now t
      host := s.countedHost t c.net
      ki40 := s.heldKi40 c [s.ki40ReplyTo t op c c.net status data]
      lanes := u.lanes } := by
  obtain ⟨p, hp, hrecs, hcopy⟩ := ki40Copy_good h g ht
  have hsame := heardKi40Copy_sameLanes hp
  rw [if_pos rfl, hq p hp, heardKi40Copy_cycle hp,
    ki40Reply_held (heardKi40Copy_pathX hp) (heardKi40Copy_pathY hp) (heardKi40Copy_stamp hp) g.1 g.1] at hcopy
  rw [run_eq, hcopy]
  refine ⟨_, rfl, hsame, ?_⟩
  have hhost : { s.countedHost t c.net with recs := p.host.recs } = s.countedHost t c.net := by
    rw [hrecs, ← countedHost_recs s t c.net]
  rw [hp.1, hhost]
  simp only [State.holdReply, State.close, State.heldKi40, List.append_nil]

/-- Parameters outside the ranges of Table 17.4 have BAD_PARAM. -/
theorem ki40Query_route (u : State) (p : Bytes) :
    u.ki40Query 0x0B p = if rd8 p 1 = 0 ∨ 44 < rd8 p 1 ∨ 256 < rd8 p 0 + rd8 p 1 then (6, []) else (0, u.ki40View.routeData (rd8 p 0) (rd8 p 1)) := rfl

theorem ki40Query_element (u : State) (p : Bytes) :
    u.ki40Query 0x0C p = if rd8 p 2 = 0 ∨ 88 < rd8 p 2 ∨ 512 < rd16 p 0 + rd8 p 2 then (6, []) else (0, u.ki40View.elementData (rd16 p 0) (rd8 p 2)) := rfl

/-- Settles O53: the copy is heard, the view or the Almanac that it finds is that of the module before it, and its reply is put on hold. -/
theorem ki40QueriesHaveOneHeldReply : Obligations.Ki40QueriesHaveOneHeldReply := by
  unfold Obligations.Ki40QueriesHaveOneHeldReply
  intro t c s h
  dsimp only
  refine ⟨fun g => ?_, fun g => ⟨fun hr => ?_, fun hr => ?_⟩, fun g => ⟨fun hr => ?_, fun hr => ?_⟩, fun g => ?_⟩
  · exact ki40Query_answered h g rfl (fun p hp => by rw [← heardKi40Copy_view hp]; rfl)
  · exact ki40Query_answered h g rfl (fun p hp => by
      rw [← heardKi40Copy_view hp, ki40Query_route, if_neg (by omega)])
  · exact ki40Query_answered h g rfl (fun p _ => by rw [ki40Query_route, if_pos (by omega)])
  · exact ki40Query_answered h g rfl (fun p hp => by
      rw [← heardKi40Copy_view hp, ki40Query_element, if_neg (by omega)])
  · exact ki40Query_answered h g rfl (fun p _ => by rw [ki40Query_element, if_pos (by omega)])
  · exact ki40Query_answered h g rfl (fun p hp => by rw [← heardKi40Copy_eventData hp]; rfl)

end Sys2Proof.Machine
end

section
/-! # KI-40 commands: the parameters of the native equivalents (R15, R597, R601, Tables 17.2, 17.4; O54)

Unused bits of PARAMS are 0, so that every number that a native equivalent is given fits its field. -/

namespace Sys2Proof.Machine

/-! ## Bytes as numbers -/

theorem slice_whole {b : Bytes} {n : Nat} (h : b.length = n) : slice b 0 n = b := by
  simp [slice, List.take_of_length_le (le_of_eq h), h, zeros]

theorem leNat_zeros (k : Nat) : leNat (zeros k) = 0 := by
  induction k with
  | zero => rfl
  | succ k ih =>
    rw [zeros, List.replicate_succ, leNat, show List.replicate k (0 : Byte) = zeros k from rfl, ih]
    rfl

theorem leNat_leBytes_append (w n : Nat) (b : Bytes) : leNat (leBytes w n ++ b) = n % 256 ^ w + 256 ^ w * leNat b := by
  induction w generalizing n with
  | zero => simp [leBytes, Nat.mod_one]
  | succ w ih =>
    have hmod : n % 256 ^ (w + 1) = n % 256 + 256 * (n / 256 % 256 ^ w) := by rw [Nat.pow_succ', Nat.mod_mul]
    have hpow : 256 ^ (w + 1) = 256 * 256 ^ w := Nat.pow_succ'
    have hbyte : (BitVec.ofNat 8 n).toNat = n % 256 := BitVec.toNat_ofNat n 8
    rw [leBytes, List.cons_append, leNat, ih, hbyte, hmod, hpow, Nat.mul_add, Nat.mul_assoc, Nat.add_assoc]

theorem leNat_drop (b : Bytes) (k : Nat) : leNat (b.drop k) = leNat b / 256 ^ k := by
  induction k generalizing b with
  | zero => simp
  | succ k ih =>
    cases b with
    | nil => simp [leNat]
    | cons x r =>
      have hx := x.isLt
      rw [List.drop_succ_cons, ih, leNat, Nat.pow_succ', ← Nat.div_div_eq_div_mul, Nat.add_mul_div_left _ _ (by decide),
        Nat.div_eq_of_lt hx, Nat.zero_add]

theorem leNat_take_append_zeros (b : Bytes) (k m : Nat) : leNat (b.take k ++ zeros m) = leNat b % 256 ^ k := by
  induction k generalizing b with
  | zero => simp [leNat_zeros, Nat.mod_one]
  | succ k ih =>
    cases b with
    | nil => simp [leNat, leNat_zeros]
    | cons x r =>
      have hx := x.isLt
      rw [List.take_succ_cons, List.cons_append, leNat, ih, leNat, Nat.pow_succ', Nat.mod_mul, Nat.add_mul_mod_self_left,
        Nat.add_mul_div_left _ _ (by decide), Nat.mod_eq_of_lt hx, Nat.div_eq_of_lt hx, Nat.zero_add]

/-- A field of `k` bytes is a field of `8 k` bits of the whole. -/
theorem leNat_slice (b : Bytes) (off k : Nat) : leNat (slice b off k) = bitsAt (leNat b) (8 * off) (8 * k) := by
  unfold slice bitsAt
  rw [leNat_take_append_zeros, leNat_drop, Nat.shiftRight_eq_div_pow, Nat.pow_mul, Nat.pow_mul]

theorem rd16_eq (b : Bytes) (off : Nat) : rd16 b off = bitsAt (leNat b) (8 * off) 16 := leNat_slice b off 2
theorem rd64_eq (b : Bytes) (off : Nat) : rd64 b off = bitsAt (leNat b) (8 * off) 64 := leNat_slice b off 8

theorem rd8_eq (b : Bytes) (off : Nat) : rd8 b off = bitsAt (leNat b) (8 * off) 8 := by
  have hone : rd8 b off = leNat (slice b off 1) := by
    unfold rd8 slice
    rw [List.getD_eq_getElem?_getD]
    cases h : b.drop off with
    | nil =>
      rw [List.drop_eq_nil_iff] at h
      rw [List.getElem?_eq_none h]
      rfl
    | cons x r =>
      have hx : b[off]? = some x := by rw [← List.head?_drop, h]; rfl
      rw [hx]
      rfl
  rw [hone, leNat_slice]

theorem bitsAt_lt (n lo w : Nat) : bitsAt n lo w < 2 ^ w := Nat.mod_lt _ (Nat.two_pow_pos w)

/-- A field of a number within a mask is within the field of the mask. -/
theorem bitsAt_le_mask {n m : Nat} (h : n &&& m = n) (lo w : Nat) : bitsAt n lo w ≤ bitsAt m lo w := by
  unfold bitsAt
  calc (n >>> lo) % 2 ^ w = ((n >>> lo) &&& (m >>> lo)) % 2 ^ w := by rw [← Nat.shiftRight_and_distrib, h]
    _ = ((n >>> lo) % 2 ^ w) &&& ((m >>> lo) % 2 ^ w) := Nat.and_mod_two_pow
    _ ≤ (m >>> lo) % 2 ^ w := Nat.and_le_right

/-- What the unused bits of PARAMS leave of them (R15): the mask of the opcode. -/
theorem params_masked {op : Nat} {c : Ki40Copy} (h : ki40FieldsOk op c = true) (hlen : c.params.length = 48)
    (ht : (ki40Table.find? (fun x => x.1 == op)).isSome = true) : leNat c.params &&& ki40Used op = leNat c.params := by
  unfold ki40FieldsOk at h
  rw [slice_whole hlen] at h
  simp only [Bool.and_eq_true, Bool.or_eq_true, beq_iff_eq] at h
  obtain ⟨-, h | h⟩ := h
  · rw [Option.isNone_iff_eq_none.1 h] at ht
    exact absurd ht (by decide)
  · exact h

/-! ## Native parameters -/

theorem bitsAt_eq_zero {n lo : Nat} (w : Nat) (h : n < 2 ^ lo) : bitsAt n lo w = 0 := by
  unfold bitsAt
  rw [Nat.shiftRight_eq_div_pow, Nat.div_eq_of_lt h, Nat.zero_mod]

theorem bitsAt_low {n w : Nat} (h : n < 2 ^ w) : bitsAt n 0 w = n := Nat.mod_eq_of_lt h

/-- Reserved fields that are 0 (R15). -/
theorem reservedOk_of_fields {op : Nat} {p : Bytes} (hop : op ≠ 0x0408) (h : ∀ f ∈ reservedFields op, bitsAt (leNat p) f.1 f.2 = 0) :
    reservedOk op p = true := by
  have hall : (reservedFields op).all (fun f => bitsAt (leNat p) f.1 f.2 == 0) = true := List.all_eq_true.2 (fun f hf => beq_iff_eq.2 (h f hf))
  have hno : (op != 0x0408) = true := bne_iff_ne.2 hop
  unfold reservedOk
  rw [hall, hno, Bool.true_or, Bool.and_true, Bool.or_true]

/-- A native equivalent whose parameters are of the length of its map and leave the reserved bits 0. -/
def nativeOk (native : Nat) (p : Bytes) : Prop := lengthOk native p = true ∧ reservedOk native p = true

/-- Parameters with one reserved field, above every bit that is set. -/
theorem nativeOk_of_lt {native lo w : Nat} {p : Bytes} (hlen : lengthOk native p = true) (hop : native ≠ 0x0408)
    (hf : reservedFields native = [(lo, w)]) (h : leNat p < 2 ^ lo) : nativeOk native p := by
  refine ⟨hlen, reservedOk_of_fields hop ?_⟩
  rw [hf]
  exact List.forall_mem_singleton.2 (bitsAt_eq_zero w h)

/-- A number in two bytes and two bytes of zeros. -/
theorem leNat_word {n : Nat} (hn : n < 65536) : leNat (b16 n ++ zeros 2) = n := by
  unfold b16
  rw [leNat_leBytes_append, leNat_zeros]
  omega

theorem paramRoute_word {n : Nat} (hn : n < 4096) : paramRoute (b16 n ++ zeros 2) = n := by
  unfold paramRoute
  rw [rd16_b16 (by omega), bitsAt_low (by omega)]

theorem paramElem_b16 {n : Nat} (hn : n < 8192) (b : Bytes) : paramElem (b16 n ++ b) = n := by
  unfold paramElem
  rw [rd16_b16 (by omega), bitsAt_low (by omega)]

/-- POINT_MOVE: an element, a position and a reserved byte. -/
theorem nativeOk_pointMove {e pos : Nat} (he : e < 8192) (hpos : pos < 256) :
    nativeOk 0x0201 (b16 e ++ b8 pos ++ zeros 1) ∧ rd8 (b16 e ++ b8 pos ++ zeros 1) 2 = pos := by
  have hnum : leNat (b16 e ++ b8 pos ++ zeros 1) = e + 65536 * pos := by
    unfold b16 b8
    rw [List.append_assoc, leNat_leBytes_append, leNat_leBytes_append, leNat_zeros]
    omega
  refine ⟨⟨rfl, reservedOk_of_fields (by decide) ?_⟩, ?_⟩
  · rw [hnum, show reservedFields 0x0201 = [(13, 3), (24, 8)] from rfl, List.forall_mem_cons, List.forall_mem_singleton]
    refine ⟨?_, bitsAt_eq_zero (lo := 24) 8 (by omega)⟩
    simp only [bitsAt, Nat.shiftRight_eq_div_pow]
    omega
  · rw [rd8_eq, hnum]
    simp only [bitsAt, Nat.shiftRight_eq_div_pow]
    omega

/-- POINT_UNBLOCK: the first and the last element. -/
theorem nativeOk_pointUnblock {e l : Nat} (he : e < 8192) (hl : l < 8192) :
    nativeOk 0x0203 (b16 e ++ b16 l) ∧ bitsAt (rd16 (b16 e ++ b16 l) 2) 0 13 = l := by
  have hnum : leNat (b16 e ++ b16 l) = e + 65536 * l := by
    unfold b16
    have := leNat_leBytes_append 2 l []
    rw [List.append_nil] at this
    rw [leNat_leBytes_append, this]
    simp only [leNat]
    omega
  refine ⟨⟨rfl, reservedOk_of_fields (by decide) ?_⟩, ?_⟩
  · rw [hnum, show reservedFields 0x0203 = [(13, 3), (29, 3)] from rfl, List.forall_mem_cons, List.forall_mem_singleton]
    refine ⟨?_, bitsAt_eq_zero (lo := 29) 3 (by omega)⟩
    simp only [bitsAt, Nat.shiftRight_eq_div_pow]
    omega
  · rw [rd16_eq, hnum]
    simp only [bitsAt, Nat.shiftRight_eq_div_pow]
    omega

/-- MODE_SET with neither steps nor breakpoints. -/
theorem nativeOk_modeSet {m : Nat} (hm : m < 256) :
    nativeOk 0x0401 (b8 m ++ zeros 39) ∧ leNat (b8 m ++ zeros 39) = m := by
  have hnum : leNat (b8 m ++ zeros 39) = m := by
    unfold b8
    rw [leNat_leBytes_append, leNat_zeros]
    omega
  refine ⟨⟨rfl, reservedOk_of_fields (by decide) ?_⟩, hnum⟩
  rw [hnum, show reservedFields 0x0401 = [(9, 7), (40, 24)] from rfl, List.forall_mem_cons, List.forall_mem_singleton]
  exact ⟨bitsAt_eq_zero (lo := 9) 7 (by omega), bitsAt_eq_zero (lo := 40) 24 (by omega)⟩

/-- POWER_STATE_SET: a power state and the test bit. -/
theorem nativeOk_powerStateSet {p b : Nat} (hp : p < 256) (hb : b ≤ 1) :
    nativeOk 0x0501 (b8 p ++ b8 b ++ zeros 2) ∧ rd8 (b8 p ++ b8 b ++ zeros 2) 0 = p ∧ rd8 (b8 p ++ b8 b ++ zeros 2) 1 = b := by
  have hnum : leNat (b8 p ++ b8 b ++ zeros 2) = p + 256 * b := by
    unfold b8
    rw [List.append_assoc, leNat_leBytes_append, leNat_leBytes_append, leNat_zeros]
    omega
  refine ⟨nativeOk_of_lt (lo := 9) (w := 23) rfl (by decide) rfl (by omega), ?_, ?_⟩ <;>
    · rw [rd8_eq, hnum]
      simp only [bitsAt, Nat.shiftRight_eq_div_pow]
      omega

end Sys2Proof.Machine
end

section
/-! # KI-40 commands: the decision (R598 to R600, R612; O54)

The copy that decides a command, and what an accepted decision leaves: two held replies and a COMMAND record. -/

namespace Sys2Proof.Machine

/-! ## The copy that decides -/

/-- The second copy of a permissive command goes to its decision (R598). -/
theorem ki40Copy_second {s : State} {t op native : Nat} {c : Ki40Copy} (h : s.ki40Ready t) (g : s.secondKi40 op c)
    (ht : ki40Table.find? (fun x => x.1 == op) = some (op, .permissive, native)) :
    ∃ p, s.heardKi40Copy p t c ∧ (s.tick t).ki40Copy op c = p.ki40Decide op native c none := by
  obtain ⟨hgood, hnone, r, hrec, hopen, hnet, hbytes, hwindow⟩ := g
  obtain ⟨p, hp, hrecs, hcopy⟩ := ki40Copy_good h hgood ht
  refine ⟨p, hp, ?_⟩
  have hfind : p.recOf (.ki40 c.seq) = some r := by unfold State.recOf; rw [hrecs]; exact hrec
  have hkey : r.key = .ki40 c.seq := by simpa using List.find?_some hrec
  have hdec : p.decisionOf r.key (ki40Head op c) = none := by unfold State.decisionOf; rw [hrecs, hkey]; exact hnone
  have hisOpen : r.isOpen = true := by unfold HostRec.isOpen; rw [hopen]; rfl
  rw [hcopy, if_neg (by decide)]
  unfold State.ki40Compare
  simp only [hfind, heardKi40Copy_stamp hp]
  rw [if_neg (by omega), hfind]
  unfold State.ki40Later
  simp only [hdec, hisOpen, hbytes, if_true]
  rw [if_neg (by decide), if_neg (Ne.symm hnet)]

/-- A record that is opened is one more record of commands. -/
theorem openKi40_heard {s p : State} {t : Nat} {c : Ki40Copy} (h : s.heardKi40Copy p t c) (op : Nat) : s.heardKi40Copy (p.openKi40 op c) t c := by
  refine ⟨?_, h.2⟩
  have hframe := h.1
  unfold State.openKi40
  generalize p.newKi40Rec op c = r
  generalize p.host.recs = R, p.lanes = L at hframe ⊢
  subst hframe
  rfl

/-- The first copy of a restrictive command opens its record and goes to its decision (R598). -/
theorem ki40Copy_first {s : State} {t op native : Nat} {c : Ki40Copy} (h : s.ki40Ready t) (g : s.firstKi40 op c)
    (ht : ki40Table.find? (fun x => x.1 == op) = some (op, .restrictive, native)) :
    ∃ p, s.heardKi40Copy p t c ∧ (s.tick t).ki40Copy op c = p.ki40Decide op native c none := by
  obtain ⟨hgood, hnone⟩ := g
  obtain ⟨p, hp, hrecs, hcopy⟩ := ki40Copy_good h hgood ht
  have hfind : p.recOf (.ki40 c.seq) = none := by unfold State.recOf; rw [hrecs]; exact hnone
  refine ⟨p.openKi40 op c, openKi40_heard hp op, ?_⟩
  rw [hcopy, if_neg (by decide)]
  unfold State.ki40Compare
  simp only [hfind, if_true]

/-! ## An accepted decision -/

/-- The state to which an accepted KI-40 command brings `s`, where its acceptance turns the module into `b`, with the host interface changed by `f`
and the lanes `K`: `R` are the records of commands, `l` the replies that the command puts on hold, and `es` its records. -/
def State.ki40Stored (s b : State) (t : Nat) (c : Ki40Copy) (f : HostSide → HostSide) (R : List HostRec) (K : Lanes Lane) (l : List Reply)
    (es : List Queued) : State :=
  { b with
    now := max s.now t
    host := { f (s.countedHost t c.net) with recs := R }
    lanes := K
    ki40 := b.heldKi40 c l
    almanac := { s.almanac with events := s.almanac.events ++ es } }

/-- A change of the host interface that stores nothing in the records of commands leaves them alone. -/
theorem stores_recs {f : HostSide → HostSide} (hf : HostSide.Stores f) (h : HostSide) (R : List HostRec) :
    f { h with recs := R } = { f h with recs := R } :=
  calc f { h with recs := R } = { f h with recs := R, replies := h.replies } := hf.recs h R h.replies
    _ = { f h with recs := R, replies := (f h).replies } := by rw [hf.replies]
    _ = { f h with recs := R } := rfl

section
variable {s b p : State} {t op native : Nat} {c : Ki40Copy} {f : HostSide → HostSide} {R : List HostRec} {K : Lanes Lane}

theorem heldKi40_of (h : b.ki40 = s.ki40) (c : Ki40Copy) (l : List Reply) : b.heldKi40 c l = s.heldKi40 c l := by
  unfold State.heldKi40
  rw [h]

/-- Both networks are told of a decision in their window. -/
theorem ki40Answer_stored (hnet : c.net ≠ .service) (hx : b.ki40.pathX = s.ki40.pathX) (hy : b.ki40.pathY = s.ki40.pathY)
    (hmode : ∀ i, (K.get i).mode = (s.lane i).mode) (op status : Nat) (data : Bytes) :
    (s.ki40Stored b t c f R K [] []).ki40Answer op c [.x, .y] status (s.tick t).ki40Cycle data =
      s.ki40Stored b t c f R K [s.ki40ReplyTo t op c .x status data, s.ki40ReplyTo t op c .y status data] [] := by
  have hstamp : ∀ l, (s.ki40Stored b t c f R K l []).ki40Stamp c = s.ki40Stamp c := fun l => by
    unfold State.ki40Stamp
    rw [lead_same (s := s) (u := s.ki40Stored b t c f R K l []) hmode]
  have hhold : ∀ l r, (s.ki40Stored b t c f R K l []).holdReply r = s.ki40Stored b t c f R K (l ++ [r]) [] := fun l r => by
    unfold State.holdReply State.ki40Stored State.heldKi40
    simp only [List.append_assoc]
  have hpathX : ∀ l, (b.heldKi40 c l).pathX = (s.heldKi40 c []).pathX := fun l => by unfold State.heldKi40; rw [hx]
  have hpathY : ∀ l, (b.heldKi40 c l).pathY = (s.heldKi40 c []).pathY := fun l => by unfold State.heldKi40; rw [hy]
  unfold State.ki40Answer
  simp only [List.foldl_cons, List.foldl_nil]
  rw [ki40Reply_held (hpathX _) (hpathY _) (hstamp _) hnet (by decide), hhold, ki40Reply_held (hpathX _) (hpathY _) (hstamp _) hnet (by decide), hhold]
  rfl

/-- A command that its acceptance checks accept (R598 to R600, R612). -/
theorem ki40Decide_accepted {data d : Bytes} (hp : s.heardKi40Copy p t c) (hnet : c.net ≠ .service) (hx : b.ki40.pathX = s.ki40.pathX)
    (hy : b.ki40.pathY = s.ki40.pathY) (hmode : ∀ i, (K.get i).mode = (s.lane i).mode)
    (hacc : (if op = 0x20 then p.acceptDataLoad (ki40Cmd op native c none) else p.accept (ki40Cmd op native c none)) =
      (s.ki40Stored b t c f R K [] []).accData stAccepted data)
    (hd : (if op = 0x09 then slice data 0 2 else []) = d) :
    ∃ R', p.ki40Decide op native c none =
      s.ki40Stored b t c f R' K [s.ki40ReplyTo t op c .x 1 d, s.ki40ReplyTo t op c .y 1 d]
        (if recordsCommand native (ki40Native op (slice c.params 0 48)) = true then [ki40Record op native c] else []) := by
  have hput : ∀ k n x, ∃ R', ((s.ki40Stored b t c f R K [] []).putDecision k n x).trimKi40 = s.ki40Stored b t c f R' K [] [] := fun k n x => ⟨_, rfl⟩
  obtain ⟨R', hR'⟩ := hput (ki40Cmd op native c none).key (if op = 0x20 ∧ rd8 c.params 0 = 0 then 0x0404 else native)
    { status := ki40Status stAccepted, snapshot := (s.tick t).ki40Cycle, data := d, bytes := ki40Head op c }
  refine ⟨R', ?_⟩
  have hevent : ∀ l, (s.ki40Stored b t c f R' K l []).event 0x0606 Origin.ki40 [(24, 2, native),
        (26, 2, rd16 (ki40Native op (slice c.params 0 48)) 0), (28, 4, op * 2 ^ 24 + c.seq)] =
      s.ki40Stored b t c f R' K l [ki40Record op native c] := fun l => by
    unfold State.event State.ki40Stored ki40Record
    simp only [List.append_nil]
  have htaken : (stAccepted == stOk || stAccepted == stAccepted) = true := rfl
  unfold State.ki40Decide
  simp only [hacc, State.accData, ki40Data, heardKi40Copy_cycle hp, htaken, if_true, hd, Bool.true_and]
  rw [hR', ki40Answer_stored hnet hx hy hmode]
  show (if recordsCommand native (ki40Native op (slice c.params 0 48)) = true then _ else _) = _
  split
  · exact hevent _
  · rfl

/-- A lane whose inputs differ in its check units only. -/
theorem lanesAfter_checkUnits {l m : Lane} {i : Inputs} {k : List (Nat × List Word)} (h : l = { m with inputs := { i with checkUnits := k } }) :
    l = { m with inputs := { i with checkUnits := l.inputs.checkUnits, txPending := l.inputs.txPending } } := by
  rw [h]

/-- An accepted command, from its exec. -/
theorem ki40Decided_of {g : LaneId → Lane → Lane} {data d : Bytes} (hp : s.heardKi40Copy p t c) (hnet : c.net ≠ .service) (hop : op ≠ 0x20)
    (hcopy : (s.tick t).ki40Copy op c = p.ki40Decide op native c none) (hf : HostSide.Stores f)
    (hb : b.pending = s.pending) (hki : b.ki40 = s.ki40) (hrec : recordsCommand native (ki40Native op (slice c.params 0 48)) = true)
    (hK : ∀ i, K.get i = { g i (s.lane i) with inputs := (p.lane i).inputs }) (hg : ∀ i l, (g i l).mode = l.mode)
    (hacc : p.accept (ki40Cmd op native c none) = (s.ki40Stored b t c f R K [] []).accData stAccepted data)
    (hd : (if op = 0x09 then slice data 0 2 else []) = d) :
    ∃ u, run t (fun u => u.ki40Copy op c) s = .next u ∧ s.ki40Decided u t op native c 1 d f g ∧
      u = { b with now := u.now, host := u.host, lanes := u.lanes, ki40 := u.ki40, almanac := u.almanac } := by
  have hmode : ∀ i, (K.get i).mode = (s.lane i).mode := fun i => by rw [hK i]; exact hg i _
  obtain ⟨R', hdecide⟩ := ki40Decide_accepted hp hnet (by rw [hki]) (by rw [hki]) hmode ((if_neg hop).trans hacc) hd
  rw [if_pos hrec] at hdecide
  have hhost : { f (s.countedHost t c.net) with recs := R' } = f { s.countedHost t c.net with recs := R' } :=
    (stores_recs hf _ _).symm
  refine ⟨_, run_next (f := fun u => u.ki40Copy op c) (hcopy.trans hdecide) rfl hb, ⟨heldKi40_of hki c _, hhost, rfl, fun i => ?_, rfl⟩, rfl⟩
  obtain ⟨k, hk⟩ := heardKi40Copy_lane hp i
  have hlane : K.get i = { g i (s.lane i) with inputs := { (s.lane i).inputs with checkUnits := k } } := by rw [hK i, hk]
  exact lanesAfter_checkUnits hlane

end

end Sys2Proof.Machine
end

section
/-! # KI-40 commands as their native equivalents (R119, R597 to R601, R655, Table 17.4; O54)

A heard copy leaves what the acceptance checks read; each command then passes the checks of its native equivalent. -/

namespace Sys2Proof.Machine

/-! ## What the acceptance reads -/

section
variable {s p : State} {t op native : Nat} {c : Ki40Copy}

theorem countedHost_awaiting (s : State) (t : Nat) (n : Net) : (s.countedHost t n).awaiting = s.host.awaiting := by cases n <;> rfl
theorem countedHost_taken (s : State) (t : Nat) (n : Net) : (s.countedHost t n).taken = s.host.taken := by cases n <;> rfl
theorem countedHost_lock (s : State) (t : Nat) (n : Net) : (s.countedHost t n).lock = s.host.lock := by cases n <;> rfl

theorem heardKi40Copy_readsAs (h : s.heardKi40Copy p t c) : s.ReadsAs p := by
  obtain ⟨k, hlead⟩ := heardKi40Copy_leadLane h
  have hengine : p.leadLane.engine = s.leadLane.engine := by rw [hlead]
  have hhost : p.host = { s.countedHost t c.net with recs := p.host.recs } := by rw [h.1]
  refine ⟨by rw [h.1], by rw [h.1], by rw [h.1], by rw [h.1], hengine, ?_, ?_, ?_⟩
  · rw [hhost]; exact countedHost_awaiting s t c.net
  · rw [hhost]; exact countedHost_taken s t c.net
  · rw [hhost]; exact countedHost_lock s t c.net

/-- A heard copy is a state that has stored nothing yet. -/
theorem heardKi40Copy_stored (h : s.heardKi40Copy p t c) : p = s.ki40Stored s t c id p.host.recs p.lanes [] [] := by
  have hframe := h.1
  generalize p.host.recs = R, p.lanes = L at hframe ⊢
  subst hframe
  simp only [State.ki40Stored, List.append_nil, id]

/-- A command that awaits intake. -/
theorem await_stored (f : HostSide → HostSide) (R : List HostRec) (K : Lanes Lane) (e : EngineCmd) :
    (s.ki40Stored s t c f R K [] []).await (ki40Cmd op native c none) e =
      s.ki40Stored s t c (fun h => (f h).awaits (ki40Intake op native c e)) R K [] [] := rfl

/-- The forces of Table 3.9. -/
theorem commandForce_stored {f : HostSide → HostSide} {R : List HostRec} {K : Lanes Lane} (hK : ∀ i, K.get i = p.lane i) (h : s.heardKi40Copy p t c)
    (es : List Nat) : ∃ K', (s.ki40Stored s t c f R K [] []).commandForce es = s.ki40Stored s t c f R K' [] [] ∧
      ∀ i, K'.get i = { s.forcedBy t es i (s.lane i) with inputs := (p.lane i).inputs } := by
  let q := s.ki40Stored s t c f R K [] []
  have hsame : State.sameLanes { s with ki40 := q.ki40, almanac := q.almanac } q := fun i => by
    obtain ⟨k, hk⟩ := heardKi40Copy_lane h i
    have hlane : q.lane i = { s.lane i with inputs := { (s.lane i).inputs with checkUnits := k } } := (hK i).trans hk
    rw [hlane]
    rfl
  obtain ⟨hframe, hlanes⟩ := commandForce_lane (p := q) (t := t) (es := es) hsame rfl
  refine ⟨(q.commandForce es).lanes, hframe, fun i => ?_⟩
  rw [← hK i]
  exact hlanes i

/-! ## From the checks to the decision -/

theorem stores_awaits (i : Intake) : HostSide.Stores (fun h => h.awaits i) := ⟨fun _ _ _ => rfl, fun _ => rfl, fun _ => rfl⟩

theorem stores_cancels (r : Nat) (i : Intake) : HostSide.Stores (HostSide.cancels r i) := ⟨fun _ _ _ => rfl, fun _ => rfl, fun _ => rfl⟩

/-- A permissive command that its native equivalent lets await intake. -/
theorem ki40_awaits {e : EngineCmd} {data d : Bytes} (h : s.ki40Ready t) (g : s.secondKi40 op c)
    (ht : ki40Table.find? (fun x => x.1 == op) = some (op, .permissive, native)) (hop : op ≠ 0x20)
    (hrec : recordsCommand native (ki40Native op (slice c.params 0 48)) = true)
    (ha : ∀ p, s.ReadsAs p → p.accept (ki40Cmd op native c none) = (p.await (ki40Cmd op native c none) e).accData stAccepted data)
    (hd : (if op = 0x09 then slice data 0 2 else []) = d) :
    ∃ u, run t (fun u => u.ki40Copy op c) s = .next u ∧
      s.ki40Decided u t op native c 1 d (fun h => h.awaits (ki40Intake op native c e)) laneKept ∧
      u = { s with now := u.now, host := u.host, lanes := u.lanes, ki40 := u.ki40, almanac := u.almanac } := by
  obtain ⟨p, hp, hcopy⟩ := ki40Copy_second h g ht
  have hacc := ha p (heardKi40Copy_readsAs hp)
  rw [heardKi40Copy_stored hp, await_stored, ← heardKi40Copy_stored hp] at hacc
  refine ki40Decided_of (K := p.lanes) hp g.1.1 hop hcopy (stores_awaits _) rfl rfl hrec (fun i => ?_) (fun _ _ => rfl) hacc hd
  exact sameLanes_inputs (heardKi40Copy_sameLanes hp) i

/-- A restrictive command whose acceptance stores `f` in the host interface and forces elements (Table 3.9). -/
theorem ki40_forces {f : HostSide → HostSide} {es : List Nat} (h : s.ki40Ready t) (g : s.firstKi40 op c)
    (ht : ki40Table.find? (fun x => x.1 == op) = some (op, .restrictive, native)) (hop : op ≠ 0x20) (hop9 : op ≠ 0x09) (hf : HostSide.Stores f)
    (hrec : recordsCommand native (ki40Native op (slice c.params 0 48)) = true)
    (ha : ∀ p, s.heardKi40Copy p t c → ∃ R, p.accept (ki40Cmd op native c none) =
      ((s.ki40Stored s t c f R p.lanes [] []).commandForce es).acc stAccepted) :
    ∃ u, run t (fun u => u.ki40Copy op c) s = .next u ∧ s.ki40Decided u t op native c 1 [] f (s.forcedBy t es) ∧
      u = { s with now := u.now, host := u.host, lanes := u.lanes, ki40 := u.ki40, almanac := u.almanac } := by
  obtain ⟨p, hp, hcopy⟩ := ki40Copy_first h g ht
  obtain ⟨R, hacc⟩ := ha p hp
  obtain ⟨K, hforce, hK⟩ := commandForce_stored (f := f) (R := R) (K := p.lanes) (fun _ => rfl) hp es
  rw [hforce] at hacc
  exact ki40Decided_of (K := K) hp g.1.1 hop hcopy hf rfl rfl hrec hK (forcedBy_mode s t es) hacc (if_neg hop9)

/-- A restrictive command that its native equivalent lets await intake, with the forces of Table 3.9. -/
theorem ki40_awaitsForced {e : EngineCmd} {es : List Nat} (h : s.ki40Ready t) (g : s.firstKi40 op c)
    (ht : ki40Table.find? (fun x => x.1 == op) = some (op, .restrictive, native)) (hop : op ≠ 0x20) (hop9 : op ≠ 0x09)
    (hrec : recordsCommand native (ki40Native op (slice c.params 0 48)) = true)
    (ha : ∀ p, s.ReadsAs p → p.accept (ki40Cmd op native c none) = ((p.await (ki40Cmd op native c none) e).commandForce es).acc stAccepted) :
    ∃ u, run t (fun u => u.ki40Copy op c) s = .next u ∧
      s.ki40Decided u t op native c 1 [] (fun h => h.awaits (ki40Intake op native c e)) (s.forcedBy t es) ∧
      u = { s with now := u.now, host := u.host, lanes := u.lanes, ki40 := u.ki40, almanac := u.almanac } := by
  refine ki40_forces h g ht hop hop9 (stores_awaits _) hrec (fun p hp => ⟨p.host.recs, ?_⟩)
  have hacc := ha p (heardKi40Copy_readsAs hp)
  rw [heardKi40Copy_stored hp, await_stored, ← heardKi40Copy_stored hp] at hacc
  exact hacc

/-! ## The parameters of the commands -/

/-- A field of PARAMS is within the mask of the opcode. -/
theorem goodKi40_rd16_le (g : s.goodKi40 op c) (ht : (ki40Table.find? (fun x => x.1 == op)).isSome = true) (off : Nat) :
    rd16 c.params off ≤ bitsAt (ki40Used op) (8 * off) 16 := by
  obtain ⟨-, -, hlen, -, -, -, -, hfields⟩ := g
  rw [rd16_eq]
  exact bitsAt_le_mask (params_masked hfields hlen ht) _ _

theorem goodKi40_rd8_le (g : s.goodKi40 op c) (ht : (ki40Table.find? (fun x => x.1 == op)).isSome = true) (off : Nat) :
    rd8 c.params off ≤ bitsAt (ki40Used op) (8 * off) 8 := by
  obtain ⟨-, -, hlen, -, -, -, -, hfields⟩ := g
  rw [rd8_eq]
  exact bitsAt_le_mask (params_masked hfields hlen ht) _ _

theorem rd8_lt (b : Bytes) (off : Nat) : rd8 b off < 256 := BitVec.isLt _

/-- The parameters that the native equivalent is given. -/
theorem ki40Cmd_params (g : s.goodKi40 op c) (native : Nat) : (ki40Cmd op native c none).params = ki40Native op c.params := by
  obtain ⟨-, -, hlen, -⟩ := g
  show ki40Native op (slice c.params 0 48) = _
  rw [slice_whole hlen]

theorem ki40Cmd_wellFormed {P : Bytes} (hP : (ki40Cmd op native c none).params = P) (h : nativeOk native P) :
    (ki40Cmd op native c none).malformed = false := malformed_eq_false (by rw [hP]; exact h.1) (by rw [hP]; exact h.2)

/-- The commands of a route (0x02 to 0x04): their number, of eight bits, is the route of the native equivalent. -/
theorem ki40Cmd_route (g : s.goodKi40 op c) (hop : op = 0x02 ∨ op = 0x03 ∨ op = 0x04) (hn : native = 0x0101 ∨ native = 0x0102 ∨ native = 0x0103) :
    (ki40Cmd op native c none).malformed = false ∧ paramRoute (ki40Cmd op native c none).params = rd8 c.params 0 := by
  have hbyte := rd8_lt c.params 0
  have hP : (ki40Cmd op native c none).params = b16 (rd8 c.params 0) ++ zeros 2 := by rw [ki40Cmd_params g, ki40Native, if_pos hop]
  have hlen : lengthOk native (b16 (rd8 c.params 0) ++ zeros 2) = true := by rcases hn with rfl | rfl | rfl <;> rfl
  have hres : reservedFields native = [(12, 20)] := by rcases hn with rfl | rfl | rfl <;> rfl
  refine ⟨ki40Cmd_wellFormed hP (nativeOk_of_lt hlen (by omega) hres ?_), ?_⟩
  · rw [leNat_word (by omega)]; omega
  · rw [hP]; exact paramRoute_word (by omega)

/-- The commands of one element (0x05, 0x08 and 0x0A). -/
theorem ki40Cmd_element (g : s.goodKi40 op c) (hop : op = 0x05 ∨ op = 0x08 ∨ op = 0x0A) (hn : native = 0x0105 ∨ native = 0x0202 ∨ native = 0x0204) :
    (ki40Cmd op native c none).malformed = false ∧ paramElem (ki40Cmd op native c none).params = rd16 c.params 0 := by
  have helem : rd16 c.params 0 ≤ 511 := by
    rcases hop with rfl | rfl | rfl <;> exact goodKi40_rd16_le g rfl 0
  have hP : (ki40Cmd op native c none).params = b16 (rd16 c.params 0) ++ zeros 2 := by
    rw [ki40Cmd_params g, ki40Native, if_neg (by omega), if_pos hop]
  have hlen : lengthOk native (b16 (rd16 c.params 0) ++ zeros 2) = true := by rcases hn with rfl | rfl | rfl <;> rfl
  have hres : reservedFields native = [(13, 19)] := by rcases hn with rfl | rfl | rfl <;> rfl
  refine ⟨ki40Cmd_wellFormed hP (nativeOk_of_lt hlen (by omega) hres ?_), ?_⟩
  · rw [leNat_word (by omega)]; omega
  · rw [hP]; exact paramElem_b16 (by omega) _

theorem ki40Cmd_pointMove (g : s.goodKi40 0x07 c) : (ki40Cmd 0x07 0x0201 c none).malformed = false ∧
    paramElem (ki40Cmd 0x07 0x0201 c none).params = rd16 c.params 0 ∧ rd8 (ki40Cmd 0x07 0x0201 c none).params 2 = rd8 c.params 2 := by
  have helem : rd16 c.params 0 ≤ 511 := goodKi40_rd16_le g rfl 0
  have hP : (ki40Cmd 0x07 0x0201 c none).params = b16 (rd16 c.params 0) ++ b8 (rd8 c.params 2) ++ zeros 1 := ki40Cmd_params g 0x0201
  obtain ⟨hok, hpos⟩ := nativeOk_pointMove (e := rd16 c.params 0) (by omega) (rd8_lt c.params 2)
  refine ⟨ki40Cmd_wellFormed hP hok, ?_, by rw [hP]; exact hpos⟩
  rw [hP, List.append_assoc]
  exact paramElem_b16 (by omega) _

theorem ki40Cmd_pointUnblock (g : s.goodKi40 0x09 c) : (ki40Cmd 0x09 0x0203 c none).malformed = false ∧
    bitsAt (rd16 (ki40Cmd 0x09 0x0203 c none).params 0) 0 13 = rd16 c.params 0 ∧
    bitsAt (rd16 (ki40Cmd 0x09 0x0203 c none).params 2) 0 13 = rd16 c.params 2 := by
  have hfirst : rd16 c.params 0 ≤ 511 := goodKi40_rd16_le g rfl 0
  have hlast : rd16 c.params 2 ≤ 511 := goodKi40_rd16_le g rfl 2
  have hP : (ki40Cmd 0x09 0x0203 c none).params = b16 (rd16 c.params 0) ++ b16 (rd16 c.params 2) := ki40Cmd_params g 0x0203
  obtain ⟨hok, hread⟩ := nativeOk_pointUnblock (e := rd16 c.params 0) (l := rd16 c.params 2) (by omega) (by omega)
  refine ⟨ki40Cmd_wellFormed hP hok, ?_, by rw [hP]; exact hread⟩
  rw [hP]
  exact paramElem_b16 (by omega) _

theorem ki40Cmd_powerStateSet (g : s.goodKi40 0x0E c) : (ki40Cmd 0x0E 0x0501 c none).malformed = false ∧
    rd8 (ki40Cmd 0x0E 0x0501 c none).params 0 = rd8 c.params 0 ∧ rd8 (ki40Cmd 0x0E 0x0501 c none).params 1 = rd8 c.params 1 := by
  have htest : rd8 c.params 1 ≤ 1 := goodKi40_rd8_le g rfl 1
  have hP : (ki40Cmd 0x0E 0x0501 c none).params = b8 (rd8 c.params 0) ++ b8 (rd8 c.params 1) ++ zeros 2 := ki40Cmd_params g 0x0501
  obtain ⟨hok, hpower, hbit⟩ := nativeOk_powerStateSet (rd8_lt c.params 0) htest
  exact ⟨ki40Cmd_wellFormed hP hok, by rw [hP]; exact hpower, by rw [hP]; exact hbit⟩

theorem ki40Cmd_timeSet (g : s.goodKi40 0x11 c) : (ki40Cmd 0x11 0x0604 c none).malformed = false ∧
    rd64 (ki40Cmd 0x11 0x0604 c none).params 0 = rd64 c.params 0 := by
  have hP : (ki40Cmd 0x11 0x0604 c none).params = slice c.params 0 8 := ki40Cmd_params g 0x0604
  have hlen : (slice c.params 0 8).length = 8 := slice_length _ _ _
  refine ⟨ki40Cmd_wellFormed hP ⟨by simp [lengthOk, hlen], reservedOk_of_fields (by decide) (by simp [reservedFields])⟩, ?_⟩
  rw [hP]
  unfold rd64
  rw [slice_whole hlen]

end

end Sys2Proof.Machine
end

section
/-! # KI-40 commands that wait for a commit, and the commands together (R399, R567, R655; O54) -/

namespace Sys2Proof.Machine

/-! ## What the acceptance reads of the lanes -/

section
variable {s p : State} {t : Nat} {c : Ki40Copy}

theorem heardKi40Copy_currentMode (h : s.heardKi40Copy p t c) : p.currentMode = s.currentMode := by
  have hreads := heardKi40Copy_readsAs h
  unfold State.currentMode
  rw [hreads.waitingCmds, hreads.control]

theorem heardKi40Copy_anyFrozen (h : s.heardKi40Copy p t c) : p.anyFrozen = s.anyFrozen := by
  have hstore : ∀ i, (p.lane i).store = (s.lane i).store := fun i => by rw [h.2 i]
  unfold State.anyFrozen
  simp only [hstore]

theorem heardKi40Copy_modeRefused (h : s.heardKi40Copy p t c) (m : Mode) (n : Nat) : p.modeRefused m n = s.modeRefused m n := by
  have hreads := heardKi40Copy_readsAs h
  have hseal : p.sealClosed 15 = s.sealClosed 15 := by rw [h.1]; rfl
  unfold State.modeRefused State.modeAllowed
  rw [hseal, hreads.standbyUnit, hreads.control, heardKi40Copy_currentMode h, heardKi40Copy_anyFrozen h]

theorem heardKi40Copy_switchLocked (h : s.heardKi40Copy p t c) (q : Power) : p.switchLocked q = s.switchLocked q := by
  have hreads := heardKi40Copy_readsAs h
  have hslot : p.selectedSlot = s.selectedSlot := by rw [h.1]; rfl
  unfold State.switchLocked
  rw [hslot, hreads.engine, hreads.control, hreads.images]

theorem heardKi40Copy_powerRefused (h : s.heardKi40Copy p t c) (q : Power) : p.powerRefused q = s.powerRefused q := by
  have hreads := heardKi40Copy_readsAs h
  have hwarm : p.warmReady = s.warmReady := by rw [h.1]; rfl
  have hdawn : p.dawnComplete = s.dawnComplete := by rw [h.1]; rfl
  unfold State.powerRefused State.powerAllowed
  rw [hwarm, hdawn, heardKi40Copy_switchLocked h, hreads.pair, hreads.control]

/-- A module of its own has no frames whose commands wait for the peer. -/
theorem dropWaiting_none {p : Pair} (h : p.deferred = []) (out : Intake → Bool) : p.dropWaiting out = p := by
  unfold Pair.dropWaiting
  rw [h, List.map_nil, ← h]

/-! ## MODE_SET, POWER_STATE_SET and TIME_SET -/

/-- KI-40 MODE names STOP or RUN (Table 17.4). -/
theorem ki40Cmd_modeSet (g : s.goodKi40 0x0D c) (hn : rd8 c.params 0 ≤ 1) :
    (ki40Cmd 0x0D 0x0401 c none).params = b8 (rd8 c.params 0) ++ zeros 39 ∧ (ki40Cmd 0x0D 0x0401 c none).malformed = false := by
  have hP : (ki40Cmd 0x0D 0x0401 c none).params = b8 (rd8 c.params 0) ++ zeros 39 := by
    have hset : (ki40Cmd 0x0D 0x0401 c none).params = b8 (if rd8 c.params 0 ≤ 1 then rd8 c.params 0 else 0xFF) ++ zeros 39 := ki40Cmd_params g 0x0401
    rw [hset, if_pos hn]
  exact ⟨hP, ki40Cmd_wellFormed hP (nativeOk_modeSet (rd8_lt c.params 0)).1⟩

/-- MODE_SET without steps and breakpoints (R655). -/
theorem acceptModeSet_plain {n : Nat} {m : Mode} {cmd : Cmd} (hP : cmd.params = b8 n ++ zeros 39) (hm : cmd.malformed = false) (hn : n ≤ 1)
    (hmode : modeOf n = some m) (hnadir : p.inNadir = false) (href : p.modeRefused m 0 = false) (hu : p.pair.role = .unpaired) :
    p.acceptModeSet cmd = State.acc { p.dropWaitingMode with control := { p.dropWaitingMode.control with
      pendingMode := some (m, some cmd.key)
      pendingSteps := 0
      pendingBreaks := none } } stAccepted := by
  have hcases : n = 0 ∨ n = 1 := by omega
  have hread : rd8 (b8 n ++ zeros 39) 0 = n ∧ rd16 (b8 n ++ zeros 39) 2 = 0 ∧ bitAt (rd8 (b8 n ++ zeros 39) 1) 0 = false ∧
      p.modeParamsOk (b8 n ++ zeros 39) = true := by
    rcases hcases with rfl | rfl <;> exact ⟨rfl, rfl, rfl, rfl⟩
  obtain ⟨hbyte, hsteps, hbreaks, hok⟩ := hread
  have hnotHold : (n == 2) = false := beq_eq_false_iff_ne.2 (by omega)
  have hrole : p.dropWaitingMode.pair.role = .unpaired := (dropWaitingMode_role p).trans hu
  unfold State.acceptModeSet
  simp only [hP, hbyte, hsteps, hbreaks, hmode, Option.getD_some, ite_self, Bool.false_eq_true, if_false]
  rw [firstOf_go]
  · rw [if_neg (by rw [pairSteps_unpaired hu]; decide)]
  · simp only [hnotHold, hnadir, hm, hok, href, List.forall_mem_cons, List.not_mem_nil, false_implies, implies_true, and_true, Bool.false_and,
      Bool.not_true, Bool.or_self]

/-- POWER_STATE_SET (R394). -/
theorem acceptPowerStateSet_waiting {q : Power} {b : Bool} {cmd : Cmd} (hm : cmd.malformed = false) (hpower : powerOf (rd8 cmd.params 0) = some q)
    (htest : bitAt (rd8 cmd.params 1) 0 = b) (hu : p.pair.role = .unpaired)
    (hrole : ¬(p.control.power = .idle ∧ q = .warm ∧ p.sealBank.role = 0xFF)) (hnadir : ¬(p.inNadir = true ∧ q = .live))
    (hoff : b = true → q = .off) (hlock : p.switchLocked q = false) (href : p.powerRefused q = false) :
    p.acceptPowerStateSet cmd = State.acc { p.dropWaitingPower with control := { p.dropWaitingPower.control with
      pendingPower := some (q, some cmd.key)
      pendingTest := b } } stAccepted := by
  have hcode : rd8 cmd.params 0 = q.code := powerOf_code hpower
  have hrole' : p.dropWaitingPower.pair.role = .unpaired := (dropWaitingPower_role p).trans hu
  unfold State.acceptPowerStateSet
  simp only [hpower, htest, Option.getD_some]
  rw [firstOf_go]
  · rw [pairSteps_unpaired hrole', Bool.false_and, Bool.false_and, if_neg Bool.false_ne_true]
    exact congrArg (fun u => State.acc u stAccepted) (standbyFalls_unpaired (by exact hrole') 6)
  · simp only [List.forall_mem_cons, List.not_mem_nil, false_implies, implies_true, and_true, hm, Option.isNone_some, Bool.false_or, hcode]
    refine ⟨?_, ?_, ?_, hlock, href⟩
    · cases q <;> simp_all [Power.code]
    · cases q <;> simp_all [Power.code]
    · cases q <;> simp_all [Power.code]

/-- TIME_SET (R399). -/
theorem acceptTimeSet_waiting {n : Nat} {cmd : Cmd} (hm : cmd.malformed = false) (hn : rd64 cmd.params 0 = n) (hnew : n ≠ 0) :
    ∃ R, p.acceptTimeSet cmd = State.accData { p with
      host := { p.host with recs := R }
      pendingWall := some (n, cmd.key) } stAccepted (b64 (p.wallAt p.now)) := by
  have hgo : ∃ ks, p.acceptTimeSet cmd = State.accData { p.settledAll ks with pendingWall := some (n, cmd.key) } stAccepted (b64 (p.wallAt p.now)) := by
    unfold State.acceptTimeSet
    rw [firstOf_go]
    · rw [hn]
      cases p.pendingWall with
      | none => exact ⟨[], rfl⟩
      | some w => exact ⟨[w.2], rfl⟩
    · simp [hm, hn, hnew]
  obtain ⟨ks, hgo⟩ := hgo
  obtain ⟨R, hR⟩ := settledAll_recs p ks
  exact ⟨R, by rw [hgo, hR]⟩

end

/-- A permissive KI-40 command whose acceptance turns the module into `b`, with the host interface changed by `f`. -/
theorem ki40_stores {s b : State} {t op native : Nat} {c : Ki40Copy} {f : HostSide → HostSide} (h : s.ki40Ready t) (g : s.secondKi40 op c)
    (ht : ki40Table.find? (fun x => x.1 == op) = some (op, .permissive, native)) (hop : op ≠ 0x20) (hop9 : op ≠ 0x09)
    (hrec : recordsCommand native (ki40Native op (slice c.params 0 48)) = true) (hf : HostSide.Stores f) (hb : b.pending = s.pending)
    (hki : b.ki40 = s.ki40)
    (ha : ∀ p, s.heardKi40Copy p t c → ∃ R data, p.accept (ki40Cmd op native c none) = (s.ki40Stored b t c f R p.lanes [] []).accData stAccepted data) :
    ∃ u, run t (fun u => u.ki40Copy op c) s = .next u ∧ s.ki40Decided u t op native c 1 [] f laneKept ∧
      u = { b with now := u.now, host := u.host, lanes := u.lanes, ki40 := u.ki40, almanac := u.almanac } := by
  obtain ⟨p, hp, hcopy⟩ := ki40Copy_second h g ht
  obtain ⟨R, data, hacc⟩ := ha p hp
  exact ki40Decided_of (K := p.lanes) hp g.1.1 hop hcopy hf hb hki hrec (fun i => sameLanes_inputs (heardKi40Copy_sameLanes hp) i) (fun _ _ => rfl) hacc
    (if_neg hop9)

/-! ## The commands -/

/-- KI-40 MODE waits for its commit (R655). -/
theorem ki40_mode {s : State} {t : Nat} {c : Ki40Copy} {m : Mode} (h : s.ki40Ready t) (hu : s.pair.role = .unpaired) (hpair : s.pair.deferred = [])
    (g : s.secondKi40 0x0D c) (hn : rd8 c.params 0 ≤ 1) (hmode : modeOf (rd8 c.params 0) = some m) (hnadir : s.inNadir = false)
    (href : s.modeRefused m 0 = false) :
    ∃ u, run t (fun u => u.ki40Copy 0x0D c) s = .next u ∧
      s.ki40Decided u t 0x0D 0x0401 c 1 [] (fun h => { h with awaiting := s.dropWaitingMode.host.awaiting }) laneKept ∧
      u = { s with
        now := u.now
        host := u.host
        lanes := u.lanes
        ki40 := u.ki40
        almanac := u.almanac
        control := { s.control with
          pendingMode := some (m, some (.ki40 c.seq))
          pendingSteps := 0
          pendingBreaks := none } } := by
  refine ki40_stores (b := { s with control := { s.control with
      pendingMode := some (m, some (.ki40 c.seq))
      pendingSteps := 0
      pendingBreaks := none } }) h g rfl (by decide) (by decide) rfl (stores_awaiting _) rfl rfl (fun p hp => ?_)
  have hreads := heardKi40Copy_readsAs hp
  obtain ⟨hP, hm⟩ := ki40Cmd_modeSet g.1 hn
  obtain ⟨R, hdrop⟩ := dropWaitingMode_eq p
  obtain ⟨R', hdrop'⟩ := dropWaitingMode_eq s
  refine ⟨R, [], ?_⟩
  rw [accept_modeSet p rfl, acceptModeSet_plain hP hm hn hmode (hreads.inNadir.trans hnadir) ((heardKi40Copy_modeRefused hp m 0).trans href)
    (by rw [hreads.pair]; exact hu), hdrop, hdrop', dropWaiting_none (by rw [hreads.pair]; exact hpair), hreads.awaiting]
  have hframe := hp.1
  generalize p.host.recs = Q, p.lanes = L at hframe ⊢
  subst hframe
  simp only [State.ki40Stored, List.append_nil]
  rfl

/-- KI-40 POWER waits for its commit (R394). -/
theorem ki40_power {s : State} {t : Nat} {c : Ki40Copy} {q : Power} (h : s.ki40Ready t) (hu : s.pair.role = .unpaired) (hpair : s.pair.deferred = [])
    (g : s.secondKi40 0x0E c) (hpower : powerOf (rd8 c.params 0) = some q)
    (hrole : ¬(s.control.power = .idle ∧ q = .warm ∧ s.sealBank.role = 0xFF)) (hnadir : ¬(s.inNadir = true ∧ q = .live))
    (hoff : bitAt (rd8 c.params 1) 0 = true → q = .off) (hlock : s.switchLocked q = false) (href : s.powerRefused q = false) :
    ∃ u, run t (fun u => u.ki40Copy 0x0E c) s = .next u ∧
      s.ki40Decided u t 0x0E 0x0501 c 1 [] (fun h => { h with awaiting := s.dropWaitingPower.host.awaiting }) laneKept ∧
      u = { s with
        now := u.now
        host := u.host
        lanes := u.lanes
        ki40 := u.ki40
        almanac := u.almanac
        control := { s.control with
          pendingPower := some (q, some (.ki40 c.seq))
          pendingTest := bitAt (rd8 c.params 1) 0
          pendingAgain := false } } := by
  refine ki40_stores (b := { s with control := { s.control with
      pendingPower := some (q, some (.ki40 c.seq))
      pendingTest := bitAt (rd8 c.params 1) 0
      pendingAgain := false } }) h g rfl (by decide) (by decide) rfl (stores_awaiting _) rfl rfl (fun p hp => ?_)
  have hreads := heardKi40Copy_readsAs hp
  have hseal : p.sealBank = s.sealBank := by rw [hp.1]
  obtain ⟨hm, hcode, hbit⟩ := ki40Cmd_powerStateSet g.1
  obtain ⟨R, hdrop⟩ := dropWaitingPower_eq p
  obtain ⟨R', hdrop'⟩ := dropWaitingPower_eq s
  refine ⟨R, [], ?_⟩
  rw [accept_powerStateSet p rfl, acceptPowerStateSet_waiting hm (by rw [hcode]; exact hpower) (by rw [hbit]) (by rw [hreads.pair]; exact hu)
    (by rw [hreads.control, hseal]; exact hrole) (by rw [hreads.inNadir]; exact hnadir) hoff ((heardKi40Copy_switchLocked hp q).trans hlock)
    ((heardKi40Copy_powerRefused hp q).trans href), hdrop, hdrop', dropWaiting_none (by rw [hreads.pair]; exact hpair), hreads.awaiting]
  have hframe := hp.1
  generalize p.host.recs = Q, p.lanes = L at hframe ⊢
  subst hframe
  simp only [State.ki40Stored, List.append_nil]
  rfl

/-- KI-40 TIME_SET waits for its commit (R399). -/
theorem ki40_time {s : State} {t : Nat} {c : Ki40Copy} (h : s.ki40Ready t) (g : s.secondKi40 0x11 c) (hnew : rd64 c.params 0 ≠ 0) :
    ∃ u, run t (fun u => u.ki40Copy 0x11 c) s = .next u ∧ s.ki40Decided u t 0x11 0x0604 c 1 [] id laneKept ∧
      u = { s with
        now := u.now
        host := u.host
        lanes := u.lanes
        ki40 := u.ki40
        almanac := u.almanac
        pendingWall := some (rd64 c.params 0, .ki40 c.seq) } := by
  refine ki40_stores (b := { s with pendingWall := some (rd64 c.params 0, .ki40 c.seq) }) h g rfl (by decide) (by decide) rfl stores_id rfl rfl (fun p hp => ?_)
  obtain ⟨hm, hwall⟩ := ki40Cmd_timeSet g.1
  obtain ⟨R, hacc⟩ := acceptTimeSet_waiting (p := p) hm hwall hnew
  refine ⟨R, b64 (p.wallAt p.now), ?_⟩
  rw [accept_timeSet p rfl, hacc]
  generalize b64 (p.wallAt p.now) = data
  have hframe := hp.1
  generalize p.host.recs = Q, p.lanes = L at hframe ⊢
  subst hframe
  simp only [State.ki40Stored, List.append_nil, id]
  rfl

/-- KI-40 ROUTE_CANCEL (R119): it awaits intake, no ROUTE_SET of its route does any more, and the entry signal of a cleared route is forced. -/
theorem ki40_routeCancel {s : State} {t : Nat} {c : Ki40Copy} {r : Nat} (h : s.ki40Ready t) (hu : s.pair.role = .unpaired) (hpair : s.pair.deferred = [])
    (g : s.firstKi40 0x03 c) (hr : rd8 c.params 0 = r) (hdef : (routeDef s.img r).isSome = true)
    (hactive : (s.leadLane.engine.entry r).state ≠ .idle ∨ r ∈ s.waitingRoutes) (hocc : (s.leadLane.engine.entry r).state ≠ .occupied)
    (hemerg : (s.leadLane.engine.entry r).state ≠ .emergTiming) :
    ∃ u, run t (fun u => u.ki40Copy 0x03 c) s = .next u ∧
      s.ki40Decided u t 0x03 0x0102 c 1 [] (HostSide.cancels r (ki40Intake 0x03 0x0102 c (.routeCancel r (s.waitingRoutes.contains r))))
        (s.forcedBy t (s.cancelForce r)) ∧
      u = { s with now := u.now, host := u.host, lanes := u.lanes, ki40 := u.ki40, almanac := u.almanac } := by
  refine ki40_forces h g rfl (by decide) (by decide) (stores_cancels _ _) rfl (fun p hp => ?_)
  have hreads := heardKi40Copy_readsAs hp
  obtain ⟨hm, hroute⟩ := ki40Cmd_route (native := 0x0102) g.1 (by decide) (by decide)
  obtain ⟨R, hremove⟩ := removeRouteSet_eq (s := p) (r := r) (by rw [hreads.pair]; exact hpair)
  refine ⟨R, ?_⟩
  rw [accept_routeCancel p rfl, acceptRouteCancel_cancels (r := r) hm (by rw [hreads.pair]; exact hu) (hroute.trans hr) (by rw [hreads.img]; exact hdef)
    (by rw [hreads.engine, hreads.waitingRoutes]; exact hactive) (by rw [hreads.engine]; exact hocc) (by rw [hreads.engine]; exact hemerg),
    hreads.waitingRoutes, hreads.cancelForce, hremove]
  have hframe := hp.1
  generalize p.host.recs = Q, p.lanes = L at hframe ⊢
  subst hframe
  simp only [State.ki40Stored, List.append_nil]
  rfl

/-- Settles O54, command by command: a second (or first restrictive) copy is decided by the acceptance checks of the native equivalent, which the heard
copy has not changed. That POWER and TIME_SET replace one that waits is log entry 29, the forces of ROUTE_CANCEL log entry 91. -/
theorem ki40CommandsActAsTheirNativeEquivalents : Obligations.Ki40CommandsActAsTheirNativeEquivalents := by
  unfold Obligations.Ki40CommandsActAsTheirNativeEquivalents
  intro t c s h hu hpair r e n last en runs framed taken
  have hgate : ∀ {p : State}, s.ReadsAs p → runs → ∀ q ∈ p.gate, q.1 = false := fun hp hruns => by
    rw [hp.gate]
    exact gate_passes hruns.1 hruns.2.1 hruns.2.2 hu
  refine ⟨fun g hruns hdef hchange hprofile hidle hwait hload hfree => ?_, fun g hdef hactive hocc hemerg => ?_,
    fun g hruns hchange hdef hstate => ?_, fun g hprog hpow => ?_, fun g hpow => ?_,
    fun g hruns hchange hprog hend hfree hblock hres hstill => ?_, fun g hprog hpow => ?_, fun g hn hpow hle => ?_,
    fun g hruns hchange htype hread hfree hout => ?_, fun m g hn hmode hnadir href => ki40_mode h hu hpair g hn hmode hnadir href,
    fun q g hpower hrole hnadir hoff hlock href => ki40_power h hu hpair g hpower hrole hnadir hoff hlock href,
    fun g hnew => ki40_time h g hnew⟩
  · refine ki40_awaits (data := []) h g rfl (by decide) rfl (fun p hp => ?_) rfl
    obtain ⟨hm, hroute⟩ := ki40Cmd_route (native := 0x0101) g.1 (by decide) (by decide)
    rw [accept_routeSet p rfl]
    exact acceptRouteSet_awaits hm hroute (hgate hp hruns) (by rw [hp.img]; exact hdef) (by rw [hp.changing]; exact hchange)
      (by rw [hp.images]; exact hprofile) (by rw [hp.engine]; exact hidle) (by rw [hp.waitingRoutes]; exact hwait) (by rw [hp.routeLoad]; exact hload)
      (by rw [hp.snap, hp.img]; exact hfree)
  · exact ki40_routeCancel h hu hpair g rfl hdef hactive hocc hemerg
  · refine ki40_awaits (data := []) h g rfl (by decide) rfl (fun p hp => ?_) rfl
    obtain ⟨hm, hroute⟩ := ki40Cmd_route (native := 0x0103) g.1 (by decide) (by decide)
    rw [accept_routeReleaseTimed p rfl]
    exact acceptRouteReleaseTimed_awaits hm hroute (hgate hp hruns) (by rw [hp.img]; exact hdef) (by rw [hp.changing]; exact hchange)
      (by rw [hp.engine]; exact hstate)
  · refine ki40_awaitsForced h g rfl (by decide) (by decide) rfl (fun p hp => ?_)
    obtain ⟨hm, helem⟩ := ki40Cmd_element (native := 0x0105) g.1 (by decide) (by decide)
    rw [accept_signalStop p rfl]
    exact acceptSignalStop_forces hm (by rw [hp.pair]; exact hu) helem (by rw [hp.programmed]; exact hprog) (by rw [hp.powered]; exact hpow)
  · refine ki40_awaitsForced h g rfl (by decide) (by decide) rfl (fun p hp => ?_)
    have hm : (ki40Cmd 0x06 0x0106 c none).malformed = false := malformed_eq_false rfl rfl
    rw [accept_allStop p rfl, ← hp.img]
    exact acceptAllStop_forces hm (by rw [hp.pair]; exact hu) (by rw [hp.powered]; exact hpow)
  · refine ki40_awaits (data := []) h g rfl (by decide) rfl (fun p hp => ?_) rfl
    obtain ⟨hm, helem, hpos⟩ := ki40Cmd_pointMove g.1
    rw [accept_pointMove p rfl]
    exact acceptPointMove_awaits hm helem hpos (hgate hp hruns) (by rw [hp.programmed]; exact hprog) hend
      (by rw [hp.changing]; exact hchange) (by rw [hp.snap]; exact hfree) (by rw [hp.blockAhead]; exact hblock)
      (by rw [hp.engine, hp.img]; exact hres) (by rw [hp.movingPoints, hp.engine]; exact hstill)
  · refine ki40_awaitsForced h g rfl (by decide) (by decide) rfl (fun p hp => ?_)
    obtain ⟨hm, helem⟩ := ki40Cmd_element (native := 0x0202) g.1 (by decide) (by decide)
    rw [accept_pointBlock p rfl]
    exact acceptPointBlock_forces hm (by rw [hp.pair]; exact hu) helem (by rw [hp.programmed]; exact hprog) (by rw [hp.powered]; exact hpow)
  · intro count hsome
    refine ki40_awaits (data := b16 count ++ b16 0) h g rfl (by decide) rfl (fun p hp => ?_) rfl
    obtain ⟨hm, hfirst, hlast⟩ := ki40Cmd_pointUnblock g.1
    rw [accept_pointUnblock p rfl]
    exact acceptPointUnblock_awaits hm hfirst hlast (by rw [hp.blockAhead]) (by rw [hp.inNadir]; exact hn)
      (by rw [hp.powered]; exact hpow) (by rw [hp.pair]; exact hu) hle hsome
  · refine ki40_awaits (data := []) h g rfl (by decide) rfl (fun p hp => ?_) rfl
    obtain ⟨hm, helem⟩ := ki40Cmd_element (native := 0x0204) g.1 (by decide) (by decide)
    rw [accept_sectionReset p rfl]
    exact acceptSectionReset_awaits hm helem (hgate hp hruns) (by rw [hp.changing]; exact hchange) (by rw [hp.img]; exact htype)
      (by rw [hp.snap]; exact hread) (by rw [hp.snap]; exact hfree) (by rw [hp.img]; exact hout)

end Sys2Proof.Machine
end

section
/-! # DATA_LOAD (R597, R605, Table 17.4; O55)

The two phases of DATA_LOAD as commands, then the end of its copy and of its admission. -/

namespace Sys2Proof.Machine

/-! ## The command -/

theorem ki40Stored_quiet (s b : State) (t : Nat) (c : Ki40Copy) (R : List HostRec) (K : Lanes Lane) (l : List Reply) :
    s.ki40Stored b t c id R K l [] = { b with
      now := max s.now t
      host := { s.countedHost t c.net with recs := R }
      lanes := K
      ki40 := b.heldKi40 c l
      almanac := s.almanac } := by
  simp only [State.ki40Stored, List.append_nil, id]

/-- A DATA_LOAD that is accepted into `b`, with the lanes changed by `w`: both networks are told, and there is no COMMAND record (log entry 46). -/
theorem dataLoad_stores {s b : State} {t : Nat} {c : Ki40Copy} {w : LaneId → Lane → Lane} (h : s.ki40Ready t) (g : s.secondKi40 0x20 c)
    (hb : b.pending = s.pending) (hx : b.ki40.pathX = s.ki40.pathX) (hy : b.ki40.pathY = s.ki40.pathY) (hw : ∀ i l, (w i l).mode = l.mode)
    (ha : ∀ p, s.heardKi40Copy p t c → ∃ R K, p.acceptDataLoad (ki40Cmd 0x20 0 c none) = (s.ki40Stored b t c id R K [] []).acc stAccepted ∧
      ∀ i, K.get i = { w i (s.lane i) with inputs := (p.lane i).inputs }) :
    ∃ R K, run t (fun u => u.ki40Copy 0x20 c) s =
        .next (s.ki40Stored b t c id R K [s.ki40ReplyTo t 0x20 c .x 1 [], s.ki40ReplyTo t 0x20 c .y 1 []] []) ∧
      ∀ i, K.get i = { w i (s.lane i) with inputs := { (s.lane i).inputs with
        checkUnits := (K.get i).inputs.checkUnits
        txPending := (K.get i).inputs.txPending } } := by
  obtain ⟨p, hp, hcopy⟩ := ki40Copy_second h g rfl
  obtain ⟨R, K, hacc, hK⟩ := ha p hp
  obtain ⟨R', hdecide⟩ := ki40Decide_accepted (op := 0x20) (native := 0) hp g.1.1 hx hy (fun i => by rw [hK i]; exact hw i _) ((if_pos rfl).trans hacc) rfl
  refine ⟨R', K, run_next (f := fun u => u.ki40Copy 0x20 c) (hcopy.trans hdecide) rfl hb, fun i => ?_⟩
  obtain ⟨k, hk⟩ := heardKi40Copy_lane hp i
  exact lanesAfter_checkUnits (k := k) (by rw [hK i, hk])

/-- The load region with OFFSET 0 is zero-filled, and no other change is made (R605). -/
def loadFill (off region : Nat) : LaneId → Lane → Lane := if off = 0 then loaderWrote region 0 67108864 else laneKept

theorem loadFill_mode (off region : Nat) (i : LaneId) (l : Lane) : (loadFill off region i l).mode = l.mode := by
  unfold loadFill
  split <;> rfl

/-- The module once the phase 0 of a DATA_LOAD has been accepted, but for lanes and replies. -/
def State.loading (s : State) (t : Nat) (c : Ki40Copy) : State :=
  let off := rd32 c.params 4
  { s with
    xram := if s.xram.lockWord 0 = 0 then s.xram.put (lockWordAddr 0) (b32 (2 ^ s.lead.index)) else s.xram
    images := { s.images with regions := if off = 0 then s.images.regions.set (s.stagingRegion 0) [] else s.images.regions }
    ki40 := { s.ki40 with
      load := 1
      loadCheck := 0
      loadHigh := if off = 0 then 0 else s.ki40.loadHigh
      loadCopy := some { offset := off, length := rd32 c.params 8, xram := rd32 c.params 12, since := max s.now t, guarded := decide (s.xram.lockWord 0 = 0),
                         abandoned := false, key := some (.ki40 c.seq), touched := [] } } }

/-- The zero-fill of the load region with OFFSET 0. -/
def State.zeroFilled (s : State) (off : Nat) : State := if off = 0 then s.setRegion (s.stagingRegion 0) [] 0 67108864 else s

theorem zeroFilled_frame (s : State) (off : Nat) : s.zeroFilled off = { s with
    lanes := (s.zeroFilled off).lanes
    images := { s.images with regions := if off = 0 then s.images.regions.set (s.stagingRegion 0) [] else s.images.regions } } := by
  unfold State.zeroFilled
  split
  · exact setRegion_frame _ _ _ _ _
  · rfl

theorem zeroFilled_lane (s : State) (off : Nat) (i : LaneId) : (s.zeroFilled off).lane i = loadFill off (s.stagingRegion 0) i (s.lane i) := by
  unfold State.zeroFilled loadFill
  split
  · exact setRegion_lane _ _ _ (by decide) (by decide) i
  · rfl

/-- The fill of a lane's store leaves its inputs, and does not depend on them. -/
theorem loadFill_inputs (off region : Nat) (i : LaneId) {l m : Lane} (h : m = { l with inputs := m.inputs }) :
    loadFill off region i m = { loadFill off region i l with inputs := m.inputs } := by
  unfold loadFill
  split
  · unfold loaderWrote
    rw [h]
  · exact h

section
variable {s p : State} {t : Nat} {c : Ki40Copy}

/-- The zero-fill and the claim of the guard (R503, R605). -/
theorem beginLoad_stores (h : s.heardKi40Copy p t c) (htwo : 2 ≤ s.voting.length) {cmd : Cmd} (hP : cmd.params = c.params)
    (hkey : cmd.key = .ki40 c.seq) : ∃ R K, p.beginLoad cmd = s.ki40Stored (s.loading t c) t c id R K [] [] ∧
      ∀ i, K.get i = { loadFill (rd32 c.params 4) (s.stagingRegion 0) i (s.lane i) with inputs := (p.lane i).inputs } := by
  have hregion : p.stagingRegion 0 = s.stagingRegion 0 := by rw [h.1]; rfl
  let q := p.zeroFilled (rd32 c.params 4)
  have hq : q = _ := zeroFilled_frame p (rd32 c.params 4)
  have hqlane : ∀ i, q.lane i = loadFill (rd32 c.params 4) (s.stagingRegion 0) i (p.lane i) := fun i => by
    rw [← hregion]; exact zeroFilled_lane p _ i
  have hmode : ∀ i, (q.lane i).mode = (s.lane i).mode := fun i => by rw [hqlane i, loadFill_mode, h.2 i]
  have hlowest : q.lowest = some s.lead := by
    unfold State.lowest
    rw [voting_same hmode]
    exact lowest_eq_lead htwo
  refine ⟨p.host.recs, q.lanes, ?_, fun i => ?_⟩
  · have hbegin : p.beginLoad cmd = { q.claimGuard.1 with ki40 := { q.claimGuard.1.ki40 with
        load := 1
        loadCheck := 0
        loadHigh := if rd32 c.params 4 = 0 then 0 else p.ki40.loadHigh
        loadCopy := some { offset := rd32 c.params 4, length := rd32 c.params 8, xram := rd32 c.params 12, since := p.now, guarded := q.claimGuard.2,
                           abandoned := false, key := some (.ki40 c.seq), touched := [] } } } := by
      unfold State.beginLoad
      rw [hP, hkey]
      rfl
    rw [hbegin, claimGuard_eq hlowest, ki40Stored_quiet]
    have hframe := h.1
    clear_value q
    clear hqlane hmode hlowest hbegin hregion
    generalize q.lanes = K at hq ⊢
    generalize p.host.recs = R, p.lanes = L at hframe ⊢
    subst hframe
    subst hq
    rfl
  · exact (hqlane i).trans (loadFill_inputs _ _ i (sameLanes_inputs (heardKi40Copy_sameLanes h) i))

/-- DATA_LOAD in a module in IDLE whose program switch is closed, while no copy and no admission runs. -/
theorem acceptDataLoad_begins {n : Nat} {cmd : Cmd} (hn : rd8 cmd.params 0 = n) (hlow : n ≤ 1) (hok : n = 0 → loadParamsOk cmd.params = true)
    (hseal : p.sealClosed 15 = true) (hidle : p.control.power = .idle) (hnone : p.ki40.loadCopy = none) (hload : p.ki40.load ≠ 2) :
    p.acceptDataLoad cmd = (if n = 0 then p.beginLoad cmd else { p with ki40 := { p.ki40 with load := 2 } }).acc stAccepted := by
  have hparams : (decide (1 < n) || (n == 0 && !loadParamsOk cmd.params)) = false := by
    have hcases : n = 0 ∨ n = 1 := by omega
    rcases hcases with rfl | rfl
    · rw [hok rfl]; rfl
    · rfl
  have hstate : (p.control.power != .idle || p.ki40.loadCopy.isSome || p.ki40.load == 2) = false := by
    rw [hidle, hnone, beq_eq_false_iff_ne.2 hload]
    rfl
  unfold State.acceptDataLoad
  rw [hn]
  exact firstOf_go (by simp [hseal, hparams, hstate])

end

/-- DATA_LOAD of phase 0 (R605). -/
theorem dataLoad_phase0 {s : State} {t : Nat} {c : Ki40Copy} (h : s.ki40Ready t) (g : s.secondKi40 0x20 c) (hseal : s.sealClosed 15 = true)
    (hidle : s.control.power = .idle) (hnone : s.ki40.loadCopy = none) (hload : s.ki40.load ≠ 2) (hphase : rd8 c.params 0 = 0)
    (hok : loadParamsOk c.params = true) :
    ∃ R K, run t (fun u => u.ki40Copy 0x20 c) s = .next (s.ki40Stored (s.loading t c) t c id R K
        [s.ki40ReplyTo t 0x20 c .x 1 [], s.ki40ReplyTo t 0x20 c .y 1 []] []) ∧
      ∀ i, K.get i = { loadFill (rd32 c.params 4) (s.stagingRegion 0) i (s.lane i) with inputs := { (s.lane i).inputs with
        checkUnits := (K.get i).inputs.checkUnits
        txPending := (K.get i).inputs.txPending } } := by
  refine dataLoad_stores (b := s.loading t c) h g rfl rfl rfl (loadFill_mode _ _) (fun p hp => ?_)
  have hP : (ki40Cmd 0x20 0 c none).params = c.params := ki40Cmd_params g.1 0
  obtain ⟨R, K, hbegin, hK⟩ := beginLoad_stores hp h.2.1 hP rfl
  refine ⟨R, K, ?_, hK⟩
  rw [acceptDataLoad_begins (n := 0) (by rw [hP]; exact hphase) (by decide) (fun _ => by rw [hP]; exact hok) (by rw [hp.1]; exact hseal)
    (by rw [hp.1]; exact hidle) (by rw [hp.1]; exact hnone) (by rw [hp.1]; exact hload), if_pos rfl, hbegin]

/-- DATA_LOAD of phase 1 (R605). -/
theorem dataLoad_phase1 {s : State} {t : Nat} {c : Ki40Copy} (h : s.ki40Ready t) (g : s.secondKi40 0x20 c) (hseal : s.sealClosed 15 = true)
    (hidle : s.control.power = .idle) (hnone : s.ki40.loadCopy = none) (hload : s.ki40.load ≠ 2) (hphase : rd8 c.params 0 = 1) :
    ∃ R K, run t (fun u => u.ki40Copy 0x20 c) s = .next (s.ki40Stored { s with ki40 := { s.ki40 with load := 2 } } t c id R K
        [s.ki40ReplyTo t 0x20 c .x 1 [], s.ki40ReplyTo t 0x20 c .y 1 []] []) ∧
      ∀ i, K.get i = { laneKept i (s.lane i) with inputs := { (s.lane i).inputs with
        checkUnits := (K.get i).inputs.checkUnits
        txPending := (K.get i).inputs.txPending } } := by
  refine dataLoad_stores (b := { s with ki40 := { s.ki40 with load := 2 } }) h g rfl rfl rfl (fun _ _ => rfl) (fun p hp => ?_)
  have hP : (ki40Cmd 0x20 0 c none).params = c.params := ki40Cmd_params g.1 0
  refine ⟨p.host.recs, p.lanes, ?_, fun i => sameLanes_inputs (heardKi40Copy_sameLanes hp) i⟩
  rw [acceptDataLoad_begins (n := 1) (by rw [hP]; exact hphase) (by decide) (fun e => absurd e (by decide)) (by rw [hp.1]; exact hseal)
    (by rw [hp.1]; exact hidle) (by rw [hp.1]; exact hnone) (by rw [hp.1]; exact hload), if_neg (by decide), ki40Stored_quiet]
  have hframe := hp.1
  generalize p.host.recs = Q, p.lanes = L at hframe ⊢
  subst hframe
  rfl

/-! ## The end of the copy -/

/-- `s` with the bytes of the copy of a DATA_LOAD in the load region. -/
def State.endsLoadCopy (s : State) (g : CopyRun) : State := { s.storesCopy 0 g with ki40 := { s.ki40 with
  loadCopy := none
  loadHigh := max s.ki40.loadHigh (g.offset + g.length) } }

theorem storesCopy_frame (s : State) (k : Nat) (g : CopyRun) : s.storesCopy k g = { s with
    lanes := (s.storesCopy k g).lanes
    freeCtr := s.freeCtr + g.length
    images := { s.images with regions := s.images.regions.set (s.stagingRegion k) (s.copiedRegion k g) } } :=
  setRegion_frame { s with freeCtr := s.freeCtr + g.length } _ _ _ _

theorem endsLoadCopy_frame (s : State) (g : CopyRun) : s.endsLoadCopy g = { s with
    lanes := (s.storesCopy 0 g).lanes
    freeCtr := s.freeCtr + g.length
    ki40 := { s.ki40 with
      loadCopy := none
      loadHigh := max s.ki40.loadHigh (g.offset + g.length) }
    images := { s.images with regions := s.images.regions.set (s.stagingRegion 0) (s.copiedRegion 0 g) } } := by
  have hframe := storesCopy_frame s 0 g
  unfold State.endsLoadCopy
  generalize (s.storesCopy 0 g).lanes = L at hframe ⊢
  rw [hframe]

/-- A copy that holds its guard, or has given it up, runs to its end. -/
theorem loadCopyComplete_runs {s : State} {g : CopyRun} (hcopy : s.ki40.loadCopy = some g) (hg : g.guarded = true ∨ g.abandoned = true) :
    s.loadCopyComplete = s.loadCopied g := by
  have hunguard : s.unguard g = (s, g) := if_neg (by rcases hg with h | h <;> simp [h])
  have hguard : s.guardFor g = some (s, g) := if_pos hg
  unfold State.loadCopyComplete
  rw [hcopy]
  dsimp only
  rw [hunguard]
  dsimp only
  rw [hguard]

theorem loadCopied_ends (s : State) (g : CopyRun) : s.loadCopied g = ((s.endsLoadCopy g).releaseGuard g).settledAll g.key.toList := by
  have hki : (s.storesCopy 0 g).ki40 = s.ki40 := by rw [storesCopy_frame]
  have hcopied : s.loadCopied g = (State.releaseGuard { s.storesCopy 0 g with ki40 := { (s.storesCopy 0 g).ki40 with
      loadCopy := none
      loadHigh := max (s.storesCopy 0 g).ki40.loadHigh (g.offset + g.length) } } g).settledAll g.key.toList := rfl
  rw [hcopied, hki]
  rfl

theorem footing_storesCopy (s : State) (k : Nat) (g : CopyRun) : (s.storesCopy k g).footing = s.footing :=
  footing_setRegion { s with freeCtr := s.freeCtr + g.length } (s.stagingRegion k) (s.copiedRegion k g) g.offset g.length

theorem footing_ki40 (v : State) (k : Ki40) : ({ v with ki40 := k } : State).footing = v.footing := rfl

theorem footing_endsLoadCopy (s : State) (g : CopyRun) : (s.endsLoadCopy g).footing = (s.storesCopy 0 g).footing :=
  footing_ki40 (s.storesCopy 0 g) _

/-- The bytes of the copy are in the load region, and the guard is released (R503, R605). -/
theorem loadCopied_eq (s : State) (g : CopyRun) : ∃ R, s.loadCopied g = { s with
    lanes := (s.storesCopy 0 g).lanes
    host := { s.host with recs := R }
    xram := (s.releaseGuard g).xram
    freeCtr := s.freeCtr + g.length
    ki40 := { s.ki40 with
      loadCopy := none
      loadHigh := max s.ki40.loadHigh (g.offset + g.length) }
    images := { s.images with regions := s.images.regions.set (s.stagingRegion 0) (s.copiedRegion 0 g) } } := by
  have hfoot : (s.endsLoadCopy g).footing = s.footing := (footing_endsLoadCopy s g).trans (footing_storesCopy s 0 g)
  obtain ⟨R, hR⟩ := settledAll_recs ((s.endsLoadCopy g).releaseGuard g) g.key.toList
  refine ⟨R, ?_⟩
  rw [loadCopied_ends, hR, releaseGuard_frame (s.endsLoadCopy g) g, releaseGuard_xram g hfoot, endsLoadCopy_frame]

end Sys2Proof.Machine
end

section
/-! # The end of a DATA_LOAD, and KI-40 datagrams, replies and cycles (R85, R595 to R605; O55) -/

namespace Sys2Proof.Machine

/-! ## The admission of the load region (R605) -/

/-- The check of Table 5.6 that the load region fails, 0 where it passes every one. -/
def State.loadVerdict (s : State) : Nat := admission (s.images.stagingMem 0) s.ki40.loadHigh s.trustedKeys s.identity.part true true

/-- The region of profile slot 0. -/
def State.loadTarget (s : State) : Nat := (s.images.profiles.getD 0 { region := 6, status := .empty, hash := [] }).region

/-- The image in the load region, cut to its length. -/
def State.loadImage (s : State) : Mem := Mem.window (s.images.stagingMem 0) 0 (imgLen (s.images.stagingMem 0))

/-- `s` with the image of the load region in profile slot 0. -/
def State.keepsLoad (s : State) : State := s.setRegion s.loadTarget s.loadImage 0 67108864

/-- A load that passes: the image is in profile slot 0. -/
def State.passesLoad (s : State) (p : Profile) : State := { s with
  lanes := s.keepsLoad.lanes
  images := { s.images with
    regions := s.images.regions.set s.loadTarget s.loadImage
    flash := s.images.flash.set s.loadTarget s.loadImage
    profiles := s.images.profiles.set 0 { p with status := .valid, hash := imageHash (s.images.stagingMem 0) } }
  ki40 := { s.ki40 with
    load := 3
    loadCheck := 0 } }

/-- A load that fails check `c`; its ADMISSION record names slot 4 (log entry 145). -/
def State.failsLoad (s : State) (c : Nat) : State := { s with
  ki40 := { s.ki40 with
    load := 4
    loadCheck := c }
  images := { s.images with lastCheck := c }
  almanac := { s.almanac with events := s.almanac.events ++ [admissionNote 4 c (imgId (s.images.stagingMem 0))] } }

/-- The image `m` of hash `hash` in the flash of region `r` and in profile slot 0, as the end of a load writes it. -/
def State.profileLoaded (v : State) (r : Nat) (m : Mem) (hash : Bytes) : State := { v with
  images := { v.images with
    flash := listSet v.images.flash r m
    profiles := listMod v.images.profiles 0 (fun p => { p with status := .valid, hash := hash }) }
  ki40 := { v.ki40 with
    load := 3
    loadCheck := 0 } }

theorem profileLoaded_of {s v : State} {L : Lanes Lane} {p : Profile} (hp : s.images.profiles[0]? = some p)
    (hv : v = { s with lanes := L, images := { s.images with regions := s.images.regions.set s.loadTarget s.loadImage } }) :
    v.profileLoaded s.loadTarget s.loadImage (imageHash (s.images.stagingMem 0)) = { s.passesLoad p with lanes := L } := by
  have hprofiles : listMod s.images.profiles 0 (fun p => { p with status := .valid, hash := imageHash (s.images.stagingMem 0) }) =
      s.images.profiles.set 0 { p with status := .valid, hash := imageHash (s.images.stagingMem 0) } := by
    unfold listMod
    rw [List.modify_eq_set_getElem?, hp]
    rfl
  subst hv
  unfold State.profileLoaded State.passesLoad
  simp only [hprofiles, listSet]

theorem settleLoad_passes {s : State} {p : Profile} (h : s.loadVerdict = 0) (hp : s.images.profiles[0]? = some p) :
    s.settleLoad true = s.passesLoad p := by
  have hcut : (s.images.stagingMem 0).cutToImage = s.loadImage := if_pos (admission_length h).1
  have hset : s.settleLoad true = (s.setRegion s.loadTarget (s.images.stagingMem 0).cutToImage 0 67108864).profileLoaded s.loadTarget
      (s.images.stagingMem 0).cutToImage (imageHash (s.images.stagingMem 0)) := if_pos h
  rw [hset, hcut]
  exact profileLoaded_of hp (setRegion_frame s s.loadTarget s.loadImage 0 67108864)

theorem keepsLoad_frame (s : State) : s.keepsLoad = { s with
    lanes := s.keepsLoad.lanes
    images := { s.images with regions := s.images.regions.set s.loadTarget s.loadImage } } :=
  setRegion_frame s s.loadTarget s.loadImage 0 67108864

theorem footing_passesLoad (s : State) (p : Profile) : (s.passesLoad p).footing = s.footing := by
  have hkeeps : s.keepsLoad.footing = s.footing := footing_setRegion s s.loadTarget s.loadImage 0 67108864
  rw [keepsLoad_frame] at hkeeps
  exact hkeeps

theorem settleLoad_fails {s : State} (h : s.loadVerdict ≠ 0) : s.settleLoad true = s.failsLoad s.loadVerdict :=
  if_neg h

theorem settleLoad_unagreed (s : State) : s.settleLoad false = s.drawn.failsLoad s.freeCheck := by
  have hfree : s.freeCheck ≠ 0 := by have := freeCheck_bounds s; omega
  exact if_neg hfree

/-- A load that two lanes agree on and that passes. -/
theorem settleLoad_agreed_passes {s : State} {o : Agreement} {p : Profile} (hagree : s.twoAgree o = true) (h : s.loadVerdict = 0)
    (hp : s.images.profiles[0]? = some p) :
    let u := (s.settleLoad (s.twoAgree o)).chargeOdd o
    s.charged s.now o (loaderWrote s.loadTarget 0 67108864) u ∧ u = { s.passesLoad p with lanes := u.lanes } := by
  intro u
  have hu : u = (s.passesLoad p).chargeOdd o := by show (s.settleLoad (s.twoAgree o)).chargeOdd o = _; rw [hagree, settleLoad_passes h hp]
  refine ⟨?_, hu ▸ chargeOdd_sameButLanes (s.passesLoad p) o⟩
  rw [hu]
  exact charged_of_footing (v := s.passesLoad p) (footing_passesLoad s p) rfl
    (fun i => setRegion_lane s s.loadTarget s.loadImage (by decide) (by decide) i) (chargeOdd_charged _ o)

/-- A load that two lanes agree on and that fails. -/
theorem settleLoad_agreed_fails {s : State} {o : Agreement} (hagree : s.twoAgree o = true) (h : s.loadVerdict ≠ 0) :
    let u := (s.settleLoad (s.twoAgree o)).chargeOdd o
    s.charged s.now o laneKept u ∧ u = { s.failsLoad s.loadVerdict with lanes := u.lanes } := by
  intro u
  have hu : u = (s.failsLoad s.loadVerdict).chargeOdd o := by
    show (s.settleLoad (s.twoAgree o)).chargeOdd o = _
    rw [hagree, settleLoad_fails h]
  refine ⟨?_, hu ▸ chargeOdd_sameButLanes _ o⟩
  rw [hu]
  exact charged_of_footing (v := s.failsLoad s.loadVerdict) rfl rfl (fun _ => rfl) (chargeOdd_charged _ o)

/-- A load of which no two lanes agree fails a check that is free. -/
theorem settleLoad_split {s : State} {o : Agreement} (hno : s.twoAgree o = false) :
    (s.settleLoad (s.twoAgree o)).chargeOdd o = s.drawn.failsLoad s.freeCheck := by
  rw [hno, settleLoad_unagreed]
  exact chargeOdd_of_none (s := s) rfl hno

/-! ## Datagrams (R595 to R597) -/

section
variable {s : State} {t : Nat} {d : Datagram}

theorem tick_countNet (s : State) (t : Nat) (n : Net) (f : NetCounters → NetCounters) :
    (s.tick t).countNet n f = { s.countNet n f with now := max s.now t } := by cases n <;> rfl

/-- A datagram to another port than that of KI-40 is dropped (check 1 of Table 9.4). -/
theorem ki40Datagram_otherPort (h : s.ki40Ready t) (hport : d.path.port = 48 ∨ d.path.port = 52) (hown : d.ownPort = false) :
    (s.tick t).ki40Datagram d = { s.countNet d.net (fun k => { k with ipDrop := inc k.ipDrop }) with now := max s.now t } := by
  obtain ⟨hrun, -, -, hnode, -⟩ := h
  have hanswers : (s.tick t).answers = true := by simp [State.answers, State.tick, hrun]
  unfold State.ki40Datagram
  rw [if_pos hown, if_pos ⟨hanswers, Or.inr ⟨hnode, Or.inr hport⟩⟩]
  exact tick_countNet s t d.net _

/-- A datagram to the KI-40 port is a telegram of Table 17.2 or is malformed (R595). -/
theorem ki40Datagram_ownPort (h : s.ki40Ready t) (hnet : d.net ≠ .service) (hport : d.path.port = 48 ∨ d.path.port = 52) (hown : d.ownPort = true) :
    (s.tick t).ki40Datagram d = if d.payload.length = 64 ∧ rd8 d.payload 0 = 0xC1 ∧ (ki40OfDatagram d).station = s.node then
        (s.tick t).countArrival.ki40Judge (rd8 d.payload 1) (ki40OfDatagram d)
      else { s.countNet d.net (fun k => { k with malformed := inc k.malformed }) with now := max s.now t } := by
  have hcrowd := crowded_of_ready h
  obtain ⟨hrun, -, hki, hnode, -, -, hwait, -, hsess, hlock, -⟩ := h
  have hanswers : (s.tick t).answers = true := by simp [State.answers, State.tick, hrun]
  have hlapse : (s.tick t).lapseDue = s.tick t := lapseDue_keeps (s := s.tick t) hsess hlock
  have hwaiting : (s.tick t).countArrival.ki40.waiting = [] := hwait
  unfold State.ki40Datagram State.ki40Arrive
  rw [if_neg (by rw [hown]; decide)]
  simp only [show (ki40OfDatagram d).net = d.net from rfl, show (ki40OfDatagram d).path = d.path from rfl]
  rw [if_neg (by rw [hanswers]; simp [State.tick, hnode]), if_neg (by simp [State.tick, hki, hnet]), if_neg (by omega)]
  have hshape : ((d.payload.length == 64 && rd8 d.payload 0 == 0xC1) = false ∨ (ki40OfDatagram d).station ≠ (s.tick t).node) ↔
      ¬(d.payload.length = 64 ∧ rd8 d.payload 0 = 0xC1 ∧ (ki40OfDatagram d).station = s.node) := by
    rw [show (s.tick t).node = s.node from rfl, ← Bool.not_eq_true, Bool.and_eq_true, beq_iff_eq, beq_iff_eq]
    tauto
  simp only [hshape, ite_not, hlapse, hcrowd, hwaiting, List.isEmpty_nil, Bool.not_true, Bool.or_false, Bool.false_eq_true, if_false]
  rw [tick_countNet]

/-- A telegram whose check values fail has no reply: BAD_CHECK of its network counts in the voting lanes (R597). -/
theorem ki40Judge_badCheck (h : s.ki40Ready t) {op : Nat} {c : Ki40Copy} (hrx : c.rx = RxFault.healthy)
    (hbad : c.crcC ≠ crcC (ki40Head op c) ∨ c.crcT ≠ crcT (ki40Head op c)) :
    ∃ v, (s.tick t).countArrival.checkedOnly v ∧
      (s.tick t).countArrival.ki40Judge op c = v.mapVoting (fun l => { l with counters := l.counters.badCheck c.net }) := by
  obtain ⟨hrun, htwo, -, -, -, -, -, -, -, -, hheld⟩ := h
  have hanswering : (s.tick t).countArrival.answering = s.unexcluded := by
    unfold State.answering
    rw [show (s.tick t).countArrival.control.phase = .running from hrun]
    rfl
  have hchecks : ¬((c.crcC == crcC (ki40Head op c)) = true ∧ (c.crcT == crcT (ki40Head op c)) = true) := fun ⟨hC, hT⟩ =>
    hbad.elim (fun h => h (beq_iff_eq.1 hC)) (fun h => h (beq_iff_eq.1 hT))
  have hrejects := (checkTelegram_rejects (s.tick t).countArrival (unexcluded_two htwo) hheld 1 c.path.port 0x10000 0 hchecks).1
  refine ⟨_, checkTelegram_checkedOnly _ s.unexcluded 1 c.path.port 0x10000 0 (c.crcC == crcC (ki40Head op c))
    (c.crcT == crcT (ki40Head op c)) RxFault.healthy, ?_⟩
  unfold State.ki40Judge
  simp only [hanswering, hrx]
  exact if_pos hrejects

end

/-! ## Held replies (R599) -/

/-- Before its window a held reply waits. -/
theorem releaseHeld_early {s : State} {r : Reply} (hheld : s.ki40.held = [r]) (hearly : s.now < r.decided + 2 * ms) : s.releaseHeld = s := by
  have hnone : (decide (r.decided + 2 * ms ≤ s.now) && decide (s.now < r.decided + 4 * ms)) = false := by
    rw [decide_eq_false (by omega), Bool.false_and]
  unfold State.releaseHeld
  simp only [hheld, List.filter_cons, List.filter_nil, hnone, Bool.false_eq_true, if_false, hearly, decide_true, if_true, List.foldl_nil]
  rw [← hheld]

/-- In its window a held reply is sent (R599). -/
theorem releaseHeld_sends {s : State} {r : Reply} (hheld : s.ki40.held = [r]) (hopen : r.decided + 2 * ms ≤ s.now) (hend : s.now < r.decided + 4 * ms) :
    s.releaseHeld = State.reply { s with ki40 := { s.ki40 with held := [] } } { r with decided := s.now } := by
  unfold State.releaseHeld
  simp only [hheld, List.filter_cons, List.filter_nil, decide_eq_true hopen, decide_eq_true hend, Bool.and_self, if_true,
    decide_eq_false (show ¬s.now < r.decided + 2 * ms by omega), Bool.false_eq_true, if_false, List.foldl_cons, List.foldl_nil]

/-- A KI-40 reply whose path is known is in the form of Table 17.2, and waits for the check units of the voting lanes. -/
theorem reply_ki40 {s : State} {r : Reply} (hrun : s.control.phase = .running) (htwo : 2 ≤ s.voting.length) (hpath : r.path.isSome = true)
    (hki : r.ki40 = true) :
    ∃ x L, s.reply r = { s with host := { s.host with replies := s.host.replies ++ [x] }, lanes := L } ∧
      x = { r with oneLane := s.control.degradation == .oneLane, bytes := x.bytes } ∧ x.bytes = x.ki40Wire s.node ∧
      ∀ i, L.get i = { s.lane i with inputs := { (s.lane i).inputs with txPending := (L.get i).inputs.txPending } } := by
  have hanswering : s.answering = s.unexcluded := by unfold State.answering; rw [hrun]
  have hanswers : s.answers = true := by simp [State.answers, hrun]
  obtain ⟨path, hsome⟩ := Option.isSome_iff_exists.1 hpath
  have hreplyPath : s.replyPath r = some path := by unfold State.replyPath; rw [hsome]
  unfold State.reply State.replyWith
  simp only [hanswers, Bool.true_eq_false, if_false, hreplyPath, hanswering, hki, if_true]
  rw [if_neg (by rcases unexcluded_two htwo with e | e | e | e <;> rw [e] <;> decide)]
  refine ⟨_, _, rfl, by rw [hsome], rfl, fun i => ?_⟩
  rcases unexcluded_two htwo with e | e | e | e <;> rw [e] <;> cases i <;> rfl

/-! ## KI-40 cycles (R602) -/

/-- The cycle that starts now: its view is that of the latest snapshot, where that was made now. -/
theorem startCycle_starts {s : State} (hrun : s.control.phase = .running) (hki : s.sealBank.ki40 = true) (hnow : s.now % 50000000 = 0) :
    s.startCycle = { s with ki40 := { s.ki40 with
      cycle := s.now / 50000000
      view := if s.snap.instant = s.now then some (s.ki40ViewOf (s.now / 50000000)) else s.ki40.view } } := by
  have hwhole : ki40Period * (s.now / ki40Period) = s.now := Nat.mul_div_cancel' (Nat.dvd_of_mod_eq_zero hnow)
  have hstart : s.startCycle = ({ s with ki40 := { s.ki40 with cycle := s.now / ki40Period } } : State).captureCycle := if_pos ⟨hrun, hki, hnow⟩
  have hcapture : ({ s with ki40 := { s.ki40 with cycle := s.now / ki40Period } } : State).captureCycle =
      if s.sealBank.ki40 = true ∧ s.snap.instant = ki40Period * (s.now / ki40Period) then
        { s with ki40 := { s.ki40 with cycle := s.now / ki40Period, view := some (s.ki40ViewOf (s.now / ki40Period)) } }
      else { s with ki40 := { s.ki40 with cycle := s.now / ki40Period } } := rfl
  rw [hstart, hcapture, hwhole]
  by_cases hsnap : s.snap.instant = s.now
  · rw [if_pos ⟨hki, hsnap⟩, if_pos hsnap]; rfl
  · rw [if_neg (fun h => hsnap h.2), if_neg hsnap]; rfl

theorem startCycle_idle {s : State} (h : s.control.phase ≠ .running ∨ s.sealBank.ki40 = false ∨ s.now % 50000000 ≠ 0) : s.startCycle = s := by
  unfold State.startCycle
  refine if_neg (fun ⟨hrun, hki, hnow⟩ => ?_)
  rcases h with h | h | h
  · exact h hrun
  · rw [h] at hki; exact Bool.false_ne_true hki
  · exact h hnow

end Sys2Proof.Machine
end

section
/-! # DATA_LOAD, replies and cycles of KI-40 (R595 to R605; O55) -/

namespace Sys2Proof.Machine

/-- Phase 0 of DATA_LOAD from its exec. -/
theorem exec_dataLoadPhase0 {s : State} {t : Nat} {c : Ki40Copy} (h : s.ki40Ready t) (g : s.secondKi40 0x20 c) (hseal : s.sealClosed 15 = true)
    (hidle : s.control.power = .idle) (hnone : s.ki40.loadCopy = none) (hload : s.ki40.load ≠ 2) (hphase : rd8 c.params 0 = 0)
    (hok : loadParamsOk c.params = true) :
    ∃ u, exec (.dataLoadPhase0 t c) s = .next u ∧ s.lanesAfter u (loadFill (rd32 c.params 4) (s.stagingRegion 0)) ∧
      u = { s.loading t c with
        now := max s.now t
        host := { s.countedHost t c.net with recs := u.host.recs }
        lanes := u.lanes
        ki40 := (s.loading t c).heldKi40 c [s.ki40ReplyTo t 0x20 c .x 1 [], s.ki40ReplyTo t 0x20 c .y 1 []] } := by
  obtain ⟨R, K, hrun, hK⟩ := dataLoad_phase0 h g hseal hidle hnone hload hphase hok
  rw [ki40Stored_quiet] at hrun
  exact ⟨_, hrun, hK, rfl⟩

/-- Phase 1 of DATA_LOAD from its exec. -/
theorem exec_dataLoadPhase1 {s : State} {t : Nat} {c : Ki40Copy} (h : s.ki40Ready t) (g : s.secondKi40 0x20 c) (hseal : s.sealClosed 15 = true)
    (hidle : s.control.power = .idle) (hnone : s.ki40.loadCopy = none) (hload : s.ki40.load ≠ 2) (hphase : rd8 c.params 0 = 1) :
    ∃ u, exec (.dataLoadPhase1 t c) s = .next u ∧ s.sameLanes u ∧ u = { s with
      now := max s.now t
      host := { s.countedHost t c.net with recs := u.host.recs }
      lanes := u.lanes
      ki40 := { s.heldKi40 c [s.ki40ReplyTo t 0x20 c .x 1 [], s.ki40ReplyTo t 0x20 c .y 1 []] with load := 2 } } := by
  obtain ⟨R, K, hrun, hK⟩ := dataLoad_phase1 h g hseal hidle hnone hload hphase
  rw [ki40Stored_quiet] at hrun
  exact ⟨_, hrun, hK, rfl⟩

theorem countNet_pending (s : State) (n : Net) (f : NetCounters → NetCounters) : (s.countNet n f).pending = s.pending := by cases n <;> rfl

theorem exec_dataLoadCopyComplete (t : Nat) (s : State) : exec (.dataLoadCopyComplete t) s = run t State.loadCopyComplete s := rfl
theorem exec_ki40LoadComplete (t : Nat) (o : Agreement) (s : State) : exec (.ki40LoadComplete t o) s =
    run t (fun s => if s.ki40.load = 2 then (s.settleLoad (s.twoAgree o)).chargeOdd o else s) s := rfl
theorem exec_ki40Datagram (t : Nat) (d : Datagram) (s : State) : exec (.ki40DatagramDiscarded t d) s = run t (fun u => u.ki40Datagram d) s := rfl
theorem exec_ki40ReplyWindow (t : Nat) (s : State) : exec (.ki40ReplyWindow t) s = run t State.releaseHeld s := rfl
theorem exec_ki40CycleStart (t : Nat) (s : State) : exec (.ki40CycleStart t) s = run t State.startCycle s := rfl

/-- The end of an admission, once the load is to be settled. -/
theorem exec_loadSettled {s : State} {t : Nat} {o : Agreement} {u : State} (hload : s.ki40.load = 2)
    (hu : ((s.tick t).settleLoad ((s.tick t).twoAgree o)).chargeOdd o = u) (hn : u.now = max s.now t) (hp : u.pending = s.pending) :
    exec (.ki40LoadComplete t o) s = .next u := by
  rw [exec_ki40LoadComplete]
  exact run_next (f := fun s => if s.ki40.load = 2 then (s.settleLoad (s.twoAgree o)).chargeOdd o else s) ((if_pos hload).trans hu) hn hp

/-- A telegram with wrong check values, from its exec (R597). -/
theorem exec_ki40BadCheck {s : State} {t : Nat} {d : Datagram} (h : s.ki40Ready t) (hnet : d.net ≠ .service)
    (hport : d.path.port = 48 ∨ d.path.port = 52) (hown : d.ownPort = true)
    (hfits : d.payload.length = 64 ∧ rd8 d.payload 0 = 0xC1 ∧ (ki40OfDatagram d).station = s.node) (hrx : d.rx = RxFault.healthy)
    (hbad : (ki40OfDatagram d).crcC ≠ crcC (ki40Head (rd8 d.payload 1) (ki40OfDatagram d)) ∨
      (ki40OfDatagram d).crcT ≠ crcT (ki40Head (rd8 d.payload 1) (ki40OfDatagram d))) :
    ∃ u, exec (.ki40DatagramDiscarded t d) s = .next u ∧
      (∀ i ∈ s.voting, (u.lane i).counters.badCheckX = (s.lane i).counters.badCheckX + (if d.net = .x then 1 else 0) ∧
        (u.lane i).counters.badCheckY = (s.lane i).counters.badCheckY + (if d.net = .y then 1 else 0)) ∧
      u = { s with
        now := max s.now t
        lanes := u.lanes
        almanac := u.almanac
        host := { s.host with arrivals := s.host.arrivals.filter (fun a => decide (max s.now t < a + ms)) ++ [max s.now t] } } := by
  obtain ⟨v, hv, hjudge⟩ := ki40Judge_badCheck h (c := ki40OfDatagram d) hrx hbad
  have hrun := ki40Datagram_ownPort h hnet hport hown
  rw [if_pos hfits, hjudge] at hrun
  have hframe := hv.1
  refine ⟨_, run_next (f := fun u => u.ki40Datagram d) hrun ?_ ?_, fun i hi => ?_, ?_⟩
  · show v.now = _
    rw [hframe]; rfl
  · show v.pending = _
    rw [hframe]; rfl
  · obtain ⟨hmode, hx, hy⟩ := hv.2 i
    have hvotes : (v.lane i).mode = .voting := hmode.trans (mem_voting.1 hi)
    rw [mapVoting_lane, if_pos hvotes]
    show ((v.lane i).counters.badCheck d.net).badCheckX = _ ∧ ((v.lane i).counters.badCheck d.net).badCheckY = _
    have hx' : (v.lane i).counters.badCheckX = (s.lane i).counters.badCheckX := hx
    have hy' : (v.lane i).counters.badCheckY = (s.lane i).counters.badCheckY := hy
    rw [← hx', ← hy']
    cases hn : d.net with
    | x => exact ⟨rfl, by simp [LaneCounters.badCheck]⟩
    | y => exact ⟨by simp [LaneCounters.badCheck], rfl⟩
    | service => exact absurd hn hnet
  · generalize v.lanes = L, v.almanac = A at hframe
    subst hframe
    rfl

/-- A held reply that leaves in its window, from its exec (R599). -/
theorem exec_ki40ReplySent {s : State} {t : Nat} {r : Reply} (hrun : s.control.phase = .running) (htwo : 2 ≤ s.voting.length)
    (hheld : s.ki40.held = [r]) (hpath : r.path.isSome = true) (hki : r.ki40 = true) (hopen : r.decided + 2 * ms ≤ max s.now t)
    (hend : max s.now t < r.decided + 4 * ms) :
    ∃ u x, exec (.ki40ReplyWindow t) s = .next u ∧
      x = { r with oneLane := s.control.degradation == Degradation.oneLane, decided := max s.now t, bytes := x.bytes } ∧
      x.bytes = x.ki40Wire s.node ∧ s.sameLanes u ∧
      u = { s with now := max s.now t, lanes := u.lanes, host := { s.host with replies := s.host.replies ++ [x] }, ki40 := { s.ki40 with held := [] } } := by
  obtain ⟨x, L, hreply, hx, hbytes, hlanes⟩ := reply_ki40 (s := { s.tick t with ki40 := { s.ki40 with held := [] } })
    (r := { r with decided := max s.now t }) hrun htwo hpath hki
  have hsend : (s.tick t).releaseHeld = _ := releaseHeld_sends (s := s.tick t) hheld hopen hend
  refine ⟨_, x, run_next (f := State.releaseHeld) (hsend.trans hreply) rfl rfl, hx, hbytes, sameLanes_tx hlanes, rfl⟩

/-- Settles O55, clause by clause. PHASE 1 ignores OFFSET, LENGTH and XRAM_OFFSET (log entry 51), the check number is free where no two lanes agree
(log entry 129), the ADMISSION record names slot 4 (log entry 145), and the view is that of the latest snapshot (log entry 47). -/
theorem dataLoadRepliesAndCyclesOfKi40 : Obligations.DataLoadRepliesAndCyclesOfKi40 := by
  unfold Obligations.DataLoadRepliesAndCyclesOfKi40
  intro t s now region
  refine ⟨fun c h g hseal hidle hnone hload => ⟨fun hphase hok => ?_, fun hphase => ?_⟩, fun g hcopy hg => ?_,
    fun o p hload hp => ⟨fun hagree hcheck => ?_, fun hagree hcheck => ?_, fun hno => ?_⟩, fun o hload => ?_,
    fun d h hnet hport => ⟨fun hown => ?_, fun hown hnofit => ?_, fun hown hfits hrx _ hbad => exec_ki40BadCheck h hnet hport hown hfits hrx hbad⟩,
    fun r hrun htwo hheld hpath hki => ⟨fun hearly => ?_, fun hopen hend => exec_ki40ReplySent hrun htwo hheld hpath hki hopen hend⟩,
    fun hrun hki hnow => ?_, fun hno => ?_⟩
  · obtain ⟨u, hexec, hlanes, hu⟩ := exec_dataLoadPhase0 h g hseal hidle hnone hload hphase hok
    exact ⟨u, hexec, hlanes, by rw [hu]; rfl, by rw [hu], by rw [hu]; rfl⟩
  · obtain ⟨u, hexec, hlanes, hu⟩ := exec_dataLoadPhase1 h g hseal hidle hnone hload hphase
    exact ⟨u, hexec, hlanes, by rw [hu], by rw [hu], by rw [hu]⟩
  · obtain ⟨R, hends⟩ := loadCopied_eq (s.tick t) g
    have hxram : ((s.tick t).releaseGuard g).xram = (s.releaseGuard g).xram := releaseGuard_xram g rfl
    rw [exec_dataLoadCopyComplete]
    refine ⟨_, run_next (f := State.loadCopyComplete) ((loadCopyComplete_runs (s := s.tick t) hcopy hg).trans hends) rfl rfl, copiedBytes_untouched,
      fun ho hl i => storesCopy_lane (s.tick t) ho hl i, ?_⟩
    rw [hxram]
    rfl
  · obtain ⟨hcharged, hframe⟩ := settleLoad_agreed_passes (s := s.tick t) hagree hcheck hp
    refine ⟨_, exec_loadSettled hload rfl ?_ ?_, hcharged, hframe⟩
    · rw [hframe]; rfl
    · rw [hframe]; rfl
  · obtain ⟨hcharged, hframe⟩ := settleLoad_agreed_fails (s := s.tick t) hagree hcheck
    refine ⟨_, exec_loadSettled hload rfl ?_ ?_, hcharged, ?_, ?_⟩
    · rw [hframe]; rfl
    · rw [hframe]; rfl
    · rw [hframe]; rfl
    · rw [hframe]; rfl
  · obtain ⟨hlow, hhigh⟩ := freeCheck_bounds (s.tick t)
    exact ⟨_, (s.tick t).freeCheck, exec_loadSettled hload (settleLoad_split (s := s.tick t) hno) rfl rfl, rfl, hlow, hhigh, rfl⟩
  · rw [exec_ki40LoadComplete]
    exact run_idle (f := fun s => if s.ki40.load = 2 then (s.settleLoad (s.twoAgree o)).chargeOdd o else s) (if_neg hload)
  · rw [exec_ki40Datagram]
    exact run_next (f := fun u => u.ki40Datagram d) (ki40Datagram_otherPort h hport hown) rfl (countNet_pending s d.net _)
  · rw [exec_ki40Datagram]
    exact run_next (f := fun u => u.ki40Datagram d) ((ki40Datagram_ownPort h hnet hport hown).trans (if_neg hnofit)) rfl (countNet_pending s d.net _)
  · rw [exec_ki40ReplyWindow]
    exact run_idle (f := State.releaseHeld) (releaseHeld_early (s := s.tick t) hheld hearly)
  · have hstart := startCycle_starts (s := s.tick t) hrun hki hnow
    rw [exec_ki40CycleStart]
    refine ⟨_, run_next (f := State.startCycle) hstart rfl rfl, rfl, fun hsnap => ?_, fun hsnap => ?_, rfl⟩
    · exact ⟨_, if_pos hsnap, rfl, rfl, rfl, rfl, rfl⟩
    · exact if_neg hsnap
  · rw [exec_ki40CycleStart]
    exact run_idle (f := State.startCycle) (startCycle_idle (s := s.tick t) hno)

end Sys2Proof.Machine
end
